-- ==== Sys2Proof/Word.lean ====
section
/-!
DEFINITION. The plainest words of the model: a byte, the quantum counts of R2, and the saturating,
wrapping and clamping operations that the spec names as such (R4, R75, R177).
-/
namespace Sys2Proof

/-- One byte of a record body, a buffer or a Folio. -/
abbrev Byte := BitVec 8

/-- Field Time and elapsed time are counts of quanta of 250 ps (R2). -/
abbrev Quanta := Nat

/-- Quanta in 1 µs (table of R2's chapter). -/
def qUs : Nat := 4000
/-- Quanta in 1 ms. -/
def qMs : Nat := 4000000
/-- Quanta in one 100 µs beat (R12). -/
def qBeat : Nat := 400000
/-- Quanta in one 10 ms kernel tap (R12). -/
def qTap : Nat := 40000000
/-- Quanta in one 20 ms Slice (R12). -/
def qSlice : Nat := 80000000
/-- Quanta in 1 s: `SEC_Q` of R27. -/
def qSec : Nat := 4000000000

/-- Unsigned addition that saturates at the largest value of `w` bits. -/
def satAdd (w a b : Nat) : Nat := min (a + b) (2 ^ w - 1)

/-- Saturate a count to `w` bits. -/
def sat (w a : Nat) : Nat := min a (2 ^ w - 1)

/-- Difference of two free-running 32-bit indices, modulo 2^32 (R75). -/
def sub32 (a b : Nat) : Nat := (a + 2 ^ 32 - b % 2 ^ 32) % 2 ^ 32

/-- Addition of a free-running 32-bit index, modulo 2^32 (R75). -/
def add32 (a b : Nat) : Nat := (a + b) % 2 ^ 32

/-- Clamp an integer between two bounds. -/
def clampI (lo hi x : Int) : Int := max lo (min hi x)

/-- Two's complement reading of a `w`-bit field. -/
def toSigned (w n : Nat) : Int :=
  if n % 2 ^ w < 2 ^ (w - 1) then ((n % 2 ^ w : Nat) : Int) else ((n % 2 ^ w : Nat) : Int) - 2 ^ w

/-- Two's complement writing of an integer into `w` bits. -/
def ofSigned (w : Nat) (i : Int) : Nat := (i % (2 ^ w : Int)).toNat

/-- First multiple of `p` at or after `t`. -/
def ceilTo (p t : Nat) : Nat := (t + p - 1) / p * p

/-- First multiple of `p` strictly after `t`. -/
def nextMul (p t : Nat) : Nat := (t / p + 1) * p

/-- One bit of a flags byte: `2 ^ i` when set. -/
def bit (i : Nat) (b : Bool) : Nat := if b then 2 ^ i else 0

end Sys2Proof
end

