-- ==== Sys2Proof/Params.lean ====
section
/-!
DEFINITION. The operands that commands carry: a submission as the host posts it (R98), a ring-table
entry (R70), a heartbeat (R47), and the measured values that the chapters name. Every operand is
plain data; what ranges they have is said in WellFormed.
-/
namespace Sys2Proof

/-- A submission as it lies on a ring: its Slip fields (R98) but KIND, which the command's own
name gives, and its body. -/
structure Post where
  /-- Submission ring 0–31 that it was posted on. -/
  ring : Nat
  source : Nat
  flags : Nat
  /-- LENGTH of the Slip. -/
  length : Nat
  /-- OWNER_CREDIT of the Slip. -/
  owner : Nat
  seq : Nat
  corr : Nat
  /-- ACCESSION and EFFECTIVE of the Slip, both 0 in a good submission (R105). -/
  acc : Nat
  eff : Nat
  body : List Byte
  deriving DecidableEq, Repr, Inhabited

/-- One entry of the ring table (R70), as the module reads it. -/
structure RingEntry where
  base : Nat
  log2 : Nat
  vec : Nat
  reserve : Nat
  compRing : Nat
  rsv0 : Nat
  coalCount : Nat
  coalTime : Nat
  classMask : Nat
  rsv1 : Nat
  deriving DecidableEq, Repr, Inhabited

/-- One segment of bulk data as fetched (R81, R82): its KD_BUFPTR record, and whether the CRC-32C of the bytes that it
names equals DATA_CRC. -/
structure Segment where
  post : Post
  crcOk : Bool
  deriving DecidableEq, Repr, Inhabited

/-- How an access to host memory ends badly (R93, R538). -/
inductive DmaCause where
  | abort | unsupported | poisoned | timeout
  deriving DecidableEq, Repr, Inhabited

/-- A heartbeat message (R47). -/
structure Heartbeat where
  beat : Nat
  major : Nat
  minor : Nat
  patch : Nat
  format : Nat
  verdictPass : Bool
  crcOk : Bool
  /-- Lane state in the encoding of R66. -/
  state : Nat
  deriving DecidableEq, Repr, Inhabited

/-- The filter's estimate at an output instant. The spec gives no filter equations, so the estimate is
an operand of FUSION_OUTPUT (log entry 12). Units: 10^-10 degree, mm, µm/s, nrad/s and 2^-32 turn. -/
structure PoseEst where
  lat : Int
  lon : Int
  heightMm : Int
  velN : Int
  velE : Int
  velD : Int
  fwd : Int
  side : Int
  yawRate : Int
  roll : Int
  pitch : Int
  heading : Nat
  sigmaHMm : Nat
  sigmaVMm : Nat
  sigmaVelMms : Nat
  /-- In units of 2^-16 turn. -/
  sigmaHeading : Nat
  edgeOffsetMm : Int
  /-- In units of 2^-16 turn. -/
  edgeHeading : Int
  deriving DecidableEq, Repr, Inhabited

/-- What a read of the doorbell page brings: its 64 words (R77), and how many correctable errors AER has reported since
the read before it (R95). -/
structure PageRead where
  words : List Nat
  corr : Nat
  deriving DecidableEq, Repr, Inhabited

/-- What a bank of the valve stage measures at one instant (R218): V_D and the low-side current of each of its four
channels, the high-side current I_HB, V_HB and V_S, in mV and mA. -/
structure ValveMeas where
  vd : List Nat
  il : List Nat
  ihb : Nat
  vhb : Nat
  vs : Nat
  deriving DecidableEq, Repr, Inhabited

/-- The bank excess current (R218): I_HB less the sum of the low-side currents of the bank's channels. -/
def ValveMeas.excess (m : ValveMeas) : Int := (m.ihb : Int) - (m.il.sum : Int)

/-- A stored unit of the map archive (R266): its field and its tile. -/
structure MapUnit where
  id : Nat
  tx : Int
  ty : Int
  deriving DecidableEq, Repr, Inhabited

/-- A sample of the current sense of a channel (R218, R232): its delay from the profile start in q, the current in mA,
and whether the low-side switch conducts. -/
structure Sense where
  delay : Nat
  ma : Nat
  closed : Bool
  deriving DecidableEq, Repr, Inhabited

/-- A CAN data or remote frame (R378, R398). -/
structure CanFrame where
  id : Nat
  ide : Bool
  fdf : Bool
  brs : Bool
  esi : Bool
  remote : Bool
  dlc : Nat
  data : List Byte
  deriving DecidableEq, Repr, Inhabited

/-- What a controller meets in a frame (R382, R387, R399): lost arbitration, or a protocol error. -/
inductive CanErr where
  | arbitration | stuff | form | ack | bit | crc
  deriving DecidableEq, Repr, Inhabited

/-- What a channel measures at an epoch (R278, R280): TX_TIME in 2^-8 q, CARRIER in 2^-24 cycle,
DOPPLER in mHz, CN0 in 0.01 dB-Hz, and the states of the data. -/
structure GnssMeas where
  ch : Nat
  tx : Nat
  carrier : Int
  doppler : Int
  cn0 : Nat
  sync : Bool
  tow : Bool
  half : Bool
  deriving DecidableEq, Repr, Inhabited

/-- A time solution for a GPS second (R17, R291): b in q, d in 10^-12. The spec gives no equations for
the solution, so it is an operand of GNSS_EPOCH (log entry 26). -/
structure ClockSol where
  b : Int
  d : Int
  sats : Nat
  deriving DecidableEq, Repr, Inhabited

/-- A position solution of an epoch (R297–R304): what the spec gives no equations for (log entry 26).
Units as in KD_POSITION; `fwd` is forward speed in mm/s, and `fLat`, `fLon`, `fSigma` are the fused
position at the epoch instant (R314). -/
structure PosSol where
  /-- Usable pairs with TOW_KNOWN and ephemerides; satellites in common with the base; satellites
  fixed without a slip. -/
  sats : Nat
  common : Nat
  fixedSats : Nat
  ratio : Nat
  /-- GNSS time of week of the epoch in ms. -/
  tow : Nat
  lat : Int
  lon : Int
  heightMm : Int
  velN : Int
  velE : Int
  velD : Int
  velValid : Bool
  fwd : Int
  sigmaH : Nat
  sigmaV : Nat
  sigmaVel : Nat
  pdop : Nat
  ambFixed : Nat
  fLat : Int
  fLon : Int
  fSigma : Nat
  deriving DecidableEq, Repr, Inhabited

/-- What a GNSS epoch latches (R275): measurements of the channels with code lock, in-band power of
the two bands in 0.1 dB, bias current in mA, and the solutions. -/
structure GnssEpochIn where
  meas : List GnssMeas
  powerL1 : Int
  powerL5 : Int
  antMa : Nat
  clock : Option ClockSol
  pos : Option PosSol
  deriving DecidableEq, Repr, Inhabited

/-- What the filter has at an output instant (R306, R307): its estimate, the latest stamp of the inputs
applied, whether a GNSS measurement update was applied, updates gated and inputs discarded as late since
the previous output. -/
structure FusionIn where
  est : PoseEst
  acc : Nat
  gnss : Bool
  gated : Nat
  late : Nat
  deriving DecidableEq, Repr, Inhabited

/-- A sample of an IMU after calibration (R297, R324): angular rate in nrad/s and specific force in
nm/s² about its own axes. -/
structure ImuSample where
  gx : Int
  gy : Int
  gz : Int
  ax : Int
  ay : Int
  az : Int
  deriving DecidableEq, Repr, Inhabited

/-- What the monitors of R484 show when a margin plan is formed: slack of the eight domains in the order of
R494 and slack gained per 5 mV on the four rails, in 0.01 %; shortest DRAM retention of the two lanes in
ms; flash cycles and spare blocks; on-resistance of the 24 valve switches above the factory value in %. -/
structure PlanMeas where
  slack : List Int
  gain : List Nat
  retention : List Nat
  peMax : Nat
  peMean : Nat
  spare : Nat
  fetRise : List Nat
  deriving DecidableEq, Repr, Inhabited

end Sys2Proof
end

