-- ==== Sys2Proof/Syntax.lean ====
section
/-!
DEFINITION. The commands of the block: one constructor per row of spec/opcode_table.json, in its order, with
the rule that the row names. `dt` is the time in quanta that passes before the command (log entry 10); a
command without it happens at an instant that the state holds. A submission `p` is a record that the host posts.
-/
namespace Sys2Proof

/-- A command. -/
inductive Instr where
  /-- TIME_IN_EDGE (R34): an edge on TIME_IN is accepted or rejected against the Field Time second and, if
  accepted, is measured or used for discipline. -/
  | timeInEdge (dt : Nat) (rising : Bool)
  /-- DISCIPLINE_INTERVAL_END (R17): at each GPS second the discipline interval is judged valid or not and
  the rate law, slew, confirmation and state table are applied. -/
  | disciplineIntervalEnd
  /-- STEP_INSTANT (R26): at the step instant the counter is loaded with the step amount, TIME_EPOCH
  increments and every grid and open window is cut. -/
  | stepInstant
  /-- TP_OUT_PULSE (R31): TP_OUT rises at each Field Time GPS second, with TIME_OK rising there when
  LOCKED begins. -/
  | tpOutPulse
  /-- TP_OUT_PULSE_END (R31): TP_OUT falls 100 ms of elapsed time after its rising edge. -/
  | tpOutPulseEnd
  /-- HOLDOVER_LIMIT (R22): the uncertainty in HOLDOVER exceeds HOLDOVER_LIMIT_NS and the time state
  becomes FREE. -/
  | holdoverLimit (dt : Nat)
  /-- OCXO_WARM (R22): the OCXO has been powered for 10 min and counts as warm. -/
  | ocxoWarm
  /-- KD_TIME_STEP_CONFIRM (R24): the host confirms a pending step, which is accepted if the offset
  matches within 1 µs and applied at the next GPS second. -/
  | kdTimeStepConfirm (dt : Nat) (p : Post)
  /-- HEARTBEAT (R47): the Curator receives a lane heartbeat, checks it and restarts that lane's timeout.
  -/
  | heartbeat (dt : Nat) (lane : Fin 2) (h : Heartbeat)
  /-- HEARTBEAT_TIMEOUT (R48): 2.95 ms pass without a valid heartbeat and the Curator recognises the lane
  as failed. -/
  | heartbeatTimeout (dt : Nat) (lane : Fin 2)
  /-- SIGNATURE (R46): the Curator receives a beat signature message and classifies the beat as agree,
  mismatch or absent. -/
  | signature (dt : Nat) (lane : Fin 2) (k : Nat) (sig : Nat) (crcOk : Bool)
  /-- SELFCHECK_VERDICT (R49): A lane reports its known-vector self-check verdict and the verdict table is
  applied when both are in. -/
  | selfcheckVerdict (dt : Nat) (lane : Fin 2) (pass : Bool)
  /-- SELFCHECK_TIMEOUT (R49): 2.0 ms pass after the self-check order without a verdict and the silent
  lane is treated as failing. -/
  | selfcheckTimeout
  /-- CURATOR_WATCHDOG (R51): the Curator's watchdog resets it after 5 ms without progress and
  CURATOR_RESET is raised. -/
  | curatorWatchdog (dt : Nat)
  /-- CURATOR_STATUS (R51): A lane receives the 1 ms Curator status message. -/
  | curatorStatus (dt : Nat) (lane : Fin 2)
  /-- CURATOR_LINK_TIMEOUT (R51): A lane sees no Curator status for 3 ms and raises CURATOR_LINK. -/
  | curatorLinkTimeout (lane : Fin 2)
  /-- PREFERRED_LANE_TIMEOUT (R53): the preferred lane has not started 3.5 s after W and the first lane to
  start becomes Active. -/
  | preferredLaneTimeout
  /-- LANE_START_TIMEOUT (R539): A lane has sent no valid heartbeat 3.5 s after release into Booting and
  its start has failed. -/
  | laneStartTimeout (lane : Fin 2)
  /-- TAKEOVER_ACK (R54): the ordered lane acknowledges a takeover and names the switch beat kS. -/
  | takeoverAck (dt : Nat) (lane : Fin 2)
  /-- SWITCH_BEAT (R54): at kS·T the command selector, transmit paths and delivery source switch to the
  new lane. -/
  | switchBeat
  /-- OVERLAP_WINDOW_END (R55): 10 ms after kS old-lane transmit entries are discarded, the old lane is
  released and LANE_TAKEOVER is raised. -/
  | overlapWindowEnd
  /-- OUTPUT_PATH_CHECK (R57): an output path has not reported acceptance of the new lane's first command
  within 1 beat and LANE_OUTPUT_PATH is raised. -/
  | outputPathCheck (dt : Nat) (path : Fin 4)
  /-- KD_LANE_SWAP (R59): the host orders a planned swap of the commanding lane. -/
  | kdLaneSwap (dt : Nat) (p : Post)
  /-- AUTO_SWAP (R59): 10 min after the first Standby-ready of a power-up the Curator makes one swap. -/
  | autoSwap
  /-- KD_LANE_PROMOTE (R63): the host promotes a Shadow lane to command. -/
  | kdLanePromote (dt : Nat) (p : Post)
  /-- CHECKPOINT_REQUEST (R60): A rebuilding lane requests a checkpoint and the Active lane names kC. -/
  | checkpointRequest (dt : Nat) (lane : Fin 2) (ahead : Nat)
  /-- CHECKPOINT_CAPTURE (R60): at kC·T the Active lane captures its state and starts sending it over the
  inter-lane link. -/
  | checkpointCapture (lane : Fin 2)
  /-- CHECKPOINT_RECEIVED (R540): the checkpoint transfer to the rebuilding lane completes. -/
  | checkpointReceived (dt : Nat) (lane : Fin 2)
  /-- CHECKPOINT_LOADED (R540): the rebuilding lane finishes loading the checkpoint and starts replaying
  its journal. -/
  | checkpointLoaded (dt : Nat) (lane : Fin 2)
  /-- REPLAY_JOINS_LIVE (R60): the journal replay reaches the live stream and the lane starts sending
  signatures. -/
  | replayJoinsLive (dt : Nat) (lane : Fin 2)
  /-- JOURNAL_FULL (R61): the journal fills before the replay reaches the live stream and the rebuild
  attempt fails. -/
  | journalFull (dt : Nat) (lane : Fin 2)
  /-- REBUILD_TIMEOUT (R61): 30 s after B0 the replay has not reached the live stream and the rebuild
  attempt fails. -/
  | rebuildTimeout (lane : Fin 2)
  /-- STANDBY_READY (R61): A rebuilding lane completes 2 000 consecutive agreeing beats and becomes
  Standby-ready. -/
  | standbyReady (lane : Fin 2)
  /-- LANE_STATUS_PERIOD (R66): every 1 000 beats KD_LANE_STATUS is delivered. -/
  | laneStatusPeriod
  /-- RAIL_FAULT (R467): an internal rail leaves tolerance, with effects by rail. -/
  | railFault (dt : Nat) (rail : Nat) (code : Nat) (owner : Fin 4)
  /-- LINK_LOSS (R68): loss of the PCIe link resets the host-link state and every ring becomes Unused. -/
  | linkLoss (dt : Nat)
  /-- HOT_RESET (R68): A hot reset resets the host-link state only. -/
  | hotReset (dt : Nat)
  /-- FUNCTION_LEVEL_RESET (R68): A Function Level Reset resets the host-link state only. -/
  | functionLevelReset (dt : Nat)
  /-- D3HOT (R68): A transition to D3hot resets the host-link state only. -/
  | d3hot (dt : Nat)
  /-- LINK_RATE_CHANGE (R95): the trained rate or width changes and KD_LINK_STATUS is delivered. -/
  | linkRateChange (dt : Nat) (speed : Nat) (width : Nat) (l1 : Bool)
  /-- DOORBELL_POLL (R84): every DB_POLL while awake the module issues a read of the doorbell page. -/
  | doorbellPoll (dt : Nat)
  /-- DOORBELL_READ_COMPLETE (R78): the doorbell read data arrives, changes are checked for credit
  violations and new records are fetched. -/
  | doorbellReadComplete (dt : Nat) (r : PageRead)
  /-- DOORBELL_READ_FAIL (R93): A doorbell read is poisoned, fails or times out, the poll is skipped and
  three in a row raise LINK_ERROR. -/
  | doorbellReadFail (dt : Nat) (cause : DmaCause)
  /-- RING_READ_COMPLETE (R89): A ring read completion arrives and the descriptor it carries is stamped
  into the input stream. -/
  | ringReadComplete (dt : Nat) (n : Fin 32) (entries : Nat)
  /-- DMA_ERROR (R93): A ring or buffer access ends in an error or timeout and the ring is Faulted. -/
  | dmaError (dt : Nat) (n : Fin 64) (cause : DmaCause)
  /-- DOZE_TIMEOUT (R85): 50 ms pass without a doorbell change and the module writes DOZING and rereads
  the doorbell page. -/
  | dozeTimeout
  /-- DOZE_CHECK_READ (R85): the doze check read completes and the module either resumes polling or stops
  and counts a doze. -/
  | dozeCheckRead (dt : Nat) (words : List Nat)
  /-- WAKE (R87): A write to WAKE ends a doze or restarts the 50 ms timer. -/
  | wake (dt : Nat) (value : Nat)
  /-- RING_GO (R513): A write of GO requests a set-up, which is held, merged, discarded or performed. -/
  | ringGo (dt : Nat) (value : Nat)
  /-- RING_SETUP (R97): the module discards waiting records, zeroes indices, validates the ring table and
  writes MODULE_STATE. -/
  | ringSetup (dt : Nat) (table : List RingEntry)
  /-- DB_POLL (R512): A write to DB_POLL stores a clamped poll interval effective at the next poll. -/
  | dbPoll (dt : Nat) (value : Nat)
  /-- LG_CURSOR (R520): A write to LG_CURSOR changes the slot shown in LG_WINDOW. -/
  | lgCursor (dt : Nat) (value : Nat)
  /-- FT_SNAP (R519): A read of FT_SNAP_LO or an 8-byte read of FT_SNAP captures Field Time. -/
  | ftSnap (dt : Nat)
  /-- REGISTER_WRITE (R508): A write to a BAR0 register without behaviour of its own, such as a base
  register, stores or is ignored. -/
  | registerWrite (dt : Nat) (off : Nat) (size : Nat) (value : Nat)
  /-- MSIX_UNMASK (R92): unmasking an MSI-X vector with its pending bit set sends the message. -/
  | msixUnmask (dt : Nat) (v : Fin 64)
  /-- RECORD_DELIVERY (R90): the commanding lane writes a waiting record to its delivery ring when credit
  allows and advances RET_DR. -/
  | recordDelivery (dt : Nat) (n : Fin 32)
  /-- COAL_TIME (R92): COAL_TIME_US passes since the oldest unsignalled record and an MSI-X message is
  sent. -/
  | coalTime (n : Fin 32)
  /-- KD_RING_RESET (R94): the host resets one ring, discarding its entries and holding it until its
  doorbell word reads 0. -/
  | kdRingReset (dt : Nat) (p : Post) (e : RingEntry)
  /-- LINK_STATUS_PERIOD (R95): every 10 s KD_LINK_STATUS is delivered. -/
  | linkStatusPeriod
  /-- BUFPTR_SUPPLY (R83): A KD_BUFPTR with USE 1 supplies an empty buffer to a delivery ring. -/
  | bufptrSupply (dt : Nat) (p : Post)
  /-- BUFPTR_SEGMENT_STRAY (R82): A KD_BUFPTR with USE 0 that continues no chain is refused with CHAIN. -/
  | bufptrSegmentStray (dt : Nat) (p : Post)
  /-- UNKNOWN_KIND (R106): A submission of unknown KIND is skipped over its entries and refused once. -/
  | unknownKind (dt : Nat) (kind : Nat) (p : Post)
  /-- DELIVERY_KIND_POSTED (R106): A delivery-only kind posted by the host is refused with DIRECTION. -/
  | deliveryKindPosted (dt : Nat) (kind : Nat) (p : Post)
  /-- CLASS_COUNTS_PERIOD (R110): every 10 s KD_CLASS_COUNTS is delivered. -/
  | classCountsPeriod
  /-- KD_CAT_OPEN (R114): the host opens a Catalogue transaction. -/
  | kdCatOpen (dt : Nat) (p : Post)
  /-- KD_CAT_COMMIT (R114): the host commits a Catalogue transaction, which is refused or scheduled for
  its commit boundary. -/
  | kdCatCommit (dt : Nat) (p : Post)
  /-- KD_CAT_ABORT (R114): the host aborts an open Catalogue transaction. -/
  | kdCatAbort (dt : Nat) (p : Post)
  /-- KD_CAT_READ (R117): the host reads back settings records of one kind or all kinds. -/
  | kdCatRead (dt : Nat) (p : Post)
  /-- CAT_TRANSACTION_TIMEOUT (R114): A transaction without a close in time is aborted with reason
  TIMEOUT. -/
  | catTransactionTimeout
  /-- COMMIT_BOUNDARY (R115): an accepted commit takes effect in both lanes and the generation increments.
  -/
  | commitBoundary
  /-- KD_TIME_SETTINGS (R39): A time settings record is posted in a transaction. -/
  | kdTimeSettings (dt : Nat) (p : Post)
  /-- KD_LANE_SETTINGS (R64): A lane settings record is posted in a transaction. -/
  | kdLaneSettings (dt : Nat) (p : Post)
  /-- KD_PASSAGE_SETTINGS (R142): A chain or hop record is posted in a transaction. -/
  | kdPassageSettings (dt : Nat) (p : Post)
  /-- KD_CROP_SETTINGS (R161): A crop, channel or preview record is posted in a transaction. -/
  | kdCropSettings (dt : Nat) (p : Post)
  /-- KD_LOOP_SETTINGS (R190): A loop law or supervision record is posted in a transaction. -/
  | kdLoopSettings (dt : Nat) (p : Post)
  /-- KD_GROUP_SETTINGS (R204): A min-select group record is posted in a transaction. -/
  | kdGroupSettings (dt : Nat) (p : Post)
  /-- KD_VALVE_SETTINGS (R240): A valve channel or bank record is posted in a transaction. -/
  | kdValveSettings (dt : Nat) (p : Post)
  /-- KD_MAP_SETTINGS (R264): the map settings record is posted in a transaction. -/
  | kdMapSettings (dt : Nat) (p : Post)
  /-- KD_GNSS_SETTINGS (R295): the GNSS settings record is posted in a transaction. -/
  | kdGnssSettings (dt : Nat) (p : Post)
  /-- KD_FUSION_SETTINGS (R321): A fusion main, geometry, line or external IMU record is posted in a
  transaction. -/
  | kdFusionSettings (dt : Nat) (p : Post)
  /-- KD_CAMERA_SETTINGS (R352): A camera port, pipeline, table or scalar record is posted in a
  transaction. -/
  | kdCameraSettings (dt : Nat) (p : Post)
  /-- KD_FIELD_SETTINGS (R377): A field I/O record is posted in a transaction. -/
  | kdFieldSettings (dt : Nat) (p : Post)
  /-- KD_CAN_SETTINGS (R394): A CAN controller record is posted in a transaction. -/
  | kdCanSettings (dt : Nat) (p : Post)
  /-- KD_CAN_OBJECT_SETTINGS (R395): A CAN receive or set-point object record is posted in a transaction.
  -/
  | kdCanObjectSettings (dt : Nat) (p : Post)
  /-- KD_MODEM_SETTINGS (R413): the modem settings record is posted in a transaction. -/
  | kdModemSettings (dt : Nat) (p : Post)
  /-- KD_DISPLAY_SETTINGS (R428): the display settings record is posted in a transaction. -/
  | kdDisplaySettings (dt : Nat) (p : Post)
  /-- KD_EVENT_SETTINGS (R434): an event source settings record is posted in a transaction. -/
  | kdEventSettings (dt : Nat) (p : Post)
  /-- KD_CAL_USER (R461): A user calibration record is posted in a transaction. -/
  | kdCalUser (dt : Nat) (p : Post)
  /-- KD_POWER_SETTINGS (R479): the power settings record is posted in a transaction. -/
  | kdPowerSettings (dt : Nat) (p : Post)
  /-- TAP_INSTANT (R148): at each 10 ms tap instant the lane finalises Slices, rebuilds kernels,
  attributes, settles and computes preview. -/
  | tapInstant (bad : List MapUnit)
  /-- ORPHAN_TIMEOUT (R154): an orphan accumulation reaches 10 s and closes. -/
  | orphanTimeout
  /-- EST_WINDOW_END (R133): at each estimation window end each hop's correlator result is decided and
  running values may update. -/
  | estWindowEnd (n : Fin 7)
  /-- KD_CROP_CHANGE (R140): the host orders a crop change at a later Slice. -/
  | kdCropChange (dt : Nat) (p : Post)
  /-- PASSAGE_STATUS_PERIOD (R144): every STATUS_PERIOD_MS KD_PASSAGE_STATUS is delivered. -/
  | passageStatusPeriod
  /-- BEAT_BATCH_CLOSE (R172): 10 µs after each beat boundary the batch of inputs closes and becomes
  available to the lanes. -/
  | beatBatchClose
  /-- LOOP_SAMPLE (R177): at each sample boundary a loop applies its prior output, takes orders and inputs
  and computes its law. -/
  | loopSample (n : Fin 128)
  /-- ACTION_HOLD_EXPIRY (R210): ACTION_HOLD_SAMPLES samples pass and the loop's action is released. -/
  | actionHoldExpiry (n : Fin 128)
  /-- KD_SETPOINT (R192): the host sends a set-point order to a loop. -/
  | kdSetpoint (dt : Nat) (p : Post)
  /-- LOOP_DISABLE (R213): KD_LOOP_ENABLE ACTION 0 takes the loop Off with its shut-down. -/
  | loopDisable (dt : Nat) (p : Post)
  /-- LOOP_ENABLE (R214): KD_LOOP_ENABLE ACTION 1 enters the loop into Starting, after any running shut-
  down. -/
  | loopEnable (dt : Nat) (p : Post)
  /-- LOOP_CLEAR_STICKY (R193): KD_LOOP_ENABLE ACTION 2 clears the loop's sticky flags at the next sample
  boundary. -/
  | loopClearSticky (dt : Nat) (p : Post)
  /-- KD_VALVE_PROFILE (R221): the host requests a profile start on a valve channel. -/
  | kdValveProfile (dt : Nat) (p : Post)
  /-- KD_VALVE_HOLD_TRIM (R221): the host changes a channel's hold current. -/
  | kdValveHoldTrim (dt : Nat) (p : Post)
  /-- KD_VALVE_OFF (R235): the host switches a channel off and may clear its fault latch. -/
  | kdValveOff (dt : Nat) (p : Post)
  /-- VALVE_REQUEST_DECIDE (R223): at the requested start the lanes decide valve requests in channel
  order, against bank limits, queues and quenches. -/
  | valveRequestDecide
  /-- VALVE_RISE_END (R220): RISE ends at IPK_MA or BOOST_MAX_US and the channel enters PEAK or HOLD. -/
  | valveRiseEnd (n : Fin 24) (dt : Nat) (ma : Nat) (w : List Sense) (m : ValveMeas)
  /-- VALVE_PEAK_END (R220): PEAK ends after PEAK_US, the boost slot is freed and the queue head may
  start. -/
  | valvePeakEnd (n : Fin 24) (ma : Nat) (w : List Sense)
  /-- VALVE_QUENCH_END (R220): A quench ends below 20 mA or at its time limit and waiting starts or shut-
  downs complete. -/
  | valveQuenchEnd (n : Fin 24) (dt : Nat) (ma : Nat)
  /-- VALVE_BOOST_DEADLINE (R226): A profile start still waiting for a boost slot at its deadline is
  refused with TIMEOUT. -/
  | valveBoostDeadline (n : Fin 24)
  /-- VALVE_OPEN_ON_CHECK (R233): OL_ON_US after a start the on-state open-load and short-to-ground test
  is evaluated. -/
  | valveOpenOnCheck (n : Fin 24) (m : ValveMeas)
  /-- VALVE_SCB_TRIP (R233): the short-to-supply comparator trips, the channel is switched off fast and
  latched. -/
  | valveScbTrip (n : Fin 24) (dt : Nat) (m : ValveMeas)
  /-- VALVE_BANK_LINE (R234): A bank line short opens the bank high-side and latches BANK_LINE on its
  channels. -/
  | valveBankLine (b : Fin 6) (dt : Nat) (m : ValveMeas)
  /-- VALVE_OFF_TEST (R233): every DIAG_OFF_PERIOD_MS an off-state test starts on each idle channel. -/
  | valveOffTest
  /-- VALVE_OFF_TEST_COMPLETE (R233): the off-state measurement completes and the case is classified and
  reported or latched. -/
  | valveOffTestComplete (n : Fin 24) (m : ValveMeas)
  /-- VALVE_STATUS_PERIOD (R243): every STATUS_PERIOD_MS KD_VALVE_STATUS is delivered. -/
  | valveStatusPeriod
  /-- PLATE_TEMPERATURE (R239): every 100 ms the mounting-plate temperature is measured and the bands
  updated. -/
  | plateTemperature (c : Int)
  /-- OUT_INHIBIT_ASSERT (R373): OUT_INHIBIT asserts and every output is opened in hardware. -/
  | outInhibitAssert (dt : Nat)
  /-- OUT_INHIBIT_RELEASE (R374): OUT_INHIBIT releases after 10 ms and outputs stay off until new values.
  -/
  | outInhibitRelease (dt : Nat)
  /-- FIELD_OPEN (R262): KD_MAP_FIELD_OPEN ACTION OPEN resumes or creates a field. -/
  | fieldOpen (dt : Nat) (p : Post)
  /-- FIELD_CLOSE (R263): KD_MAP_FIELD_OPEN ACTION CLOSE releases the carry and flushes and closes the
  field. -/
  | fieldClose (dt : Nat) (p : Post)
  /-- FIELD_DISCARD (R262): KD_MAP_FIELD_OPEN ACTION DISCARD deletes an archived field. -/
  | fieldDiscard (dt : Nat) (p : Post)
  /-- FIELD_NEW (R262): KD_MAP_FIELD_OPEN ACTION NEW discards an archived field and opens it empty. -/
  | fieldNew (dt : Nat) (p : Post)
  /-- FIELD_CLOSE_FLUSHED (R263): the close flush finishes and the close completes. -/
  | fieldCloseFlushed (dt : Nat)
  /-- MAP_FLUSH_PERIOD (R260): every FLUSH_PERIOD_S dirty tiles are written to the archive. -/
  | mapFlushPeriod
  /-- MAP_SUMMARY_PERIOD (R267): every SUMMARY_PERIOD_S the field summary is delivered. -/
  | mapSummaryPeriod
  /-- TILE_REQUEST_TILE (R265): KD_MAP_TILE_REQUEST FORM 0 delivers one tile. -/
  | tileRequestTile (dt : Nat) (p : Post)
  /-- TILE_REQUEST_SUMMARY (R265): KD_MAP_TILE_REQUEST FORM 1 delivers the field summary. -/
  | tileRequestSummary (dt : Nat) (p : Post)
  /-- TILE_REQUEST_ALL (R265): KD_MAP_TILE_REQUEST FORM 2 delivers every touched tile. -/
  | tileRequestAll (dt : Nat) (p : Post)
  /-- GNSS_EPOCH (R275): at each epoch instant all channels latch, checks run, channels are marked and
  records delivered. -/
  | gnssEpoch (x : GnssEpochIn)
  /-- SUSPECT_HOLD_EXPIRY (R289): SUSPECT_HOLD_S pass without a cause and the channel is no longer
  SUSPECT. -/
  | suspectHoldExpiry (bank : Fin 4) (sv : Nat)
  /-- DUAL_PEAK_FOUND (R286): the background search finds a second peak and assigns a DUPLICATE channel.
  -/
  | dualPeakFound (c : Fin 192) (dt : Nat) (sv : Nat) (ns : Nat) (cn0 : Nat)
  /-- NAV_MESSAGE (R282): A navigation message is complete, checked and delivered as KD_GNSS_NAVBITS. -/
  | navMessage (c : Fin 192) (dt : Nat) (accAgo : Nat) (effAgo : Nat) (d29 : Bool) (d30 : Bool) (data : List Byte)
  /-- ANTENNA_OK (R270): the antenna bias current enters 2–60 mA and the state becomes OK. -/
  | antennaOk (dt : Nat) (ma : Nat)
  /-- ANTENNA_OPEN (R270): the bias current stays below 2 mA for 100 ms and the state becomes OPEN. -/
  | antennaOpen (dt : Nat)
  /-- ANTENNA_OVERCURRENT (R270): the bias current limit holds for 10 ms and the bias is removed. -/
  | antennaOvercurrent (dt : Nat)
  /-- ANTENNA_RETRY (R270): every 5 s after an overcurrent the bias is retried. -/
  | antennaRetry
  /-- KD_RTCM_IN (R303): the host posts RTCM frames for positioning. -/
  | kdRtcmIn (dt : Nat) (p : Post)
  /-- BASE_EPOCH_TIMEOUT (R301): A base epoch still incomplete after 200 ms is used as it stands. -/
  | baseEpochTimeout (host : Bool)
  /-- CORR_SOURCE_BACKUP (R302): the primary correction source delivers no complete base epoch for 5 s and
  the backup is used. -/
  | corrSourceBackup
  /-- FUSION_OUTPUT (R306): at each output instant the filter applies inputs, propagates and publishes its
  signals and KD_POSE. -/
  | fusionOutput (x : FusionIn)
  /-- FUSION_CHECK_EPOCH (R312): at each 10 ms check epoch sources are compared, counted, excluded or
  readmitted. -/
  | fusionCheckEpoch
  /-- SOURCE_ABSENT (R313): A source silent for 1 s becomes absent. -/
  | sourceAbsent (src : Fin 15)
  /-- DEAD_RECKONING_TIMEOUT (R308): 1 s without a GNSS measurement update sets DEAD_RECKONING. -/
  | deadReckoningTimeout
  /-- EDGE_HOLD_EXPIRY (R316): no feature is applied within EDGE_HOLD_MS and EDGE_VALID clears. -/
  | edgeHoldExpiry
  /-- KD_HOST_FIX (R314): the host posts a position fix for comparison or dead-reckoning update. -/
  | kdHostFix (dt : Nat) (p : Post)
  /-- IMU0_DATA_READY (R305): the on-module IMU data-ready edge brings a sample for propagation. -/
  | imu0DataReady (dt : Nat) (x : ImuSample)
  /-- IMU_DRDY (R324): an external IMU data-ready edge starts an SPI transfer. -/
  | imuDrdy (dt : Nat) (rising : Bool)
  /-- IMU_TRANSFER_END (R324): the external IMU transfer ends and the frame is checked into a sample. -/
  | imuTransferEnd (dt : Nat) (frame : List Byte)
  /-- IMU1_RATE_WINDOW (R37): each 1 s window's data-ready count is checked against the nominal rate. -/
  | imu1RateWindow
  /-- CAM_TRIGGER (R329): at each trigger instant CAM_TRIGp goes active, FRAME_NUMBER increments and the
  previous window is judged. -/
  | camTrigger (p : Fin 6)
  /-- CAM_TRIGGER_END (R329): TRIG_WIDTH_US after the active edge the trigger returns inactive. -/
  | camTriggerEnd (p : Fin 6)
  /-- FRAME_START (R332): A CSI-2 frame-start packet opens a frame bound to its trigger. -/
  | frameStart (port : Fin 6) (dt : Nat) (vc : Nat) (eccFix : Bool)
  /-- CSI2_PACKET (R330): A CSI-2 line or data packet is accepted, stored or discarded. -/
  | csi2Packet (port : Fin 6) (dt : Nat) (vc : Nat) (type : Nat) (pay : List Byte) (crcOk : Bool) (ecc : Fin 3)
  /-- FRAME_END (R332): A frame-end packet closes the frame, which is processed and its records delivered.
  -/
  | frameEnd (port : Fin 6) (dt : Nat) (vc : Nat) (eccFix : Bool)
  /-- FRAME_END_TIMEOUT (R333): no frame end within two trigger intervals closes the frame TRUNCATED. -/
  | frameEndTimeout (p : Fin 6)
  /-- CAM_LINK_LOCK (R326): A camera A-PHY link reaches lock. -/
  | camLinkLock (port : Fin 6) (dt : Nat)
  /-- CAM_LINK_LOSS (R326): A camera link loses lock and its pipeline returns to Starting. -/
  | camLinkLoss (port : Fin 6) (dt : Nat)
  /-- CAM_LINK_RETRY (R326): every 100 ms an unlocked link is retried. -/
  | camLinkRetry (port : Fin 6)
  /-- UPLINK_REPLY (R327): A camera register write is acknowledged or not acknowledged. -/
  | uplinkReply (p : Fin 6) (dt : Nat) (ack : Bool)
  /-- UPLINK_TIMEOUT (R327): A write without a reply for 2 ms counts as not acknowledged. -/
  | uplinkTimeout (p : Fin 6)
  /-- POC_OK (R328): the camera supply current enters its normal range. -/
  | pocOk (port : Fin 6) (dt : Nat)
  /-- POC_OPEN (R328): the camera supply current stays below 20 mA for 100 ms. -/
  | pocOpen (port : Fin 6) (dt : Nat)
  /-- POC_OVERCURRENT (R328): the camera supply limit holds 10 ms and the supply is removed. -/
  | pocOvercurrent (port : Fin 6) (dt : Nat)
  /-- POC_RETRY (R328): every 5 s after an overcurrent the camera supply is retried. -/
  | pocRetry (port : Fin 6)
  /-- KD_EXPOSURE (R342): the host posts an exposure setting taking effect at trigger T2. -/
  | kdExposure (dt : Nat) (p : Post)
  /-- EXPOSURE_WRITES (R342): at T1 the writes of the pending exposure setting are sent. -/
  | exposureWrites (p : Fin 6)
  /-- PIPE_DISABLE (R350): KD_PIPE_ENABLE ACTION 0 takes a pipeline Off. -/
  | pipeDisable (dt : Nat) (p : Post)
  /-- PIPE_ENABLE (R350): KD_PIPE_ENABLE ACTION 1 starts a pipeline. -/
  | pipeEnable (dt : Nat) (p : Post)
  /-- PIPE_DELIVER_FULL (R340): KD_PIPE_ENABLE ACTION 2 delivers a stored frame in full or refuses it with
  FRAME_GONE. -/
  | pipeDeliverFull (dt : Nat) (p : Post)
  /-- PIPE_INIT_RETRY (R350): 1 s after a not-acknowledged write the INIT writes are repeated. -/
  | pipeInitRetry (p : Fin 6)
  /-- CAM_PORT_STATUS (R345): each GPS second the port status record is delivered. -/
  | camPortStatus (meas : List (Nat × Nat))
  /-- DI_CHANGE (R355): A digital input's debounced level changes and is reported. -/
  | diChange (n : Fin 48) (dt : Nat) (level : Bool)
  /-- COUNTER_EDGE (R358): A counted edge on a counter input is stamped and counted. -/
  | counterEdge (n : Fin 16) (dt : Nat) (rising : Bool) (widthNs : Nat)
  /-- GATE_CLOSE (R360): A counter gate closes and frequency and period are formed. -/
  | gateClose (n : Fin 16)
  /-- AI_SAMPLE (R364): every 100 µs all analog inputs are sampled, given a status and refresh their
  signals. -/
  | aiSample (xs : List Int)
  /-- AI_SHUNT_OPEN (R366): current above 30 mA for 10 ms opens the shunt. -/
  | aiShuntOpen (n : Fin 16) (dt : Nat)
  /-- AI_SHUNT_RECLOSE (R366): every 1 s an opened shunt is reclosed. -/
  | aiShuntReclose (n : Fin 16)
  /-- AI_REPORT (R367): at each AI_REPORT_MS instant KD_AI_REPORT is delivered. -/
  | aiReport
  /-- DQ_SET (R370): KD_DQ_SET sets a digital output's duty. -/
  | dqSet (dt : Nat) (p : Post)
  /-- DQ_CLEAR_ONLY (R370): KD_DQ_SET with CLEAR_ONLY clears an overload latch without changing the duty.
  -/
  | dqClearOnly (dt : Nat) (p : Post)
  /-- DQ_DUTY_EFFECT (R369): A new duty takes effect at the next PWM period start. -/
  | dqDutyEffect (n : Fin 24)
  /-- DQ_OVERLOAD (R371): an overload switches the output off and latches it. -/
  | dqOverload (n : Fin 24) (dt : Nat)
  /-- DQ_OPEN_LOAD (R371): an open load in the on state is reported. -/
  | dqOpenLoad (n : Fin 24) (dt : Nat)
  /-- DQ_SUPPLY_SHORT (R371): A short to supply in the off state is reported. -/
  | dqSupplyShort (n : Fin 24) (dt : Nat)
  /-- SENSOR_SUPPLY_FAULT (R375): A sensor supply at its limit for 10 ms switches off. -/
  | sensorSupplyFault (which : Fin 2) (dt : Nat)
  /-- SENSOR_SUPPLY_RETRY (R375): every 1 s a faulted sensor supply is retried. -/
  | sensorSupplyRetry (which : Fin 2) (ok : Bool)
  /-- VDQ_LOW_SET (R375): VDQ below VDQ_LOW_MV for 100 ms sets VDQ_LOW. -/
  | vdqLowSet (dt : Nat) (mv : Nat)
  /-- VDQ_LOW_CLEAR (R375): VDQ back above its threshold for 100 ms clears VDQ_LOW. -/
  | vdqLowClear (dt : Nat) (mv : Nat)
  /-- FIELD_STATUS_PERIOD (R376): every STATUS_MS the field status record is delivered. -/
  | fieldStatusPeriod (vdq : Nat) (v5 : Nat) (v10 : Nat) (i5 : Nat) (i10 : Nat)
  /-- CAN_FRAME_RECEIVED (R384): A received CAN frame goes to its object, extracting signals and set-point
  orders. -/
  | canFrameReceived (c : Fin 6) (dt : Nat) (ago : Nat) (f : CanFrame) (own : Bool)
  /-- CAN_TX_SUCCESS (R389): the head frame is transmitted and its completion delivered. -/
  | canTxSuccess (c : Fin 6) (dt : Nat) (ago : Nat) (tdc : Nat)
  /-- CAN_TX_ERROR (R387): the head frame loses arbitration or meets an error and error counters move. -/
  | canTxError (c : Fin 6) (dt : Nat) (e : CanErr) (exempt : Bool)
  /-- CAN_BUSOFF_DELAY (R382): BUSOFF_DELAY_MS elapses and recovery starts. -/
  | canBusoffDelay (c : Fin 6)
  /-- CAN_RECOVERED (R382): 128 occurrences of 11 recessive bits end recovery. -/
  | canRecovered (c : Fin 6) (dt : Nat)
  /-- CAN_INTEGRATED (R382): 11 recessive bits end integration and the controller becomes ERROR_ACTIVE. -/
  | canIntegrated (c : Fin 6) (dt : Nat)
  /-- CAN_SHUTDOWN_END (R383): the frame on the bus ends and the controller shut-down ends. -/
  | canShutdownEnd (c : Fin 6) (dt : Nat)
  /-- CAN_TX_FRAME (R389): KD_CAN_TX with OBJECT 0xFF queues a frame. -/
  | canTxFrame (dt : Nat) (p : Post)
  /-- CAN_OBJECT_WRITE (R389): KD_CAN_TX with an object number writes RAW to a set-point object. -/
  | canObjectWrite (dt : Nat) (p : Post)
  /-- CAN_SETPOINT_PERIOD (R388): at each PERIOD_MS instant a set-point frame is enqueued. -/
  | canSetpointPeriod (o : Fin 192)
  /-- CAN_TX_LIFETIME (R389): A host frame still queued at LIFETIME_MS is removed. -/
  | canTxLifetime (c : Fin 6)
  /-- CAN_STATUS_PERIOD (R399): every STATUS_MS KD_CAN_STATUS is delivered. -/
  | canStatusPeriod (c : Fin 6)
  /-- CAN_WAKE_PATTERN (R393): A wake-up pattern on CAN0 or CAN1 wakes the module. -/
  | canWakePattern (dt : Nat) (c : Fin 2)
  /-- MODEM_CHARACTER (R403): A character received on MDM_RXD enters the inbound Folios and the parser. -/
  | modemCharacter (dt : Nat) (ago : Nat) (b : Byte) (stopLow : Bool)
  /-- MODEM_BREAK (R402): A low level held for more than a character time counts as a break. -/
  | modemBreak (dt : Nat)
  /-- MODEM_READER_PASS (R405): the reader passes a complete record into the input stream while the intake
  has credit. -/
  | modemReaderPass (dt : Nat)
  /-- MODEM_CREDIT_RETURN (R405): A lane finishes with a record and intake credit returns. -/
  | modemCreditReturn (dt : Nat)
  /-- KD_MODEM_TX (R408): the host queues an outbound modem record. -/
  | kdModemTx (dt : Nat) (p : Post)
  /-- MDM_READY_CHANGE (R409): MDM_READY changes and the transmitter starts or waits. -/
  | mdmReadyChange (dt : Nat) (high : Bool)
  /-- MODEM_CHARACTER_SENT (R409): A character completes on MDM_TXD and a finished record completes. -/
  | modemCharacterSent (dt : Nat)
  /-- MODEM_TX_STALL (R409): STALL_MS passes without a character sent. -/
  | modemTxStall
  /-- MODEM_TX_LIFETIME (R409): A record not begun at LIFETIME_MS is removed. -/
  | modemTxLifetime
  /-- MODEM_RING (R412): MDM_RING held asserted 10 ms wakes the module. -/
  | modemRing (dt : Nat)
  /-- MODEM_STATUS_PERIOD (R415): every STATUS_MS the modem port status is delivered. -/
  | modemStatusPeriod (ring : Bool)
  /-- DISPLAY_FRAME (R419): at each frame boundary polarity alternates and image changes apply under DC
  balance. -/
  | displayFrame
  /-- DISPLAY_LCD_EN1 (R425): 20 ms into RAILS LCD_EN1 goes high. -/
  | displayLcdEn1
  /-- DISPLAY_RAILS_DONE (R424): LCD_EN1 has been high 50 ms and CLEARING begins. -/
  | displayRailsDone
  /-- DISPLAY_SHUTDOWN_EN0 (R426): 50 ms after LCD_EN1 falls LCD_EN0 goes low. -/
  | displayShutdownEn0
  /-- DISPLAY_SHUTDOWN_END (R426): 100 ms after LCD_EN0 falls the display shut-down ends. -/
  | displayShutdownEnd
  /-- KD_SEGMENT_MAP (R423): the host posts a display image. -/
  | kdSegmentMap (dt : Nat) (p : Post)
  /-- DISPLAY_HOST_TIMEOUT (R421): no map within HOST_TIMEOUT_MS makes the host silent. -/
  | displayHostTimeout
  /-- DISPLAY_STATUS_PERIOD (R429): every STATUS_MS KD_DISPLAY_STATUS is delivered. -/
  | displayStatusPeriod
  /-- COALESCE_WINDOW_END (R433): an event coalescing window ends and emits a record if raisings were
  counted. -/
  | coalesceWindowEnd (src : Nat) (inst : Nat)
  /-- LEDGER_WRITE_COMPLETE (R438): A Ledger record write completes and any MSI-X for it is sent. -/
  | ledgerWriteComplete (dt : Nat)
  /-- KD_LEDGER_COPY (R441): the host asks for a copy of Ledger slots into buffers. -/
  | kdLedgerCopy (dt : Nat) (p : Post)
  /-- LEDGER_COPY_DONE (R442): the Ledger copy finishes and KD_LEDGER_DATA and the completion are
  delivered. -/
  | ledgerCopyDone (dt : Nat)
  /-- KD_LEDGER_CLEAR (R446): the host clears the Circulating shelf. -/
  | kdLedgerClear (dt : Nat) (p : Post)
  /-- LEDGER_CLEAR_DONE (R446): the clear finishes, LEDGER_CLEARED is written and waiting records follow.
  -/
  | ledgerClearDone (dt : Nat)
  /-- IMAGE_STORE (R455): KD_IMAGE_LOAD ACTION STORE checks a header and starts writing an image into a
  slot. -/
  | imageStore (dt : Nat) (p : Post) (segs : List Segment)
  /-- IMAGE_BODY_WRITTEN (R455): the body is written and its hash decides TRY or EMPTY. -/
  | imageBodyWritten (dt : Nat) (sha : List Byte)
  /-- IMAGE_RESTART (R456): KD_IMAGE_LOAD ACTION RESTART resets a lane into Booting. -/
  | imageRestart (dt : Nat) (p : Post)
  /-- IMAGE_SELECT (R457): KD_IMAGE_LOAD ACTION SELECT makes the STORED slot TRY. -/
  | imageSelect (dt : Nat) (p : Post)
  /-- IMAGE_CONFIRM_LANE (R449): A lane's TRY image becomes CONFIRMED after 2 000 beats of valid
  heartbeats outside Shadow. -/
  | imageConfirmLane (lane : Fin 2)
  /-- IMAGE_CONFIRM_TIMER (R449): A Curator or Front-end TRY image becomes CONFIRMED after 60 s of
  Serving. -/
  | imageConfirmTimer (fe : Bool)
  /-- CURATOR_START_FALLBACK (R450): the Curator fails three times within 1 s of power-up and restarts
  from its CONFIRMED slot. -/
  | curatorStartFallback (dt : Nat) (fe : Bool)
  /-- KD_RESTORE_FACTORY (R462): the host orders a restore of factory calibration. -/
  | kdRestoreFactory (dt : Nat) (p : Post)
  /-- RESTORE_BOUNDARY (R462): at its boundary the restore returns user tables to defaults and increments
  the generation. -/
  | restoreBoundary
  /-- VBAT_CONNECT (R469): VBAT reaches 9.0 V for 10 ms from Unpowered and the module enters Dormant or
  Serving. -/
  | vbatConnect (dt : Nat) (mv : Nat) (ign : Bool)
  /-- VBAT_LOST (R469): VBAT below 5.0 V in Dormant loses the always-on domain. -/
  | vbatLost (dt : Nat)
  /-- SUPPLY_CRANK (R465): A starting dip is ridden through and SUPPLY_CRANK is raised at recovery. -/
  | supplyCrank (dt : Nat) (mv : Nat) (us : Nat)
  /-- SUPPLY_UNDERVOLT (R465): VBAT stays in 8.0–9.0 V beyond 100 ms. -/
  | supplyUndervolt (dt : Nat) (mv : Nat) (us : Nat)
  /-- SUPPLY_OVERVOLT (R465): VBAT rises above 36.0 V. -/
  | supplyOvervolt (dt : Nat) (mv : Nat) (us : Nat)
  /-- SUPPLY_FALL (R471): A supply fall starts the hold-up sequence. -/
  | supplyFall (dt : Nat) (mv : Nat) (us : Nat)
  /-- SUPPLY_RETURN (R472): VBAT at 9.0 V for 5 ms before the deadline cancels the hold-up. -/
  | supplyReturn (dt : Nat) (mv : Nat) (m : PlanMeas)
  /-- HOLDUP_RETURN_DEADLINE (R471): at the return deadline outputs are switched off and lanes stopped. -/
  | holdupReturnDeadline (standstill : Bool)
  /-- HOLDUP_COMPLETE (R469): the hold-up sequence completes and the module enters Dormant or Unpowered.
  -/
  | holdupComplete (dt : Nat) (mv : Nat)
  /-- IGN_HIGH (R466): IGN is qualified high and wakes the module or is held during key-off. -/
  | ignHigh (dt : Nat)
  /-- IGN_LOW (R473): IGN is qualified low and the key-off sequence begins. -/
  | ignLow (dt : Nat)
  /-- KEYOFF_FLUSH_DONE (R473): the key-off map flush completes. -/
  | keyoffFlushDone (dt : Nat)
  /-- KEYOFF_SAVE_DONE (R473): the saved state is written and the hold-up bank measured. -/
  | keyoffSaveDone (dt : Nat) (uf : Nat) (esr : Nat) (standstill : Bool)
  /-- KEYOFF_COMPLETE (R473): the key-off sequence completes and the power state changes. -/
  | keyoffComplete (dt : Nat) (mv : Nat) (m : PlanMeas)
  /-- KEEP_MIN_EXPIRY (R469): KEEP_MIN elapses in Keeping and the module enters Dormant. -/
  | keepMinExpiry
  /-- KEEP_VBAT_LOW (R469): VBAT below KEEP_VBAT_MIN_MV for 10 s ends Keeping. -/
  | keepVbatLow (dt : Nat)
  /-- HOST_WAKE (R470): HOST_WAKE held low 1 ms wakes the module. -/
  | hostWake (dt : Nat)
  /-- WAKE_TIMER (R470): the wake timer expires and wakes the module. -/
  | wakeTimer
  /-- WAKE_SERVE_EXPIRY (R470): WAKE_SERVE_S ends with IGN low and key-off begins. -/
  | wakeServeExpiry
  /-- HOLDUP_BANK_CHARGED (R534): the hold-up bank reaches 34.0 V and the lanes are released into Booting.
  -/
  | holdupBankCharged (dt : Nat) (m : PlanMeas)
  /-- PCIE_PERST (R475): PCIE_PERST changes and the endpoint resets or trains its link. -/
  | pciePerst (dt : Nat) (asserted : Bool)
  /-- POWER_STATUS_PERIOD (R480): every STATUS_MS KD_POWER_STATUS is delivered. -/
  | powerStatusPeriod (mv : Nat) (vs : List Nat) (plateC : Int) (mw : Nat)
  /-- MARGIN_PLAN (R487): every 60 min of Serving a margin plan is formed and applied. -/
  | marginPlan (p : PlanMeas)
  /-- MARGIN_STEP_APPLY (R489): A frequency step takes effect at the next beat boundary. -/
  | marginStepApply
  /-- FLASH_REFRESH_DUE (R490): flash data older than the refresh period is rewritten. -/
  | flashRefreshDue
  /-- BEAT (R45): at each 100 µs beat boundary the lane completes the output vector of the beat, sends its
  signature (and every tenth beat its heartbeat), refreshes counter signals and evaluates the display
  status conditions. -/
  | beat
  /-- LINK_UP (R67): the PCIe link finishes training and comes up, raising LINK_STATE. -/
  | linkUp (dt : Nat) (speed : Nat) (width : Nat) (l1 : Bool)
  /-- LANE_IMAGE_LOADED (R450): A lane finishes loading its image and its body hash is checked; a failure
  sends the lane Off and marks a TRY slot FAILED. -/
  | laneImageLoaded (dt : Nat) (lane : Fin 2) (ok : Bool)
  /-- CAN_RX_ERROR (R382): A protocol error in a frame being received raises REC and may move the
  controller between ERROR_ACTIVE and ERROR_PASSIVE. -/
  | canRxError (c : Fin 6) (dt : Nat) (e : CanErr) (eight : Bool)
  /-- CHANNEL_LOCK (R278): A GNSS tracking channel gains or loses code or carrier lock or detects a cycle
  slip, which counts SLIPS and ends or starts an arc. -/
  | channelLock (c : Fin 192) (dt : Nat) (sv : Nat) (code : Bool) (carrier : Bool) (slip : Bool)
  /-- VALVE_CHOP_PERIOD_END (R233): at the end of each chop period in HOLD the mean current is tested for
  OPEN_ON or SCG_ON over 8 consecutive periods and a trimmed hold target is taken up. -/
  | valveChopPeriodEnd (n : Fin 24) (w : List Sense) (m : ValveMeas)
  /-- VALVE_BANK_UNDERVOLT (R233): A bank's supply V_S falls below or returns above 7.0 V, suspending or
  resuming every test of the bank and setting or clearing UNDERVOLT. -/
  | valveBankUndervolt (b : Fin 6) (dt : Nat) (vs : Nat)
  /-- RAIL_RETURN (R467): an internal rail returns to tolerance and the Curator stops holding the lane on
  that rail in reset. -/
  | railReturn (dt : Nat) (rail : Nat) (owner : Fin 4)
  deriving DecidableEq, Repr

end Sys2Proof
end

