-- ==== Sys2Proof/Decode.lean ====
section
/-!
DEFINITION. Commands as words. The block has no instruction decoder: spec/opcode_table.json gives no row a
bit, so that no word spells a command. The records that the host posts are read in Machine/Schema.lean and by
`checkBody` of Machine/Ops.lean.
-/
namespace Sys2Proof

/-- The command that a word of `nbits` bits spells by the bits of spec/opcode_table.json: none, since its rows
give no bits. -/
def decodeTableWord (_nbits _w : Nat) : Option Instr := none

end Sys2Proof
end

