-- ==== Sys2Proof/Machine/Float.lean ====
section
/-!
DEFINITION. IEEE 754 binary64 as exact dyadic numbers (R128, R145, R252, R543: "IEEE 754 binary64").
A value is `m * 2 ^ e`; every operation computes exactly and rounds to 53 bits, ties to even, with the
subnormal limit `2 ^ -1074`. Infinities and NaN never arise in the rules that use these numbers: an
operation with a zero divisor answers 0 and its caller guards against it (log entry 15).
-/
namespace Sys2Proof.Machine

/-- A finite binary64 number `m * 2 ^ e`, kept with an odd significand or as `0 * 2 ^ 0`. -/
structure F64 where
  m : Int
  e : Int
  deriving DecidableEq, Repr, Inhabited

namespace F64

/-- Divide out factors of two, at most `fuel` of them. -/
def strip : (fuel : Nat) → Nat → Int → Nat × Int
  | 0, n, e => (n, e)
  | f + 1, n, e => if n % 2 = 0 then strip f (n / 2) (e + 1) else (n, e)

/-- Round the natural number `n` shifted right by `k` bits, ties to even. -/
def shiftRne (n k : Nat) : Nat :=
  let h := n / 2 ^ k
  let r := n % 2 ^ k
  if 2 * r > 2 ^ k then h + 1
  else if 2 * r = 2 ^ k then (if h % 2 = 1 then h + 1 else h)
  else h

/-- The binary64 number nearest to the exact value `m * 2 ^ e`. -/
def norm (m e : Int) : F64 :=
  if m = 0 then ⟨0, 0⟩
  else
    let n := m.natAbs
    let bits : Int := (Nat.log2 n : Int) + 1
    let sh : Int := max (bits - 53) (-1074 - e)
    let (a, e1) := if sh ≤ 0 then (n, e) else (shiftRne n sh.toNat, e + sh)
    if a = 0 then ⟨0, 0⟩
    else
      let (b, e2) := strip 64 a e1
      ⟨if m < 0 then -(b : Int) else b, e2⟩

/-- Zero. -/
def zero : F64 := ⟨0, 0⟩
/-- The number nearest to an integer. -/
def ofInt (i : Int) : F64 := norm i 0
/-- The number nearest to a natural number. -/
def ofNat (i : Nat) : F64 := norm i 0
/-- One. -/
def one : F64 := ofInt 1

/-- Significand of `a` at the exponent `e`, exact when `e ≤ a.e`. -/
def at' (a : F64) (e : Int) : Int := a.m * 2 ^ (a.e - e).toNat

/-- Sum, rounded. -/
def add (a b : F64) : F64 :=
  if a.m = 0 then b else if b.m = 0 then a
  else let e := min a.e b.e; norm (a.at' e + b.at' e) e

/-- Negation. -/
def neg (a : F64) : F64 := ⟨-a.m, a.e⟩
/-- Difference, rounded. -/
def sub (a b : F64) : F64 := add a (neg b)
/-- Product, rounded. -/
def mul (a b : F64) : F64 := norm (a.m * b.m) (a.e + b.e)

/-- Quotient, rounded; 0 for a zero divisor. -/
def div (a b : F64) : F64 :=
  if b.m = 0 ∨ a.m = 0 then zero
  else
    let k : Nat := 120
    let n := a.m.natAbs * 2 ^ k
    let d := b.m.natAbs
    let q := 2 * (n / d) + (if n % d = 0 then 0 else 1)
    let s : Int := if (a.m < 0) = (b.m < 0) then 1 else -1
    norm (s * q) (a.e - b.e - k - 1)

/-- The number nearest to the fraction `n / d`. -/
def ofRat (n d : Int) : F64 := div ⟨n, 0⟩ ⟨d, 0⟩

/-- `a < b`. -/
def lt (a b : F64) : Bool := let e := min a.e b.e; decide (a.at' e < b.at' e)
/-- `a ≤ b`. -/
def le (a b : F64) : Bool := let e := min a.e b.e; decide (a.at' e ≤ b.at' e)
/-- Absolute value. -/
def abs (a : F64) : F64 := ⟨a.m.natAbs, a.e⟩
/-- The larger. -/
def max (a b : F64) : F64 := if lt a b then b else a
/-- The smaller. -/
def min (a b : F64) : F64 := if lt b a then b else a
/-- Clamp between two bounds. -/
def clamp (lo hi x : F64) : F64 := max lo (min hi x)

/-- The largest integer not above `a`. -/
def floor (a : F64) : Int := if a.e ≥ 0 then a.m * 2 ^ a.e.toNat else a.m / (2 ^ (-a.e).toNat : Int)
/-- Truncation toward zero. -/
def trunc (a : F64) : Int := if a.m < 0 then -(floor (neg a)) else floor a
/-- The nearest integer, ties to even. -/
def rint (a : F64) : Int :=
  if a.e ≥ 0 then a.m * 2 ^ a.e.toNat
  else
    let r : Int := shiftRne a.m.natAbs (-a.e).toNat
    if a.m < 0 then -r else r
/-- The nearest integer, ties away from zero. -/
def rhalf (a : F64) : Int :=
  let t := floor (add (abs a) (ofRat 1 2))
  if a.m < 0 then -t else t

/-- Integer square root by Newton's iteration, at most `fuel` rounds. -/
def isqrtGo : (fuel : Nat) → Nat → Nat → Nat
  | 0, _, x => x
  | f + 1, n, x => let y := (x + n / x) / 2; if y < x then isqrtGo f n y else x

/-- Integer square root. -/
def isqrt (n : Nat) : Nat := if n = 0 then 0 else isqrtGo 600 n (2 ^ (Nat.log2 n / 2 + 1))

/-- Square root, correctly rounded; 0 for a negative number. -/
def sqrt (a : F64) : F64 :=
  if a.m ≤ 0 then zero
  else
    let n := a.m.natAbs
    let k : Nat := if a.e % 2 = 0 then 128 else 129
    let r := isqrt (n * 2 ^ k)
    let s := 2 * r + (if r * r = n * 2 ^ k then 0 else 1)
    norm s ((a.e - k) / 2 - 1)

/-- Fixed-point Taylor series of `exp` at `x / 2 ^ p`, `|x| < 2 ^ p`. -/
def expTaylor (p : Nat) (x : Int) : (n k : Nat) → (term sum : Int) → Int
  | 0, _, _, sum => sum
  | n + 1, k, term, sum =>
    let t := term * x / (2 ^ p : Int) / k
    expTaylor p x n (k + 1) t (sum + t)

/-- Repeated squaring of a fixed-point number. -/
def squareN (p : Nat) : (n : Nat) → Int → Int
  | 0, x => x
  | n + 1, x => squareN p n (x * x / (2 ^ p : Int))

/-- `exp` of a non-positive number, rounded from 1300 fraction bits (R128). -/
def expNeg (a : F64) : F64 :=
  let p : Nat := 1300
  if a.m ≥ 0 then one
  else if lt a (ofInt (-800)) then zero
  else
    let x : Int := if a.e + p ≥ 0 then a.m * 2 ^ (a.e + p).toNat else a.m / (2 ^ (-(a.e + p)).toNat : Int)
    let y := x / (2 ^ 20 : Int)
    norm (squareN p 20 (expTaylor p y 100 1 (2 ^ p) (2 ^ p))) (-p)

/-- Fixed-point Taylor series of the sine and the cosine at `x / 2 ^ p`; `term` is the last power over its factorial. -/
def trigTaylor (p : Nat) (x : Int) : (n k : Nat) → (term sn cs : Int) → Int × Int
  | 0, _, _, sn, cs => (sn, cs)
  | n + 1, k, term, sn, cs =>
    let t := term * x / (2 ^ p : Int) / k
    match k % 4 with
    | 0 => trigTaylor p x n (k + 1) t sn (cs + t)
    | 1 => trigTaylor p x n (k + 1) t (sn + t) cs
    | 2 => trigTaylor p x n (k + 1) t sn (cs - t)
    | _ => trigTaylor p x n (k + 1) t (sn - t) cs

/-- Sine and cosine of the angle doubled `n` times, in fixed point. -/
def doubleAngle (p : Nat) : (n : Nat) → Int × Int → Int × Int
  | 0, x => x
  | n + 1, x => doubleAngle p n (2 * x.1 * x.2 / (2 ^ p : Int), (x.1 * x.1 * (-1) + x.2 * x.2) / (2 ^ p : Int))

/-- Sine and cosine of an angle in radians with 1300 fraction bits. -/
def sinCos (a : F64) : Int × Int :=
  let p : Nat := 1300
  let x : Int := if a.e + p ≥ 0 then a.m * 2 ^ (a.e + p).toNat else a.m / (2 ^ (-(a.e + p)).toNat : Int)
  doubleAngle p 6 (trigTaylor p (x / 2 ^ 6) 220 1 (2 ^ p) 0 (2 ^ p))

/-- The sine of an angle in radians below 512 (R247, R251), rounded from 1300 fraction bits (DEDUCED, log entry 6). -/
def sin (a : F64) : F64 := norm (sinCos a).1 (-1300)
/-- The cosine of an angle in radians below 512 (R247, R251), rounded from 1300 fraction bits (DEDUCED, log entry 6). -/
def cos (a : F64) : F64 := norm (sinCos a).2 (-1300)

/-- Sum of a list, left to right. -/
def sum (l : List F64) : F64 := l.foldl add zero

end F64
end Sys2Proof.Machine
end

