-- ==== Sys2Proof/Config.lean ====
section
/-!
DEFINITION. What one unit is built with, and the free values: constants without a body, so that nothing
can be proved of their values (log entries 2 to 9).
-/
namespace Sys2Proof.Config
open Sys2Proof.Machine

/-- Free values for what the spec leaves open, drawn one after the other by the counter `now.free`
(log entry 2). -/
opaque freeValue : Nat → BitVec 64

/-- Factory copies of the calibration records (R460), by KEY and field offset (log entry 3). -/
opaque factory : Nat → Nat → Int

/-- Whether the Ed25519 key KEY_INDEX verifies the signature of an image header (R453, R455): its 256
bytes (log entry 4). An empty key fails. -/
opaque ed25519Valid : Nat → List Byte → Bool

/-- HW_REV and SERIAL (R510), written in the factory area. -/
opaque stepping : BitVec 8
opaque build : BitVec 8
opaque serial : BitVec 64

/-- Bytes of the canonical serialisation of an output vector, whose items are given as numbers: R45 does not lay it
out (log entry 5). -/
opaque serialise : List (List Nat) → List Byte

/-- The rounding of demosaicing to 32 bits, of sixteen times the exact value: R335 does not state it
(log entry 43). -/
opaque demosaicRound : Int → BitVec 32

/-- Angle in radians that the feature line takes on the ground, from the optics record, the region's rows
and COL_TOP and COL_BOTTOM: R311 and R347 name the projection and do not write it (log entry 44). -/
opaque lineAngle : List Byte → Nat → Nat → Int → Int → F64

/-- Serving hours until a quantity reaches a limit, extrapolated linearly from (Serving hour, value) points
that do not lie on one line: R493 does not state the fit (log entry 53). -/
opaque lifeFit : List (Nat × Int) → Int → BitVec 32

/-- Ageing rate of the OCXO in ppt a day, fitted over (day, sum of RATE_PPT, seconds): R484 does not state
the fit (log entry 54). -/
opaque ageingFit : List (Nat × Int × Nat) → BitVec 32

end Sys2Proof.Config
end

