-- ==== Sys2Proof/Machine/Bits.lean ====
section
/-!
DEFINITION. Little-endian fields of record bodies (R4, R80), the two CRCs that the spec names
(CRC-32 of R437, CRC-32C of R45 and R81), and small list helpers.
-/
namespace Sys2Proof.Machine

/-- The `n` little-endian bytes of `v` (R4). -/
def leBytes : (n v : Nat) → List Byte
  | 0, _ => []
  | n + 1, v => BitVec.ofNat 8 v :: leBytes n (v / 256)

/-- The number that a little-endian byte list holds (R4). -/
def leNat : List Byte → Nat
  | [] => 0
  | b :: r => b.toNat + 256 * leNat r

/-- `n` bytes of a list from index `i`. -/
def slice (b : List Byte) (i n : Nat) : List Byte := (b.drop i).take n

/-- Bytes at record offset `off` of a record whose body begins at offset 0x20 (R98). -/
def fieldBytes (body : List Byte) (off n : Nat) : List Byte := slice body (off - 0x20) n

/-- Unsigned field at record offset `off` (R4). -/
def fld (body : List Byte) (off n : Nat) : Nat := leNat (fieldBytes body off n)

/-- Signed field at record offset `off` (R4). -/
def fldS (body : List Byte) (off n : Nat) : Int := toSigned (8 * n) (fld body off n)

/-- Overwrite bytes of `b` from index `i`, keeping the length. -/
def putAt (b : List Byte) (i : Nat) (v : List Byte) : List Byte :=
  (b.take i ++ v ++ b.drop (i + v.length)).take b.length

/-- A body of `len` zero bytes with the fields (record offset, size, value) written in. -/
def mkBody (len : Nat) (fs : List (Nat × Nat × Nat)) : List Byte :=
  fs.foldl (fun b f => putAt b (f.1 - 0x20) (leBytes f.2.1 f.2.2)) (List.replicate len 0)

/-- Overwrite raw bytes at a record offset of a body. -/
def putBytes (b : List Byte) (off : Nat) (v : List Byte) : List Byte := putAt b (off - 0x20) v

/-- A field that a record writes as a signed number of `n` bytes. -/
def sgn (n : Nat) (i : Int) : Nat := ofSigned (8 * n) i

/-- Sum of flag bits (bit number, level). -/
def flags (bs : List (Nat × Bool)) : Nat := bs.foldl (fun a b => a + bit b.1 b.2) 0

/-- Element `i` of a table, with a value for an index outside it. -/
def nth {α : Type} (d : α) (l : List α) (i : Nat) : α := l.getD i d

/-- Change element `i` of a table. -/
def upd {α : Type} (l : List α) (i : Nat) (f : α → α) : List α := l.modify i f

/-- Insert into a list sorted by `le`, after equal elements. -/
def insertSorted {α : Type} (le : α → α → Bool) (a : α) : List α → List α
  | [] => [a]
  | b :: r => if le b a then b :: insertSorted le a r else a :: b :: r

/-- Stable insertion sort. -/
def sortBy {α : Type} (le : α → α → Bool) (l : List α) : List α :=
  l.foldl (fun acc a => insertSorted le a acc) []

/-- First element that satisfies `p`, mapped by `f`; the rest unchanged. -/
def updFirst {α : Type} (p : α → Bool) (f : α → α) : List α → List α
  | [] => []
  | a :: r => if p a then f a :: r else a :: updFirst p f r

/-- One step of a reflected CRC over one bit. -/
def crcBit (poly c : Nat) : Nat := if c % 2 = 1 then (c / 2) ^^^ poly else c / 2

/-- One byte of a reflected CRC. -/
def crcByte (poly c : Nat) (b : Byte) : Nat :=
  let c := c ^^^ b.toNat
  crcBit poly (crcBit poly (crcBit poly (crcBit poly
    (crcBit poly (crcBit poly (crcBit poly (crcBit poly c)))))))

/-- A reflected 32-bit CRC with initial value and final XOR 0xFFFF_FFFF. -/
def crcWith (poly : Nat) (bs : List Byte) : Nat :=
  (bs.foldl (crcByte poly) 0xFFFFFFFF) ^^^ 0xFFFFFFFF

/-- CRC-32 of IEEE 802.3 (R437): the polynomial 0x04C1_1DB7, reflected. -/
def crc32 (bs : List Byte) : Nat := crcWith 0xEDB88320 bs

/-- CRC-32C (R45, R81): the Castagnoli polynomial 0x1EDC_6F41, reflected. -/
def crc32c (bs : List Byte) : Nat := crcWith 0x82F63B78 bs

/-- Number of 64-byte entries of a record with a body of `len` bytes (R80). -/
def entriesOf (len : Nat) : Nat := (32 + len + 63) / 64

end Sys2Proof.Machine
end

