-- ==== Sys2Proof/Machine/Schema.lean ====
section
/-!
DEFINITION. Field tables of settings records and of command bodies: size, range, the values allowed
beside the range, the bits that are not reserved, and the default. One checker reads them for every
kind (R8, R106, R142): reserved content, then ranges and relations, lowest offending offset first.
-/
namespace Sys2Proof.Machine

/-- One field of a record body. -/
structure Fld where
  off : Nat
  size : Nat
  signed : Bool
  lo : Int
  hi : Int
  /-- Values allowed beside `lo`–`hi`. -/
  alts : List Int
  /-- Bits of the field that are not reserved. -/
  mask : Nat
  dflt : Int

/-- An unsigned field. -/
def fu (off size : Nat) (lo hi dflt : Int) (alts : List Int := []) : Fld :=
  ⟨off, size, false, lo, hi, alts, 2 ^ (8 * size) - 1, dflt⟩

/-- A signed field. -/
def fs (off size : Nat) (lo hi dflt : Int) (alts : List Int := []) : Fld :=
  ⟨off, size, true, lo, hi, alts, 2 ^ (8 * size) - 1, dflt⟩

/-- A field of flag bits: `mask` marks the bits that are not reserved. -/
def fb (off size mask : Nat) (dflt : Int) : Fld :=
  ⟨off, size, false, 0, 2 ^ (8 * size) - 1, [], mask, dflt⟩

/-- A signed 32-bit fixed-point word with its whole range (Q7.24, Q1.30). -/
def fq (off : Nat) (dflt : Int) : Fld := fs off 4 (-(2 ^ 31)) (2 ^ 31 - 1) dflt

/-- A signal number, or 0xFFFF for none (R142, R170). -/
def fsig (off : Nat) (dflt : Int := 0xFFFF) : Fld := fu off 2 0 4095 dflt [0xFFFF]

/-- `n` equal fields in a row. -/
def frep (n off size : Nat) (f : Nat → Nat → Fld) : List Fld :=
  (List.range n).map (fun i => f i (off + size * i))

/-- The layout of one record. -/
structure RecSchema where
  /-- Lengths allowed. -/
  lens : List Nat
  flds : List Fld
  /-- Offsets of the fields that break a stated relation, the later field of each conflict (R142). -/
  rel : List Byte → List Nat

/-- Value of a field in a body. -/
def Fld.val (f : Fld) (b : List Byte) : Int :=
  if f.signed then fldS b f.off f.size else (fld b f.off f.size : Nat)

/-- The field lies within the body. -/
def Fld.inside (f : Fld) (b : List Byte) : Bool := decide (f.off - 0x20 + f.size ≤ b.length)

/-- The field's value is in its range. -/
def Fld.ok (f : Fld) (b : List Byte) : Bool :=
  let v := f.val b
  (decide (f.lo ≤ v) && decide (v ≤ f.hi)) || f.alts.contains v

/-- Every byte of the body that no field covers, and every reserved bit of a field, is 0 (R8). -/
def reservedOk (flds : List Fld) (b : List Byte) : Bool :=
  let clear := flds.foldl (fun (acc : List Byte) f =>
    putAt acc (f.off - 0x20)
      (leBytes f.size (fld b f.off f.size &&& (2 ^ (8 * f.size) - 1 - f.mask)))) b
  clear.all (fun x => x == 0)

/-- Lowest offset of a list of offsets. -/
def lowest : List Nat → Option Nat
  | [] => none
  | a :: r => some (r.foldl min a)

/-- The offset that DETAIL16 names when a field is out of range or a relation is broken (R142). -/
def RecSchema.bad (sc : RecSchema) (b : List Byte) : Option Nat :=
  let out := (sc.flds.filter (fun f => f.inside b && !f.ok b)).map (·.off)
  lowest (out ++ sc.rel b)

/-- The body of defaults (R113). -/
def RecSchema.dflt (sc : RecSchema) : List Byte :=
  sc.flds.foldl (fun b f => putAt b (f.off - 0x20) (leBytes f.size (ofSigned (8 * f.size) f.dflt)))
    (List.replicate (sc.lens.foldl max 0) 0)

/-- An offset that a condition makes offending. -/
def badIf (c : Bool) (off : Nat) : List Nat := if c then [off] else []

/-- How a settings kind is keyed: offset and size of its key field; size 0 for a kind without one,
and the keys it has (R113). -/
structure KindInfo where
  keyOff : Nat
  keySize : Nat
  keys : List Nat

end Sys2Proof.Machine
end

