-- ==== Sys2Proof/Machine/Schemas1.lean ====
section
/-!
DEFINITION. Field tables of the settings records of Field Time (R39), lanes (R64), passage (R142,
R143), crop (R161–R164), loops (R190, R215), groups (R204), events (R434, R447), power (R479) and
calibration (R461).
-/
namespace Sys2Proof.Machine

/-- KD_TIME_SETTINGS (R39). -/
def scTime : RecSchema :=
  { lens := [32]
    flds := [fu 0x20 4 0 8000 0xFFFFFFFF [0xFFFFFFFF], fu 0x24 4 1000 1000000 100000,
      fu 0x28 1 0 1 0, fu 0x29 1 0 2 0, fu 0x2A 1 0 1 0, fs 0x2C 4 (-40000) 40000 0,
      fu 0x30 4 10 1000000 1000]
    rel := fun _ => [] }

/-- KD_LANE_SETTINGS (R64). -/
def scLane : RecSchema :=
  { lens := [32], flds := [fu 0x20 1 0 1 0, fu 0x21 1 0 1 1], rel := fun _ => [] }

/-- The chain record of KD_PASSAGE_SETTINGS (R142). -/
def scChain : RecSchema :=
  { lens := [96]
    flds := [fu 0x20 1 0 0 0, fu 0x21 1 2 8 7, fu 0x22 1 1 16 1, fu 0x23 1 0 250 1,
      fsig 0x24, fsig 0x26, fsig 0x28, fu 0x2A 2 0 5000 600, fu 0x2C 2 1 5000 900,
      fu 0x2E 2 10 500 50, fu 0x30 4 1 10000000 1000, fs 0x34 2 (-20000) 20000 0,
      fs 0x36 2 (-5000) 5000 0, fu 0x38 2 100 10000 1000]
      ++ frep 16 0x40 2 (fun i o => fu o 2 0 16000 (if i = 0 then 12000 else 0))
    rel := fun b =>
      badIf (decide (fld b 0x2C 2 ≤ fld b 0x2A 2)) 0x2C
      ++ (List.range 16).flatMap (fun i =>
          badIf (decide (fld b 0x22 1 ≤ i) && decide (fld b (0x40 + 2 * i) 2 ≠ 0)) (0x40 + 2 * i)) }

/-- Defaults of hop n (R143): V_NOM, V_MIN, B_MM, A_US, A_MIN, A_MAX, TAU_US, TAU_MIN, TAU_MAX. -/
def hopDefaults : Nat → List Nat
  | 1 => [3000, 300, 3000, 300000, 0, 1000000, 200000, 50000, 1000000]
  | 2 => [3000, 300, 2400, 100000, 0, 500000, 150000, 50000, 800000]
  | 3 => [2000, 200, 6000, 500000, 0, 2000000, 1200000, 300000, 4000000]
  | 4 => [500, 50, 2000, 1000000, 0, 4000000, 2000000, 500000, 6000000]
  | 5 => [3000, 300, 6000, 200000, 0, 1000000, 300000, 50000, 1500000]
  | 6 => [1500, 150, 3000, 500000, 0, 2000000, 1000000, 200000, 3000000]
  | _ => [1000, 100, 0, 0, 0, 20000000, 0, 0, 10000000]

/-- A hop record of KD_PASSAGE_SETTINGS (R142, R143). -/
def scHop (n : Nat) : RecSchema :=
  let d := fun i => ((hopDefaults n).getD i 0 : Nat)
  { lens := [96]
    flds := [fu 0x20 1 1 7 n, fu 0x21 1 0 2 1, fsig 0x22, fu 0x24 4 1 10000000 1000000,
      fu 0x28 2 10 20000 (d 0), fu 0x2A 2 1 20000 (d 1), fu 0x2C 2 100 5000 1000,
      fu 0x2E 2 0 50000 (d 2), fu 0x30 4 0 (2 ^ 32 - 1) (d 3), fu 0x34 4 0 20000000 (d 4),
      fu 0x38 4 0 20000000 (d 5), fu 0x3C 4 0 (2 ^ 32 - 1) (d 6), fu 0x40 4 0 10000000 (d 7),
      fu 0x44 4 0 10000000 (d 8), fsig 0x48, fsig 0x4A, fu 0x4C 2 6554 65535 16384,
      fu 0x4E 2 10 300 30, fu 0x50 4 0 100000 20000, fu 0x54 4 0 100000 20000,
      fu 0x58 2 0 65535 655]
    rel := fun b =>
      badIf (decide (fld b 0x28 2 < fld b 0x2A 2)) 0x2A
      ++ badIf (decide (fld b 0x30 4 < fld b 0x34 4)) 0x34
      ++ badIf (decide (fld b 0x38 4 < fld b 0x30 4)) 0x38
      ++ badIf (decide (fld b 0x38 4 < fld b 0x34 4)) 0x38
      ++ badIf (decide (fld b 0x3C 4 < fld b 0x40 4)) 0x40
      ++ badIf (decide (fld b 0x44 4 < fld b 0x3C 4)) 0x44
      ++ badIf (decide (fld b 0x44 4 < fld b 0x40 4)) 0x44 }

/-- The crop record of KD_CROP_SETTINGS (R162). -/
def scCrop (key : Nat) : RecSchema :=
  { lens := [64]
    flds := [fu 0x20 1 0 63 key, fu 0x22 2 0 5000 1400, fu 0x24 4 100000 10000000 1000000,
      fu 0x28 4 100000 10000000 1000000, fs 0x2C 2 (-2000) 2000 0, fu 0x2E 2 0 20000 1500,
      fu 0x30 4 1 100000000 1000000]
    rel := fun _ => [] }

/-- The channel record of KD_CROP_SETTINGS (R163): ranges that depend on TYPE are relations. FACTOR
defaults to 0 with TYPE 0 (log entry 21). -/
def scChannel (key : Nat) : RecSchema :=
  { lens := [64]
    flds := [fu 0x20 1 64 79 key, fu 0x21 1 0 4 0, fu 0x22 1 1 7 5, fu 0x24 2 0 4095 0,
      fu 0x26 1 0 255 0, fu 0x28 4 0 4000000000 0, fu 0x2C 2 10 5000 500]
    rel := fun b =>
      let ty := fld b 0x21 1
      badIf (decide (ty = 4) && decide (5 < fld b 0x24 2)) 0x24
      ++ badIf ((decide (ty = 4) && decide (fld b 0x26 1 = 0))
          || (!decide (ty = 4) && decide (fld b 0x26 1 ≠ 0))) 0x26
      ++ badIf ((decide (1 ≤ ty) && decide (ty ≤ 3) && decide (fld b 0x28 4 = 0))
          || (decide (ty = 4) && decide (fld b 0x28 4 ≠ 0))) 0x28 }

/-- The preview record of KD_CROP_SETTINGS (R164). -/
def scPreview : RecSchema :=
  { lens := [64]
    flds := [fu 0x20 1 80 80 80, fu 0x21 1 0 255 0b00001100, fsig 0x22, fu 0x24 4 0 50000 8000,
      fu 0x28 2 1 500 500, fu 0x2A 2 10 10000 0 [0], fu 0x2C 4 1000 1000000 100000]
      ++ frep 8 0x30 2 (fun i o => fu o 2 0 4990 (if i = 0 then 1800 else 0xFFFF) [0xFFFF])
    rel := fun b =>
      let d := fld b 0x2A 2
      badIf ((fld b 0x21 1).testBit 0) 0x21
      ++ badIf (decide (d ≠ 0)
        && !(decide (d % 10 = 0) && (decide (1000 % d = 0) || decide (d % 1000 = 0)))) 0x2A
      ++ (List.range 8).flatMap (fun i =>
          let l := fld b (0x30 + 2 * i) 2
          badIf (decide (l ≠ 0xFFFF)
            && (decide (l % 10 ≠ 0) || decide (fld b 0x28 2 * 10 - 10 < l))) (0x30 + 2 * i)) }

/-- KD_CROP_SETTINGS by key (R161). -/
def scCropAll (key : Nat) : Option RecSchema :=
  if key < 64 then some (scCrop key)
  else if key < 80 then some (scChannel key)
  else if key = 80 then some scPreview else none

/-- Owner codes of R102 that a set-point can name (R190): not 0x0000. -/
def ownerCodeOk (c : Nat) : Bool :=
  decide (c = 1) || (decide (0x1000 ≤ c) && decide (c ≤ 0x107F))
  || (decide (0x2400 ≤ c) && decide (c ≤ 0x25FF)) || (decide (0x3000 ≤ c) && decide (c ≤ 0x3BFF))

/-- The law record of KD_LOOP_SETTINGS (R190). -/
def scLaw (key : Nat) : RecSchema :=
  { lens := [128]
    flds := [fu 0x20 2 0 127 key, fu 0x22 2 1 10000 10, fu 0x24 2 0 9999 0, fu 0x26 1 0 1 1,
      fu 0x27 1 0 5 0, fu 0x28 2 0 65535 0, fsig 0x2A, fu 0x2C 2 0 4095 0xFFFF [0xFFFE, 0xFFFF],
      fu 0x2E 2 0 4095 0xFFFF [0xFFFE, 0xFFFF], fq 0x30 0x01000000, fq 0x34 0, fq 0x38 0,
      fs 0x3C 4 0 0x40000000 0x40000000, fs 0x40 4 0 0x40000000 0, fs 0x44 4 1 0x40000000 0x40000000,
      fq 0x48 0x01000000, fq 0x4C 0, fs 0x50 4 (-0x00FFFFFF) 0x00FFFFFF 0, fq 0x54 0, fq 0x58 0,
      fq 0x5C 0, fq 0x60 0x40000000, fs 0x64 4 1 0x7FFFFFFF 0x7FFFFFFF, fu 0x68 2 1 65535 1,
      fu 0x6A 2 0 10000 100, fq 0x6C 0, fq 0x70 (-(2 ^ 31)), fq 0x74 0x7FFFFFFF,
      fu 0x78 4 0 2147483647 0, fu 0x7C 4 100 10000000 0 [0], fu 0x80 4 100 10000000 20000,
      fu 0x84 1 0 1 0]
    rel := fun b =>
      let dt := fld b 0x27 1
      let di := fld b 0x28 2
      let sc := fld b 0x78 4
      badIf (decide (fld b 0x22 2 ≤ fld b 0x24 2)) 0x24
      ++ badIf (match dt with
          | 0 => decide (di ≠ 0)
          | 1 => decide (23 < di) | 2 => decide (23 < di) | 3 => decide (23 < di)
          | 4 => decide (191 < di)
          | 5 => decide (127 < di) || decide (di = fld b 0x20 2)
          | _ => false) 0x28
      ++ badIf (decide (fldS b 0x60 4 < fldS b 0x5C 4)) 0x60
      ++ badIf (!ownerCodeOk (fld b 0x68 2)) 0x68
      ++ badIf (decide (fldS b 0x6C 4 < fldS b 0x70 4)) 0x70
      ++ badIf (decide (fldS b 0x74 4 < fldS b 0x6C 4)) 0x74
      ++ badIf (decide (fldS b 0x74 4 < fldS b 0x70 4)) 0x74
      ++ badIf (match dt with
          | 1 => decide (sc < 1) || decide (16000 < sc)
          | 2 => decide (sc < 1) || decide (16000 < sc)
          | 4 => decide (sc < 1)
          | _ => decide (sc ≠ 0)) 0x78 }

/-- The supervision record of KD_LOOP_SETTINGS (R215). -/
def scSup (key : Nat) : RecSchema :=
  { lens := [128]
    flds := [fu 0x20 2 128 255 key, fu 0x22 1 0 3 0, fu 0x23 1 0 3 0, fu 0x24 2 0 65535 0,
      fu 0x26 2 0 1023 0, fq 0x28 0x01000000, fq 0x2C 0, fs 0x30 4 1 0x40000000 0x40000000,
      fs 0x34 4 1 0x7FFFFFFF 0x06666666, fs 0x38 4 0 0x40000000 0, fs 0x3C 4 0 0x7FFFFFFF 0x0147AE14,
      fu 0x40 2 2 4096 100, fu 0x42 2 2 4096 6 [0], fu 0x44 2 1 65535 50,
      fs 0x48 4 0 0x7FFFFFFF 0x03333333, fq 0x4C 0, fu 0x50 4 0 10000000 0, fu 0x54 1 0 1 0,
      fq 0x58 0]
    rel := fun b => badIf (decide (fld b 0x40 2 < fld b 0x42 2)) 0x42 }

/-- KD_LOOP_SETTINGS by key (R190, R215). -/
def scLoop (key : Nat) : Option RecSchema :=
  if key < 128 then some (scLaw key) else if key < 256 then some (scSup key) else none

/-- KD_GROUP_SETTINGS (R204). -/
def scGroup (key : Nat) : RecSchema :=
  { lens := [32]
    flds := [fu 0x20 1 0 15 key, fu 0x22 2 0 10000 100, fu 0x28 16 0 (2 ^ 128 - 1) 0]
    rel := fun _ => [] }

/-- Default severities of EV000–EV127 (R447), one digit each. -/
def eventSeverity : List Nat :=
  [2, 2, 1, 3, 0, 0, 3, 2, 1, 3, 2, 2, 3, 1, 3, 3,
   3, 1, 3, 3, 1, 2, 2, 2, 1, 2, 0, 0, 1, 2, 1, 2,
   2, 1, 1, 2, 3, 3, 3, 2, 2, 3, 1, 1, 0, 1, 1, 2,
   1, 1, 2, 2, 1, 2, 1, 0, 0, 1, 1, 2, 0, 1, 0, 0,
   0, 1, 1, 1, 0, 1, 1, 1, 1, 1, 0, 2, 0, 2, 2, 2,
   0, 1, 1, 2, 2, 3, 3, 2, 3, 2, 3, 1, 1, 1, 1, 2,
   2, 2, 1, 2, 1, 1, 2, 1, 1, 2, 1, 1, 1, 0, 1, 1,
   0, 1, 0, 1, 2, 2, 2, 2, 1, 1, 2, 2, 0, 2, 2, 2]

/-- KD_EVENT_SETTINGS (R434). -/
def scEvent (key : Nat) : RecSchema :=
  { lens := [32]
    flds := [fu 0x20 1 0 127 key, fb 0x21 1 3 3, fu 0x22 1 0 3 (eventSeverity.getD key 0),
      fu 0x23 1 0 63 0xFF [0xFF], fu 0x24 2 0 60000 1000]
    rel := fun _ => [] }

/-- KD_POWER_SETTINGS (R479). -/
def scPower : RecSchema :=
  { lens := [64]
    flds := [fu 0x20 2 0 1440 30, fu 0x22 2 0 60000 2000, fb 0x24 1 3 1, fu 0x26 2 10 3600 300,
      fu 0x28 4 60 2592000 3600, fu 0x2C 2 100 10000 1000 [0], fu 0x2E 2 18000 26000 23000,
      fu 0x30 16 0 (2 ^ 128 - 1) 0]
    rel := fun _ => [] }

/-- KD_CAL_USER (R461): the default of each record is the unit's own factory copy, which
`factory key offset` gives (R460). -/
def scCal (factory : Nat → Nat → Int) (key : Nat) : Option RecSchema :=
  let k : Fld := fu 0x20 2 0 59 key
  if key < 32 then
    some { lens := [32], flds := [k, fu 0x24 4 0x3C000000 0x44000000 (factory key 0x24),
      fs 0x28 4 (-2048) 2048 (factory key 0x28)], rel := fun _ => [] }
  else if key < 56 then
    some { lens := [32], flds := [k, fu 0x24 4 0x3C000000 0x44000000 (factory key 0x24),
      fs 0x28 4 (-200) 200 (factory key 0x28)], rel := fun _ => [] }
  else if key < 58 then
    some { lens := [32], flds := [k, fu 0x24 4 0 400000 (factory key 0x24)], rel := fun _ => [] }
  else if key < 60 then
    let m : Int := if key = 58 then 200000 else 2000000
    some { lens := [32], flds := [k]
        ++ frep 3 0x24 4 (fun _ o => fs o 4 (-m) m (factory key o))
        ++ frep 3 0x30 2 (fun _ o => fs o 2 (-32768) 32767 (factory key o)), rel := fun _ => [] }
  else none

end Sys2Proof.Machine
end

