-- ==== Sys2Proof/Machine/Schemas2.lean ====
section
/-!
DEFINITION. Field tables of the settings records of valves (R240) , field I/O (R377) and CAN (R394–R396).
-/
namespace Sys2Proof.Machine

/-- The channel record of KD_VALVE_SETTINGS (R240), with the widest ranges; those that depend on the
pairing in force are checked where the record is posted. -/
def scValveCh (key : Nat) : RecSchema :=
  { lens := [96]
    flds := [fu 0x20 1 0 23 key, fu 0x21 1 0 1 0, fu 0x22 1 0 1 0, fb 0x23 1 0x1F 0x1F,
      fu 0x24 2 500 16000 2000, fu 0x26 2 10000 40000 20000]
      ++ frep 4 0x28 2 (fun _ o => fu o 2 100 20000 3000)
      ++ frep 4 0x30 2 (fun _ o => fu o 2 0 50000 1000)
      ++ [fu 0x38 2 20 2000 150, fu 0x3A 2 20 1000 100, fu 0x3C 2 20 2000 200, fu 0x3E 2 50 2000 200,
        fu 0x40 2 1500 24000 10000, fu 0x42 2 1 1000 0 [0], fu 0x44 2 100 10000 2000,
        fu 0x46 2 1000 60000 20000]
    rel := fun b => badIf (decide (fld b 0x40 2 < fld b 0x24 2 + 1000)) 0x40 }

/-- The offset in a channel record that conflicts with the pairing in force (R240). -/
def valvePairConflict (pairMask : Nat) (b : List Byte) : Option Nat :=
  let paired := pairMask.testBit (fld b 0x20 1 / 2)
  lowest (badIf ((!paired && decide (8000 < fld b 0x24 2)) || (paired && decide (fld b 0x24 2 < 1000))) 0x24
    ++ badIf (!paired && decide (12000 < fld b 0x40 2)) 0x40)

/-- The bank record of KD_VALVE_SETTINGS (R240). -/
def scValveBank : RecSchema :=
  { lens := [96]
    flds := [fu 0x20 1 24 24 24, fb 0x22 2 0x0FFF 0]
      ++ frep 6 0x24 2 (fun _ o => fu o 2 1000 12000 12000)
      ++ [fs 0x30 1 (-40) 85 (-10), fs 0x31 1 (-40) 85 20, fs 0x32 1 (-40) 85 55,
        fu 0x34 2 10 1000 100, fu 0x36 2 10 10000 100 [0]]
    rel := fun b =>
      badIf (decide (fldS b 0x31 1 < fldS b 0x30 1 + 5)) 0x31
      ++ badIf (decide (fldS b 0x32 1 < fldS b 0x31 1 + 5)) 0x32 }

/-- KD_VALVE_SETTINGS by key (R240). -/
def scValve (key : Nat) : Option RecSchema :=
  if key < 24 then some (scValveCh key) else if key = 24 then some scValveBank else none

/-- A period in ms divides 1 000 or is a multiple of 1 000 (R377, R160). -/
def gridMs (m : Nat) : Bool := decide (m ≠ 0) && (decide (1000 % m = 0) || decide (m % 1000 = 0))

/-- The DI record (R377); counter fields of DI16–DI47 are 0. -/
def scDi (key : Nat) : RecSchema :=
  let c := decide (key < 16)
  let d := fun (n : Int) => if c then n else 0
  { lens := [32]
    flds := [fu 0x20 1 0 47 key, fb 0x21 1 (if c then 7 else 3) 0, fu 0x22 2 1 65535 1000,
      fu 0x24 1 0 (d 2) 0, fu 0x26 2 (d 1) (d 10000) (d 100),
      fu 0x28 4 (d 100) (d 1000000) 0 [0], fu 0x2C 4 (d 10) (d 100000) (d 2000),
      fu 0x30 4 (d 1000) (d 200000000) (d 1000000), fu 0x34 4 (d 10) (d 100000000) (d 1000000)]
    rel := fun b => badIf (c && !gridMs (fld b 0x26 2)) 0x26 }

/-- The AI record (R377). -/
def scAi (key : Nat) : RecSchema :=
  { lens := [32]
    flds := [fu 0x20 1 64 79 key, fu 0x21 1 0 2 1, fu 0x22 2 1 30000 0 [0], fs 0x24 2 (-30000) 30000 0,
      fu 0x26 1 0 8 0, fu 0x28 2 0 4000 3600, fu 0x2A 2 20000 25000 21000]
    rel := fun _ => [] }

/-- The DQ record (R377). -/
def scDq (key : Nat) : RecSchema :=
  { lens := [32]
    flds := [fu 0x20 1 96 119 key, fu 0x21 1 0 1 0, fu 0x22 2 10 2000 200, fb 0x24 1 3 3,
      fu 0x26 2 1 100 10]
    rel := fun _ => [] }

/-- The general record (R377). -/
def scFieldGen : RecSchema :=
  { lens := [32]
    flds := [fu 0x20 1 128 128 128, fb 0x21 1 3 3, fu 0x22 2 10 10000 100 [0], fu 0x24 2 100 10000 1000 [0],
      fu 0x26 2 9000 30000 16000]
    rel := fun b => badIf (decide (fld b 0x22 2 ≠ 0) && !gridMs (fld b 0x22 2)) 0x22 }

/-- KD_FIELD_SETTINGS by key (R377). -/
def scField (key : Nat) : Option RecSchema :=
  if key < 48 then some (scDi key)
  else if 64 ≤ key ∧ key < 80 then some (scAi key)
  else if 96 ≤ key ∧ key < 120 then some (scDq key)
  else if key = 128 then some scFieldGen else none

/-- KD_CAN_SETTINGS (R394): the flags that a controller has; TDC_EN needs DBRP 1 or 2 (R380). -/
def scCan (key : Nat) : RecSchema :=
  let mask := 0x11 + (if key < 4 then 2 else 8) + (if key < 2 then 4 else 0)
  { lens := [32]
    flds := [fu 0x20 1 0 5 key, fu 0x21 1 0 1 0, fu 0x22 1 0 2 0, fb 0x23 1 mask 1, fu 0x24 2 1 32 1,
      fu 0x26 2 2 256 127, fu 0x28 1 1 128 32, fu 0x29 1 1 128 32, fu 0x2A 1 1 32 1, fu 0x2B 1 1 32 31,
      fu 0x2C 1 1 16 8, fu 0x2D 1 1 16 8, fu 0x2E 1 0 127 32, fu 0x2F 1 0 32 24, fu 0x30 2 0 10000 0,
      fu 0x32 2 100 10000 1000 [0]]
    rel := fun b => badIf ((fld b 0x23 1).testBit 4 && decide (2 < fld b 0x2A 1)) 0x2A }

/-- The timing and ISOBUS conditions of a controller record that a commit checks (R379, R381). -/
def canTimingBad (b : List Byte) : Bool :=
  let nq := fld b 0x24 2 * (1 + fld b 0x26 2 + fld b 0x28 1)
  let dq := fld b 0x2A 1 * (1 + fld b 0x2B 1 + fld b 0x2C 1)
  let tq := 1 + fld b 0x26 2 + fld b 0x28 1
  let sp := 1000 * (1 + fld b 0x26 2)
  decide (nq < 80) || decide (dq < 10) || decide (nq < dq)
    || decide (fld b 0x28 1 < fld b 0x29 1) || decide (fld b 0x2C 1 < fld b 0x2D 1)
    || ((fld b 0x23 1).testBit 3
        && (decide (nq ≠ 320) || decide (sp < 800 * tq) || decide (875 * tq < sp) || (fld b 0x23 1).testBit 0))

/-- The four signal entries of a receive object (R395). -/
def canSigFlds : List Fld :=
  (List.range 4).flatMap (fun n =>
    let o := 0x28 + 16 * n
    [fu o 2 256 1791 0xFFFF [0xFFFF], fu (o + 2) 2 0 511 0, fu (o + 4) 1 1 32 1, fb (o + 5) 1 7 0,
      fu (o + 6) 1 0 127 0xFF [0xFF], fs (o + 8) 4 (-(2 ^ 31)) (2 ^ 31 - 1) 0,
      fs (o + 12) 4 (-(2 ^ 31)) (2 ^ 31 - 1) 0])

/-- Identifier range (R395). -/
def canIdMax (ide : Bool) : Nat := if ide then 0x1FFFFFFF else 0x7FF

/-- The receive-object record (R395, R386). -/
def scCanRx (key : Nat) : RecSchema :=
  { lens := [96]
    flds := [fu 0x20 2 0 3071 key, fb 0x22 1 0x1F 0x18, fu 0x23 1 0 2 0, fu 0x24 4 0 0x1FFFFFFF 0] ++ canSigFlds
    rel := fun b =>
      badIf (decide (fld b 0x23 1 = 2) && (!(fld b 0x22 1).testBit 1 || decide (fld b 0x20 2 < 2048))) 0x23
      ++ badIf (decide (canIdMax ((fld b 0x22 1).testBit 1) < fld b 0x24 4)) 0x24 }

/-- The conditions of a COUNT entry that a commit checks (R386). -/
def canCountBad (b : List Byte) : Bool :=
  (List.range 4).any (fun n =>
    let o := 0x28 + 16 * n
    (fld b (o + 5) 1).testBit 2
      && (decide (fld b (o + 8) 4 ≠ 0) || decide (fld b (o + 12) 4 ≠ 0) || (fld b (o + 5) 1).testBit 1
        || decide (fld b (o + 6) 1 ≠ 0xFF)))

/-- Data bytes of a DLC (ISO 11898-1, R378). -/
def canLen (dlc : Nat) : Nat :=
  [0, 1, 2, 3, 4, 5, 6, 7, 8, 12, 16, 20, 24, 32, 48, 64].getD dlc 0

/-- The byte in which a field ends (R386): START_BIT, BITS, and whether it is big-endian. -/
def canFieldEnd (start bits : Nat) (big : Bool) : Nat :=
  if big then start / 8 + (7 - start % 8 + bits - 1) / 8 else (start + bits - 1) / 8

/-- The set-point object record (R396). -/
def scCanSp (key : Nat) : RecSchema :=
  { lens := [128]
    flds := [fu 0x20 2 4096 4287 key, fb 0x22 1 0x1F 0x10, fu 0x23 1 0 5 0, fu 0x24 4 0 0x1FFFFFFF 0,
      fu 0x28 1 0 15 0, fb 0x29 1 3 0, fu 0x2A 2 0 511 0, fu 0x2C 1 1 32 1, fu 0x2E 2 1 10000 0 [0],
      fu 0x30 4 0 (2 ^ 32 - 1) 0] ++ frep 64 0x40 1 (fun _ o => fu o 1 0 255 0)
    rel := fun b =>
      let fl := fld b 0x22 1
      let len := canLen (fld b 0x28 1)
      badIf (decide (canIdMax (fl.testBit 1) < fld b 0x24 4)) 0x24
      ++ badIf (!fl.testBit 2 && decide (8 < fld b 0x28 1)) 0x28
      ++ badIf (decide (len ≤ canFieldEnd (fld b 0x2A 2) (fld b 0x2C 1) ((fld b 0x29 1).testBit 0))) 0x2C
      ++ badIf (decide (fld b 0x2E 2 ≠ 0) && !gridMs (fld b 0x2E 2)) 0x2E
      ++ (List.range 64).flatMap (fun i => badIf (decide (len ≤ i) && decide (fld b (0x40 + i) 1 ≠ 0)) (0x40 + i)) }

/-- KD_CAN_OBJECT_SETTINGS by key (R395, R396). -/
def scCanObj (key : Nat) : Option RecSchema :=
  if key < 3072 then some (scCanRx key)
  else if 4096 ≤ key ∧ key < 4288 then some (scCanSp key) else none

/-- KD_MODEM_SETTINGS (R413). -/
def scModem : RecSchema :=
  { lens := [32]
    flds := [fu 0x20 1 0 1 0, fu 0x21 1 0 1 0, fb 0x22 1 0x0F 8, fu 0x24 4 115200 12000000 921600,
      fu 0x28 4 0 126976 32768, fu 0x2C 4 4096 131072 98304, fu 0x30 2 100 10000 1000 [0],
      fu 0x32 2 10 60000 1000]
    rel := fun b => badIf (decide (fld b 0x2C 4 < fld b 0x28 4 + 4096)) 0x2C }

/-- KD_DISPLAY_SETTINGS (R428). -/
def scDisplay : RecSchema :=
  { lens := [112]
    flds := [fu 0x20 1 0 1 0, fs 0x21 1 (-20) 20 0, fu 0x22 2 100 60000 2000 [0], fs 0x24 1 (-40) 85 (-10),
      fs 0x25 1 (-40) 85 20, fs 0x26 1 (-40) 85 55, fu 0x28 2 30 200 48, fu 0x2A 2 30 200 64,
      fu 0x2C 2 30 200 80, fu 0x2E 2 30 200 100, fu 0x34 2 100 10000 1000 [0]]
      ++ frep 4 0x30 1 (fun _ o => fu o 1 0 100 20)
      ++ frep 8 0x38 2 (fun _ o => fu o 2 0 479 0xFFFF [0xFFFF])
      ++ frep 60 0x48 1 (fun _ o => fu o 1 0 255 0)
    rel := fun b =>
      badIf (decide (fldS b 0x25 1 < fldS b 0x24 1 + 5)) 0x25
      ++ badIf (decide (fldS b 0x26 1 < fldS b 0x25 1 + 5)) 0x26
      -- a slot is 1 000 000 / (8 · FRAME_HZ) µs
      ++ (List.range 4).flatMap (fun i =>
          badIf (decide (1000000 ≤ fld b (0x30 + i) 1 * 8 * fld b (0x28 + 2 * i) 2)) (0x30 + i))
      ++ (List.range 8).flatMap (fun i => badIf (decide (fld b (0x38 + 2 * i) 2 ≠ 0xFFFF)
          && (List.range i).any (fun j => fld b (0x38 + 2 * j) 2 == fld b (0x38 + 2 * i) 2)) (0x38 + 2 * i)) }

end Sys2Proof.Machine
end

