-- ==== Sys2Proof/Machine/Schemas3.lean ====
section
/-!
DEFINITION. Field tables of the settings records of the GNSS front end (R295) and of fusion (R321–R324).
-/
namespace Sys2Proof.Machine

/-- KD_GNSS_SETTINGS (R295). -/
def scGnss : RecSchema :=
  { lens := [96]
    flds := [fu 0x20 1 1 2 10 [5, 10, 20, 50, 100], fu 0x21 1 0 1 1, fb 0x22 1 0x0F 0x0F,
      fu 0x23 1 0 100 1, fs 0x24 4 (-4000) 4000 0, fu 0x28 4 0 (2 ^ 32 - 1) 0, fb 0x2C 8 (2 ^ 36 - 1) 0,
      fs 0x34 4 (-10000) 0 (-3000), fs 0x38 4 10000 200000 60000, fu 0x3C 2 10 5000 200,
      fu 0x3E 2 100 50000 5000, fu 0x40 2 10 1000 150, fu 0x42 2 1 600 10, fu 0x44 2 50 1000 150,
      fu 0x46 2 10 300 60, fu 0x48 4 5 1000000 30, fu 0x4C 2 1 10000 20, fu 0x4E 2 1 3600 30,
      fb 0x50 1 0x3F 0x3F, fu 0x52 2 60 3600 300]
    rel := fun _ => [] }

/-- The main record of KD_FUSION_SETTINGS (R321). -/
def scFusMain : RecSchema :=
  { lens := [64]
    flds := [fu 0x20 1 0 3 0, fu 0x21 1 1 2 10 [5, 10, 20], fu 0x22 2 10 10 100 [20, 50, 100, 200, 400],
      fu 0x24 2 0 400 10, fu 0x26 1 0 4 3, fu 0x27 1 20 100 40, fb 0x28 2 0x7FFF 0x4003,
      fu 0x2A 2 1000 60000 10000, fu 0x2C 2 15 100 30, fu 0x2E 1 4 20 5, fu 0x30 2 10 60000 200,
      fu 0x32 2 50 4000 0 [0], fsig 0x34, fu 0x36 2 10 1000 500, fu 0x38 4 1 10000000 1000000,
      fu 0x3C 2 100 10000 1000]
    rel := fun _ => [] }

/-- The geometry record (R322). -/
def scFusGeom : RecSchema :=
  { lens := [128]
    flds := [fu 0x20 1 0 3 1]
      ++ frep 6 0x24 4 (fun _ o => fs o 4 (-20000) 20000 0)
      ++ frep 3 0x3C 2 (fun _ o => fs o 2 (-32768) 32767 0)
      ++ frep 3 0x44 4 (fun _ o => fs o 4 (-20000) 20000 0)
      ++ frep 3 0x50 2 (fun _ o => fs o 2 (-32768) 32767 0)
      ++ [fs 0x56 2 (-20000) 20000 4000]
      ++ (List.range 4).flatMap (fun n =>
          [fu (0x58 + 12 * n) 1 0 15 0xFF [0xFF], fs (0x5A + 12 * n) 2 (-20000) 20000 0,
           fs (0x5C + 12 * n) 2 (-20000) 20000 0, fu (0x60 + 12 * n) 4 1 10000000 10000])
    rel := fun b => badIf (decide ((fldS b 0x56 2).natAbs < 500)) 0x56 }

/-- The line record (R323). -/
def scFusLine : RecSchema :=
  { lens := [32]
    flds := [fu 0x20 1 0 3 2, fu 0x21 1 0 1 0, fs 0x24 4 (-(2 ^ 31)) (2 ^ 31 - 1) 0,
      fs 0x28 4 (-(2 ^ 31)) (2 ^ 31 - 1) 0, fu 0x2C 2 0 0xFFFF 0, fs 0x30 4 (-100000) 100000 0]
    rel := fun _ => [] }

/-- The external IMU record (R324). -/
def scFusImu : RecSchema :=
  { lens := [64]
    flds := [fu 0x20 1 0 3 3, fu 0x21 1 0 0 3 [3], fu 0x22 2 1000 10000 4000, fu 0x24 1 0 1 0,
      fu 0x25 1 0 8 0, fu 0x26 1 12 32 12, fb 0x27 1 0x0F 1]
      ++ frep 8 0x28 1 (fun _ o => fu o 1 0 255 0)
      ++ frep 6 0x30 1 (fun i o => fu o 1 0 30 (2 * i))
      ++ [fu 0x38 4 1 100000000 152716, fu 0x3C 4 1 100000000 1196417]
    rel := fun b =>
      badIf (decide (fld b 0x27 1 / 4 % 4 = 3)) 0x27
      ++ (List.range 8).flatMap (fun i =>
          badIf (decide (fld b 0x25 1 ≤ i) && decide (fld b (0x28 + i) 1 ≠ 0)) (0x28 + i))
      ++ (List.range 6).flatMap (fun i => badIf (decide (fld b 0x26 1 < fld b (0x30 + i) 1 + 2)) (0x30 + i)) }

/-- KD_FUSION_SETTINGS by key (R321). -/
def scFusion (key : Nat) : Option RecSchema :=
  match key with
  | 0 => some scFusMain | 1 => some scFusGeom | 2 => some scFusLine | 3 => some scFusImu | _ => none

/-- A field of the external IMU frame leaves the frame or overlaps its check byte (R324): a commit with
such a record is refused. -/
def imuFrameBad (b : List Byte) : Bool :=
  let len := fld b 0x26 1 - (if fld b 0x27 1 / 4 % 4 = 0 then 0 else 1)
  let w := if (fld b 0x27 1).testBit 1 then 4 else 2
  (List.range 6).any (fun i => decide (len < fld b (0x30 + i) 1 + w))

end Sys2Proof.Machine
end

