-- ==== Sys2Proof/Machine/Schemas4.lean ====
section
/-!
DEFINITION. Field tables of KD_CAMERA_SETTINGS (R352) and KD_MAP_SETTINGS (R264).
-/
namespace Sys2Proof.Machine

/-- KD_MAP_SETTINGS (R264). -/
def scMap : RecSchema :=
  { lens := [32]
    flds := [fu 0x20 1 0 1 1, fb 0x21 1 3 0, fu 0x22 1 0 255 0, fu 0x24 2 1 600 10, fu 0x26 2 1 500 50,
      fu 0x28 2 0 3600 60]
    rel := fun _ => [] }

/-- KD_CAMERA_SETTINGS: a port. -/
def scCamPort (n : Nat) : RecSchema :=
  { lens := [32]
    flds := [fu 0x20 2 n n n, fu 0x22 1 0 1 0, fu 0x23 1 1 2 2, fu 0x24 1 0 1 0, fu 0x28 2 100 420 420]
    rel := fun _ => [] }

/-- A pipeline record. -/
def scCamPipe (k : Nat) : RecSchema :=
  { lens := [64]
    flds := [fu 0x20 2 k k k, fu 0x22 1 0 5 0, fu 0x23 1 0 15 0, fu 0x24 1 0x2B 0x2E 0x2C, fu 0x25 1 1 3 1,
      fu 0x26 1 0 4 0, fu 0x27 1 0 2 0, fu 0x28 2 64 4096 1920, fu 0x2A 2 64 4096 1200, fu 0x2C 1 0 4 0,
      fu 0x2D 1 8 32 16, fu 0x2E 2 0 4088 0, fu 0x30 4 1 1000000 1000, fu 0x34 1 1 60 30, fu 0x35 1 0 1 0,
      fu 0x36 2 1 10000 100, fu 0x38 4 0 3999999999 0, fu 0x3C 4 100 1000000 0 [0], fu 0x40 1 0 255 0,
      fu 0x41 1 1 1 4 [2, 4, 8], fu 0x42 1 0 1 0, fu 0x43 1 0 255 0, fu 0x44 2 16 4096 0 [0]]
    rel := fun b =>
      let fps := max 1 (fld b 0x34 1)
      badIf (decide (fld b 0x28 2 % 2 = 1)) 0x28 ++ badIf (decide (fld b 0x2A 2 % 2 = 1)) 0x2A
      ++ badIf (decide (fld b 0x27 1 ≠ 0) && decide (fld b 0x2C 1 = 0)) 0x2C
      ++ badIf (decide (1000000 ≤ fld b 0x36 2 * fps)) 0x36
      ++ badIf (decide (qSec < (fld b 0x38 4 + 1) * fps)) 0x38
      ++ badIf (decide (1000000 < fld b 0x3C 4 * fps)) 0x3C }

/-- The LIN table: 1 024 entries of 3 bytes from 0x30. -/
def scCamLin (k : Nat) : RecSchema :=
  { lens := [3088]
    flds := fu 0x20 2 k k k :: frep 1024 0x30 3 (fun i o => fu o 3 0 (2 ^ 24 - 1) ((i * 16384 : Nat)))
    rel := fun _ => [] }

/-- The TONE table: 1 024 entries of 2 bytes from 0x30. -/
def scCamTone (k : Nat) : RecSchema :=
  { lens := [2064]
    flds := fu 0x20 2 k k k :: frep 1024 0x30 2 (fun i o => fu o 2 0 4095 ((4 * i : Nat)))
    rel := fun _ => [] }

/-- Processing. -/
def scCamProc (k : Nat) : RecSchema :=
  { lens := [64]
    flds := fu 0x20 2 k k k :: frep 4 0x24 4 (fun _ o => fu o 4 0 (2 ^ 24 - 1) 0)
      ++ frep 2 0x34 4 (fun _ o => fu o 4 0x10000 0x1000000 0x10000)
      ++ [fu 0x3C 4 0 (2 ^ 24 - 1) 0xE00000, fu 0x40 4 0 (2 ^ 24 - 1) 0xFC0000, fu 0x44 4 0 (2 ^ 32 - 1) 0]
      ++ frep 9 0x48 2 (fun i o => fs o 2 (-32768) 32767 (if i % 4 = 0 then 4096 else 0))
      ++ [fu 0x5A 1 0 16 8]
    rel := fun b => badIf (decide (fld b 0x40 4 ≤ fld b 0x3C 4)) 0x40 }

/-- Analysis. -/
def scCamAna (k : Nat) : RecSchema :=
  { lens := [32]
    flds := [fu 0x20 2 k k k, fu 0x22 1 0 1 0, fu 0x23 1 0 2 0, fu 0x24 2 0 4096 0, fu 0x26 2 0 4096 0,
      fu 0x28 2 0 4096 1920, fu 0x2A 2 0 4096 1200, fu 0x2C 1 0 255 1, fu 0x2D 1 0 1 0, fu 0x2E 2 0 65535 32768]
    rel := fun b => badIf (decide (fld b 0x28 2 ≤ fld b 0x24 2)) 0x28
      ++ badIf (decide (fld b 0x2A 2 ≤ fld b 0x26 2)) 0x2A }

/-- Fields of `n` register writes from an offset (R352). -/
def writeFlds (n off : Nat) : List Fld :=
  (List.range n).flatMap (fun i =>
    [fu (off + 8 * i) 2 0 65535 0, fu (off + 8 * i + 2) 1 1 2 1 [4], fu (off + 8 * i + 3) 1 0 255 0,
     fu (off + 8 * i + 4) 4 0 (2 ^ 32 - 1) 0])

/-- INIT writes: the layout that COUNT gives. -/
def scCamInit (k n : Nat) : RecSchema :=
  { lens := [8 + 8 * n]
    flds := [fu 0x20 2 k k k, fu 0x22 1 0 200 0, fu 0x23 1 0x08 0x77 0x08] ++ writeFlds n 0x28
    rel := fun _ => [] }

/-- Optics. -/
def scCamOptics (k : Nat) : RecSchema :=
  { lens := [64]
    flds := fu 0x20 2 k k k :: frep 4 0x24 4 (fun _ o => fu o 4 0 (2 ^ 32 - 1) 0)
      ++ frep 2 0x34 4 (fun _ o => fs o 4 (-(2 ^ 31)) (2 ^ 31 - 1) 0)
      ++ frep 3 0x3C 4 (fun _ o => fs o 4 (-20000) 20000 0)
      ++ frep 3 0x48 2 (fun _ o => fs o 2 (-32768) 32767 0)
      ++ [fs 0x50 4 (-(2 ^ 31)) (2 ^ 31 - 1) 0]
    rel := fun _ => [] }

/-- A class table block: 2 048 entries of 1 byte at 0x30, of which bit 7 and bits 2–0 have a meaning
(R346); the default of each is 0x80. -/
def scCamClass (k : Nat) : RecSchema :=
  { lens := [2064]
    flds := fu 0x20 2 k k k :: (List.range 2048).map (fun i => ⟨0x30 + i, 1, false, 0, 255, [], 0x87, 0x80⟩)
    rel := fun _ => [] }

/-- A scalar slot. -/
def scCamScalar (k : Nat) : RecSchema :=
  { lens := [32]
    flds := [fu 0x20 2 k k k, fu 0x22 1 0 5 0xFF [0xFF], fu 0x23 1 0 255 0, fu 0x24 2 0 4096 0,
      fu 0x26 2 0 4096 1, fu 0x28 2 1 2000 1000]
    rel := fun b => badIf (decide (fld b 0x26 2 ≤ fld b 0x24 2)) 0x26 }

/-- Layout of a KD_CAMERA_SETTINGS record by KEY; `n` is COUNT of an INIT record. -/
def scCamera (key n : Nat) : Option RecSchema :=
  if key < 6 then some (scCamPort key)
  else if 256 ≤ key ∧ key < 272 then some (scCamScalar key)
  else if 64 ≤ key ∧ key < 256 then
    match (key - 64) % 32 with
    | 0 => some (scCamPipe key) | 1 => some (scCamLin key) | 2 => some (scCamProc key)
    | 3 => some (scCamAna key) | 4 => some (scCamInit key n) | 5 => some (scCamOptics key)
    | 6 => some (scCamTone key)
    | j => if 8 ≤ j ∧ j < 24 then some (scCamClass key) else none
  else none

/-- The keys of KD_CAMERA_SETTINGS, ascending. -/
def camKeys : List Nat :=
  List.range 6 ++ (List.range 6).flatMap (fun p =>
    ((List.range 7) ++ (List.range 16).map (8 + ·)).map (64 + 32 * p + ·)) ++ (List.range 16).map (256 + ·)

/-- The LIN or TONE table decreases somewhere: a commit with it is refused with RANGE (R336). -/
def camTableBad (key : Nat) (b : List Byte) : Bool :=
  let w := match (key - 64) % 32 with | 1 => 3 | 6 => 2 | _ => 0
  decide (w ≠ 0) && (List.range 1023).any (fun i => decide (fld b (0x30 + w * (i + 1)) w < fld b (0x30 + w * i) w))

end Sys2Proof.Machine
end

