-- ==== Sys2Proof/Machine/Catalogue.lean ====
section
/-!
DEFINITION. The settings kinds of R109 with their keys and layouts, in one place.
-/
namespace Sys2Proof.Machine

/-- The settings kinds of R109, ascending. -/
def settingsKinds : List Nat :=
  [0x0101, 0x0201, 0x0501, 0x0502, 0x0601, 0x0602, 0x0701, 0x0801, 0x0901, 0x0A01,
   0x0B01, 0x0C01, 0x0D01, 0x0D02, 0x0E01, 0x0F01, 0x1001, 0x1102, 0x1201]

/-- Key field and keys of a settings kind (R113). -/
def kindInfo (kind : Nat) : KindInfo :=
  match kind with
  | 0x0501 => ⟨0x20, 1, List.range 8⟩
  | 0x0502 => ⟨0x20, 1, List.range 81⟩
  | 0x0601 => ⟨0x20, 2, List.range 256⟩
  | 0x0602 => ⟨0x20, 1, List.range 16⟩
  | 0x0701 => ⟨0x20, 1, List.range 25⟩
  | 0x0A01 => ⟨0x20, 1, List.range 4⟩
  | 0x0B01 => ⟨0x20, 2, camKeys⟩
  | 0x0C01 => ⟨0x20, 1, List.range 48 ++ (List.range 16).map (64 + ·) ++ (List.range 24).map (96 + ·) ++ [128]⟩
  | 0x0D01 => ⟨0x20, 1, List.range 6⟩
  | 0x0D02 => ⟨0x20, 2, List.range 3072 ++ (List.range 192).map (4096 + ·)⟩
  | 0x1001 => ⟨0x20, 1, List.range 128⟩
  | 0x1102 => ⟨0x20, 2, List.range 60⟩
  | _ => ⟨0x20, 0, [0]⟩

/-- Layout of the record of a kind that a key selects; none where the key selects no record. -/
def settingsSchema (kind key : Nat) : Option RecSchema :=
  match kind with
  | 0x0101 => some scTime
  | 0x0201 => some scLane
  | 0x0501 => if key = 0 then some scChain else if key < 8 then some (scHop key) else none
  | 0x0502 => scCropAll key
  | 0x0601 => scLoop key
  | 0x0602 => if key < 16 then some (scGroup key) else none
  | 0x0701 => scValve key
  | 0x0801 => some scMap
  | 0x0901 => some scGnss
  | 0x0A01 => scFusion key
  | 0x0B01 => scCamera key 0
  | 0x0C01 => scField key
  | 0x0D01 => if key < 6 then some (scCan key) else none
  | 0x0D02 => scCanObj key
  | 0x0E01 => some scModem
  | 0x0F01 => some scDisplay
  | 0x1001 => if key < 128 then some (scEvent key) else none
  | 0x1102 => scCal Config.factory key
  | 0x1201 => some scPower
  | _ => none

/-- Layout of a posted record: as `settingsSchema`, with the length of an INIT record of a camera (R352)
by its COUNT. -/
def postedSchema (kind key : Nat) (b : List Byte) : Option RecSchema :=
  if kind = 0x0B01 then scCamera key (fld b 0x22 1) else settingsSchema kind key

/-- Key that a body carries (0 for a kind without one). -/
def keyOf (kind : Nat) (b : List Byte) : Nat :=
  let i := kindInfo kind
  if i.keySize = 0 then 0 else fld b i.keyOff i.keySize

/-- The body of defaults of a record (R113). -/
def defaultBody (kind key : Nat) : List Byte :=
  match settingsSchema kind key with
  | some sc => sc.dflt
  | none => []

end Sys2Proof.Machine
end

