-- ==== Sys2Proof/Machine/State/Cat.lean ====
section
/-!
DEFINITION. State of the Catalogue manager (R113–R117, R458, R462).
-/
namespace Sys2Proof.Machine

/-- A settings record: kind, key and body (R113). -/
structure SRec where
  kind : Nat
  key : Nat
  body : List Byte
  deriving DecidableEq, Repr, Inhabited

/-- The Catalogue of one settings format (R113, R458): its explicit records, the generation in force,
the EFFECTIVE stamp stored with it, the generation of the latest accepted commit or restore (R114),
and the generations in force before, newest first, with the boundaries at which each ended. -/
structure Catalog where
  format : Nat
  recs : List SRec
  gen : Nat
  genEff : Nat
  latestGen : Nat
  hist : List (Nat × Nat)
  deriving DecidableEq, Repr, Inhabited

/-- An open transaction (R114, R116). -/
structure Txn where
  /-- Ring, CORRELATION, SEQUENCE and accession stamp of the KD_CAT_OPEN. -/
  ring : Nat
  corr : Nat
  seq : Nat
  acc : Nat
  /-- That stamp as comparisons see it after a Field Time step (R29). -/
  cmp : Nat
  format : Nat
  full : Bool
  /-- FORMAT matches only a Shadow lane's format (R116). -/
  shadow : Bool
  posted : Nat
  recs : List SRec
  /-- SEQUENCE with which each record of `recs` was posted, in the same order. -/
  seqs : List Nat
  bytes : Nat
  failed : Bool
  firstBad : Nat
  deriving DecidableEq, Repr, Inhabited

/-- A commit or a restore that waits for its boundary (R115, R462). -/
structure Sched where
  boundary : Nat
  format : Nat
  restore : Bool
  full : Bool
  recs : List SRec
  gen : Nat
  acc : Nat
  /-- Place of its command in the input stream: the stamp as comparisons see it, and the ring (R29, R91). -/
  cmp : Nat
  ring : Nat
  deriving DecidableEq, Repr, Inhabited

/-- State of the Catalogue manager. -/
structure Cat where
  cats : List Catalog
  txn : Option Txn
  sched : List Sched
  /-- What the managed flash holds: a generation is written after it takes effect (R115). -/
  flash : List Catalog
  deriving DecidableEq, Repr, Inhabited

end Sys2Proof.Machine
end

