-- ==== Sys2Proof/Machine/State/Hub.lean ====
section
/-!
DEFINITION. State of the host link (R67–R97, R538, R545, R547), of the event sources (R430–R436) and
of the Ledger (R437–R446).
-/
namespace Sys2Proof.Machine

/-- A record on its way to the host: its Slip (R98) and body. -/
structure DRec where
  kind : Nat
  /-- Ring class (R108); 0 for a completion. -/
  cls : Nat
  source : Nat
  /-- FLAGS of R100. -/
  flags : Nat
  /-- OWNER_CREDIT where it is not CREDIT (KD_SETPOINT_TRACE, R102). -/
  owner : Option Nat
  seq : Nat
  corr : Nat
  acc : Nat
  eff : Nat
  body : List Byte
  /-- Bulk data that KD_BUFPTR records carry (R83), none for a record without BULK. -/
  bulk : Option (List Byte)
  /-- MSI-X vector that the event source names (R435). -/
  vec : Option Nat
  /-- Ring-table entry whose hold ends after this completion (R94). -/
  holdOf : Option Nat
  deriving DecidableEq, Repr, Inhabited

/-- Ring states (R93). -/
inductive RingState where
  | unused | running | faulted
  deriving DecidableEq, Repr, Inhabited

/-- The hold of a ring after its reset (R94): waiting for its completion to be covered, or covered when
so many polls had been issued since set-up. -/
inductive Hold where
  | waiting
  | covered (polls : Nat)
  deriving DecidableEq, Repr, Inhabited

/-- A submission ring (R70, R75, R76, R103). -/
structure Sr where
  st : RingState
  entry : RingEntry
  hold : Option Hold
  /-- Producer index last read (DB_SR). -/
  p : Nat
  /-- Consumption index (RET_SR). -/
  c : Nat
  /-- SEQUENCE expected next (R103). -/
  seq : Nat
  /-- Entries already fetched or skipped in the poll in progress (R88). -/
  taken : Nat
  /-- Host addresses of the entries fetched last (R75). -/
  at_ : List Nat
  /-- Entries of a long refused record still to be passed over (R106). -/
  skip : Nat
  deriving DecidableEq, Repr, Inhabited

/-- A buffer supplied to a delivery ring (R83). -/
structure Buf where
  addr : Nat
  len : Nat
  deriving DecidableEq, Repr, Inhabited

/-- A delivery ring (R70, R77, R83, R88, R92, R103). -/
structure Dr where
  st : RingState
  entry : RingEntry
  hold : Option Hold
  /-- Fill index (RET_DR). -/
  f : Nat
  /-- Release index last seen (DB_DR). -/
  h : Nat
  /-- SEQUENCE of the next record that enters the backlog (R103). -/
  seq : Nat
  /-- Waiting records, oldest first (R88). -/
  backlog : List DRec
  /-- KD_BUFPTR records of the record written last, still to be written (R83). -/
  chain : List DRec
  /-- Host addresses of the entries written last (R75). -/
  at_ : List Nat
  /-- DROP_COUNT (R74). -/
  drops : Nat
  /-- Field Time of the last drop (R545). -/
  lastDrop : Option Nat
  /-- Supplied empty buffers in order of supply (R83). -/
  supplies : List Buf
  /-- Elapsed instants of the RET_DR writes of the unsignalled records (R92). -/
  unsig : List Nat
  /-- Records written and not yet released by the host, with the index of the first entry: what
  the host's ring memory holds between H and F (R77). -/
  inRing : List (Nat × DRec)
  deriving DecidableEq, Repr, Inhabited

/-- One MSI-X vector (R92, R521). -/
structure MsixVec where
  addrLo : Nat
  addrHi : Nat
  data : Nat
  masked : Bool
  pending : Bool
  /-- Messages sent on the vector: the model's own record of an output. -/
  sent : Nat
  deriving DecidableEq, Repr, Inhabited

/-- Doze phases (R85). -/
inductive DozePhase where
  | awake | checking | dozing
  deriving DecidableEq, Repr, Inhabited

/-- A descriptor stamped into the input stream (R89). -/
structure Stamped where
  ring : Nat
  stamp : Nat
  /-- The stamp as comparisons see it after a Field Time step (R29). -/
  cmp : Nat
  entries : Nat
  /-- SEQUENCE expected of it where its ring has been set up or reset since it was fetched (R94, R103). -/
  exp : Option Nat
  deriving DecidableEq, Repr, Inhabited

/-- State of the host link. -/
structure Link where
  up : Bool
  /-- Trained rate (1–4) and width (1, 2, 4); 0 while down (R95). -/
  speed : Nat
  width : Nat
  /-- Rate and width of the latest training, kept while the link is down (R95). -/
  trained : Nat × Nat
  l1 : Bool
  /-- The device state is D3hot, else D0 (R67, R68). -/
  d3hot : Bool
  sr : List Sr
  dr : List Dr
  /-- Last value read of each of the 64 doorbell words (R73). -/
  words : List Nat
  running : Bool
  tableBad : Bool
  badEntry : Nat
  badReason : Nat
  dozing : Bool
  phase : DozePhase
  /-- Elapsed instant at which the 50 ms doze timer ends (R85). -/
  dozeAt : Nat
  dozeCount : Nat
  discardedAtGo : Nat
  resets : Nat
  pollFails : Nat
  failRun : Nat
  aerCorr : Nat
  aerUncorr : Nat
  /-- Poll interval in force (R84, R95). -/
  pollUs : Nat
  /-- Elapsed instant of the next poll, none while it is the first after a set-up or a doze (R84, R87). -/
  pollAt : Option Nat
  /-- Polls issued since set-up, and those whose data has arrived or failed (R538). -/
  pollsIssued : Nat
  pollsDone : Nat
  /-- A table has been accepted since power-up (R547). -/
  everSetUp : Bool
  /-- CLASS_MASK of each used delivery ring of the last accepted table (R547), 0 for an unused one. -/
  route : List Nat
  /-- COMPLETION_RING of each submission ring of the last accepted table. -/
  compRing : List Nat
  msix : List MsixVec
  stream : List Stamped
  /-- UNDELIVERED counters (R110). -/
  undelivered : List Nat
  /-- Next instant of KD_LINK_STATUS and of KD_CLASS_COUNTS (R95, R110). -/
  statusNext : Nat
  countsNext : Nat
  /-- A set-up has been requested or is in progress (R513). -/
  goPending : Bool
  setupRunning : Bool
  deriving DecidableEq, Repr, Inhabited

/-- A raising of an event source (R430). -/
structure Raising where
  src : Nat
  inst : Nat
  code : Nat
  /-- Severity that the raising rule names; 0 where it names none (R431). -/
  sev : Nat
  data : List Byte
  acc : Nat
  eff : Nat
  deriving DecidableEq, Repr, Inhabited

/-- An open coalescing window of a source and INSTANCE (R433). -/
structure Window where
  src : Nat
  inst : Nat
  endAt : Nat
  count : Nat
  latest : Raising
  /-- Raisings stamped at or after `endAt` that came before the window was ended (R35). -/
  ahead : List Raising
  deriving DecidableEq, Repr, Inhabited

/-- State of the event sources: the open windows (at most 64, R433). -/
structure Events where
  windows : List Window
  deriving DecidableEq, Repr, Inhabited

/-- A Ledger record (R437) but its CRC, which its bytes decide. -/
structure LRec where
  seq : Nat
  src : Nat
  sev : Nat
  flags : Nat
  acc : Nat
  eff : Nat
  gen : Nat
  count : Nat
  epoch : Nat
  inst : Nat
  code : Nat
  data : List Byte
  powerUps : Nat
  deriving DecidableEq, Repr, Inhabited

/-- A Ledger command (R443). -/
inductive LgCmd where
  | copy (first count : Nat) (stamp : Nat) (p : Post)
  | clear (stamp : Nat) (p : Post)
  deriving DecidableEq, Repr, Inhabited

/-- The Ledger (R437–R446). A slot that `slots` does not list is empty. -/
structure Ledger where
  slots : List (Nat × LRec)
  headSeq : Nat
  headSlot : Nat
  founding : Nat
  /-- LG_DROPS[0–3]. -/
  drops : List Nat
  /-- Records handed on and waiting to be written (at most 256), each with the MSI-X vector to
  signal when written (R435, R438). -/
  queue : List (LRec × Option Nat)
  /-- Field Time of the last drop (R440). -/
  lastDrop : Option Nat
  /-- The command that runs, with HEAD_SEQ when it began (R443). -/
  cmd : Option (LgCmd × Nat)
  waiting : List LgCmd
  /-- LG_CURSOR.SLOT (R444). -/
  cursor : Nat
  deriving DecidableEq, Repr, Inhabited

/-- An item of the output vector (R45). -/
inductive OutItem where
  /-- A value that takes effect at a destination, by DEST_TYPE and DEST_INDEX of R181. -/
  | value (type index : Nat) (v : Int)
  /-- The winner of a min-select group. -/
  | winner (group member : Nat)
  /-- A CAN frame or a modem record handed to a transmit path. -/
  | frame (ctl : Nat) (f : CanFrame)
  | modem (bytes : List Byte)
  /-- A record delivered. -/
  | record (r : DRec)
  deriving DecidableEq, Repr, Inhabited

/-- The units through which everything leaves: host link, event sources, Ledger; and what has been issued since the
latest beat boundary (R45). -/
structure Hub where
  link : Link
  ev : Events
  lg : Ledger
  out : List OutItem
  deriving DecidableEq, Repr, Inhabited

end Sys2Proof.Machine
end

