-- ==== Sys2Proof/Machine/HubOps.lean ====
section
/-!
DEFINITION. What the host link, the event sources and the Ledger do with a record or a raising: class
routing, backlog and drops (R72, R88, R103, R108, R547), raising, coalescing and routing (R430–R435),
and the queue of the Ledger (R438). One function each, over the unit `Hub` alone.
-/
namespace Sys2Proof.Machine

/-- What these operations read of the rest of the state. -/
structure Ctx where
  ft : Nat
  el : Nat
  lockLog : List (Nat × Bool)
  epoch : Nat
  powerUps : Nat
  serving : Bool
  commanding : Bool
  aonRoute : List Nat
  cat : Catalog
  /-- Boundaries and generations of the commits that wait for the Catalogue in force (R115). -/
  ahead : List (Nat × Nat)

/-- Generation in force at an instant (R104, R105). -/
def Catalog.genAt (c : Catalog) (t : Nat) : Nat :=
  (c.hist.foldl (fun (acc : Nat × Bool) h =>
    if acc.2 && decide (t < h.2) then (h.1, true) else (acc.1, false)) (c.gen, true)).1

/-- Generation in force at an instant, where commits with these boundaries still wait (R104, R115). -/
def genFor (ahead : List (Nat × Nat)) (c : Catalog) (t : Nat) : Nat :=
  match (ahead.filter (fun x => decide (x.1 ≤ t))).getLast? with
  | some x => x.2
  | none => c.genAt t

/-- Body of an explicit record, if there is one. -/
def Catalog.find (c : Catalog) (kind key : Nat) : Option (List Byte) :=
  (c.recs.find? (fun r => r.kind == kind && r.key == key)).map (·.body)

/-- Settings of an event source: ROUTE, SEVERITY, MSIX_VECTOR, COALESCE_MS (R434). -/
structure EvSet where
  toLedger : Bool
  toRing : Bool
  sev : Nat
  vec : Nat
  coalMs : Nat

/-- The settings of source `src` in the Catalogue (R434). -/
def Catalog.evSet (c : Catalog) (src : Nat) : EvSet :=
  let b := (c.find 0x1001 src).getD (scEvent src).dflt
  { toLedger := fld b 0x21 1 % 2 = 1, toRing := fld b 0x21 1 / 2 % 2 = 1, sev := fld b 0x22 1
    vec := fld b 0x23 1, coalMs := fld b 0x24 2 }

/-- Entries that a record takes on its ring (R80). -/
def DRec.entries (r : DRec) : Nat := entriesOf r.body.length

/-- Entries that wait in a backlog (R88). -/
def backlogEntries (l : List DRec) : Nat := l.foldl (fun n r => n + r.entries) 0

/-- Set AFTER_GAP (R100). -/
def DRec.markGap (r : DRec) : DRec := { r with flags := r.flags ||| 0x10 }

/-- Displace the oldest records that are not completions until `need` entries are free (R88). Answers
the records that stay, the entries displaced, and whether the next record to enter follows the gap. -/
def dropOld : Nat → Bool → List DRec → List DRec × Nat × Bool
  | _, gap, [] => ([], 0, gap)
  | need, gap, r :: rs =>
    if 0 < need ∧ r.cls ≠ 0 then
      let x := dropOld (need - r.entries) true rs
      (x.1, x.2.1 + r.entries, x.2.2)
    else
      let x := dropOld need false rs
      ((if gap then r.markGap else r) :: x.1, x.2.1, x.2.2)

/-- Put a record into a delivery ring's backlog (R88, R103). Answers the entries displaced. DESIGN CHOICE (log entry 73):
a completion that meets a full backlog displaces as any other record does, since it is never dropped itself. -/
def Dr.enter (d : Dr) (ft : Nat) (r : DRec) : Dr × Nat :=
  let x := dropOld (backlogEntries d.backlog + r.entries - 4096) false d.backlog
  let r := { r with seq := d.seq }
  ({ d with
      seq := add32 d.seq 1
      backlog := x.1 ++ [if x.2.2 then r.markGap else r]
      drops := satAdd 32 d.drops x.2.1
      lastDrop := if x.2.1 = 0 then d.lastDrop else some ft }, x.2.1)

/-- The first drop after 1 s without one (R440, R545). -/
def dropIsFirst (last : Option Nat) (ft : Nat) : Bool :=
  match last with
  | none => true
  | some t => decide (t + qSec ≤ ft)

/-- The delivery ring that takes a class (R108, R547). -/
def Link.routeOf (l : Link) (cls : Nat) : Option Nat :=
  if l.everSetUp then (List.range 32).find? (fun i => (nth 0 l.route i).testBit cls) else none

/-- Send a message on an MSI-X vector, or set its pending bit while it is masked (R92). -/
def Link.signal (l : Link) (v : Nat) : Link :=
  { l with msix := upd l.msix v (fun m =>
      if m.masked then { m with pending := true } else { m with sent := m.sent + 1 }) }

/-- The time state was LOCKED at a stamp (R100). -/
def lockedAt (l : List (Nat × Bool)) (t : Nat) : Bool :=
  match l.find? (fun x => decide (x.1 ≤ t)) with
  | some x => x.2
  | none => false

/-- What can be asked of the hub. -/
inductive HubAct where
  /-- Deliver a record to a ring of its class, or count it undelivered (R72). -/
  | deliver (r : DRec)
  /-- Deliver a completion on a delivery ring (R108). -/
  | complete (ring : Nat) (r : DRec)
  /-- Raise an event source (R430). -/
  | raise (r : Raising)
  /-- Emit a raising or a coalesced record with COUNT and FLAGS (R433, R435). -/
  | emit (r : Raising) (count flags sev : Nat)
  /-- Hand a record on to the Ledger (R438). -/
  | ledger (r : LRec) (vec : Option Nat)

/-- DATA of a raising or a Ledger record: 16 bytes (R430). -/
def data16 (l : List Byte) : List Byte := (l ++ List.replicate 16 0).take 16

/-- The four drop counters as DATA (R440, R446). -/
def Ledger.dropData (g : Ledger) : List Byte := g.drops.flatMap (leBytes 4)

/-- The record of a raising for KD_EVENT (R436). -/
def eventRec (c : Ctx) (r : Raising) (count flags sev : Nat) (vec : Option Nat) : DRec :=
  { kind := 0x1002, cls := 1, source := 0x0F, flags := if lockedAt c.lockLog r.acc then 0 else 0x40, owner := none
    seq := 0, corr := genFor c.ahead c.cat r.eff, acc := r.acc, eff := r.eff
    body := putBytes (mkBody 32 [(0x20, 2, r.src), (0x22, 1, sev), (0x23, 1, flags),
      (0x24, 2, sat 16 count), (0x26, 2, r.inst), (0x28, 2, r.code)]) 0x30 (data16 r.data)
    bulk := none, vec := vec, holdOf := none }

/-- The Ledger record of a raising (R437); SEQ and FOUNDING are set when it is written. -/
def ledgerRec (c : Ctx) (r : Raising) (count flags sev : Nat) : LRec :=
  { seq := 0, src := r.src, sev := sev, flags := flags, acc := r.acc, eff := r.eff
    gen := genFor c.ahead c.cat r.eff, count := sat 16 count, epoch := c.epoch, inst := r.inst, code := r.code
    data := data16 r.data, powerUps := c.powerUps }

/-- UNLOCKED in the FLAGS of an event record, at its accession stamp (R100, R437). -/
def unlockedFlag (c : Ctx) (acc : Nat) : Nat := if lockedAt c.lockLog acc then 0 else 0x40

/-- One request to the hub. A request can lead to another one (a drop raises RING_DROP or LEDGER_DROP,
a raising is delivered), at most `fuel` deep: each such event is raised once in 1 s, so a depth of 6 is
never exceeded. -/
def Hub.act : (fuel : Nat) → Ctx → HubAct → Hub → Hub
  | 0, _, _, h => h
  | n + 1, c, .deliver r, h =>
    match h.link.routeOf r.cls with
    | none => { h with link := { h.link with
        undelivered := upd h.link.undelivered r.cls (fun k => satAdd 32 k 1) } }
    | some i =>
      let d := nth default h.link.dr i
      let x := d.enter c.ft r
      let h1 := { h with link := { h.link with dr := h.link.dr.set i x.1 }, out := h.out ++ [.record { r with seq := d.seq }] }
      if x.2 ≠ 0 ∧ dropIsFirst d.lastDrop c.ft then
        Hub.act n c (.raise ⟨24, 32 + i, 0, 0, leBytes 4 x.1.drops, c.ft, c.ft⟩) h1
      else h1
  | n + 1, c, .complete i r, h =>
    let d := nth default h.link.dr i
    let x := d.enter c.ft r
    let h1 := { h with link := { h.link with dr := h.link.dr.set i x.1 }, out := h.out ++ [.record { r with seq := d.seq }] }
    if x.2 ≠ 0 ∧ dropIsFirst d.lastDrop c.ft then
      Hub.act n c (.raise ⟨24, 32 + i, 0, 0, leBytes 4 x.1.drops, c.ft, c.ft⟩) h1
    else h1
  | n + 1, c, .raise r, h =>
    let dflt := max (nth 0 eventSeverity r.src) r.sev
    if !c.serving then
      -- outside Serving: the always-on domain writes the supply group (R432)
      if decide (r.src < 8) && decide (nth 3 c.aonRoute r.src % 2 = 1) then
        Hub.act n c (.ledger (ledgerRec c r 1 (unlockedFlag c r.acc) dflt) none) h
      else h
    else if !c.commanding then
      -- no lane commands: the Curator writes its own two groups (R432)
      if decide (r.src < 20) then
        Hub.act n c (.ledger (ledgerRec c r 1 (unlockedFlag c r.acc + 0x20) dflt) none) h
      else h
    else
      let e := c.cat.evSet r.src
      let sev := max e.sev r.sev
      if sev = 3 ∨ e.coalMs = 0 then Hub.act n c (.emit r 1 (unlockedFlag c r.acc) sev) h
      else if h.ev.windows.any (fun w => w.src == r.src && w.inst == r.inst) then
        { h with ev := ⟨updFirst (fun w => w.src == r.src && w.inst == r.inst)
            (fun w => if r.acc < w.endAt then { w with count := w.count + 1, latest := r }
              else { w with ahead := w.ahead ++ [r] }) h.ev.windows⟩ }
      else
        let h1 := Hub.act n c (.emit r 1 (unlockedFlag c r.acc) sev) h
        if h1.ev.windows.length < 64 then
          { h1 with ev := ⟨h1.ev.windows ++ [⟨r.src, r.inst, r.acc + e.coalMs * qMs, 0, r, []⟩]⟩ }
        else h1
  | n + 1, c, .emit r count fl sev, h =>
    let e := c.cat.evSet r.src
    let vec := if e.vec = 0xFF then none else some e.vec
    let h1 := if e.toRing then Hub.act n c (.deliver (eventRec c r count fl sev vec)) h else h
    let h2 := if e.toLedger then
        Hub.act n c (.ledger (ledgerRec c r count fl sev) (if e.toRing then none else vec)) h1
      else h1
    if !e.toRing && !e.toLedger then
      match vec with
      | none => h2
      | some v => { h2 with link := h2.link.signal v }
    else h2
  | n + 1, c, .ledger r vec, h =>
    if h.lg.queue.length < 256 then
      { h with lg := { h.lg with queue := h.lg.queue ++ [(r, vec)] } }
    else
      let first := dropIsFirst h.lg.lastDrop c.ft
      let g := { h.lg with drops := upd h.lg.drops r.sev (fun k => satAdd 32 k 1), lastDrop := some c.ft }
      let h1 := { h with lg := g }
      if first then Hub.act n c (.raise ⟨116, 0xFFFF, 0, 0, g.dropData, c.ft, c.ft⟩) h1 else h1

/-- The depth of requests that suffices. -/
def hubFuel : Nat := 6

end Sys2Proof.Machine
end

