-- ==== Sys2Proof/Machine/State/Camera.lean ====
section
/-!
DEFINITION. State of the camera ports and pipelines (R326–R353).
-/
namespace Sys2Proof.Machine

/-- One camera port (R326–R328, R345). -/
structure CamPort where
  /-- LINK: 0 no lock, 1 G1, 2 G2. -/
  lock : Nat
  /-- POC_STATE: 0 OFF, 1 OK, 2 OPEN, 3 OVERCURRENT. -/
  poc : Nat
  unbound : Nat
  eccBad : Nat
  upErr : Nat
  losses : Nat
  partials : Nat
  lastUnbound : Option Nat
  /-- Elapsed instants of the next retry of the link and of the supply. -/
  retryEl : Nat
  pocRetryEl : Nat
  deriving DecidableEq, Repr, Inhabited

/-- Pipeline states (R350). -/
inductive PipeState where
  | off | starting | running
  deriving DecidableEq, Repr, Inhabited

/-- A register write (R352): REG, WIDTH, DELAY in 100 µs, VALUE. -/
structure CamWrite where
  reg : Nat
  width : Nat
  delay : Nat
  value : Nat
  deriving DecidableEq, Repr, Inhabited

/-- Writes on their way over the uplink (R327): those left, the present one first, and the elapsed
instant at which it is sent. `init` tells the start-up writes from those of an exposure setting. -/
structure UpJob where
  init : Bool
  left : List CamWrite
  sentEl : Nat
  deriving DecidableEq, Repr, Inhabited

/-- An exposure setting that waits or whose replies are outstanding (R342, R343). -/
structure ExpSet where
  post : Post
  stamp : Nat
  id : Nat
  ratios : List Nat
  writes : List CamWrite
  t1 : Nat
  t2 : Nat
  /-- The writes have been sent; all have been answered. -/
  sent : Bool
  done : Bool
  acked : Nat
  nack : Bool
  late : Bool
  /-- FRAME_NUMBER of T2, once T2 is past. -/
  num : Option Nat
  deriving DecidableEq, Repr, Inhabited

/-- The exposure setting in effect (R343). -/
structure ExpNow where
  id : Nat
  ratios : List Nat
  writes : List CamWrite
  fail : Bool
  deriving DecidableEq, Repr, Inhabited

/-- A frame that is open (R332, R333). -/
structure OpenFrame where
  number : Nat
  trig : Nat
  /-- The trigger stamp as comparisons see it (R29). -/
  trigC : Int
  fs : Nat
  fsEl : Nat
  marks : Nat
  /-- Embedded lines and pixel lines received, in order. -/
  emb : List (List Byte)
  pix : List (List Byte)
  crc : Nat
  ecc : Nat
  exp : ExpNow
  /-- The pipeline's records and the scalar records that serve for the frame (R350): bodies of keys
  64 + 32p to 87 + 32p, and of keys 256 to 271. -/
  recs : List (List Byte)
  scalars : List (List Byte)
  deriving DecidableEq, Repr, Inhabited

/-- A frame in the frame store (R339). -/
structure StoredFrame where
  number : Nat
  trig : Nat
  fs : Nat
  marks : Nat
  expId : Nat
  lines : List (List Byte)
  width : Nat
  exposures : Nat
  dt : Nat
  deriving DecidableEq, Repr, Inhabited

/-- The last agreeing frame of R334: FRAME_NUMBER, trigger stamp as comparisons see it, and its counter
or time. -/
structure Agreed where
  number : Nat
  trig : Int
  value : Nat
  deriving DecidableEq, Repr, Inhabited

/-- One pipeline. -/
structure Pipe where
  st : PipeState
  /-- Next trigger instant. -/
  next : Nat
  /-- `CAM_TRIGp` is active, until the elapsed instant. -/
  trigEnd : Option Nat
  frameNumber : Nat
  /-- Trigger stamp of the window that runs, whether it was Running at it, and whether a frame start
  came in it. -/
  cur : Option Nat
  /-- That stamp as comparisons see it (R29). -/
  curC : Int
  judged : Bool
  started : Bool
  /-- Triggers still to carry STEPPED_TRIGGER; the window's trigger carries it. -/
  stepped : Nat
  curStepped : Bool
  /-- All writes of Starting are acknowledged (R350); a frame is open in Starting, and was when they were. -/
  ready : Bool
  looseOpen : Bool
  partialSeen : Bool
  /-- Elapsed instant at which the INIT writes are repeated. -/
  retryEl : Option Nat
  jobs : List UpJob
  exps : List ExpSet
  expNow : ExpNow
  frame : Option OpenFrame
  store : List StoredFrame
  agreed : Option Agreed
  skewed : Bool
  goodRun : Nat
  /-- Elapsed instant of the last occurrence of each mark. -/
  lastMark : List (Option Nat)
  /-- Line angle of the last usable feature and its trigger stamp (R311). -/
  angle : Option (F64 × Int)
  /-- Boundary at which a shut-down ends, and an enable that waits for it (R350). -/
  shut : Option Nat
  enableAfter : Bool
  deriving DecidableEq, Repr, Inhabited

/-- The camera unit. -/
structure Cam where
  ports : List CamPort
  pipes : List Pipe
  statusNext : Nat
  deriving DecidableEq, Repr, Inhabited

end Sys2Proof.Machine
end

