-- ==== Sys2Proof/Machine/State/Fusion.lean ====
section
/-!
DEFINITION. State of the positioning engine and of the fusion filter (R296–R325).
-/
namespace Sys2Proof.Machine

/-- A station position (R300): antenna reference point in 0.1 mm. -/
structure Station where
  id : Nat
  x : Int
  y : Int
  z : Int
  deriving DecidableEq, Repr, Inhabited

/-- A base epoch that is being collected (R301): per system, a message has arrived, and its last one. -/
structure OpenBase where
  station : Nat
  tow : Nat
  gotGps : Bool
  endGps : Bool
  gotGal : Bool
  endGal : Bool
  firstEl : Nat
  stamp : Nat
  deriving DecidableEq, Repr, Inhabited

/-- A base epoch that can be used. -/
structure BaseEp where
  tow : Nat
  part : Bool
  stamp : Nat
  deriving DecidableEq, Repr, Inhabited

/-- One source of corrections (R302). -/
structure CorrSrc where
  station : Option Station
  collecting : List OpenBase
  /-- Newest first. -/
  base : List BaseEp
  deriving DecidableEq, Repr, Inhabited

/-- State of the positioning engine. -/
structure Pos where
  /-- 0 NONE, 1 STANDALONE, 2 FLOAT, 3 FIXED (R299). -/
  mode : Nat
  passRun : Nat
  failRun : Nat
  modem : CorrSrc
  host : CorrSrc
  /-- The backup source is in use; elapsed instant of the primary's last complete base epoch; complete
  base epochs of the primary in a row (R302). -/
  backup : Bool
  primaryEl : Nat
  primaryRun : Nat
  /-- A station change since the last solved epoch (R301). -/
  moved : Bool
  ignored : Nat
  corrAge : Option Nat
  /-- Solved epochs in a row that disagree with the fused position (R314). -/
  disagree : Nat
  deriving DecidableEq, Repr, Inhabited

/-- Latest estimate of a source (R311): quantity 0 position (latitude and longitude in 10^-10 degree),
1 forward speed (mm/s), 2 yaw rate (rad/s), 3 angular rates on x and y (rad/s), 4 specific force
(m/s²); σ in the same unit, for positions in mm; elapsed instant of its stamp. -/
structure Est where
  src : Nat
  qty : Nat
  vals : List F64
  sigma : F64
  el : Int
  deriving DecidableEq, Repr, Inhabited

/-- Count of a pair of sources (R312). -/
structure PairCount where
  a : Nat
  b : Nat
  n : Nat
  deriving DecidableEq, Repr, Inhabited

/-- A source excluded under R312, and its run toward readmission (R313). -/
structure Excl where
  src : Nat
  run : Nat
  deriving DecidableEq, Repr, Inhabited

/-- One output of the filter, kept for the passage engine (R123): the instant as comparisons see it,
the elapsed instant, the estimate and its validity. -/
structure FOut where
  cmp : Int
  el : Nat
  est : PoseEst
  validPose : Bool
  validVel : Bool
  degraded : Bool
  deriving DecidableEq, Repr, Inhabited

/-- State of the fusion filter. -/
structure Fusion where
  /-- The four records in force (R321). -/
  main : List Byte
  geom : List Byte
  line : List Byte
  imu : List Byte
  next : Nat
  count : Nat
  posInit : Bool
  headInit : Bool
  /-- Elapsed instant since which course over ground gives the heading (R308). -/
  cogSince : Option Nat
  /-- Saved at key-off: position in 10^-10 degree and the IMU's standstill (R308). -/
  saved : Option (Int × Int)
  validPose : Bool
  dead : Bool
  /-- Elapsed instant of the latest GNSS measurement update; measurements since the last output. -/
  gnssEl : Nat
  gnssNew : Bool
  /-- A usable feature since the last output; elapsed instant of the last one applied (R316). -/
  feature : Bool
  edgeEl : Option Nat
  hostEl : Option Nat
  late : Nat
  imuBad : Nat
  ests : List Est
  pairs : List PairCount
  excl : List Excl
  /-- IMU1 excluded under R37 and good windows in a row; cameras excluded under R36, bit p. -/
  rateBad : Bool
  rateGood : Nat
  skew : Nat
  /-- ABSENT, and the elapsed instant of the latest estimate of each source (R313). -/
  absent : Nat
  seen : List Nat
  checkNext : Nat
  /-- Outputs, newest first. -/
  outs : List FOut
  /-- The external IMU's transfer in progress: elapsed stamp of its edge (R324). -/
  transfer : Option Nat
  edges : Nat
  windowNext : Nat
  /-- Start of the open rate window, and the edges that already belong to the next one (R35, R37). -/
  windowFrom : Nat
  edgesNext : Nat
  /-- Elapsed instant of the latest Field Time step. -/
  stepEl : Option Nat
  deriving DecidableEq, Repr, Inhabited

end Sys2Proof.Machine
end

