-- ==== Sys2Proof/Machine/State/Gnss.lean ====
section
/-!
DEFINITION. State of the GNSS front end (R269–R295) and what an epoch brings to it.
-/
namespace Sys2Proof.Machine

/-- An arc of a channel (R288): the elapsed instant of its start, the sum of the pseudorange changes since its start in 2^-8 q, the
carrier and the IONO of its start, and the latest transmit time with its ambiguity in ms. -/
structure Arc where
  el0 : Nat
  dp : Int
  carrier : Int
  iono : F64
  tx : Nat
  ambig : Nat
  deriving DecidableEq, Repr, Inhabited

/-- One tracking channel (R272, R273). -/
structure GChan where
  /-- Satellite number; 0 while the channel is not allocated. -/
  sv : Nat
  codeLock : Bool
  carrierLock : Bool
  dup : Bool
  slips : Nat
  /-- A slip since the last epoch. -/
  slip : Bool
  /-- Elapsed instant at which carrier lock began. -/
  lockEl : Nat
  /-- The pair of this channel existed at the last epoch. -/
  paired : Bool
  arc : Option Arc
  /-- CN0 at the latest epoch. -/
  cn0 : Nat
  /-- D of the latest epoch in m, in an arc (R288). -/
  cmc : Option F64
  /-- Carrier lock has been held since the satellite was taken up: the next one is a recovery (R278). -/
  hadLock : Bool
  /-- FAIL messages in a row, and GNSS_NAV_ERRORS raised since the last PASS (R282). -/
  navFail : Nat
  navRaised : Bool
  /-- Elapsed instant at which the latest LNAV subframe ended, and its D29 and D30 (R281). -/
  navEnd : Nat × Bool × Bool
  deriving DecidableEq, Repr, Inhabited

/-- A pair (R274): first- and second-band channels, IONO at epochs of the present arc, newest first,
with their elapsed instants. -/
structure GPair where
  a : Nat
  b : Nat
  iono : List (Nat × F64)
  /-- Causes IONO_BOUND and IONO_RATE at the latest epoch. -/
  bound : Bool
  rate : Bool
  rateMms : Option Int
  /-- P_IF of the latest epoch in m, where AMBIG is 0 (R274). -/
  pIf : Option F64
  deriving DecidableEq, Repr, Inhabited

/-- Causes of a satellite in a bank (R289): bits 0–5 at the latest epoch, and the elapsed instant at
which a hold ends. -/
structure Cause where
  bank : Nat
  sv : Nat
  bits : Nat
  holdEnd : Option Nat
  deriving DecidableEq, Repr, Inhabited

/-- The AGC of a band (R284): unflagged epochs, newest first, with the time in q that each stands for and its power in
0.1 dB; mean C/N0 of epochs with their elapsed instants; the flags. -/
structure Agc where
  base : List (Nat × Int)
  /-- Elapsed instant at which the baseline began to be built; the baseline exists. -/
  fromEl : Option Nat
  ready : Bool
  cn0 : List (Nat × F64)
  dev : Int
  jam : Bool
  spoof : Bool
  deriving DecidableEq, Repr, Inhabited

/-- A passing solution (R291): elapsed instant, b_o in 2^-11 × 10^-3 ns and d_o in 2^-11 × 10^-3 ppb. -/
structure ClkSol where
  el : Nat
  b : Int
  d : Int
  deriving DecidableEq, Repr, Inhabited

/-- State of the GNSS front end. -/
structure Gnss where
  chans : List GChan
  pairs : List GPair
  causes : List Cause
  /-- L1/E1 and L5/E5a. -/
  agc : List Agc
  /-- CN0_UNIFORM and the elapsed instant since which the deviation has been low, per bank (R285). -/
  uniform : List Bool
  lowSince : List (Option Nat)
  epoch : Nat
  rate : Nat
  next : Nat
  /-- Usable pairs at the latest epoch, the elapsed instant since which they are 4 or more, and
  whether a fall raises GNSS_PAIRS_LOW (R290). -/
  usable : Nat
  okSince : Option Nat
  armed : Bool
  /-- Instant of the latest epoch in Field Time and elapsed time. -/
  lastAt : Nat
  lastEl : Nat
  /-- Latest epochs, newest first: elapsed instant and EPOCH_COUNT (R282). -/
  past : List (Nat × Nat)
  /-- SUSPECT satellites by bank since an elapsed instant, newest first (R282, R289). -/
  suspLog : List (Nat × List (Nat × Nat))
  /-- Antenna state (R270), the bias is applied, its current, elapsed instant of the next retry. -/
  ant : Nat
  bias : Bool
  antMa : Nat
  retryEl : Nat
  /-- C(t) (R291) at the elapsed instant `corrEl`, in 2^-11 ns times SEC_Q, exactly. -/
  corr : Int
  corrEl : Nat
  hist : List ClkSol
  frozenRef : Option ClkSol
  /-- Latest check: FAIL, NA, EVALUATED since the last record, CLK_EPOCH, residuals and allowance. -/
  clkFail : Bool
  clkNa : Bool
  clkEval : Bool
  clkEpoch : Nat
  biasRes : Int
  driftRes : Int
  allow : Nat
  /-- The settings record in force (R295). -/
  recd : List Byte
  /-- AGC baselines stored at key-off (R284, R473), as `base` of Agc; none where nothing is stored. -/
  savedAgc : List (List (Nat × Int))
  deriving DecidableEq, Repr, Inhabited

end Sys2Proof.Machine
end

