-- ==== Sys2Proof/Machine/State/Map.lean ====
section
/-!
DEFINITION. State of the Yield Map Engine (R246–R268).
-/
namespace Sys2Proof.Machine

/-- A cell (R249). -/
structure MapCell where
  wet : Nat
  loss : Nat
  moist : Nat
  base : Nat
  area : Nat
  speed : Nat
  samples : Nat
  qual : Nat
  frac : List Nat
  cov : Nat
  crop : Nat
  fl : Nat
  deriving DecidableEq, Repr, Inhabited

/-- A tile (R248, R258, R266): the cells that have received something, by ascending index. -/
structure MapTile where
  tx : Int
  ty : Int
  cells : List (Nat × MapCell)
  lastUpdate : Nat
  writes : Nat
  dirty : Bool
  /-- The CRC of its stored unit holds (R266). -/
  crcOk : Bool
  deriving DecidableEq, Repr, Inhabited

/-- Geometry of a field (R246). -/
structure MapGeom where
  id : Nat
  lat : Int
  lon : Int
  h : Int
  cell : Nat
  deriving DecidableEq, Repr, Inhabited

/-- Sums of a field (R267), in mg and mm². -/
structure MapSums where
  wet : F64
  loss : F64
  area : F64
  moistWet : F64
  dry : F64
  overlap : F64
  orphan : F64
  unplaced : F64
  offField : F64
  records : Nat
  deriving DecidableEq, Repr, Inhabited

/-- The open field. -/
structure MapField where
  geom : MapGeom
  sums : MapSums
  lossy : Bool
  deriving DecidableEq, Repr, Inhabited

/-- A field in the archive (R259), with its sums as last written (log entry 50). -/
structure ArchField where
  geom : MapGeom
  sums : MapSums
  tiles : List MapTile
  deriving DecidableEq, Repr, Inhabited

/-- The carry (R254, R255): sums of the records not yet placed. -/
structure Carry where
  wet : F64
  loss : F64
  mb : F64
  mw : F64
  qb : F64
  qm : List F64
  nrec : Nat
  lastIdx : Nat
  /-- TIME_EPOCH at the start of the Slices that it holds (R254). -/
  epoch : Nat
  fl : Nat
  deriving DecidableEq, Repr, Inhabited

/-- A command that waits for its tap instant (R262, R265). -/
structure MapCmd where
  /-- A tile request, not a field command. -/
  request : Bool
  /-- ACTION or FORM. -/
  what : Nat
  post : Post
  stamp : Nat
  due : Nat
  deriving DecidableEq, Repr, Inhabited

/-- A close whose flush runs (R263): its command, the tap instant, the tiles that could not be archived. -/
structure MapClose where
  post : Post
  stamp : Nat
  at_ : Nat
  lost : Nat
  deriving DecidableEq, Repr, Inhabited

/-- The Yield Map Engine. -/
structure MapU where
  /-- Settings in force (R264). -/
  recd : List Byte
  field : Option MapField
  /-- The tile cache, the latest touched first (R258). -/
  cache : List MapTile
  archive : List ArchField
  carry : Option Carry
  noField : F64
  cmds : List MapCmd
  closes : List MapClose
  flushNext : Nat
  summaryNext : Nat
  offFieldEl : Option Nat
  full : Bool
  deriving DecidableEq, Repr, Inhabited

end Sys2Proof.Machine
end

