-- ==== Sys2Proof/Machine/State/Can.lean ====
section
/-!
DEFINITION. State of the CAN controllers (R378–R400).
-/
namespace Sys2Proof.Machine

/-- Controller states (R382), in the encoding order of R399. -/
inductive CanState where
  | off | integrating | errorActive | errorPassive | busOff | recovering
  deriving DecidableEq, Repr, Inhabited

/-- One entry of a transmit queue (R387, R389, R392). -/
structure CanEntry where
  frame : CanFrame
  /-- The host command to complete, with its accession stamp; none once its completion is delivered or
  for a set-point frame. -/
  post : Option (Post × Nat)
  /-- A host entry counts towards HOST_SLOTS. -/
  host : Bool
  /-- Set-point object, for a set-point frame. -/
  obj : Option Nat
  /-- Sequence tag of R392. -/
  tag : Nat
  /-- Elapsed instants of arrival and, with a LIFETIME_MS, of its end. -/
  inEl : Nat
  endEl : Option Nat
  /-- A first attempt has begun, and the attempts made. -/
  attempts : Nat
  /-- An entry of the old lane in the overlap window, and the new lane's copy of one (R55). -/
  old : Bool
  copy : Bool
  deriving DecidableEq, Repr, Inhabited

/-- The latest frame that a beat batch brought to an object with DELIVER (R385). -/
structure CanSlot where
  ctl : Nat
  obj : Nat
  stamp : Nat
  frame : CanFrame
  short : Bool
  own : Bool
  lost : Nat
  deriving DecidableEq, Repr, Inhabited

/-- One controller. -/
structure CanCtl where
  state : CanState
  tec : Nat
  recErr : Nat
  tdcMeasured : Nat
  tdcRange : Bool
  queue : List CanEntry
  queueMax : Nat
  wakeSource : Bool
  afterShutdown : Bool
  clipped : Bool
  /-- A shut-down runs (R383), and the controller goes on to INTEGRATING when it ends. -/
  shutdown : Bool
  enableAfter : Bool
  /-- Elapsed instant at which BUSOFF_DELAY_MS end (R382). -/
  delayEl : Nat
  rxFrames : Nat
  rxUnbound : Nat
  rxLost : Nat
  rxRemote : Nat
  busOffs : Nat
  txFrames : Nat
  txDiscarded : Nat
  txExpired : Nat
  /-- ERR_STUFF, ERR_FORM, ERR_ACK, ERR_BIT, ERR_CRC (R399). -/
  errs : List Nat
  txDuplicate : Nat
  /-- Elapsed instants of the last loss and the last discard (R385, R387). -/
  lastLost : Option Nat
  lastDiscard : Option Nat
  statusNext : Nat
  deriving DecidableEq, Repr, Inhabited

/-- A set-point object (R388). -/
structure CanObj where
  /-- Raw value in force once an order has been given; INIT_RAW before. -/
  raw : Option Int
  /-- Count of the object's frames (R392). -/
  frames : Nat
  next : Nat
  deriving DecidableEq, Repr, Inhabited

/-- A set-point order from a CAN frame that waits for the close of its beat batch (R172, R186). -/
structure CanOrder where
  loop : Nat
  owner : Nat
  val : Int
  stamp : Nat
  /-- The stamp as comparisons see it (R29). -/
  cmp : Nat
  deriving DecidableEq, Repr, Inhabited

/-- A KD_CAN_TX with an AT_STAMP that waits for its boundary (R389). -/
structure CanHost where
  post : Post
  acc : Nat
  start : Nat
  deriving DecidableEq, Repr, Inhabited

/-- The count of a COUNT signal and the field it was last formed from (R386). -/
structure CanCount where
  sig : Nat
  count : Nat
  field : Nat
  deriving DecidableEq, Repr, Inhabited

/-- State of the CAN controllers. -/
structure Can where
  ctl : List CanCtl
  objs : List CanObj
  batch : List CanSlot
  orders : List CanOrder
  counts : List CanCount
  host : List CanHost
  deriving DecidableEq, Repr, Inhabited

end Sys2Proof.Machine
end

