-- ==== Sys2Proof/Machine/State/Display.lean ====
section
/-!
DEFINITION. State of the cab display (R417–R429). A set of pixels is a number: bit 8·j + i is pixel
(i, j).
-/
namespace Sys2Proof.Machine

/-- Display states (R424), in the encoding order of R429. -/
inductive DispState where
  | off | rails | clearing | showing | shutdown
  deriving DecidableEq, Repr, Inhabited

/-- A host map that waits for its frame boundary, with the command that carries it (R423). -/
structure DispMap where
  image : Nat
  post : Post
  acc : Nat
  deriving DecidableEq, Repr, Inhabited

/-- State of the display. -/
structure Display where
  state : DispState
  blEn : Bool
  lcdEn0 : Bool
  lcdEn1 : Bool
  /-- Elapsed instant of the entry to RAILS, or of the latest step of a shut-down (R425, R426). -/
  stepEl : Nat
  /-- Steps of the shut-down: 1 the scan runs on, 2 LCD_EN1 is low, 3 LCD_EN0 is low (R426). -/
  shutStep : Nat
  /-- Polarity of the frame in progress, + when set; frames since the rate changed, and the elapsed
  instant of that change (R418, R420). -/
  plus : Bool
  rateFrames : Nat
  rateEl : Nat
  hz : Nat
  /-- Pixels on in the frame in progress, and those with A = +1 and A = −1 (R419). -/
  shown : Nat
  accPlus : Nat
  accMinus : Nat
  /-- A pixel has been on since the scan began (R426). -/
  anyOn : Bool
  frames : Nat
  deferred : Nat
  /-- An enable waits for the end of the shut-down; the next record carries AFTER_SHUTDOWN (R424). -/
  held : Bool
  afterShutdown : Bool
  /-- Host image in force with its CORRELATION, and the map that waits (R421, R423). -/
  hostImage : Nat
  mapCorr : Nat
  waiting : Option DispMap
  mapEver : Bool
  lastMapEl : Nat
  silent : Bool
  /-- Status conditions of R422 as last evaluated, bit c. -/
  conds : Nat
  band : Nat
  bandDue : Nat
  statusNext : Nat
  deriving DecidableEq, Repr, Inhabited

end Sys2Proof.Machine
end

