-- ==== Sys2Proof/Machine/State/Field.lean ====
section
/-!
DEFINITION. State of the field inputs, counters and outputs (R354–R377).
-/
namespace Sys2Proof.Machine

/-- The changes of an input in the present beat interval (R357): first stamp, level after it, further
changes. -/
structure DiChange where
  stamp : Nat
  level : Bool
  extra : Nat
  deriving DecidableEq, Repr, Inhabited

/-- One digital input (R355–R357). -/
structure Di where
  /-- Integrator of the filter where it last stood at FILTER_N or 0, and the elapsed instant of that sample
  (R355). -/
  acc : Nat
  accEl : Nat
  level : Bool
  change : Option DiChange
  deriving DecidableEq, Repr, Inhabited

/-- An edge: its stamp, and the stamp as comparisons see it after a step (R29). -/
structure Edge where
  ft : Nat
  cmp : Int
  deriving DecidableEq, Repr, Inhabited

/-- One counter (R358–R363). -/
structure Counter where
  /-- Counted edges since power-up (R359). -/
  total : Nat
  /-- Edges since the last refresh of signal 64 + n, in order (R359). -/
  fresh : List Edge
  gateOpen : Nat
  gateNext : Nat
  /-- Edges of the open gate, the first and latest of them, the latest edge before those, and edges
  that already belong to the next gate (R360). -/
  n : Nat
  first : Option Edge
  last : Option Edge
  prev : Option Edge
  ahead : List Edge
  deriving DecidableEq, Repr, Inhabited

/-- A sample of the sixteen analog inputs that already belongs to the next window (R35, R367): its stamp, and value
and status of each input. -/
structure AiAhead where
  stamp : Nat
  vals : List (Int × Nat)
  deriving DecidableEq, Repr, Inhabited

/-- One analog input (R364–R367). -/
structure Ai where
  /-- Filter value once there is one (R365). -/
  y : Option Int
  status : Nat
  shuntOpen : Bool
  /-- Elapsed instant at which the shunt is reclosed (R366). -/
  recloseEl : Nat
  /-- Sum, least, largest and worst status of the window; sums in 1/1000 units. -/
  sum : Int
  least : Int
  largest : Int
  worst : Nat
  deriving DecidableEq, Repr, Inhabited

/-- A duty that waits for a PWM period start (R369): value, the elapsed instant of its effective stamp
and the command that carries it. -/
structure DqDuty where
  duty : Nat
  fromEl : Nat
  post : Option (Post × Nat)
  deriving DecidableEq, Repr, Inhabited

/-- A KD_DQ_SET that waits for its boundary (R370). -/
structure DqHost where
  post : Post
  acc : Nat
  start : Nat
  deriving DecidableEq, Repr, Inhabited

/-- One digital output (R368–R372). -/
structure Dq where
  /-- MODE and PWM_FREQ_HZ in force (R377). -/
  pwm : Bool
  freq : Nat
  /-- Duty commanded in force, Q1.30, and the on-time in counts with the period of R368. -/
  duty : Nat
  onCounts : Nat
  period : Nat
  /-- Elapsed instant of a PWM period start. -/
  phaseEl : Nat
  wait : Option DqDuty
  latched : Bool
  openOn : Bool
  short : Bool
  deriving DecidableEq, Repr, Inhabited

/-- State of the field I/O. -/
structure Field where
  di : List Di
  counters : List Counter
  ai : List Ai
  dq : List Dq
  host : List DqHost
  aiNext : Nat
  /-- Window of KD_AI_REPORT (R367): its start, its samples and the latest sample's stamp. -/
  winStart : Nat
  winNext : Nat
  samples : Nat
  lastSample : Nat
  ahead : List AiAhead
  /-- First instant of the 1 µs filter grid after the latest step (R28, R355). -/
  diFrom : Nat
  /-- Elapsed instant of the power-up, after which the first sample of the inputs is taken (R355). -/
  diStartEl : Nat
  /-- Supplies off by fault, and the elapsed instants of the next retries (R375). -/
  fault5 : Bool
  fault10 : Bool
  retry5 : Nat
  retry10 : Nat
  vdqLow : Bool
  /-- VDQ_MV, SUP5_MV, SUP10_MV, SUP5_MA, SUP10_MA as last measured (R376). -/
  vdqMv : Nat
  sup5Mv : Nat
  sup10Mv : Nat
  sup5Ma : Nat
  sup10Ma : Nat
  statusNext : Nat
  deriving DecidableEq, Repr, Inhabited

end Sys2Proof.Machine
end

