-- ==== Sys2Proof/Machine/State/Modem.lean ====
section
/-!
DEFINITION. State of the modem port (R401–R416).
-/
namespace Sys2Proof.Machine

/-- A received byte with the stamps of the middles of its start and stop bits (R406). -/
structure MByte where
  b : Byte
  start : Nat
  stop : Nat
  deriving DecidableEq, Repr, Inhabited

/-- A complete inbound record that waits for the reader (R405, R406). -/
structure MRec where
  /-- RTCM frame, else envelope. -/
  rtcm : Bool
  bytes : List Byte
  acc : Nat
  eff : Nat
  deriving DecidableEq, Repr, Inhabited

/-- An outbound record (R408–R410). -/
structure MTx where
  wire : List Byte
  sent : Nat
  post : Option (Post × Nat)
  inEl : Nat
  endEl : Option Nat
  old : Bool
  copy : Bool
  deriving DecidableEq, Repr, Inhabited

/-- A KD_MODEM_TX that waits for AT_STAMP (R408). -/
structure MHost where
  post : Post
  acc : Nat
  start : Nat
  deriving DecidableEq, Repr, Inhabited

/-- State of the modem port. -/
structure Modem where
  /-- Settings in force (R411): ENABLE, STREAM, polarity flags and BAUD follow them, the other fields
  the Catalogue. -/
  recd : List Byte
  /-- Bytes in the two inbound Folios (R403). -/
  fill : Nat
  drain : Nat
  /-- Bytes not yet in a complete record, and complete records, oldest first. -/
  part : List MByte
  recs : List MRec
  /-- A loss since the last record that was passed on (R407). -/
  loss : Bool
  /-- Sizes of the records in the lanes' intake, oldest first (R405). -/
  intake : List Nat
  hold : Bool
  ready : Bool
  /-- `MDM_READY` was released while records were sent: a character already started may still complete (R409). -/
  started : Bool
  /-- `MDM_RING` has been asserted (R412). -/
  ring : Bool
  /-- A shut-down waits for the record in transmission (R411). -/
  shutdown : Bool
  afterShutdown : Bool
  /-- Outbound records (R408), and the KD_MODEM_TX that wait. -/
  out : List MTx
  host : List MHost
  txSeq : Nat
  /-- Elapsed instant since which a record waits without a character sent, and the stall was raised. -/
  waitEl : Nat
  stalled : Bool
  rxCount : Nat
  rxBytes : Nat
  txBytes : Nat
  overrun : Nat
  lineErrors : Nat
  recordErrors : Nat
  discarded : Nat
  holds : Nat
  txDuplicate : Nat
  txExpired : Nat
  /-- Elapsed instants of the last overrun, line error and record error. -/
  lastOverrun : Option Nat
  lastLine : Option Nat
  lastRecord : Option Nat
  statusNext : Nat
  deriving DecidableEq, Repr, Inhabited

end Sys2Proof.Machine
end

