-- ==== Sys2Proof/Machine/State/Control.lean ====
section
/-!
DEFINITION. State of the signal catalogue (R169–R173), of the 128 loop slots (R166–R196, R206–R216)
and of the 16 min-select groups (R197–R205).
-/
namespace Sys2Proof.Machine

/-- One value of a signal: its accession stamp, the stamp that comparisons use after steps (R167), and
the word. -/
structure Sample where
  stamp : Nat
  cmp : Int
  val : Int
  deriving DecidableEq, Repr, Inhabited

/-- A signal with the values it keeps, latest stamp first. -/
structure Sig where
  num : Nat
  hist : List Sample
  deriving DecidableEq, Repr, Inhabited

/-- An input of the open beat batch (R172), with its place among inputs of the same stamp: tie rank, then channel
(R13, R14). -/
structure PendIn where
  num : Nat
  tie : Nat
  s : Sample
  deriving DecidableEq, Repr, Inhabited

/-- The signal catalogue: signals that have had a value, by number, the open batch in stamp order, and the beat
boundary of the batch that closed last (R172). -/
structure Signals where
  tab : List Sig
  pend : List PendIn
  closed : Nat
  deriving DecidableEq, Repr, Inhabited

/-- A set-point order (R186). -/
structure Order where
  owner : Nat
  val : Int
  acc : Nat
  cmp : Int
  /-- The host command that carries it, for its completion. -/
  post : Option Post
  deriving DecidableEq, Repr, Inhabited

/-- Loop states (R211), in the encoding order of R195. -/
inductive LoopState where
  | off | starting | serving | recovering
  deriving DecidableEq, Repr, Inhabited

/-- Actions in force (R210). -/
inductive LoopAct where
  | none | hold | fallback
  deriving DecidableEq, Repr, Inhabited

/-- A KD_LOOP_ENABLE that waits for a sample boundary (R193, R213, R214). -/
structure LoopCmd where
  /-- 0 disable, 1 enable, 2 clear sticky flags. -/
  action : Nat
  post : Post
  stamp : Nat
  decided : Nat
  deriving DecidableEq, Repr, Inhabited

/-- A shut-down that runs (R213): until an instant, or until the quench of the valve channel ends. -/
inductive Shutdown where
  | no
  | until (t : Nat)
  | quench (channel : Nat)
  deriving DecidableEq, Repr, Inhabited

/-- The stored states of the law (R177). -/
structure LawSt where
  i : Int
  dF : Int
  edPrev : Int
  uPrev : Int
  wPrev : Int
  outPrev : Int
  deriving DecidableEq, Repr, Inhabited

/-- A value that has been handed on and takes effect at an instant, with its destination (R181, R184). -/
structure Owed where
  at_ : Nat
  type : Nat
  index : Nat
  scale : Nat
  val : Int
  deriving DecidableEq, Repr, Inhabited

/-- One loop slot. -/
structure Loop where
  /-- Law record in force; none while the slot has none (R190). -/
  law : Option (List Byte)
  /-- Supervision record in force (R215). -/
  sup : List Byte
  state : LoopState
  /-- The next sample is the first of Starting (R212). -/
  fresh : Bool
  /-- Next sample boundary, and the two before it as comparisons see them. -/
  next : Nat
  last : Option Int
  prev : Option Int
  /-- Samples still to carry STEPPED (R167). -/
  stepped : Nat
  st : LawSt
  /-- Output handed on at the last sample, to take effect at the next boundary (R184). -/
  due : Option Int
  /-- What the slot had handed on when a commit took its law record away (R184, R213). -/
  owed : Option Owed
  /-- The boundary whose value has taken effect already, with the other valve requests of that boundary (R223). -/
  applied : Option Nat
  /-- The state has changed at the boundary that is being sampled: its record follows with the sample (R195, R211). -/
  changed : Bool
  /-- The loop has had an output since power-up (R212). -/
  everOut : Bool
  y : Int
  /-- Accession stamp of the feedback value taken at the last sample, and the stamp that comparisons
  use; none where the signal had no value (R195). -/
  fb : Option (Nat × Int)
  ff : Int
  /-- Set-point in force, its order's stamp and CORRELATION (R187). -/
  sp : Int
  spCmp : Option Int
  spCorr : Nat
  orders : List Order
  sticky : Nat
  now : Nat
  samples : Nat
  superseded : Nat
  refused : Nat
  late : Nat
  /-- 0 not in a group, 1 winner, 2 losing member (R195). -/
  role : Nat
  /-- The destination refused the last value (R185). -/
  destRefused : Bool
  act : LoopAct
  /-- Samples until the action is released; 0 with `actTimed` means due (R210). -/
  actLeft : Nat
  actTimed : Bool
  /-- Plausibility model (R206). -/
  ym : Int
  bias : Int
  eff : List Int
  plausCount : Nat
  /-- The model starts anew with the feedback of the next sample (R215). -/
  plausNew : Bool
  /-- Sign-change marks of the last samples, newest first, and the sign of the previous marked
  sample (R207). -/
  osc : List Bool
  oscSign : Option Bool
  /-- Samples since entry, detection or release, and the settle count (R208). -/
  since : Nat
  settle : Nat
  cmds : List LoopCmd
  shut : Shutdown
  /-- First boundary of the shut-down (R214). -/
  shutAt : Nat
  deriving DecidableEq, Repr, Inhabited

/-- One min-select group. -/
structure Group where
  /-- Record in force (R204). -/
  recd : List Byte
  ever : Bool
  /-- Winner of the previous evaluation. -/
  winner : Option Nat
  /-- Evaluations counted for REPORT_DIV (R203). -/
  evals : Nat
  sinceChange : Nat
  changes : Nat
  out : Int
  /-- Output handed on, to take effect at the next boundary. -/
  due : Option Owed
  /-- The boundary whose value has taken effect already, with the other valve requests of that boundary (R223). -/
  applied : Option Nat
  /-- A member took part in the previous evaluation (R202). -/
  tookPart : Bool
  destRefused : Bool
  deriving DecidableEq, Repr, Inhabited

/-- The Control Engine. -/
structure Control where
  loops : List Loop
  groups : List Group
  deriving DecidableEq, Repr, Inhabited

end Sys2Proof.Machine
end

