-- ==== Sys2Proof/Machine/State/Passage.lean ====
section
/-!
DEFINITION. State of the Crop Passage Engine (R118–R165).
-/
namespace Sys2Proof.Machine

/-- Passage states (R137), in encoding order. -/
inductive PassState where
  | empty | cutting | runout
  deriving DecidableEq, Repr, Inhabited

/-- What one channel has gathered in a Slice (R149), by its TYPE then and, for QUALITY, the class (R146). -/
structure Acc where
  ch : Nat
  ty : Nat
  cls : Nat
  sum : F64
  wsum : F64
  vsum : F64
  deriving DecidableEq, Repr, Inhabited

/-- One tap interval of a Slice (R145). -/
structure Tap where
  /-- Number of the tap interval, counted on the tap grid (R130). -/
  num : Nat
  /-- Its window, as comparisons see it. -/
  t0 : Int
  t1 : Int
  a : F64
  rho : F64
  rhoDefault : Bool
  /-- Stamp of the DENSITY_SIG value behind ρ_cut, 0 for none (R160). -/
  rhoIn : Nat
  deriving DecidableEq, Repr, Inhabited

/-- One Slice (R118–R124, R149–R153). -/
structure Slice where
  idx : Nat
  s : Nat
  /-- Header state at its start (R121). -/
  down0 : Option Bool
  /-- TIME_EPOCH at its start (R254). -/
  epoch : Nat
  /-- First Slice of a new crop (R141). -/
  boundary : Bool
  /-- The crop change that takes effect with it (R140). -/
  change : Option (Post × Nat)
  /-- The number of the tap instant that ends it, 0 while it is open. -/
  endTap : Nat
  finalised : Bool
  taps : List Tap
  area : Nat
  lat : Int
  lon : Int
  heading : Nat
  sections : Nat
  /-- SECTION_WIDTH_MM of the SECTION_COUNT sections in force at s (R251). -/
  secW : List Nat
  /-- DURATION_US (R124). -/
  durUs : Nat
  noPose : Bool
  poseDegraded : Bool
  width : Nat
  speed : Int
  crop : Nat
  cut : Bool
  settled : Bool
  stepped : Bool
  /-- Generation in force at s (R153). -/
  gen : Nat
  /-- What the channels have given it, by channel, TYPE and class (R149). -/
  accs : List Acc
  genMixed : Bool
  stalled : Bool
  truncated : Bool
  stale : Bool
  speedStale : Bool
  samples : Nat
  lastIn : Nat
  deriving DecidableEq, Repr, Inhabited

/-- A hop's running values and conditions (R126, R127, R134, R144). -/
structure Hop where
  aUs : F64
  tauUs : F64
  v : F64
  stalled : Bool
  speedStale : Bool
  /-- Stamp of the latest SPEED_SIG value that v is formed from, 0 for none (R127). -/
  vIn : Nat
  /-- A commit or restore resets the running values to the posted ones at the next tap instant (R135, R142). -/
  revert : Bool
  aAtBound : Bool
  tauAtBound : Bool
  lastConf : Nat
  /-- Correlator histories (R131): values of UP_SIG and DOWN_SIG at tap instants, newest first. -/
  u : List Int
  y : List Int
  /-- Hop speeds at the taps of the open window (R132). -/
  vWin : List F64
  /-- Taps of the open window, and what spoils it (R133). -/
  taps : Nat
  cutTaps : Nat
  sawStalled : Bool
  sawStale : Bool
  sawCrop : Bool
  sawSettings : Bool
  sawStep : Bool
  /-- Latest stamp of the inputs that have contributed to the open window, 0 for none (R136). -/
  lastIn : Nat
  winStart : Nat
  winNext : Nat
  deriving DecidableEq, Repr, Inhabited

/-- A Stage's kernel (R128): Q1.30 weights, D in µs, and the flags of the hops into it. -/
structure Kernel where
  w : List Nat
  deadUs : F64
  truncated : Bool
  stalled : Bool
  speedStale : Bool
  deriving DecidableEq, Repr, Inhabited

/-- A crop change that waits (R140). -/
structure CropChange where
  crop : Nat
  /-- AT_STAMP, a Field Time value; and the command's accession stamp + 2 ms, as comparisons see it. -/
  at_ : Nat
  after : Nat
  post : Post
  stamp : Nat
  deriving DecidableEq, Repr, Inhabited

/-- The orphan accumulation (R154). -/
structure Orphan where
  openAt : Nat
  openEl : Nat
  /-- Header centre at the opening (R153). -/
  lat : Int
  lon : Int
  gen : Nat
  stale : Bool
  genMixed : Bool
  gotMass : Bool
  mass : F64
  loss : F64
  samples : Nat
  lastIn : Nat
  deriving DecidableEq, Repr, Inhabited

/-- One usable frame's class fractions (R146 TYPE 4): pipeline, trigger stamp, fractions. -/
structure QualityIn where
  pipe : Nat
  stamp : Nat
  cmp : Int
  fracs : List Nat
  deriving DecidableEq, Repr, Inhabited

/-- An entry of the density queue (R157). -/
structure Dens where
  pos : F64
  rho : F64
  dflt : Bool
  /-- Stamp of the DENSITY_SIG value, 0 for none (R160). -/
  stamp : Nat
  deriving DecidableEq, Repr, Inhabited

/-- State of the Crop Passage Engine. -/
structure Passage where
  state : PassState
  /-- SLICE_INDEX of the Slice that is open. -/
  nextIdx : Nat
  /-- Slices, the open one first, at most 16 384 finalised ones (R119). -/
  slices : List Slice
  /-- LAST_CUT_END E (R137, R144) and the number of its tap instant. -/
  e : Nat
  eTap : Nat
  everCut : Bool
  /-- Number of the last tap instant (R130). -/
  tapNum : Nat
  /-- Last tap instant and Slice grid instant, as comparisons see them. -/
  tapAt : Int
  tapNext : Nat
  sliceNext : Nat
  /-- Tap number at the last Field Time step, if any (R130). -/
  stepTap : Option Nat
  headerDown : Option Bool
  /-- Chain record in force for the open Slice (R142). -/
  chain : List Byte
  /-- Latest stamp of the inputs used for the last tap (R124, R160). -/
  lastIn : Nat
  hops : List Hop
  /-- STAGE_COUNT in force since the last tap instant (R142, R144). -/
  stages : Nat
  /-- Kernels of S1–S7 built at the last tap instant. -/
  kernels : List Kernel
  /-- Truncation seen at the tap before (R129). -/
  wasTrunc : List Bool
  crop : Nat
  change : Option CropChange
  inFlight : Bool
  /-- Tap number of the end of the last Slice of the old crop (R141). -/
  oldEndTap : Nat
  orphan : Option Orphan
  /-- The header-centre odometer at the instant `odoAt`, up to which v is known (R120, R157). -/
  odo : F64
  odoAt : Int
  dens : List Dens
  frames : List QualityIn
  statusNext : Nat
  /-- Tap number of the first tap since power-up. -/
  firstTap : Nat
  /-- Saved at key-off (R135, R141): running values, their generation and the crop. -/
  savedHops : List (F64 × F64)
  savedGen : Nat
  savedCrop : Nat
  deriving DecidableEq, Repr, Inhabited

end Sys2Proof.Machine
end

