-- ==== Sys2Proof/Machine/State/Engines.lean ====
section
/-!
DEFINITION. What a lane computes in (R42, R60): Catalogue, signals, Control Engine, Crop Passage Engine, positioning,
fusion and map. Lanes of equal versions in the live stream compute alike (R44), and the State holds what they compute
once; a checkpoint is a copy of it.
-/
namespace Sys2Proof.Machine

/-- The complete state of a lane (R60). -/
structure Engines where
  cat : Cat
  sig : Signals
  ctl : Control
  pas : Passage
  pos : Pos
  fus : Fusion
  map : MapU
  deriving DecidableEq, Repr, Inhabited

end Sys2Proof.Machine

namespace Sys2Proof.Config

/-- What a Shadow lane has computed when it is promoted: its version need not compute the same values, and the spec
gives none of them (R62, R63; log entry 76). A free value. -/
opaque shadowEngines : Nat → Machine.Engines

end Sys2Proof.Config
end

