-- ==== Sys2Proof/Machine/State/Lanes.lean ====
section
/-!
DEFINITION. State of the two lanes as the Curator sees them, and of the Curator itself (R42–R66,
R448–R459, R539, R540).
-/
namespace Sys2Proof.Machine

/-- Lane states (R52), in the encoding order of R66. -/
inductive LaneState where
  | off | booting | rebuilding | standby | active | shadow
  deriving DecidableEq, Repr, Inhabited

/-- Phases of a rebuild attempt (R60, R540). -/
inductive RebuildPhase where
  | none | requested | captured | received | replaying | live
  deriving DecidableEq, Repr, Inhabited

/-- A firmware version with its settings format (R52, R452). -/
structure Version where
  major : Nat
  minor : Nat
  patch : Nat
  format : Nat
  deriving DecidableEq, Repr, Inhabited

/-- One lane. -/
structure Lane where
  state : LaneState
  /-- The lane has sent a valid heartbeat since its release (R539). -/
  started : Bool
  /-- Beat number of its previous valid heartbeat, and the elapsed instant it arrived (R47, R48). -/
  hbBeat : Option Nat
  hbAt : Nat
  /-- Beats of valid heartbeats since its release into Booting (R63, R449). -/
  hbBeats : Nat
  /-- Beat number of the latest heartbeat that it has sent itself (R45, R47). -/
  hbSent : Nat
  /-- What its previous valid heartbeat carried: lane state and self-check verdict (R47); the Curator knows the lane's
  state, which it does not between its own restart and the lane's next heartbeat (R51). -/
  hbState : Nat
  hbPass : Bool
  known : Bool
  /-- Version that the lane runs or last ran (R517); all 0 before its first start. -/
  ver : Version
  /-- Elapsed instant of its release into Booting (R539). -/
  bootAt : Nat
  /-- The Curator holds the lane in reset (R54, R467). -/
  inReset : Bool
  /-- Rails of the lane that are out of tolerance (R467). -/
  rails : List Nat
  /-- Unpaired signatures (beat number, signature), oldest first, at most 16; none for a beat that has been counted
  absent because its message failed the CRC (R46). -/
  sigs : List (Nat × Option Nat)
  /-- Rebuild attempt 0–3 and its phase (R60, R61). A lane released at power-up is `live` from the
  start: it starts from the same stored state as the other (R53). -/
  attempt : Nat
  phase : RebuildPhase
  /-- Elapsed instant of the first beat B0, and Field Time of the checkpoint beat kC (R60). -/
  b0 : Nat
  kC : Nat
  /-- Field Time of the first beat B0 in the input journal, none while none is written: the inputs from there on are
  those of the one stream (R43, R60). -/
  journal : Option Nat
  /-- The checkpoint that the Active lane has captured for it, and the state that it has loaded and replays its journal
  from; in the live stream it computes what the other lane computes (R44, R60). -/
  ckpt : Option Engines
  own : Option Engines
  /-- Agreeing beats in a row while Rebuilding and live (R61). -/
  agreeRun : Nat
  /-- Self-check verdict given since the order (R49). -/
  verdict : Option Bool
  /-- Elapsed instant of the last Curator status message, and whether its lack has been raised (R51). -/
  statusAt : Nat
  linkLost : Bool
  /-- Image slot (0–3) that the lane runs or starts from, and the one it ran from before (R449, R456). -/
  slot : Nat
  prevSlot : Nat
  /-- The image has been loaded and its body hash checked in this start (R450). -/
  loaded : Bool
  deriving DecidableEq, Repr, Inhabited

/-- Why a switch of the commanding lane has been ordered (R54, R59, R63). -/
inductive SwitchWhy where
  | failure | swap | promote
  deriving DecidableEq, Repr, Inhabited

/-- An ordered switch of the commanding lane. -/
structure Switch where
  why : SwitchWhy
  dest : Fin 2
  /-- Command that ordered it, with its accession stamp. -/
  post : Option (Post × Nat)
  /-- Instant kS·T once acknowledged (R54). -/
  kS : Option Nat
  deriving DecidableEq, Repr, Inhabited

/-- Output paths of R57. -/
inductive OutPath where
  | valve | dq | can | modem
  deriving DecidableEq, Repr, Inhabited

/-- The two lanes and the Curator. -/
structure Lanes where
  recto : Lane
  verso : Lane
  /-- The lane that the command selector names (R42, R56). -/
  selector : Option (Fin 2)
  mismatch : Nat
  agree : Nat
  absentTotal : Nat
  mismatchTotal : Nat
  suspended : Bool
  selfcheck : Bool
  /-- Elapsed instant of the self-check order (R49). -/
  selfcheckAt : Nat
  restarted : Bool
  /-- The Curator is in reset or silent (R51). -/
  silent : Bool
  /-- LANE_STATE but CURATOR_RUNNING as the Curator last showed it, while it is silent (R516). -/
  shown : Nat
  switch : Option Switch
  /-- Field Time at which the overlap window ends, and the old lane (R55). -/
  overlap : Option (Nat × Fin 2)
  lastSwitch : Nat
  takeovers : Nat
  discarded : Nat
  /-- Elapsed instant of the first Standby-ready since power-up; AUTO_SWAP has been done (R59). -/
  firstStandby : Option Nat
  autoDone : Bool
  /-- A power-up in which no lane has become Active yet, begun at the elapsed instant W (R53). -/
  startW : Option Nat
  /-- The 3.5 s of R53 are over. -/
  preferOver : Bool
  /-- Output paths whose first command after a takeover has not been accepted yet (R57). -/
  unproven : List OutPath
  /-- Unproven paths that the new lane has commanded, with the elapsed instant of the first command (R57). -/
  tried : List (OutPath × Nat)
  /-- Output paths found silent: their outputs keep their last state (R57). -/
  deadPaths : List OutPath
  /-- Beat number and signature of the latest output vector (R45). -/
  beatSig : Nat × Nat
  /-- Next instant of KD_LANE_STATUS (R66) and of a beat boundary (R45). -/
  statusNext : Nat
  beatNext : Nat
  /-- Curator's own rail faults (R467). -/
  curatorRails : List Nat
  deriving DecidableEq, Repr, Inhabited

end Sys2Proof.Machine
end

