-- ==== Sys2Proof/Machine/State/Platform.lean ====
section
/-!
DEFINITION. State of the platform: image slots (R448–R463), power (R465–R482), ageing and margins
(R484–R494), and the BAR0 registers that hold something of their own (R507–R521).
-/
namespace Sys2Proof.Machine

/-- Image slot states (R448), in encoding order. -/
inductive SlotState where
  | empty | writing | stored | try_ | confirmed | failed
  deriving DecidableEq, Repr, Inhabited

/-- What a slot's header says (R452). -/
structure ImageHdr where
  kind : Nat
  keyIndex : Nat
  major : Nat
  minor : Nat
  patch : Nat
  format : Nat
  /-- FLOOR as major × 2^24 + minor × 2^16 + patch. -/
  floor : Nat
  bodyLen : Nat
  /-- BODY_SHA256, 32 bytes. -/
  sha : List Byte
  deriving DecidableEq, Repr, Inhabited

/-- One image slot (R448). -/
structure Slot where
  state : SlotState
  hdr : ImageHdr
  deriving DecidableEq, Repr, Inhabited

/-- An image command that waits (R454). -/
structure ImgCmd where
  /-- ACTION: 0 STORE, 1 RESTART, 2 SELECT. -/
  action : Nat
  stamp : Nat
  post : Post
  segs : List Segment
  deriving DecidableEq, Repr, Inhabited

/-- State of the image store. -/
structure Images where
  /-- Eight slots (R448). -/
  slots : List Slot
  /-- Rollback floor of kinds 1–3 (R449). -/
  floors : List Nat
  /-- Slot (0–7) that the Curator and the Front-end Section run from, and ran from before. -/
  curSlot : Nat
  feSlot : Nat
  /-- Elapsed instants of the latest start of the two in Serving (R449). -/
  curSince : Nat
  feSince : Nat
  /-- The store in progress: slot, its command and accession stamp (R455). -/
  store : Option (Nat × Post × Nat)
  waiting : List ImgCmd
  deriving DecidableEq, Repr, Inhabited

/-- Power states (R468). -/
inductive PowerState where
  | unpowered | dormant | keeping | serving
  deriving DecidableEq, Repr, Inhabited

/-- Sub-states of Serving (R468), in the encoding order of R480. -/
inductive SubState where
  | run | keyoff | holdup
  deriving DecidableEq, Repr, Inhabited

/-- State of supply, states and start-up. -/
structure Power where
  state : PowerState
  sub : SubState
  wakeSource : Nat
  /-- IGN qualified high. -/
  ign : Bool
  afterShutdown : Bool
  warm : Bool
  keyoffIncomplete : Bool
  undervolt : Bool
  overvolt : Bool
  supplyReturned : Bool
  vbatMv : Nat
  vsMv : List Nat
  plateC : Int
  logicMw : Nat
  powerUps : Nat
  /-- Elapsed quanta in Serving since manufacture up to `servingAt`, and that instant (R480). -/
  servingQ : Nat
  servingAt : Nat
  startMs : Nat
  lastKeyoffMs : Nat
  /-- Wake held during a key-off, by its CODE (R474). -/
  heldWake : Option Nat
  /-- Steps of R473 done, and the elapsed instant K. -/
  keyoffStep : Nat
  keyoffAt : Nat
  /-- Elapsed instants of the supply fall F (R471), of the entry into the present power state, of the
  wake W (R475), and of the wake that serves for WAKE_SERVE_S (R470). -/
  fallAt : Nat
  enteredAt : Nat
  wakeAt : Nat
  /-- The return deadline of R471 is past in this hold-up. -/
  deadlinePast : Bool
  /-- The wake was not by IGN and serves for WAKE_SERVE_S (R470). -/
  timedServe : Bool
  /-- The first beat of an Active lane since the start has been reached (R475). -/
  firstBeat : Bool
  bankCharged : Bool
  perst : Bool
  /-- Shared rails out of tolerance (R467). -/
  rails : List Nat
  statusNext : Nat
  /-- Wake settings kept in the always-on domain (R470, R479): KEEP_MIN, WAKE_MASK, WAKE_TIMER_S,
  WAKE_SERVE_S, KEEP_VBAT_MIN_MV, CAN0 and CAN1 WAKE_EN, RING_WAKE. -/
  aonKeepMin : Nat
  aonWakeMask : Nat
  aonTimerS : Nat
  aonServeS : Nat
  aonKeepMv : Nat
  aonCan0 : Bool
  aonCan1 : Bool
  aonRing : Bool
  /-- ROUTE of EV000–EV007 saved at key-off (R432). -/
  aonRoute : List Nat
  deriving DecidableEq, Repr, Inhabited

/-- State of the margin plan (R484–R494). -/
structure Margin where
  seq : Nat
  trim : List Nat
  /-- STEP of PIX, RECTO, VERSO, FABRIC (R494). -/
  step : List Nat
  /-- Slack in units of 0.01 % of the eight domains in the order of R494. -/
  slack : List Int
  /-- Domains that were short at maximum trim in the previous plan (R488). -/
  shortMax : List Bool
  ladderEnd : Bool
  dramWindow : List Nat
  dramRetention : List Nat
  peMax : Nat
  peMean : Nat
  refreshDays : Nat
  sparePermille : Nat
  holdupUf : Nat
  esrMohm : Nat
  holdupMs : Nat
  /-- Level of R492. -/
  level : Nat
  ageingPpt : Int
  rateUse : Nat
  fetRise : List Nat
  /-- (Serving hours, trims, steps, DRAM windows, PE mean, T_HU) of past plans, newest first (R493). -/
  hist : List (Nat × List Nat × List Nat × List Nat × Nat × Nat)
  lifeHours : Nat
  limiting : Nat
  /-- Steps decided and not yet applied: (domain index in `step`, new step) (R489). -/
  pendingSteps : List (Nat × Nat)
  /-- Elapsed Serving quanta at the last plan, and a plan that fell due outside RUN (R487). -/
  planAt : Nat
  planDue : Bool
  /-- The power-up plan waits for the first beat of Active (R494). -/
  undelivered : Option (List Byte × Nat)
  /-- OCXO ageing fit: (LOCKED day number, sum and count of RATE_PPT) of the last 30 days (R484). -/
  rateDays : List (Nat × Int × Nat)
  /-- Data age of the managed flash: elapsed instant of the last refresh (R490). -/
  refreshedAt : Nat
  deriving DecidableEq, Repr, Inhabited

/-- BAR0 registers with content of their own (R507–R513). -/
structure Bar where
  rtLo : Nat
  rtHi : Nat
  dbLo : Nat
  dbHi : Nat
  retLo : Nat
  retHi : Nat
  dbPollUs : Nat
  deriving DecidableEq, Repr, Inhabited

end Sys2Proof.Machine
end

