-- ==== Sys2Proof/Machine/State/Time.lean ====
section
/-!
DEFINITION. State of Field Time (R10–R41, R541–R543).
-/
namespace Sys2Proof.Machine

/-- The instant: the Field Time counter, a 64-bit count (R2, R10), with the fraction of a quantum that the rate
in force has left over, in units of 2^-11 · 10^-9 q (R543), elapsed quanta, which follow neither a slew nor a step
(R10, R30), and the number of free values drawn so far (the model's own field). -/
structure Now where
  ft : Nat
  frac : Nat
  el : Nat
  free : Nat
  deriving DecidableEq, Repr, Inhabited

/-- Time states (R16), in the encoding order of R40. -/
inductive TimeState where
  | free | holdover | locked
  deriving DecidableEq, Repr, Inhabited

/-- A time solution for a GPS second (R17). -/
structure TimeSol where
  /-- Offset: GNSS time minus Field Time of that second, in q. -/
  offset : Int
  /-- Satellites used with both bands paired and not SUSPECT. -/
  sats : Nat
  deriving DecidableEq, Repr, Inhabited

/-- State of Field Time. -/
structure TimeU where
  state : TimeState
  /-- TIME_EPOCH, 16 bits (R26). -/
  epoch : Nat
  /-- Uncertainty u0 in ps at the elapsed instant `uAt` (R19, R542). -/
  u0 : Nat
  uAt : Nat
  /-- The growth at `uAt` is that of HOLDOVER (R19). -/
  uHold : Bool
  /-- UNKNOWN (R19). -/
  unknown : Bool
  slewing : Bool
  /-- Frequency estimate F and rate R of R543, in units of 2^-11 ppb: exact in binary64. -/
  f : Int
  r : Int
  /-- OFFSET_Q of the latest valid interval (R40). -/
  offset : Int
  anyValid : Bool
  /-- Intervals in a row that are valid with |offset| at most 50 ns (R22). -/
  lockRun : Nat
  /-- Invalid intervals in a row (R22). -/
  invalidRun : Nat
  /-- Confirmation run and the offset of its last interval (R24). -/
  confirmRun : Nat
  confirmLast : Int
  /-- STEP_PENDING and its amount (R24, R25). -/
  pending : Option Int
  /-- Step amount that is fixed and the GPS second of its step instant (R24, R26). -/
  fixedStep : Option (Int × Nat)
  /-- The latest step: its instant in the new count and its amount (R29, R30). -/
  lastStep : Option (Nat × Int)
  frozen : Bool
  ocxoWarm : Bool
  /-- Elapsed instant at which the OCXO was powered (R22). -/
  ocxoOnAt : Nat
  tpOut : Bool
  /-- Elapsed instant at which TP_OUT falls (R31). -/
  tpEnd : Nat
  timeOk : Bool
  /-- Next GPS second for TP_OUT (R27) and for the end of a discipline interval. -/
  tpNext : Nat
  intNext : Nat
  /-- TIME_IN_USED, TIME_IN_OFFSET_Q and TIME_IN_REJECTS (R33, R34, R40). -/
  timeInUsed : Bool
  timeInOffset : Int
  timeInRejects : Nat
  /-- Elapsed instant at which discipline was last valid (R542, HOLDOVER_S). -/
  lastValid : Nat
  /-- The time solution for the coming second and whether a clock check failed in the interval (R17). -/
  sol : Option TimeSol
  clockFail : Bool
  /-- Field Time stored at the last key-off, and what is stored with it (R19, R473). -/
  savedFt : Nat
  /-- Elapsed instant at which the count was handed to the always-on domain (R19). -/
  aonSince : Nat
  /-- FT_SNAP capture (R519). -/
  snap : Nat
  /-- When the state last came to be LOCKED or ceased to be, latest first (R100). -/
  lockLog : List (Nat × Bool)
  deriving DecidableEq, Repr, Inhabited

end Sys2Proof.Machine
end

