-- ==== Sys2Proof/Machine/State/Reset.lean ====
section
/-!
DEFINITION. Each unit right after reset: the values that the spec gives (R19, R52, R93, R137, R166,
R509) and, where it gives none, the values that log entry 1 names.
-/
namespace Sys2Proof.Machine

/-- A ring-table entry of zeros: the ring is unused (R70). -/
def RingEntry.zero : RingEntry := ⟨0, 0, 0, 0, 0, 0, 0, 0, 0, 0⟩

/-- A submission ring at reset (R509): Unused. -/
def Sr.reset : Sr := ⟨.unused, RingEntry.zero, none, 0, 0, 0, 0, [], 0⟩

/-- A delivery ring at reset (R509): Unused, empty backlog. -/
def Dr.reset : Dr := ⟨.unused, RingEntry.zero, none, 0, 0, 0, [], [], [], 0, none, [], [], []⟩

/-- An MSI-X vector at reset: masked, its other fields 0 (R521). -/
def MsixVec.reset : MsixVec := ⟨0, 0, 0, true, false, 0⟩

/-- The host link at reset (R509). -/
def Link.reset : Link :=
  { up := false, speed := 0, width := 0, trained := (0, 0), l1 := false, d3hot := false
    sr := List.replicate 32 Sr.reset, dr := List.replicate 32 Dr.reset
    words := List.replicate 64 0
    running := false, tableBad := false, badEntry := 0, badReason := 0
    dozing := false, phase := .awake, dozeAt := 0, dozeCount := 0, discardedAtGo := 0
    resets := 0, pollFails := 0, failRun := 0, aerCorr := 0, aerUncorr := 0
    pollUs := 20, pollAt := none, pollsIssued := 0, pollsDone := 0
    everSetUp := false, route := List.replicate 32 0, compRing := List.replicate 32 0
    msix := List.replicate 64 MsixVec.reset, stream := []
    undelivered := List.replicate 32 0
    statusNext := 10 * qSec, countsNext := 10 * qSec
    goPending := false, setupRunning := false }

/-- The event sources at reset: no window open. -/
def Events.reset : Events := ⟨[]⟩

/-- The Ledger at reset: no record has been written since manufacture (R437, R440; log entry 1). -/
def Ledger.reset : Ledger :=
  { slots := [], headSeq := 0, headSlot := 0, founding := 0, drops := [0, 0, 0, 0], queue := []
    lastDrop := none, cmd := none, waiting := [], cursor := 0 }

/-- Host link, event sources and Ledger at reset. -/
def Hub.reset : Hub := ⟨Link.reset, Events.reset, Ledger.reset, []⟩

/-- Field Time at reset: FREE with the uncertainty saturated and UNKNOWN set, as after the always-on
domain lost its supply (R19); F is 0 (R543); nothing stored at a last key-off (log entry 1). -/
def TimeU.reset : TimeU :=
  { state := .free, epoch := 0, u0 := 0xFFFFFFFF * 1000, uAt := 0, uHold := false, unknown := true
    slewing := false, f := 0, r := 0, offset := 0, anyValid := false, lockRun := 0, invalidRun := 0
    confirmRun := 0, confirmLast := 0, pending := none, fixedStep := none, lastStep := none, frozen := false
    ocxoWarm := false, ocxoOnAt := 0, tpOut := false, tpEnd := 0, timeOk := false
    tpNext := qSec, intNext := qSec, timeInUsed := false, timeInOffset := 0, timeInRejects := 0
    lastValid := 0, sol := none, clockFail := false, savedFt := 0, aonSince := 0, snap := 0
    lockLog := [] }

/-- A lane at reset: Off (R52), its version registers 0 (R517). -/
def Lane.reset (slot : Nat) : Lane :=
  { state := .off, started := false, hbBeat := none, hbAt := 0, hbBeats := 0, hbSent := 0
    hbState := 0, hbPass := false, known := true, journal := none, ckpt := none, own := none, ver := ⟨0, 0, 0, 0⟩
    bootAt := 0, inReset := true, rails := [], sigs := [], attempt := 0, phase := .none, b0 := 0
    kC := 0, agreeRun := 0, verdict := none, statusAt := 0, linkLost := false, slot := slot
    prevSlot := slot, loaded := false }

/-- The lanes and the Curator at reset (R52, R66). -/
def Lanes.reset : Lanes :=
  { recto := Lane.reset 0, verso := Lane.reset 2, selector := none, mismatch := 0, agree := 0
    absentTotal := 0, mismatchTotal := 0, suspended := false, selfcheck := false, selfcheckAt := 0
    restarted := false, silent := false, shown := 0, switch := none, overlap := none, lastSwitch := 0
    takeovers := 0, discarded := 0, firstStandby := none, autoDone := false, startW := none
    preferOver := false, unproven := [], tried := [], deadPaths := [], beatSig := (0, 0), statusNext := 1000 * qBeat
    beatNext := qBeat, curatorRails := [] }

/-- The Catalogue at reset: generation 0, every record at its defaults, in settings format 1
(R115; log entry 1). -/
def Catalog.new (format : Nat) : Catalog := ⟨format, [], 0, 0, 0, []⟩

/-- The Catalogue manager at reset. -/
def Cat.reset : Cat := ⟨[Catalog.new 1], none, [], [Catalog.new 1]⟩

/-- A header of an empty slot. -/
def ImageHdr.none : ImageHdr := ⟨0, 0, 0, 0, 0, 0, 0, 0, []⟩

/-- The header of the image that log entry 1 presumes in each CONFIRMED slot at reset. -/
def ImageHdr.first (kind : Nat) : ImageHdr := ⟨kind, 0, 1, 0, 0, if kind = 1 then 1 else 0, 0, 64, []⟩

/-- The image slots at reset: slot A of each unit CONFIRMED, slot B EMPTY (log entry 1). -/
def Images.reset : Images :=
  { slots := [⟨.confirmed, ImageHdr.first 1⟩, ⟨.empty, ImageHdr.none⟩, ⟨.confirmed, ImageHdr.first 1⟩,
      ⟨.empty, ImageHdr.none⟩, ⟨.confirmed, ImageHdr.first 2⟩, ⟨.empty, ImageHdr.none⟩,
      ⟨.confirmed, ImageHdr.first 3⟩, ⟨.empty, ImageHdr.none⟩]
    floors := [0, 0, 0], curSlot := 4, feSlot := 6, curSince := 0, feSince := 0, store := none, waiting := [] }

/-- Power at reset: Unpowered (R468, R469). -/
def Power.reset : Power :=
  { state := .unpowered, sub := .run, wakeSource := 0, ign := false, afterShutdown := false
    warm := false, keyoffIncomplete := false, undervolt := false, overvolt := false
    supplyReturned := false, vbatMv := 0, vsMv := List.replicate 6 0, plateC := 25, logicMw := 0
    powerUps := 0, servingQ := 0, servingAt := 0, startMs := 0, lastKeyoffMs := 0, heldWake := none
    keyoffStep := 0, keyoffAt := 0, fallAt := 0, enteredAt := 0, wakeAt := 0, deadlinePast := false
    timedServe := false, firstBeat := false, bankCharged := false, perst := true, rails := []
    statusNext := 0, aonKeepMin := 30, aonWakeMask := 1, aonTimerS := 3600, aonServeS := 300
    aonKeepMv := 23000, aonCan0 := false, aonCan1 := false, aonRing := true
    aonRoute := List.replicate 8 3 }

/-- The margin plan at reset: none formed since manufacture (R487, R494; log entry 1). -/
def Margin.reset : Margin :=
  { seq := 0, trim := [0, 0, 0, 0], step := [0, 0, 0, 0], slack := List.replicate 8 0
    shortMax := List.replicate 8 false, ladderEnd := false, dramWindow := [32, 32]
    dramRetention := [128, 128], peMax := 0, peMean := 0, refreshDays := 365, sparePermille := 1000
    holdupUf := 0, esrMohm := 0, holdupMs := 120, level := 0, ageingPpt := 0, rateUse := 0
    fetRise := List.replicate 24 0, hist := [], lifeHours := 0xFFFFFFFF, limiting := 0
    pendingSteps := [], planAt := 0, planDue := false, undelivered := none, rateDays := []
    refreshedAt := 0 }

/-- The BAR0 registers at reset (R511, R512). -/
def Bar.reset : Bar := ⟨0, 0, 0, 0, 0, 0, 20⟩

/-- A loop slot at reset: Off, without a law record (R190), its supervision record at the defaults
(R215). -/
def Loop.reset (n : Nat) : Loop :=
  { law := none, sup := (scSup (128 + n)).dflt, state := .off, fresh := false, next := 0, last := none, prev := none
    stepped := 0, st := ⟨0, 0, 0, 0, 0, 0⟩, due := none, owed := none, applied := none, changed := false, everOut := false, y := 0, fb := none
    ff := 0, sp := 0, spCmp := none, spCorr := 0, orders := [], sticky := 0, now := 0, samples := 0
    superseded := 0, refused := 0, late := 0, role := 0, destRefused := false, act := .none
    actLeft := 0, actTimed := false, ym := 0, bias := 0, eff := [], plausCount := 0, plausNew := false, osc := []
    oscSign := none, since := 0, settle := 0, cmds := [], shut := .no, shutAt := 0 }

/-- A group at reset: unused (R204). -/
def Group.reset (n : Nat) : Group :=
  { recd := (scGroup n).dflt, ever := false, winner := none, evals := 0, sinceChange := 0
    changes := 0, out := 0, due := none, applied := none, tookPart := false, destRefused := false }

/-- The Control Engine at reset. -/
def Control.reset : Control :=
  ⟨(List.range 128).map Loop.reset, (List.range 16).map Group.reset⟩

/-- The signal catalogue at reset: no signal has had a value (R173). -/
def Signals.reset : Signals := ⟨[], [], 0⟩

/-- A hop at reset: its running values at the posted ones, here the defaults (R126, R143). -/
def Hop.reset (n : Nat) : Hop :=
  { aUs := F64.ofNat ((hopDefaults n).getD 3 0), tauUs := F64.ofNat ((hopDefaults n).getD 6 0)
    v := F64.ofNat ((hopDefaults n).getD 0 0), stalled := false, speedStale := false, vIn := 0, revert := false
    aAtBound := false, tauAtBound := false, lastConf := 0, u := [], y := [], vWin := [], taps := 0
    cutTaps := 0, sawStalled := false, sawStale := false, sawCrop := false, sawSettings := false
    sawStep := false, lastIn := 0, winStart := 0, winNext := 30 * qSec }

/-- A Slice that is open from the instant `s` (R118). -/
def Slice.fresh (idx s crop gen : Nat) : Slice :=
  { idx := idx, s := s, down0 := none, epoch := 0, boundary := false, change := none, endTap := 0
    finalised := false, taps := [], area := 0, lat := -(2 ^ 31), lon := -(2 ^ 31), heading := 0
    sections := 0, secW := [], durUs := 0, noPose := true, poseDegraded := false, width := 0, speed := 0, crop := crop
    cut := false, settled := false, stepped := false, gen := gen, accs := [], genMixed := false
    stalled := false, truncated := false, stale := false, speedStale := false, samples := 0
    lastIn := 0 }

/-- The passage at power-up: EMPTY, timeline empty, SLICE_INDEX 0, crop 0 (R119, R137, R141). -/
def Passage.reset : Passage :=
  { state := .empty, nextIdx := 0, slices := [], e := 0, eTap := 0, everCut := false
    tapNum := 0, tapAt := 0, tapNext := qTap, sliceNext := qSlice, stepTap := none
    headerDown := none, chain := scChain.dflt, lastIn := 0
    hops := (List.range 7).map (fun i => Hop.reset (i + 1)), stages := 7, kernels := []
    wasTrunc := List.replicate 7 false, crop := 0, change := none, inFlight := false
    oldEndTap := 0, orphan := none, odo := F64.zero, odoAt := 0, dens := [], frames := []
    statusNext := qSec, firstTap := 1, savedHops := [], savedGen := 0, savedCrop := 0 }

end Sys2Proof.Machine
end

