-- ==== Sys2Proof/Machine/State/Valve.lean ====
section
/-!
DEFINITION. State of the valve output stage (R217–R245).
-/
namespace Sys2Proof.Machine

/-- Phases of a channel (R220), in the encoding order of R243. -/
inductive VPhase where
  | off | rise | peak | hold | quenchFast | quenchSlow
  deriving DecidableEq, Repr, Inhabited

/-- A profile start as it was requested: the host command that carries it with its accession stamp, or
none for a loop value (R222). -/
structure VReq where
  ihold : Nat
  /-- IPK_MA of the command; 0 takes the record's value (R241). -/
  ipk : Nat
  post : Option (Post × Nat)
  kind : Nat
  /-- Elapsed instant of the requested start (R222). -/
  reqEl : Nat
  quenchWait : Bool
  boostWait : Bool
  takeoverRestart : Bool
  /-- Elapsed deadline of the wait for a boost slot (R226). -/
  deadline : Nat
  deriving DecidableEq, Repr, Inhabited

/-- A dip of the current (R232): M, I_min, and the delay of the sample with I_min from the profile start in q. -/
structure Dip where
  peak : Nat
  iMin : Nat
  delay : Nat
  deriving DecidableEq, Repr, Inhabited

/-- The armature detector of a channel (R232): the largest current since the low-side switch last closed, 0 while it is
open; the first dip of the profile start; and whether that dip has ended. -/
structure DipWatch where
  peak : Nat
  dip : Option Dip
  ended : Bool
  deriving DecidableEq, Repr, Inhabited

/-- One valve channel. -/
structure VChan where
  phase : VPhase
  /-- Field Time and elapsed instant of the profile start (R245). -/
  start : Nat
  startEl : Nat
  /-- Elapsed instant at which the phase ends at the latest (R220). -/
  endEl : Nat
  /-- IHOLD_MA commanded, and the target that the current loop has taken up (R221). -/
  ihold : Nat
  target : Nat
  ipk : Nat
  /-- BOOST_MAX_US and PEAK_US taken at the start, with their band (R239). -/
  band : Nat
  boostUs : Nat
  peakUs : Nat
  /-- The channel record in force for the profile (R240). -/
  recd : List Byte
  /-- Latched FAULT (R243): 0 none, 1–6 case, 7 BANK_LINE. -/
  fault : Nat
  noMotion : Bool
  clipped : Bool
  takeover : Bool
  peakNotReached : Bool
  quenchTimeout : Bool
  /-- I_MA (R243). -/
  iMa : Nat
  /-- Chop periods in a row below OL_ON_MA (R233). -/
  openRun : Nat
  /-- Cases detected and the elapsed instant of their last detection (R235). -/
  seen : List (Nat × Nat)
  /-- A profile that waits for a quench or a boost slot (R225, R226). -/
  wait : Option VReq
  /-- Elapsed instant of the last start of a quench (R233). -/
  quenchAt : Nat
  /-- An off-state test runs (R233). -/
  testing : Bool
  /-- The test OL_ON_US after the start has still to be made (R233). -/
  openCheck : Bool
  /-- Elapsed instant at which the phase began, and the current means ended since (R220, R243). -/
  phaseEl : Nat
  means : Nat
  dipWatch : DipWatch
  deriving DecidableEq, Repr, Inhabited

/-- One bank (R217, R226, R233, R234). -/
structure VBank where
  /-- Boost queue: channels in order. -/
  queue : List Nat
  undervolt : Bool
  bankLine : Bool
  deriving DecidableEq, Repr, Inhabited

/-- A host command that waits for its requested start (R222). -/
structure VHost where
  kind : Nat
  post : Post
  acc : Nat
  start : Nat
  deriving DecidableEq, Repr, Inhabited

/-- State of the valve output stage. -/
structure Valves where
  ch : List VChan
  banks : List VBank
  /-- PAIR_MASK in force since power-up (R231). -/
  pairMask : Nat
  /-- Mounting-plate temperature in °C and band (R239). -/
  plateC : Int
  band : Nat
  host : List VHost
  /-- OUT_INHIBIT is asserted (R237, R373). -/
  inhibit : Bool
  statusNext : Nat
  testNext : Nat
  /-- Elapsed instant at which the off-state tests in progress began. -/
  testEl : Nat
  /-- Field Time of the next plate measurement (R12, R239). -/
  plateNext : Nat
  deriving DecidableEq, Repr, Inhabited

end Sys2Proof.Machine
end

