-- ==== Sys2Proof/Machine/State/Reset2.lean ====
section
/-!
DEFINITION. Values at reset of the outputs, inputs and engines of chapters 09 to 17.
-/
namespace Sys2Proof.Machine

/-- A valve channel at reset: OFF, its record at the defaults (R220, R240; log entry 1). -/
def VChan.reset (n : Nat) : VChan :=
  { phase := .off, start := 0, startEl := 0, endEl := 0, ihold := 0, target := 0, ipk := 0, band := 0
    boostUs := 3000, peakUs := 1000, recd := (scValveCh n).dflt, fault := 0, noMotion := false
    clipped := false, takeover := false, peakNotReached := false, quenchTimeout := false, iMa := 0
    openRun := 0, seen := [], wait := none, quenchAt := 0, testing := false
    openCheck := false, phaseEl := 0, means := 0, dipWatch := ⟨0, none, false⟩ }

/-- The valve stage at reset: every channel OFF, no pair in force, the plate at 25 °C (log entry 1),
which lies in band 2 of the default edges. -/
def Valves.reset : Valves :=
  { ch := (List.range 24).map VChan.reset, banks := List.replicate 6 ⟨[], false, false⟩, pairMask := 0
    plateC := 25, band := 2, host := [], inhibit := false, statusNext := 100 * qMs
    testNext := 100 * qMs, testEl := 0, plateNext := 100 * qMs }

/-- The field I/O at reset: every output off (R372), every level off and OUT_INHIBIT not asserted until
the inputs are first sampled (log entry 1). -/
def Field.reset : Field :=
  { di := List.replicate 48 ⟨0, 0, false, none⟩
    counters := List.replicate 16 ⟨0, [], 0, 100 * qMs, 0, none, none, none, []⟩
    ai := List.replicate 16 ⟨none, 0, false, 0, 0, 0, 0, 0⟩
    dq := List.replicate 24 ⟨false, 200, 0, 0, 500000, 0, none, false, false, false⟩
    host := [], aiNext := qBeat, winStart := 0, winNext := 100 * qMs, samples := 0
    lastSample := 0, ahead := [], diFrom := 0, diStartEl := 0, fault5 := false, fault10 := false, retry5 := 0, retry10 := 0, vdqLow := false
    vdqMv := 0, sup5Mv := 0, sup10Mv := 0, sup5Ma := 0, sup10Ma := 0, statusNext := qSec }

/-- A controller at reset: OFF (R382, R399). -/
def CanCtl.reset : CanCtl :=
  { state := .off, tec := 0, recErr := 0, tdcMeasured := 0, tdcRange := false, queue := [], queueMax := 0
    wakeSource := false, afterShutdown := false, clipped := false, shutdown := false
    enableAfter := false, delayEl := 0, rxFrames := 0, rxUnbound := 0, rxLost := 0, rxRemote := 0
    busOffs := 0, txFrames := 0, txDiscarded := 0, txExpired := 0, errs := [0, 0, 0, 0, 0]
    txDuplicate := 0, lastLost := none, lastDiscard := none, statusNext := qSec }

/-- The CAN controllers at reset (R382, R388). -/
def Can.reset : Can :=
  { ctl := List.replicate 6 CanCtl.reset, objs := List.replicate 192 ⟨none, 0, 0⟩, batch := []
    orders := [], counts := [], host := [] }

/-- The display at reset: OFF, its contacts at ground, the host silent (R421, R424). -/
def Display.reset : Display :=
  { state := .off, blEn := false, lcdEn0 := false, lcdEn1 := false, stepEl := 0, shutStep := 0
    plus := false, rateFrames := 0, rateEl := 0, hz := 80, shown := 0, accPlus := 0, accMinus := 0
    anyOn := false, frames := 0, deferred := 0, held := false, afterShutdown := false, hostImage := 0
    mapCorr := 0, waiting := none, mapEver := false, lastMapEl := 0, silent := true, conds := 0
    band := 2, bandDue := 2, statusNext := qSec }

/-- The modem port at reset: disabled, MDM_HOLD asserted (R404), MDM_READY not asserted (log entry 1). -/
def Modem.reset : Modem :=
  { recd := scModem.dflt, fill := 0, drain := 0, part := [], recs := [], loss := false, intake := []
    hold := true, ready := false, started := false, ring := false, shutdown := false, afterShutdown := false, out := []
    host := [], txSeq := 0, waitEl := 0, stalled := false, rxCount := 0, rxBytes := 0, txBytes := 0
    overrun := 0, lineErrors := 0, recordErrors := 0, discarded := 0, holds := 0, txDuplicate := 0
    txExpired := 0, lastOverrun := none, lastLine := none, lastRecord := none, statusNext := qSec }

end Sys2Proof.Machine
end

