-- ==== Sys2Proof/Machine/State/Reset3.lean ====
section
/-!
DEFINITION. Values at reset of the GNSS front end, of positioning and fusion, of the cameras and of the
Yield Map Engine.
-/
namespace Sys2Proof.Machine

/-- A tracking channel at reset: not allocated. -/
def GChan.reset : GChan :=
  { sv := 0, codeLock := false, carrierLock := false, dup := false, slips := 0, slip := false
    lockEl := 0, paired := false, arc := none, cn0 := 0, cmc := none, hadLock := false
    navFail := 0, navRaised := false, navEnd := (0, false, false) }

/-- The GNSS front end at reset: nothing tracked, no AGC baseline, no history, antenna state OFF. -/
def Gnss.reset : Gnss :=
  { chans := List.replicate 192 GChan.reset, pairs := [], causes := []
    agc := List.replicate 2 ⟨[], none, false, [], 0, false, false⟩
    uniform := List.replicate 4 false, lowSince := List.replicate 4 none, epoch := 0, rate := 10
    next := 100 * qMs, usable := 0, okSince := none, armed := true, lastAt := 0, lastEl := 0, past := [], suspLog := [], ant := 0
    bias := false, antMa := 0, retryEl := 0, corr := 0, corrEl := 0, hist := [], frozenRef := none, clkFail := false
    clkNa := false, clkEval := false, clkEpoch := 0, biasRes := 0, driftRes := 0, allow := 0
    recd := scGnss.dflt, savedAgc := [] }

/-- The positioning engine at reset: NONE, no station held. -/
def Pos.reset : Pos :=
  { mode := 0, passRun := 0, failRun := 0, modem := ⟨none, [], []⟩, host := ⟨none, [], []⟩
    backup := false, primaryEl := 0, primaryRun := 0, moved := false, ignored := 0, corrAge := none
    disagree := 0 }

/-- The fusion filter at reset: the pose not initialised, DEAD_RECKONING set (R308). -/
def Fusion.reset : Fusion :=
  { main := scFusMain.dflt, geom := scFusGeom.dflt, line := scFusLine.dflt, imu := scFusImu.dflt
    next := 10 * qMs, count := 0, posInit := false, headInit := false, cogSince := none, saved := none
    validPose := false, dead := true, gnssEl := 0, gnssNew := false, feature := false, edgeEl := none
    hostEl := none, late := 0, imuBad := 0, ests := [], pairs := [], excl := [], rateBad := false
    rateGood := 0, skew := 0, absent := 0, seen := List.replicate 15 0, checkNext := qTap, outs := []
    transfer := none, edges := 0, windowNext := qSec, windowFrom := 0, edgesNext := 0, stepEl := none }

/-- A camera port at reset. -/
def CamPort.reset : CamPort :=
  { lock := 0, poc := 0, unbound := 0, eccBad := 0, upErr := 0, losses := 0, partials := 0
    lastUnbound := none, retryEl := 0, pocRetryEl := 0 }

/-- A pipeline at reset: Off, exposure-setting ID 0 (R343, R350). -/
def Pipe.reset : Pipe :=
  { st := .off, next := 0, trigEnd := none, frameNumber := 0, cur := none, curC := 0, judged := false, started := false
    stepped := 0, curStepped := false, ready := false, looseOpen := false, partialSeen := false
    retryEl := none, jobs := [], exps := [], expNow := ⟨0, [0, 0], [], false⟩, frame := none, store := []
    agreed := none, skewed := false, goodRun := 0, lastMark := List.replicate 16 none, angle := none
    shut := none, enableAfter := false }

/-- The cameras at reset. -/
def Cam.reset : Cam :=
  { ports := List.replicate 6 CamPort.reset, pipes := List.replicate 6 Pipe.reset, statusNext := qSec }

/-- Sums of a field that has received nothing. -/
def MapSums.zero : MapSums :=
  ⟨F64.zero, F64.zero, F64.zero, F64.zero, F64.zero, F64.zero, F64.zero, F64.zero, F64.zero, 0⟩

/-- The Yield Map Engine at reset: no field, cache and archive empty. -/
def MapU.reset : MapU :=
  { recd := scMap.dflt, field := none, cache := [], archive := [], carry := none, noField := F64.zero
    cmds := [], closes := [], flushNext := 10 * qSec, summaryNext := 60 * qSec, offFieldEl := none
    full := false }

end Sys2Proof.Machine
end

