-- ==== Sys2Proof/Machine/State.lean ====
section
/-!
DEFINITION. The state of the LH-9640 as a block: one field per unit, and the queue of the commands that
wait, first in first out. Plain data throughout. The fields' own structures stand in Machine/State/.
-/
namespace Sys2Proof.Machine

/-- Why the block stops. -/
inductive Fault where
  /-- An operand of a command lies outside its range (WellFormed). No meaning and no step raises it: the spec
  stops the block on no command, and an operand out of range acts as its field's bits say. Safe. -/
  | illFormed
  deriving DecidableEq, Repr

/-- Why the model refuses a command. -/
inductive Refusal where
  /-- The command has no meaning yet: raised by its arm of exec, named by its mnemonic; safe. -/
  | notModelled (mnemonic : String)
  deriving DecidableEq, Repr

/-- The whole state. -/
structure State where
  /-- The instant and the count of free values drawn. -/
  now : Now
  /-- Field Time (chapter 01). -/
  time : TimeU
  /-- The lanes and the Curator (chapter 02). -/
  lanes : Lanes
  /-- Host link, event sources and Ledger (chapters 03, 18). -/
  hub : Hub
  /-- The Catalogue (chapter 04). -/
  cat : Cat
  /-- The signal catalogue (chapter 07). -/
  sig : Signals
  /-- The Control Engine (chapters 07, 08). -/
  ctl : Control
  /-- The Crop Passage Engine (chapters 05, 06). -/
  pas : Passage
  /-- The image slots (chapter 19). -/
  img : Images
  /-- Supply, states and start-up (chapter 20). -/
  pow : Power
  /-- The margin plan (chapter 21). -/
  mar : Margin
  /-- BAR0 (chapter 23). -/
  bar : Bar
  /-- The valve output stage (chapter 09). -/
  valve : Valves
  /-- Field inputs, counters and outputs (chapter 14). -/
  field : Field
  /-- The CAN controllers (chapter 15). -/
  can : Can
  /-- The modem port (chapter 16). -/
  modem : Modem
  /-- The cab display (chapter 17). -/
  disp : Display
  /-- The GNSS front end (chapter 11). -/
  gnss : Gnss
  /-- The positioning engine (chapter 12). -/
  pos : Pos
  /-- The fusion filter (chapter 12). -/
  fus : Fusion
  /-- The cameras (chapter 13). -/
  cam : Cam
  /-- The Yield Map Engine (chapter 10). -/
  map : MapU
  /-- Commands that wait, the next one first. -/
  pending : List Instr
  deriving DecidableEq, Repr

/-- The block right after reset: unpowered, every unit at its reset value, the queue empty. -/
def State.reset : State :=
  { now := ⟨0, 0, 0, 0⟩
    time := TimeU.reset
    lanes := Lanes.reset
    hub := Hub.reset
    cat := Cat.reset
    sig := Signals.reset
    ctl := Control.reset
    pas := Passage.reset
    img := Images.reset
    pow := Power.reset
    mar := Margin.reset
    bar := Bar.reset
    valve := Valves.reset
    field := Field.reset
    can := Can.reset
    modem := Modem.reset
    disp := Display.reset
    gnss := Gnss.reset
    pos := Pos.reset
    fus := Fusion.reset
    cam := Cam.reset
    map := MapU.reset
    pending := [] }

/-- Change the unit `now` alone. -/
def State.upNow (f : Now → Now) (s : State) : State := { s with now := f s.now }

/-- Change the unit `time` alone. -/
def State.upTime (f : TimeU → TimeU) (s : State) : State := { s with time := f s.time }

/-- Change the unit `lanes` alone. -/
def State.upLanes (f : Lanes → Lanes) (s : State) : State := { s with lanes := f s.lanes }

/-- Change the unit `hub` alone. -/
def State.upHub (f : Hub → Hub) (s : State) : State := { s with hub := f s.hub }

/-- Change the unit `cat` alone. -/
def State.upCat (f : Cat → Cat) (s : State) : State := { s with cat := f s.cat }

/-- Change the unit `sig` alone. -/
def State.upSig (f : Signals → Signals) (s : State) : State := { s with sig := f s.sig }

/-- Change the unit `ctl` alone. -/
def State.upCtl (f : Control → Control) (s : State) : State := { s with ctl := f s.ctl }

/-- Change the unit `pas` alone. -/
def State.upPas (f : Passage → Passage) (s : State) : State := { s with pas := f s.pas }

/-- Change the unit `img` alone. -/
def State.upImg (f : Images → Images) (s : State) : State := { s with img := f s.img }

/-- Change the unit `pow` alone. -/
def State.upPow (f : Power → Power) (s : State) : State := { s with pow := f s.pow }

/-- Change the unit `mar` alone. -/
def State.upMar (f : Margin → Margin) (s : State) : State := { s with mar := f s.mar }

/-- Change the unit `bar` alone. -/
def State.upBar (f : Bar → Bar) (s : State) : State := { s with bar := f s.bar }

/-- Change the unit `valve` alone. -/
def State.upValve (f : Valves → Valves) (s : State) : State := { s with valve := f s.valve }

/-- Change the unit `field` alone. -/
def State.upField (f : Field → Field) (s : State) : State := { s with field := f s.field }

/-- Change the unit `can` alone. -/
def State.upCan (f : Can → Can) (s : State) : State := { s with can := f s.can }

/-- Change the unit `modem` alone. -/
def State.upModem (f : Modem → Modem) (s : State) : State := { s with modem := f s.modem }

/-- Change the unit `disp` alone. -/
def State.upDisp (f : Display → Display) (s : State) : State := { s with disp := f s.disp }

/-- Change the unit `gnss` alone. -/
def State.upGnss (f : Gnss → Gnss) (s : State) : State := { s with gnss := f s.gnss }

/-- Change the unit `pos` alone. -/
def State.upPos (f : Pos → Pos) (s : State) : State := { s with pos := f s.pos }

/-- Change the unit `fus` alone. -/
def State.upFus (f : Fusion → Fusion) (s : State) : State := { s with fus := f s.fus }

/-- Change the unit `cam` alone. -/
def State.upCam (f : Cam → Cam) (s : State) : State := { s with cam := f s.cam }

/-- Change the unit `map` alone. -/
def State.upMap (f : MapU → MapU) (s : State) : State := { s with map := f s.map }

end Sys2Proof.Machine
end

