-- ==== Sys2Proof/Machine/Ops.lean ====
section
/-!
DEFINITION. The shared operations on the whole state: time, settings, records, raisings, completions,
signals. Each changes one unit, with every branch inside that unit.
-/
namespace Sys2Proof.Machine

/-! ## Time -/

/-- Rates are counted in units of 2^-11 ppb (R543): this many of them are a rate of 1. -/
def rateOne : Nat := 2048000000000

/-- What one elapsed quantum adds to Field Time at the rate correction `r`, in units of 2^-11 · 10^-9 q (R543). -/
def speed (r : Int) : Nat := ((rateOne : Int) + r).toNat

/-- `d` elapsed quanta pass at the rate correction `r`: Field Time runs faster than elapsed time by the rate in
force (R10, R18, R23, R543). -/
def Now.pass (r : Int) (d : Nat) (n : Now) : Now :=
  let x := n.frac + d * speed r
  { n with ft := (n.ft + x / rateOne) % 2 ^ 64, frac := x % rateOne, el := n.el + d }

/-- Field Time reaches `t`, in the fewest elapsed quanta that take it there at the rate correction `r`; never back
(R11). -/
def Now.goto (r : Int) (t : Nat) (n : Now) : Now :=
  let need := (t - n.ft) * rateOne
  let d := (need - n.frac + (speed r - 1)) / speed r
  { n with ft := max n.ft t % 2 ^ 64, frac := n.frac + d * speed r - need, el := n.el + d }

/-- Elapsed quanta pass. -/
def tick (dt : Nat) (s : State) : State := s.upNow (Now.pass s.time.r dt)

/-- Go on to an instant of Field Time, never back (R11). -/
def reach (t : Nat) (s : State) : State := s.upNow (Now.goto s.time.r t)

/-- Go on to an instant of elapsed time (R10), never back. -/
def reachEl (t : Nat) (s : State) : State := s.upNow (fun n => n.pass s.time.r (t - n.el))

/-- The instant `ago` q before now as comparisons see it (R29). -/
def agoCmp (ago : Nat) (s : State) : Nat := s.now.ft - ago

/-- The stamp of the instant `ago` q before now: one before the latest step is of the old count (R15, R29). -/
def agoStamp (ago : Nat) (s : State) : Nat :=
  match s.time.lastStep with
  | some (new, amt) => if agoCmp ago s < new then ((agoCmp ago s : Int) - amt).toNat else agoCmp ago s
  | none => agoCmp ago s

/-- The next beat boundary at or after an instant (R45, R544). -/
def beatAt (t : Nat) : Nat := ceilTo qBeat t

/-- A free value of `w` bits (log entry 2); the counter advances with `drawn`. -/
def freeNat (w : Nat) (s : State) : Nat := (Config.freeValue s.now.free).toNat % 2 ^ w

/-- One free value has been drawn. -/
def drawn (s : State) : State := s.upNow (fun n => { n with free := n.free + 1 })

/-! ## Lanes and settings -/

/-- Lane `i`. -/
def Lanes.lane (l : Lanes) (i : Fin 2) : Lane := if i = 0 then l.recto else l.verso

/-- Change lane `i`. -/
def Lanes.upLane (l : Lanes) (i : Fin 2) (f : Lane → Lane) : Lanes :=
  if i = 0 then { l with recto := f l.recto } else { l with verso := f l.verso }

/-- The other lane. -/
def other (i : Fin 2) : Fin 2 := if i = 0 then 1 else 0

/-- Settings format in force: that of the commanding lane, else of a started lane, else of the image
that Recto starts from (R116, R458). -/
def fmtOf (s : State) : Nat :=
  let v := match s.lanes.selector with
    | some i => (s.lanes.lane i).ver.format
    | none => if s.lanes.recto.ver.format ≠ 0 then s.lanes.recto.ver.format else s.lanes.verso.ver.format
  if v = 0 then (nth default s.img.slots s.lanes.recto.slot).hdr.format else v

/-- The Catalogue in force (R113, R458): generation 0 with every record at its defaults where none is
held in the format. -/
def curCat (s : State) : Catalog :=
  (s.cat.cats.find? (fun c => c.format == fmtOf s)).getD ⟨fmtOf s, [], 0, 0, 0, []⟩

/-- Body of a settings record in force, explicit or of defaults (R113). -/
def recBody (s : State) (kind key : Nat) : List Byte :=
  ((curCat s).find kind key).getD (defaultBody kind key)

/-- Unsigned field of a settings record in force. -/
def cfg (s : State) (kind key off size : Nat) : Nat := fld (recBody s kind key) off size

/-- Signed field of a settings record in force. -/
def cfgS (s : State) (kind key off size : Nat) : Int := fldS (recBody s kind key) off size

/-- A lane commands (R42, R56). -/
def commanding (s : State) : Bool := s.lanes.selector.isSome

/-- Boundaries and generations of the commits and restores that wait for the Catalogue in force (R115). -/
def schedAhead (s : State) : List (Nat × Nat) :=
  (s.cat.sched.filter (fun x => x.format == fmtOf s)).map (fun x => (x.boundary, x.gen))

/-- The Catalogue generation in force at an instant (R104, R115). -/
def genAt (s : State) (t : Nat) : Nat := genFor (schedAhead s) (curCat s) t

/-- Context of the hub's operations. -/
def ctxOf (s : State) : Ctx :=
  { ft := s.now.ft, el := s.now.el, lockLog := s.time.lockLog, epoch := s.time.epoch
    powerUps := s.pow.powerUps, serving := s.pow.state == .serving, commanding := commanding s
    aonRoute := s.pow.aonRoute, cat := curCat s, ahead := schedAhead s }

/-! ## Records and raisings -/

/-- Ask the hub for one thing. -/
def ask (a : HubAct) (s : State) : State := s.upHub (Hub.act hubFuel (ctxOf s) a)

/-- The commanding lane issues an item of the output vector (R45). -/
def issue (x : OutItem) (s : State) : State :=
  s.upHub (fun h => if commanding s then { h with out := h.out ++ [x] } else h)

/-- UNLOCKED of a delivered record with accession stamp `acc` (R100). -/
def slipFlags (s : State) (fl acc : Nat) : Nat := fl ||| (if lockedAt s.time.lockLog acc then 0 else 0x40)

/-- A record with CORRELATION, OWNER_CREDIT and bulk data of its own. The commanding lane delivers; while
no lane commands, nothing is delivered (R55, R56; log entry 19). -/
def emitFull (kind cls src fl : Nat) (owner : Option Nat) (corr acc eff : Nat) (body : List Byte)
    (bulk : Option (List Byte)) (s : State) : State :=
  if !commanding s then s
  else
    ask (.deliver { kind := kind, cls := cls, source := src, flags := slipFlags s fl acc, owner := owner
                    seq := 0, corr := corr, acc := acc, eff := eff, body := body, bulk := bulk
                    vec := none, holdOf := none }) s

/-- Deliver a record with CORRELATION the generation in force at EFFECTIVE (R104). -/
def emit (kind cls src fl acc eff : Nat) (body : List Byte) (s : State) : State :=
  emitFull kind cls src fl none (genAt s eff) acc eff body none s

/-- Raise an event source with a severity that the rule names and DATA (R430, R431). -/
def raiseX (src inst code sev : Nat) (data : List Byte) (acc eff : Nat) (s : State) : State :=
  ask (.raise ⟨src, inst, code, sev, data, acc, eff⟩) s

/-- Raise an event source now. -/
def raise (src inst code : Nat) (s : State) : State :=
  raiseX src inst code 0 [] s.now.ft s.now.ft s

/-! ## Submissions -/

/-- Outcome of a command (R112). -/
structure Done where
  outcome : Nat
  reason : Nat
  d16 : Nat
  d32 : Nat
  d64 : Nat
  eff : Nat

/-- Body of a KD_COMPLETION (R111). -/
def completionBody (kind ring seq : Nat) (d : Done) : List Byte :=
  mkBody 32 [(0x20, 2, kind), (0x22, 1, d.outcome), (0x23, 1, ring), (0x24, 4, seq),
    (0x28, 2, d.reason), (0x2A, 2, d.d16), (0x2C, 4, d.d32), (0x30, 8, d.d64)]

/-- Deliver the completion of a command, but for an ACCEPTED one with QUIET set (R101, R111); none while
no lane commands (log entry 19). -/
def completeX (kind src : Nat) (p : Post) (acc : Nat) (d : Done) (holdOf : Option Nat) (s : State) :
    State :=
  if (p.flags % 2 = 1 ∧ d.outcome = 0 ∧ holdOf = none) ∨ !commanding s then s
  else
    ask (.complete (nth 0 s.hub.link.compRing p.ring)
      { kind := 1, cls := 0, source := src, flags := slipFlags s 0 acc, owner := none, seq := 0
        corr := p.corr, acc := acc, eff := d.eff, body := completionBody kind p.ring p.seq d
        bulk := none, vec := none, holdOf := holdOf }) s

/-- Deliver a completion. -/
def complete (kind src : Nat) (p : Post) (acc : Nat) (d : Done) (s : State) : State :=
  completeX kind src p acc d none s

/-- ACCEPTED with DETAIL32 and EFFECTIVE. -/
def accepted (d32 eff : Nat) : Done := ⟨0, 0, 0, d32, 0, eff⟩

/-- REFUSED with a reason and DETAIL16, decided at `eff`. -/
def refusedWith (reason d16 eff : Nat) : Done := ⟨4, reason, d16, 0, 0, eff⟩

/-- A submission as it is decided: its accession stamp and decision boundary. -/
structure Sub where
  kind : Nat
  /-- Code of the deciding unit (R99). -/
  unit : Nat
  post : Post
  acc : Nat
  /-- The stamp as comparisons see it (R29). -/
  cmp : Nat
  bound : Nat

/-- The first of the checks of R106 that fails: reason and DETAIL16. `sc` is the layout that the
record must have; `none` where the key selects none, with the key's offset and size. -/
def checkBody (sc : Option RecSchema) (keyOff keySize : Nat) (byKey : Bool) (expected : Nat) (p : Post) :
    Option (Nat × Nat) :=
  let lenBad : Option (Nat × Nat) :=
    match sc with
    | none => if p.length < keyOff + keySize - 0x20 then some (3, 0) else some (7, keyOff)
    | some c =>
      if byKey && decide (p.length < keyOff + keySize - 0x20) then some (3, 0)
      else if c.lens.contains p.length && decide (p.body.length = p.length) then none else some (3, 0)
  match lenBad with
  | some x => some x
  | none =>
    if p.source ≠ 0 ∨ p.owner ≠ 1 then some (5, 0)
    else if p.seq ≠ expected then some (6, 0)
    else
      match sc with
      | none => some (7, keyOff)
      | some c =>
        if !reservedOk c.flds p.body || decide (p.acc ≠ 0) || decide (p.eff ≠ 0)
            || decide (p.flags / 2 ≠ 0) then some (1, 0)
        else (c.bad p.body).map (fun o => (7, o))

/-- The descriptor is the one of a submission: of its ring, with the entries that its LENGTH takes (R80). -/
def Stamped.of (p : Post) (x : Stamped) : Bool := x.ring == p.ring && x.entries == entriesOf p.length

/-- Accession stamp of a submission: that of its descriptor in the input stream (R89), or the present
instant where the link has none waiting for its ring (log entry 11). -/
def stampOf (s : State) (p : Post) : Nat :=
  match s.hub.link.stream.find? (Stamped.of p) with
  | some x => x.stamp
  | none => s.now.ft

/-- The stamp of a submission as comparisons see it (R29). -/
def cmpOf (s : State) (p : Post) : Nat :=
  match s.hub.link.stream.find? (Stamped.of p) with
  | some x => x.cmp
  | none => s.now.ft

/-- The next SEQUENCE is expected (R103): of the records that were fetched before a set-up or a reset of the ring (R94)
while such ones wait, else of the ring. -/
def Link.expect (l : Link) (ring : Nat) (old : Bool) (seq : Nat) : Link :=
  if old then { l with stream := updFirst (fun x => x.ring == ring) (fun x => { x with exp := x.exp.map (fun _ => seq) }) l.stream }
  else { l with sr := upd l.sr ring (fun r => { r with seq := seq }) }

/-- Take the descriptor of a record from the input stream, and expect the next SEQUENCE (R103). -/
def takeStamp (p : Post) (s : State) : State :=
  s.upHub (fun h => { h with link :=
    let old := match h.link.stream.find? (Stamped.of p) with | some x => x.exp.isSome | none => false
    { h.link with stream := h.link.stream.eraseP (Stamped.of p) }.expect p.ring old (add32 p.seq 1) })

/-- SEQUENCE expected of a submission (R103). -/
def expectedSeq (s : State) (p : Post) : Nat :=
  ((s.hub.link.stream.find? (Stamped.of p)).bind (·.exp)).getD (nth default s.hub.link.sr p.ring).seq

/-- Decision boundary of R544: the first beat boundary at or after the stamp + 200 µs. -/
def decideAt (acc : Nat) : Nat := beatAt (acc + 200 * qUs)

/-- The first beat boundary at or after the stamp + 200 µs and AT_STAMP (R222, R342, R370). -/
def startAt (acc at_ : Nat) : Nat := beatAt (max (acc + 200 * qUs) at_)

/-- A submission that arrives: time passes, its stamp is taken, the decision boundary is reached. -/
def arrive (dt : Nat) (kind unit : Nat) (p : Post) (at_ : Nat → Nat) (s : State) : State × Sub :=
  let s1 := tick dt s
  let acc := stampOf s1 p
  let c := cmpOf s1 p
  (reach (at_ c) (takeStamp p s1), ⟨kind, unit, p, acc, c, at_ c⟩)

/-- Refuse a submission. -/
def Sub.refuse (u : Sub) (reason d16 : Nat) (s : State) : State :=
  complete u.kind u.unit u.post u.acc (refusedWith reason d16 u.bound) s

/-- Accept a submission at its decision boundary. -/
def Sub.accept (u : Sub) (d32 : Nat) (s : State) : State :=
  complete u.kind u.unit u.post u.acc (accepted d32 u.bound) s

/-- A key-off sequence is running (R473, R481). -/
def keyoff (s : State) : Bool := s.pow.state == .serving && s.pow.sub == .keyoff

/-- A command other than a settings record: the checks of R106, the refusal KEYOFF where `guarded`
(R473), then what the command does. Outside Serving the host link is unpowered, and no command arrives. -/
def command (dt kind unit : Nat) (p : Post) (sc : RecSchema) (guarded : Bool) (at_ : Nat → Nat)
    (act : Sub → State → State) (s : State) : State :=
  if s.pow.state ≠ .serving then tick dt s
  else
  -- every refusal of R106, and KEYOFF, is decided at the boundary of R544, whatever the kind
  let y := arrive dt kind unit p decideAt s
  match checkBody (some sc) 0x20 0 false (expectedSeq s p) p with
  | some (r, d) => y.2.refuse r d y.1
  | none =>
    if guarded && keyoff s then y.2.refuse 0x1201 0 y.1
    else
      let x := arrive dt kind unit p at_ s
      act x.2 x.1

/-- The next instant of a period given in ms, and never for a period of 0. -/
def nextPeriod (t ms : Nat) : Nat := if ms = 0 then t else nextMul (ms * qMs) t

/-- The band that a temperature gives, with the 1 K of hysteresis at each edge (R239). -/
def bandOf (edges : List Int) (was : Nat) (c : Int) : Nat :=
  let up := (edges.zipIdx.filter (fun x => decide (x.1 + 1 ≤ c))).length
  let down := (edges.zipIdx.filter (fun x => decide (x.1 - 1 < c))).length
  if was < up then up else if down < was then down else was

/-! ## Signals -/

/-- Values of a signal, latest first. -/
def Signals.hist (g : Signals) (n : Nat) : List Sample :=
  ((g.tab.find? (fun x => x.num == n)).map (·.hist)).getD []

/-- Insert a value by its comparison stamp, after those of the same stamp that came before it (R14),
and forget values more than 6 s older than the latest, one of them kept (log entry 13). -/
def insertSample (v : Sample) (l : List Sample) : List Sample :=
  let l1 := l.takeWhile (fun x => decide (v.cmp < x.cmp)) ++ v :: l.dropWhile (fun x => decide (v.cmp < x.cmp))
  let top := (l1.headD v).cmp
  let keep := l1.takeWhile (fun x => decide (top - 6 * qSec ≤ x.cmp))
  keep ++ (l1.drop keep.length).take 1

/-- Put a value into a signal. -/
def Signals.put (g : Signals) (n : Nat) (v : Sample) : Signals :=
  if g.tab.any (fun x => x.num == n) then
    { g with tab := updFirst (fun x => x.num == n) (fun x => { x with hist := insertSample v x.hist }) g.tab }
  else { g with tab := insertSorted (fun a b => decide (a.num ≤ b.num)) ⟨n, [v]⟩ g.tab }

/-- A value produced inside a lane: available at once (R171, R173). -/
def publish (n : Nat) (stamp : Nat) (val : Int) (s : State) : State :=
  s.upSig (fun g => g.put n ⟨stamp, stamp, val⟩)

/-- Tie rank and channel of a value of rank `r` (R13, R14): lower ranks first, then lower channels. -/
def tie (r ch : Nat) : Nat := r * 4096 + ch

/-- The place of an input signal among the values of one stamp (R13, R14), by the accession point that it is formed
from (R170): digital inputs, counters, analog inputs, valve currents, cameras. A duty that the module itself applies
(R369) has no accession point and comes last (log entry 72). -/
def tieOf (n : Nat) : Nat :=
  if n < 48 then tie 8 n
  else if n < 96 then tie 7 (n % 16)
  else if n < 112 then tie 9 (n - 96)
  else if 136 ≤ n ∧ n < 160 then tie 11 (n - 136)
  else if 2112 ≤ n ∧ n < 2176 then tie 4 (n - 2112)
  else tie 15 n

/-- One input comes before another, or with it, in stamp order (R14). -/
def PendIn.le (a b : PendIn) : Bool := decide (a.s.cmp < b.s.cmp) || (a.s.cmp == b.s.cmp && decide (a.tie ≤ b.tie))

/-- An input of the Front-end Section takes its place in the open beat batch (R14, R43, R172). -/
def inputIn (x : PendIn) (s : State) : State :=
  s.upSig (fun g => { g with pend := insertSorted PendIn.le x g.pend })

/-- A value formed at the Front-end Section: it waits for the close of its beat batch (R172). -/
def input (n : Nat) (stamp : Nat) (val : Int) (s : State) : State := inputIn ⟨n, tieOf n, ⟨stamp, stamp, val⟩⟩ s

/-- A value of the Front-end Section whose stamp lies before the latest step (R167). -/
def inputAt (n : Nat) (stamp : Nat) (cmp val : Int) (s : State) : State := inputIn ⟨n, tieOf n, ⟨stamp, cmp, val⟩⟩ s

/-- Values of a signal, those of the open beat batch among them, latest first. -/
def histAll (s : State) (n : Nat) : List Sample :=
  (s.sig.pend.filter (fun x => x.num == n)).foldl (fun l x => insertSample x.s l) (s.sig.hist n)

/-- The values that are available to a sample at the boundary `t` (R173): those of the batches that have closed. The
batch of the boundary closes 10 µs after it: while it is open, what it holds by then counts. -/
def histFor (s : State) (n : Nat) (t : Int) : List Sample :=
  if t ≤ (s.sig.closed : Int) then s.sig.hist n else histAll s n

/-- The value that is taken from a signal at `t`: the one with the largest stamp below `t` (R173). -/
def takeAt (s : State) (n : Nat) (t : Int) : Option Sample :=
  (histFor s n t).find? (fun x => decide (x.cmp < t))

/-- A Q1.30 word from a fraction, to nearest with ties away from zero, saturating (R169). -/
def q130 (n d : Int) : Int :=
  let a := n.natAbs * 2 ^ 30
  let b := d.natAbs
  let r : Int := if b = 0 then 0 else ((2 * a + b) / (2 * b) : Nat)
  clampI (-(2 ^ 31)) (2 ^ 31 - 1) (if (n < 0) = (d < 0) then r else -r)

end Sys2Proof.Machine
end

