-- ==== Sys2Proof/Machine/Eng.lean ====
section
/-!
DEFINITION. Engineering values of signals (R169, R170): word × FS / 2^30.
-/
namespace Sys2Proof.Machine

/-- Full scale of a signal as a fraction, and its zero (R170, R318, R349, R361, R365). -/
def sigScale (s : State) (n : Nat) : Int × Int × Int :=
  if n < 48 then (1, 1, 0)
  else if n < 64 then (cfg s 0x0C01 (n - 48) 0x30 4, 1000, 0)
  else if n < 80 then (1, 1, 0)
  else if n < 96 then (cfg s 0x0C01 (n - 80) 0x34 4, 1, 0)
  else if n < 112 then
    let r := recBody s 0x0C01 (64 + (n - 96))
    let fs : Nat := if fld r 0x22 2 ≠ 0 then fld r 0x22 2 else if fld r 0x21 1 = 2 then 20000 else 10000
    (fs, 1, fldS r 0x24 2)
  else if n < 136 then (100, 1, 0)
  else if n < 160 then (8, 1, 0)
  else if n < 2048 then (1, 1, 0)
  else if n < 2112 then
    match n with
    | 2050 => (20000, 1, 0) | 2051 => (5000, 1, 0) | 2053 => (90, 1, 0) | 2054 => (90, 1, 0)
    | 2055 => (5000, 1, 0) | 2056 => (90, 1, 0) | 2057 => (5000, 1, 0) | 2058 => (90, 1, 0)
    | 2059 => (180, 1, 0) | 2062 => (5000, 1, 0) | 2063 => (10000, 1, 0) | _ => (1, 1, 0)
  else if 2160 ≤ n ∧ n < 2176 then (cfg s 0x0B01 (256 + (n - 2160)) 0x28 2, 1, 0)
  else if 2176 ≤ n ∧ n < 2184 then (10000, 1, 0)
  else if 3840 ≤ n ∧ n < 3904 then (cfg s 0x0502 80 0x2C 4, 1, 0)
  else (1, 1, 0)

/-- Engineering value of a word of signal `n` (R169), with the zero of an analog input (R365; log entry
17). -/
def engOf (s : State) (n : Nat) (w : Int) : F64 :=
  let sc := sigScale s n
  F64.add (F64.div (F64.mul (F64.ofInt w) (F64.ofInt sc.1)) (F64.ofInt (2 ^ 30 * sc.2.1))) (F64.ofInt sc.2.2)

/-- The Q1.30 word of a fraction of full scale: to nearest, ties away from zero, saturating (R169). -/
def word30 (x : F64) : Int :=
  F64.rhalf (F64.clamp (F64.ofInt (-(2 ^ 31))) (F64.ofInt (2 ^ 31 - 1)) (F64.mul x (F64.ofInt 1073741824)))

end Sys2Proof.Machine
end

