-- ==== Sys2Proof/Machine/Geo.lean ====
section
/-!
DEFINITION. Positions in a local tangent plane (R247): WGS-84 to Earth-centred coordinates, rotated into
east and north, in binary64 with correctly rounded sine and cosine (log entry 6). The spec does not write the
order of the operations; this one is the model's (log entry 33).
-/
namespace Sys2Proof.Machine

/-- π in binary64. -/
def piF : F64 := ⟨884279719003555, -48⟩

/-- An angle of `x / d` degrees in radians. -/
def radOf (x d : Int) : F64 := F64.div (F64.mul (F64.ofRat x d) piF) (F64.ofInt 180)

/-- A turn fraction `x / 2^w` in radians (R251). -/
def turnRad (x : Int) (w : Nat) : F64 := F64.div (F64.mul (F64.mul (F64.ofInt x) (F64.ofInt 2)) piF) (F64.ofInt (2 ^ w))

/-- A point in Earth-centred coordinates, mm. -/
structure Ecef where
  x : F64
  y : F64
  z : F64

/-- Square of the first eccentricity of WGS-84, 1 / f = 298.257 223 563. -/
def wgsE2 : F64 :=
  let f := F64.ofRat 1000000000 298257223563
  F64.mul f (F64.sub (F64.ofInt 2) f)

/-- Earth-centred coordinates of a latitude and longitude (radians) at a height in mm. -/
def ecefOf (lat lon : F64) (h : Int) : Ecef :=
  let sl := F64.sin lat
  let n := F64.div (F64.ofInt 6378137000) (F64.sqrt (F64.sub F64.one (F64.mul wgsE2 (F64.mul sl sl))))
  let nh := F64.add n (F64.ofInt h)
  let c := F64.mul nh (F64.cos lat)
  ⟨F64.mul c (F64.cos lon), F64.mul c (F64.sin lon),
   F64.mul (F64.add (F64.mul n (F64.sub F64.one wgsE2)) (F64.ofInt h)) sl⟩

/-- East and north in mm of a position in the tangent plane of an origin (R247); angles in units of
`1 / d` degree, heights in mm. -/
def enOf (d : Int) (lat lon : Int) (h : Int) (lat0 lon0 : Int) (h0 : Int) : F64 × F64 :=
  let p0 := radOf lat0 d
  let l0 := radOf lon0 d
  let a := ecefOf (radOf lat d) (radOf lon d) h
  let o := ecefOf p0 l0 h0
  let dx := F64.sub a.x o.x
  let dy := F64.sub a.y o.y
  let dz := F64.sub a.z o.z
  let e := F64.sub (F64.mul (F64.cos l0) dy) (F64.mul (F64.sin l0) dx)
  let n := F64.sub (F64.mul (F64.cos p0) dz)
    (F64.mul (F64.sin p0) (F64.add (F64.mul (F64.cos l0) dx) (F64.mul (F64.sin l0) dy)))
  (e, n)

/-- A position in 10^-10 degree moved east and north by mm, in 10^-7 degree: along the WGS-84 radii of
curvature (R120; the spec writes no routine, log entry 48). -/
def displace (lat lon : Int) (e n : F64) : Int × Int :=
  let phi := radOf lat 10000000000
  let sl := F64.sin phi
  let w := F64.sub F64.one (F64.mul wgsE2 (F64.mul sl sl))
  let rw := F64.sqrt w
  let a := F64.ofInt 6378137000
  let m := F64.div (F64.mul a (F64.sub F64.one wgsE2)) (F64.mul w rw)
  let nn := F64.div a rw
  let units := fun (r : F64) => F64.mul (F64.div (F64.mul r (F64.ofInt 180)) piF) (F64.ofInt 10000000)
  let la := F64.add (F64.ofRat lat 1000) (units (F64.div n m))
  let lo := F64.add (F64.ofRat lon 1000) (units (F64.div e (F64.mul nn (F64.cos phi))))
  (clampI (1 - 2 ^ 31) (2 ^ 31 - 1) (F64.rint la), clampI (1 - 2 ^ 31) (2 ^ 31 - 1) (F64.rint lo))

end Sys2Proof.Machine
end

