-- ==== Sys2Proof/Machine/FusionOps.lean ====
section
/-!
DEFINITION. Sources, estimates and comparisons of the fusion filter (R305, R310–R313).
-/
namespace Sys2Proof.Machine

/-- SOURCE_ENABLE in force (R321). -/
def Fusion.enabled (f : Fusion) (src : Nat) : Bool := (fld f.main 0x28 2).testBit src

/-- EXCLUDED: a bit per source (R310, R313, R319). -/
def Fusion.exclMask (f : Fusion) : Nat :=
  f.excl.foldl (fun a e => a ||| 2 ^ e.src) ((if f.rateBad then 4 else 0) ||| (f.skew * 256))

/-- A source is excluded. -/
def Fusion.excluded (f : Fusion) (src : Nat) : Bool := f.exclMask.testBit src

/-- A source is enabled and not excluded: it updates the filter. -/
def Fusion.uses (f : Fusion) (src : Nat) : Bool := f.enabled src && !f.excluded src

/-- Rank of a source (R310); GNSS ranks 1 in FIXED. -/
def srcRank (mode src : Nat) : Nat :=
  match src with
  | 0 => if mode = 3 then 1 else 3
  | 1 => 2 | 2 => 2
  | 14 => 6
  | n => if n ≤ 7 then 4 else 5

/-- A source has an estimate with a stamp: it is not absent (R313). -/
def Fusion.see (f : Fusion) (src el : Nat) : Fusion :=
  { f with seen := upd f.seen src (fun x => max x el), absent := f.absent &&& (0x7FFF - 2 ^ src) }

/-- Take a new estimate of a source (R311). -/
def Fusion.put (f : Fusion) (e : Est) : Fusion :=
  ({ f with ests := f.ests.filter (fun x => !(x.src == e.src && x.qty == e.qty)) ++ [e] } : Fusion).see e.src e.el.toNat

/-- GATE_X10 / 10. -/
def Fusion.gate (f : Fusion) : F64 := F64.ofRat (fld f.main 0x27 1) 10

/-- The test of R311 on one axis. -/
def disagree1 (gate q u sq su : F64) : Bool :=
  F64.lt (F64.mul gate (F64.sqrt (F64.add (F64.mul sq sq) (F64.mul su su)))) (F64.abs (F64.sub q u))

/-- Two positions in 10^-10 degree disagree on some horizontal axis (R311). -/
def posDisagree (gate : F64) (lat lon : Int) (s1 : F64) (lat0 lon0 : Int) (s2 : F64) : Bool :=
  let x := enOf 10000000000 lat lon 0 lat0 lon0 0
  disagree1 gate x.1 F64.zero s1 s2 || disagree1 gate x.2 F64.zero s1 s2

/-- Two estimates of one quantity disagree (R311). -/
def estDisagree (gate : F64) (a b : Est) : Bool :=
  if a.qty = 0 then
    posDisagree gate (F64.rint (nth F64.zero a.vals 0)) (F64.rint (nth F64.zero a.vals 1)) a.sigma
      (F64.rint (nth F64.zero b.vals 0)) (F64.rint (nth F64.zero b.vals 1)) b.sigma
  else (a.vals.zip b.vals).any (fun v => disagree1 gate v.1 v.2 a.sigma b.sigma)

/-- Two sources at a check epoch at the elapsed instant `el` (R311): not compared, agree or disagree. -/
def compare (gate : F64) (ests : List Est) (el : Nat) (a b : Nat) : Option Bool :=
  let fresh := fun (e : Est) => decide (e.el < el) && decide ((el : Int) ≤ e.el + qTap)
  let recent := fun (e : Est) => decide (e.el < el) && decide ((el : Int) ≤ e.el + 20 * qTap)
  let cs := (ests.filter (fun e => e.src == a)).filterMap (fun x =>
    match ests.find? (fun e => e.src == b && e.qty == x.qty) with
    | some y => if (fresh x && recent y) || (recent x && fresh y) then some (estDisagree gate x y) else none
    | none => none)
  if cs = [] then none else some (cs.any id)

/-- The fused output in force: the latest one. -/
def Fusion.last (f : Fusion) : Option FOut := f.outs.head?

/-- Forward speed in mm/s and yaw rate in rad/s of the latest output; 0 before the first. -/
def Fusion.fwdMms (f : Fusion) : F64 :=
  match f.last with | some o => F64.ofRat o.est.fwd 1000 | none => F64.zero
/-- The same, yaw rate. -/
def Fusion.yawRads (f : Fusion) : F64 :=
  match f.last with | some o => F64.ofRat o.est.yawRate 1000000000 | none => F64.zero

/-- Reading of wheel `w` (R311): UM_PER_PULSE times the counter rate, with the sign of the fused speed, 0
below 50 mm/s, taken to the reference point (R297). -/
def wheelEst (s : State) (w : Nat) : Option Est :=
  let g := s.fus.geom
  let di := fld g (0x58 + 12 * w) 1
  if di = 0xFF then none
  else
    match (s.sig.hist (48 + di)).head? with
    | none => none
    | some v =>
      let hz := engOf s (48 + di) v.val
      let raw := F64.div (F64.mul hz (F64.ofInt (fld g (0x60 + 12 * w) 4))) (F64.ofInt 1000)
      let mag := if F64.lt raw (F64.ofInt 50) then F64.zero else raw
      let sgn := if F64.lt s.fus.fwdMms F64.zero then F64.neg mag else mag
      let atRef := F64.add sgn (F64.mul s.fus.yawRads (F64.ofInt (fldS g (0x5C + 12 * w) 2)))
      some ⟨3 + w, 1, [atRef], F64.add (F64.ofInt 10) (F64.mul (F64.ofRat 2 100) (F64.abs sgn)),
        (s.now.el : Int) - ((s.now.ft : Int) - v.cmp)⟩

/-- Yaw rate from the steering angle (R311): v · tan δ / WHEELBASE_MM. -/
def steerEst (s : State) : Option Est :=
  let n := fld s.fus.main 0x34 2
  if n = 0xFFFF then none
  else
    match (s.sig.hist n).head? with
    | none => none
    | some v =>
      let deg := F64.div (F64.mul (engOf s n v.val) (F64.ofInt (fld s.fus.main 0x38 4))) (F64.ofInt 1000000)
      let rad := F64.div (F64.mul deg piF) (F64.ofInt 180)
      let tan := F64.div (F64.sin rad) (F64.cos rad)
      let y := F64.div (F64.mul s.fus.fwdMms tan) (F64.ofInt (fldS s.fus.geom 0x56 2))
      some ⟨7, 2, [y], F64.add (F64.ofRat 5 1000) (F64.mul (F64.ofRat 5 100) (F64.abs y)),
        (s.now.el : Int) - ((s.now.ft : Int) - v.cmp)⟩

/-- A vector in three axes. -/
abbrev Vec3 := F64 × F64 × F64

/-- Rotation from sensor axes into the machine frame by roll, pitch and yaw in 2^-16 turn, applied in
the order roll, pitch, yaw (log entry 35). -/
def rotate (roll pitch yaw : Int) (v : Vec3) : Vec3 :=
  let r := turnRad roll 16
  let p := turnRad pitch 16
  let y := turnRad yaw 16
  let (x0, y0, z0) := v
  let y1 := F64.sub (F64.mul (F64.cos r) y0) (F64.mul (F64.sin r) z0)
  let z1 := F64.add (F64.mul (F64.sin r) y0) (F64.mul (F64.cos r) z0)
  let x2 := F64.add (F64.mul (F64.cos p) x0) (F64.mul (F64.sin p) z1)
  let z2 := F64.sub (F64.mul (F64.cos p) z1) (F64.mul (F64.sin p) x0)
  (F64.sub (F64.mul (F64.cos y) x2) (F64.mul (F64.sin y) y1),
   F64.add (F64.mul (F64.sin y) x2) (F64.mul (F64.cos y) y1), z2)

/-- Cross product. -/
def cross (a b : Vec3) : Vec3 :=
  (F64.sub (F64.mul a.2.1 b.2.2) (F64.mul a.2.2 b.2.1),
   F64.sub (F64.mul a.2.2 b.1) (F64.mul a.1 b.2.2),
   F64.sub (F64.mul a.1 b.2.1) (F64.mul a.2.1 b.1))

/-- Componentwise difference. -/
def vsub (a b : Vec3) : Vec3 := (F64.sub a.1 b.1, F64.sub a.2.1 b.2.1, F64.sub a.2.2 b.2.2)

/-- Take a sample of IMU `i` (0 or 1) with an elapsed stamp: its estimates at the reference point (R311).
Specific force loses the centripetal part of the lever arm (log entry 35). -/
def imuTake (i : Nat) (x : ImuSample) (el : Nat) (s : State) : State :=
  let g := s.fus.geom
  let o := if i = 0 then 0x30 else 0x44
  let q := if i = 0 then 0x3C else 0x50
  let rot := rotate (fldS g q 2) (fldS g (q + 2) 2) (fldS g (q + 4) 2)
  let n := fun (v : Int) => F64.ofRat v 1000000000
  let w := rot (n x.gx, n x.gy, n x.gz)
  let a := rot (n x.ax, n x.ay, n x.az)
  let m := fun (k : Nat) => F64.ofRat (fldS g (o + 4 * k) 4) 1000
  let f := vsub a (cross w (cross w (m 0, m 1, m 2)))
  let r2 := F64.ofRat 2 1000
  s.upFus (fun u => ((u.put ⟨1 + i, 2, [w.2.2], r2, el⟩).put ⟨1 + i, 3, [w.1, w.2.1], r2, el⟩).put
    ⟨1 + i, 4, [f.1, f.2.1, f.2.2], F64.ofRat 5 100, el⟩)

end Sys2Proof.Machine
end

