-- ==== Sys2Proof/Machine/TimeOps.lean ====
section
/-!
DEFINITION. Shared operations on Field Time: the uncertainty (R19, R21, R542), the rate law (R543), the
loss of discipline (R22), the total correction that the clock check needs (R291), KD_TIME_STATUS (R40).
-/
namespace Sys2Proof.Machine

/-- ANT_DELAY_Q is configured (R21, R39). -/
def antSet (s : State) : Bool := cfg s 0x0101 0 0x20 4 != 0xFFFFFFFF

/-- Uncertainty with an offset of 0, in ps: 4 ns, or 100 ns without ANT_DELAY_Q (R21, R542). -/
def basePs (s : State) : Nat := if antSet s then 4000 else 100000

/-- Growth of the uncertainty in ps over `d` elapsed quanta (R19). -/
def growthPs (hold : Bool) (d : Nat) : Nat :=
  if hold then (1800 * d * qSec + d * d) / (qSec * qSec) else 100000 * d / qSec

/-- The largest uncertainty that a record can carry, in ps (R19). -/
def maxPs : Nat := 0xFFFFFFFF * 1000

/-- Uncertainty in ps at the present instant (R19, R22, R33, R542). -/
def uncertPs (s : State) : Nat :=
  let t := s.time
  if t.unknown then maxPs
  else if t.state = .locked then basePs s
  else
    let u := min maxPs (t.u0 + growthPs t.uHold (s.now.el - t.uAt))
    if t.timeInUsed then min u ((cfg s 0x0101 0 0x30 4 + 20) * 1000) else u

/-- UNCERT_NS (R40): rounded up, saturating (log entry 22). -/
def uncertNs (s : State) : Nat := sat 32 ((uncertPs s + 999) / 1000)

/-- STATE of R40. -/
def TimeState.code : TimeState → Nat
  | .free => 0 | .holdover => 1 | .locked => 2

/-- A rate in units of 2^-11 ppb as RATE_PPT: to nearest, ties to even (log entry 22). -/
def ratePpt (r : Int) : Int := F64.rint ⟨r * 1000, -11⟩

/-- Body of KD_TIME_STATUS (R40). -/
def timeStatusBody (s : State) : List Byte :=
  let t := s.time
  mkBody 32 [(0x20, 1, t.state.code),
    (0x21, 1, flags [(7, antSet s), (6, t.unknown), (5, t.timeInUsed), (4, t.ocxoWarm), (3, t.frozen),
      (2, t.pending.isSome), (1, t.slewing), (0, t.timeOk)]),
    (0x22, 2, t.epoch), (0x24, 4, uncertNs s), (0x28, 8, sgn 8 (t.pending.getD t.offset)),
    (0x30, 4, sgn 4 (ratePpt t.r)),
    (0x34, 4, if t.state = .locked then 0 else sat 32 ((s.now.el - t.lastValid) / qSec)),
    (0x38, 4, sgn 4 t.timeInOffset), (0x3C, 2, t.timeInRejects)]

/-- Deliver KD_TIME_STATUS for an instant (R40). -/
def timeStatus (at_ : Nat) (s : State) : State := emit 0x0102 2 1 0 at_ at_ (timeStatusBody s) s

/-- The module keeps Field Time in Serving and Keeping (R31, R293). -/
def awake (s : State) : Bool := s.pow.state == .serving || s.pow.state == .keeping

/-- The record of a change of state or of STEP_PENDING at the present instant (R40). The record of a pulse that is
still to come at this instant covers it. -/
def timeChanged (s : State) : State :=
  if awake s ∧ s.time.tpNext = s.now.ft then s else timeStatus s.now.ft s

/-- The record of what has changed in the time state and in STEP_PENDING since `was` (R25, R40). -/
def timeNoted (was : TimeU) (s : State) : State :=
  if s.time.state = was.state ∧ s.time.pending.isSome = was.pending.isSome then s else timeChanged s

/-- Note whether the state is LOCKED from the instant `t` on (R100). What a record of the present can no longer
ask for is forgotten: changes more than 120 s old, but for one. -/
def noteLock (t : Nat) (locked : Bool) (l : List (Nat × Bool)) : List (Nat × Bool) :=
  let recent := l.takeWhile (fun x => decide (t ≤ x.1 + 120 * qSec))
  (t, locked) :: recent ++ (l.drop recent.length).take 1

/-- The time state changes: TIME_STATE is raised (R22). -/
def timeTo (st : TimeState) (s : State) : State :=
  raise 28 0xFFFF st.code (s.upTime (fun t => { t with
    state := st, lockLog := noteLock s.now.ft (st == .locked) t.lockLog }))

/-- The rate in force acts up to the present instant (R291): called before each change of the rate. -/
def accrue (s : State) : State :=
  s.upGnss (fun g => { g with corr := g.corr + s.time.r * (s.now.el - g.corrEl : Nat), corrEl := s.now.el })

/-- LOCKED ends (R22): the rate is frozen at F, `TIME_OK` falls, the uncertainty grows from the last
valid instant. -/
def loseLock (s : State) : State :=
  timeTo (if s.time.ocxoWarm then .holdover else .free)
    ((accrue s).upTime (fun t => { t with
      r := t.f, timeOk := false, u0 := basePs s, uAt := t.lastValid, uHold := t.ocxoWarm
      invalidRun := 0, lockRun := 0 }))

/-- The clock check fails (R22, R292). -/
def clockFailed (s : State) : State :=
  let s1 := s.upTime (fun t => { t with clockFail := true })
  if s.time.state = .locked then
    timeChanged (raise 31 0xFFFF 0 (loseLock (s1.upTime (fun t => { t with frozen := true }))))
  else s1

/-- The clock check passes: DISCIPLINE_FROZEN clears (R22). -/
def clockPassed (s : State) : State := s.upTime (fun t => { t with frozen := false })

/-- The rate law of R543 for an interval with offset `x` below 1 ms. An offset of 1 q is 2^-2 ns, so
that x / 512 is `x` and x / 8 is `64 * x` in units of 2^-11 ppb, exactly. -/
def TimeU.law (t : TimeU) (x : Int) : TimeU :=
  let f := clampI (-204800) 204800 (t.f + x)
  let l : Int := if t.slewing then 20480000 else 204800
  { t with f := f, r := clampI (-l) l (f + 64 * x) }

/-- A pending step lapses (R25). -/
def TimeU.lapse (t : TimeU) : TimeU := { t with pending := none, confirmRun := 0 }

end Sys2Proof.Machine
end

