-- ==== Sys2Proof/Machine/GnssOps.lean ====
section
/-!
DEFINITION. What one GNSS epoch does inside the front end (R272–R294): pairs, arcs, checks, causes, the
check against the clock, and the records.
-/
namespace Sys2Proof.Machine

/-- The speed of light in m/s (R274). -/
def lightC : F64 := F64.ofInt 299792458
/-- γ of R274. -/
def gammaF : F64 := F64.ofRat 23716 13225
/-- γ − 1. -/
def gammaM1 : F64 := F64.sub gammaF F64.one

/-- AMBIG_MS of a channel (R272). -/
def ambigMs (bank : Nat) (m : GnssMeas) : Nat :=
  if m.tow then 0
  else if m.sync then (if bank < 2 then 20 else 100)
  else if bank = 2 then 4 else 1

/-- Channel `c`. -/
def Gnss.ch (g : Gnss) (c : Nat) : GChan := nth default g.chans c

/-- The measurement of channel `c` in an epoch. -/
def measAt (x : GnssEpochIn) (c : Nat) : GnssMeas :=
  (x.meas.find? (fun m => m.ch == c)).getD default

/-- A satellite number exists in the system of a bank (R280). -/
def svOk (bank sv : Nat) : Bool := decide (1 ≤ sv) && decide (sv ≤ if bank < 2 then 32 else 36)

/-- A satellite is excluded by SV_MASK_GPS or SV_MASK_GAL (R273, R295). -/
def svMasked (recd : List Byte) (bank sv : Nat) : Bool :=
  if bank < 2 then (fld recd 0x28 4).testBit (sv - 1) else (fld recd 0x2C 8).testBit (sv - 1)

/-- Number that names a satellite as INSTANCE: 64 · system + SV (log entry 27). -/
def svInst (bank sv : Nat) : Nat := 64 * (bank / 2) + sv

/-- A satellite in a bank carries a cause or its hold: it is SUSPECT there (R289). -/
def Gnss.suspect (g : Gnss) (bank sv : Nat) : Bool := g.causes.any (fun c => c.bank == bank && c.sv == sv)

/-- CAUSES of a satellite in a bank (R289). -/
def Gnss.causesOf (g : Gnss) (bank sv : Nat) : Nat :=
  match g.causes.find? (fun c => c.bank == bank && c.sv == sv) with
  | some c => if c.bits = 0 then 0x40 else c.bits
  | none => 0

/-- The channels of a bank that are allocated. -/
def Gnss.bankChans (g : Gnss) (b : Nat) : List Nat :=
  (List.range 48).map (48 * b + ·) |>.filter (fun c => decide ((g.ch c).sv ≠ 0))

/-- The pairs of a system (R274): first- and second-band channel of one satellite, both with code lock,
no DUPLICATE among them. -/
def Gnss.findPairs (g : Gnss) (sys : Nat) : List (Nat × Nat) :=
  let ok := fun c => (g.ch c).codeLock && !(g.ch c).dup
  ((g.bankChans (2 * sys)).filter ok).filterMap (fun a =>
    (((g.bankChans (2 * sys + 1)).filter ok).find? (fun b => (g.ch b).sv == (g.ch a).sv)).map (fun b => (a, b)))

/-- An integer wrapped into `[-m/2, m/2)`; unchanged for a modulus of 0. -/
def wrapI (m : Nat) (x : Int) : Int :=
  if m = 0 then x else (x + (m / 2 : Nat)) % m - (m / 2 : Nat)

/-- The smaller non-zero of two ambiguities. -/
def minAmbig (a b : Nat) : Nat := if a = 0 then b else if b = 0 then a else min a b

/-- An ambiguity of `ms` milliseconds in 2^-8 q. -/
def ambigU (ms : Nat) : Nat := ms * qMs * 256

/-- A count of 2^-8 q in s. -/
def unitsS (x : Int) : F64 := F64.ofRat x (256 * qSec)

/-- IONO of a pair (R274), in m. -/
def ionoOf (a b : GnssMeas) (bankA bankB : Nat) : F64 :=
  let d := wrapI (ambigU (minAmbig (ambigMs bankA a) (ambigMs bankB b))) ((a.tx : Int) - b.tx)
  F64.div (F64.mul lightC (unitsS d)) gammaM1

/-- The pseudorange of R278 in m at the epoch instant `t`, where AMBIG_MS is 0. -/
def pseudorange (t : Nat) (bank : Nat) (m : GnssMeas) : Option F64 :=
  if ambigMs bank m = 0 then
    some (F64.mul lightC (unitsS (((t % (604800 * qSec) * 256 : Nat) : Int) - m.tx)))
  else none

/-- P_IF of a pair (R274), in m: only where both ambiguities are 0. -/
def pIfOf (t : Nat) (a b : GnssMeas) (bankA bankB : Nat) : Option F64 :=
  match pseudorange t bankA a, pseudorange t bankB b with
  | some pa, some pb => some (F64.div (F64.sub (F64.mul gammaF pa) pb) gammaM1)
  | _, _ => none

/-- A channel's measurement at the antenna phase centre (R21, R271): the signal latched after a delay of `d` q left the
antenna that much earlier, so that TX_TIME and CARRIER run on over the delay at the rates tracked. -/
def antennaMeas (m : GnssMeas) (bank : Nat) (d : Int) : GnssMeas :=
  let hz : Int := if bank % 2 = 0 then 1575420000 else 1176450000
  let md := if ambigMs bank m = 0 then 604800 * qSec * 256 else ambigU (ambigMs bank m)
  { m with
    tx := (((m.tx : Int) + d * 256 + F64.rint (F64.ofRat (d * 256 * m.doppler) (hz * 1000))) % md).toNat
    carrier := m.carrier - F64.rint (F64.ofRat (d * m.doppler * 2 ^ 24) (1000 * qSec)) }

/-- Lengths in m as whole mm, nearest (log entry 22). -/
def mmOf (x : F64) : Int := F64.rint (F64.mul x (F64.ofInt 1000))

/-- One epoch of a channel's arc (R288). `el` and `lastEl` are the elapsed instants of this epoch and of
the one before. -/
def GChan.arcStep (k : GChan) (bank : Nat) (m : GnssMeas) (iono : Option F64) (el lastEl : Nat)
    (mask : Bool) : GChan :=
  match iono with
  | none => { k with arc := none, cmc := none, paired := false }
  | some io =>
    if !k.carrierLock then { k with arc := none, cmc := none, paired := true }
    else
      let amb := ambigMs bank m
      let fresh : Arc := ⟨el, 0, m.carrier, io, m.tx, amb⟩
      match k.arc with
      | none => { k with arc := some fresh, cmc := if mask then some F64.zero else none, paired := true }
      | some a =>
        if k.slip || !k.paired then { k with arc := some fresh, cmc := if mask then some F64.zero else none, paired := true }
        else
          let am := minAmbig a.ambig amb
          let md := if am = 0 then 604800 * qSec * 256 else ambigU am
          let dp := a.dp + wrapI md (((el - lastEl) * 256 : Nat) - ((m.tx : Int) - a.tx))
          let lam := F64.div lightC (F64.ofInt (if bank % 2 = 0 then 1575420000 else 1176450000))
          let dc : F64 := F64.norm (toSigned 64 (ofSigned 64 (m.carrier - a.carrier))) (-24)
          let kk := if bank % 2 = 0 then F64.one else gammaF
          let d := F64.sub (F64.sub (F64.mul lightC (unitsS dp)) (F64.mul lam dc))
            (F64.mul (F64.mul (F64.ofInt 2) kk) (F64.sub io a.iono))
          { k with arc := some { a with dp := dp, tx := m.tx, ambig := amb }
                   cmc := if mask then some d else none, paired := true }

/-- The pairs of an epoch with their IONO and IONO_RATE (R274, R287), after the arcs of the epoch. -/
def Gnss.pairStep (g : Gnss) (old : List GPair) (x : GnssEpochIn) (a b t el : Nat) : GPair × F64 :=
  let io := ionoOf (measAt x a) (measAt x b) (a / 48) (b / 48)
  let was := (old.find? (fun p => p.a == a && p.b == b)).getD ⟨a, b, [], false, false, none, none⟩
  let arcs := (g.ch a).arc.isSome && (g.ch b).arc.isSome
  let anew := (g.ch a).arc.map (·.el0) == some el || (g.ch b).arc.map (·.el0) == some el
  let prev := if anew || !arcs then [] else was.iono
  let back := prev.find? (fun y => decide (y.1 + qSec ≤ el))
  let rate := back.map (fun y => clampI (-32767) 32767 (mmOf (F64.sub io y.2)))
  let keep := prev.takeWhile (fun y => decide (el < y.1 + qSec))
  let hist := if arcs then (el, io) :: keep ++ (prev.drop keep.length).take 1 else []
  let r := g.recd
  let mask := (fld r 0x50 1).testBit 0
  let mm := F64.mul io (F64.ofInt 1000)
  let bound := mask && (F64.lt mm (F64.ofInt (fldS r 0x34 4)) || F64.lt (F64.ofInt (fldS r 0x38 4)) mm)
  let fast := mask && (match back with
    | some y => F64.lt (F64.ofInt (fld r 0x3C 2)) (F64.abs (F64.mul (F64.sub io y.2) (F64.ofInt 1000)))
    | none => false)
  ({ was with iono := hist, bound := bound, rate := fast, rateMms := rate,
                      pIf := pIfOf t (measAt x a) (measAt x b) (a / 48) (b / 48) }, io)

/-- Mean of a list of binary64 numbers. -/
def meanF (l : List F64) : F64 := F64.div (F64.sum l) (F64.ofNat l.length)

/-- The newest epochs that make up `left` q (R284). -/
def agcKeep : (left : Nat) → List (Nat × Int) → List (Nat × Int)
  | _, [] => []
  | left, x :: r => if x.1 ≤ left then x :: agcKeep (left - x.1) r else []

/-- The AGC check of band `i` (R284). `power` is the in-band power; an unflagged epoch stands for one period in the
600 s of the baseline. -/
def Gnss.agcStep (g : Gnss) (i : Nat) (power : Int) (x : GnssEpochIn) (el : Nat) : Agc :=
  let a := nth default g.agc i
  let start := a.fromEl.getD el
  let ready := a.ready || (decide (start + 60 * qSec ≤ el) && decide (a.base ≠ []))
  let n : Int := a.base.length
  let sum := a.base.foldl (fun t y => t + y.2) 0
  let dev := if ready then (2 * (power * n - sum) + n) / (2 * n) else 0
  let cs := ((g.bankChans i) ++ (g.bankChans (i + 2))).filter (fun c =>
    (g.ch c).codeLock && !g.suspect (c / 48) (g.ch c).sv)
  let now : Option F64 := if cs = [] then none
    else some (F64.div (F64.ofNat (cs.foldl (fun t c => t + (measAt x c).cn0) 0)) (F64.ofNat cs.length))
  let past := a.cn0.takeWhile (fun y => decide (el < y.1 + 60 * qSec))
  let m : Option F64 := match now with
    | some v => if past = [] then none else some (F64.sub v (meanF (past.map (·.2))))
    | none => none
  let high := ready && (fld g.recd 0x50 1).testBit 4
    && decide ((fld g.recd 0x46 2 : Int) * n ≤ power * n - sum)
  let jam := high && (match m with | some v => F64.le v (F64.ofInt (-300)) | none => false)
  let spoof := high && !jam && (match m with | some v => F64.lt (F64.ofInt (-100)) v | none => false)
  { base := if jam || spoof then a.base else agcKeep (600 * qSec) ((qSec / max 1 g.rate, power) :: a.base)
    fromEl := some start, ready := ready, dev := clampI (-32768) 32767 dev, jam := jam, spoof := spoof
    cn0 := match now with | some v => (el, v) :: past | none => past }

/-- The uniformity check of a bank (R285): CN0_UNIFORM and the instant since which the deviation has been
below CN0_SPREAD_MIN. -/
def Gnss.uniformStep (g : Gnss) (b : Nat) (x : GnssEpochIn) (el : Nat) : Bool × Option Nat :=
  let was := nth false g.uniform b
  if !(fld g.recd 0x50 1).testBit 2 then (false, none)
  else
    let v := ((g.bankChans b).filter (fun c => (g.ch c).codeLock)).map (fun c => (measAt x c).cn0)
    let n := v.length
    if n < 6 then (was, none)
    else
      let s := v.foldl (· + ·) 0
      let q := v.foldl (fun t y => t + y * y) 0
      let lim := fld g.recd 0x40 2
      -- variance = (n · q − s²) / n²
      if n * q - s * s < lim * lim * (n * n) then
        let since := (nth none g.lowSince b).getD el
        (was || decide (since + fld g.recd 0x42 2 * qSec ≤ el), some since)
      else (false, none)

/-- |D| of a channel is above CMC_MAX_MM (R288). -/
def GChan.diverges (k : GChan) (lim : Nat) : Bool :=
  match k.cmc with
  | some d => F64.lt (F64.ofNat lim) (F64.abs (F64.mul d (F64.ofInt 1000)))
  | none => false

/-- Cause bits 0–5 of a channel's satellite in its bank (R289). -/
def Gnss.bitsOf (g : Gnss) (b sv : Nat) : Nat :=
  let r := g.recd
  let mine := (g.bankChans b).filter (fun c => (g.ch c).sv == sv)
  let ps := g.pairs.filter (fun p => mine.contains p.a || mine.contains p.b)
  let lim := fld r 0x3E 2
  let dual := (fld r 0x50 1).testBit 3
    && mine.any (fun c => (g.ch c).dup && (g.ch c).codeLock)
    && mine.any (fun c => !(g.ch c).dup && (g.ch c).codeLock)
  flags [(0, ps.any (·.bound)), (1, ps.any (·.rate)),
    (2, mine.any (fun c => (g.ch c).diverges lim)),
    (3, nth false g.uniform b), (4, dual), (5, (nth default g.agc (b % 2)).spoof)]

/-- The causes after an epoch (R289). -/
def Gnss.causeStep (g : Gnss) (el : Nat) : List Cause :=
  let svs := fun b => ((g.bankChans b).map (fun c => (g.ch c).sv) ++
    (g.causes.filter (fun c => c.bank == b)).map (·.sv)).eraseDups
  (List.range 4).flatMap (fun b => (sortBy (fun x y => decide (x ≤ y)) (svs b)).filterMap (fun sv =>
    let bits := g.bitsOf b sv
    let was := g.causes.find? (fun c => c.bank == b && c.sv == sv)
    if bits ≠ 0 then some ⟨b, sv, bits, none⟩
    else match was with
      | none => none
      | some w =>
        match w.holdEnd with
        | none => some ⟨b, sv, 0, some (el + fld g.recd 0x4E 2 * qSec)⟩
        | some e => if e ≤ el then none else some w))

/-- Pairs that are usable (R274). -/
def Gnss.usablePairs (g : Gnss) : Nat :=
  (g.pairs.filter (fun p => !g.suspect (p.a / 48) (g.ch p.a).sv && !g.suspect (p.b / 48) (g.ch p.b).sv)).length

/-- Everything that the epoch at `t` does to channels, pairs, checks and causes (R283–R289). -/
def Gnss.epochStep (g : Gnss) (x : GnssEpochIn) (t el : Nat) : Gnss :=
  let r := g.recd
  -- channels of satellites that are excluded are released (R273)
  let g0 : Gnss := { g with chans := g.chans.zipIdx.map (fun k =>
    if k.1.sv ≠ 0 ∧ svMasked r (k.2 / 48) k.1.sv then
      ({ k.1 with sv := 0, codeLock := false, carrierLock := false, dup := false, arc := none, cmc := none } : GChan)
    else k.1) }
  let ps := g0.findPairs 0 ++ g0.findPairs 1
  let ionos := ps.map (fun p => (p, ionoOf (measAt x p.1) (measAt x p.2) (p.1 / 48) (p.2 / 48)))
  let mask := (fld r 0x50 1).testBit 1
  let g1 : Gnss := { g0 with chans := g0.chans.zipIdx.map (fun k =>
    let io := (ionos.find? (fun y => y.1.1 == k.2 || y.1.2 == k.2)).map (·.2)
    { k.1.arcStep (k.2 / 48) (measAt x k.2) io el g.lastEl mask with
      cn0 := if k.1.codeLock then (measAt x k.2).cn0 else 0 }) }
  let g2 : Gnss := { g1 with agc := [g1.agcStep 0 x.powerL1 x el, g1.agcStep 1 x.powerL5 x el] }
  let us := (List.range 4).map (fun b => g2.uniformStep b x el)
  let g3 : Gnss := { g2 with uniform := us.map (·.1), lowSince := us.map (·.2) }
  let g4 : Gnss := { g3 with pairs := ps.map (fun p => (g3.pairStep g.pairs x p.1 p.2 t el).1) }
  { g4 with causes := g4.causeStep el }

/-- Events of an epoch, in the order of R432: source, INSTANCE. -/
def Gnss.news (old new : Gnss) : List (Nat × Nat) :=
  let a := fun (g : Gnss) i => nth default g.agc i
  let u := fun (g : Gnss) b => nth false g.uniform b
  (List.range 2).flatMap (fun i => if (a new i).jam && !(a old i).jam then [(35, i)] else [])
  ++ (List.range 2).flatMap (fun i => if (a new i).spoof && !(a old i).spoof then [(36, i)] else [])
  ++ (List.range 4).flatMap (fun b => if u new b && !u old b then [(37, b)] else [])
  ++ new.pairs.flatMap (fun p =>
      let w := (old.pairs.find? (fun q => q.a == p.a && q.b == p.b)).getD ⟨0, 0, [], false, false, none, none⟩
      if (p.bound && !w.bound) || (p.rate && !w.rate) then [(39, svInst (p.a / 48) (new.ch p.a).sv)] else [])
  ++ new.chans.zipIdx.flatMap (fun k =>
      let lim := fld new.recd 0x3E 2
      if k.1.diverges lim && !(old.ch k.2).diverges lim then [(40, svInst (k.2 / 48) k.1.sv)] else [])

/-! ## The check against the clock -/

/-- Outcome of a clock check (R292). -/
inductive ClkOut where
  | pass | fail | na
  deriving DecidableEq, Repr

/-- Units of 2^-11 × 10^-3 ns in 1 ns. -/
def clkUnit : Int := 2048000

/-- The reference of R292. -/
def Gnss.clkRef (g : Gnss) (el : Nat) : Option ClkSol :=
  match g.frozenRef with
  | some r => some r
  | none =>
    match g.hist.find? (fun h => decide (h.el + fld g.recd 0x52 2 * qSec ≤ el)) with
    | some r => some r
    | none => g.hist.getLast?

/-- Check a solution (R291, R292): the outcome, bias residual in ns, drift residual in 10^-12 and the
allowance in ns. `rate` is the rate correction in force in 2^-11 ppb, `c` the total correction in
2^-11 ns, `uNs` the uncertainty reported. -/
def Gnss.clkCheck (g : Gnss) (el : Nat) (v : ClockSol) (rate c : Int) (unknown : Bool) (uNs : Nat) :
    ClkOut × Int × Int × Nat × ClkSol :=
  let lim : Int := fld g.recd 0x48 4
  let bo := v.b * 512000 + c * 1000
  let dO := v.d * 2048 + rate * 1000
  let me : ClkSol := ⟨el, bo, dO⟩
  match g.clkRef el with
  | some r =>
    let dq : Int := el - r.el
    let q : Int := qSec
    -- residuals and allowances times SEC_Q or SEC_Q², exactly
    let res := (bo - r.b) * q - r.d * dq
    let allow2 := lim * clkUnit * q * q + 1800 * 2048 * dq * q + 2048 * dq * dq
    let dres := dO - r.d
    let dallow := (fld g.recd 0x4C 2 : Int) * clkUnit * q + 2 * 2048 * dq
    let bad := decide (allow2 < res.natAbs * q) || decide (dallow < dres.natAbs * q)
    (if bad then .fail else .pass, res / (q * clkUnit), dres / 2048, (allow2 / (q * q * clkUnit)).toNat, me)
  | none =>
    if unknown then (.na, 0, 0, 0, me)
    else
      let allow := lim + uNs
      (if allow * clkUnit < (v.b * 512000).natAbs then .fail else .pass,
        v.b / 4, 0, allow.toNat, me)

/-- A solution that passes, or that becomes the reference, joins the history (R291, R292). -/
def Gnss.clkJoin (g : Gnss) (el : Nat) (me : ClkSol) : Gnss :=
  let keep := fld g.recd 0x52 2 + 60
  match g.frozenRef with
  | some _ => { g with hist := [me], frozenRef := none }
  | none => { g with hist := me :: g.hist.takeWhile (fun h => decide (el ≤ h.el + keep * qSec)) }

/-! ## Records -/

/-- RF_DELAY_Q of a band (R21, R271). -/
def rfDelay (s : State) (band : Nat) : Int :=
  let cable : Int := if antSet s then cfg s 0x0101 0 0x20 4 else 0
  let delta : Int := if band = 1 then fldS s.gnss.recd 0x24 4 else 0
  cfg s 0x1102 (56 + band) 0x24 4 + cable + delta

/-- What an epoch has latched, at the antenna phase centre (R21, R271). -/
def atAntenna (x : GnssEpochIn) (s : State) : GnssEpochIn :=
  { x with meas := x.meas.map (fun m => antennaMeas m (m.ch / 48) (rfDelay s (m.ch / 48 % 2))) }

/-- The delay of the ionosphere-free combination of both bands, in q, nearest (R21, R274). -/
def ifDelay (s : State) : Int :=
  F64.rint (F64.ofRat (23716 * rfDelay s 0 - 13225 * rfDelay s 1) 10491)

/-- The SUSPECT satellites, by bank (R289). -/
def Gnss.suspects (g : Gnss) : List (Nat × Nat) := g.causes.map (fun c => (c.bank, c.sv))

/-- A satellite was SUSPECT in a bank at the elapsed instant `el` (R282). -/
def Gnss.suspectAt (g : Gnss) (bank sv el : Nat) : Bool :=
  match g.suspLog.find? (fun y => decide (y.1 ≤ el)) with
  | some y => y.2.contains (bank, sv)
  | none => false

/-- EPOCH_COUNT of the epoch whose window [previous epoch instant, epoch instant) contains the elapsed instant `el`
(R282, R35). -/
def Gnss.epochOf (g : Gnss) (el : Nat) : Nat :=
  match (g.past.takeWhile (fun y => decide (el < y.1))).getLast? with
  | some y => y.2
  | none => (g.epoch + 1) % 2 ^ 32

/-- FLAGS of a bank (R279). -/
def Gnss.bankFlags (g : Gnss) (b : Nat) : Nat :=
  flags [(7, nth false g.uniform b), (6, (nth default g.agc (b % 2)).spoof),
    (5, (nth default g.agc (b % 2)).jam), (4, g.ant == 2 || g.ant == 3)]

/-- Bytes of an ENTRY (R280). -/
def Gnss.entry (g : Gnss) (x : GnssEpochIn) (el c : Nat) : List Byte :=
  let k := g.ch c
  let b := c / 48
  let m := measAt x c
  let paired := g.pairs.any (fun p => p.a == c || p.b == c)
  let fl := flags [(15, k.codeLock), (14, k.carrierLock && k.codeLock), (13, k.codeLock && m.sync),
    (12, k.codeLock && m.tow), (11, k.codeLock && m.half), (10, k.slip), (9, paired),
    (8, g.suspect b k.sv), (7, k.dup)]
  let head := leBytes 1 (c % 48) ++ leBytes 1 k.sv ++ leBytes 2 fl ++ leBytes 2 (g.causesOf b k.sv)
  if !k.codeLock then head ++ List.replicate 34 0
  else
    head ++ leBytes 1 k.slips ++ leBytes 1 (ambigMs b m) ++ leBytes 8 m.tx
      ++ leBytes 8 (if k.carrierLock then sgn 8 m.carrier else 0) ++ leBytes 4 (sgn 4 m.doppler)
      ++ leBytes 2 m.cn0 ++ leBytes 2 0
      ++ leBytes 4 (if k.carrierLock then sat 32 ((el - k.lockEl) / qMs) else 0) ++ leBytes 4 0

/-- Body of KD_GNSS_EPOCH for bank `b` (R279). -/
def gnssEpochBody (x : GnssEpochIn) (b : Nat) (s : State) : List Byte :=
  let g := s.gnss
  let cs := g.bankChans b
  mkBody 32 [(0x20, 4, g.epoch), (0x24, 1, b), (0x25, 1, cs.length), (0x26, 1, g.bankFlags b),
    (0x27, 1, s.time.state.code), (0x28, 4, uncertNs s), (0x2C, 2, sgn 2 (nth default g.agc (b % 2)).dev),
    (0x2E, 1, g.rate), (0x30, 4, ofSigned 32 (rfDelay s (b % 2)))] ++ cs.flatMap (g.entry x s.now.el)

/-- Bytes of an ENTRY of KD_GNSS_CHECK (R294). -/
def Gnss.checkEntry (g : Gnss) (x : GnssEpochIn) (sys sv : Nat) : List Byte :=
  let find := fun b => (g.bankChans b).find? (fun c => (g.ch c).sv == sv && (g.ch c).codeLock && !(g.ch c).dup)
  let a := find (2 * sys)
  let b := find (2 * sys + 1)
  let no := fun (o : Option Nat) => match o with | some c => c % 48 | none => 0xFF
  let p := g.pairs.find? (fun p => some p.a == a && some p.b == b)
  let cmc := fun (o : Option Nat) => match o with
    | some c => (match (g.ch c).cmc with | some d => sgn 4 (clampI (-(2 ^ 31) + 1) (2 ^ 31 - 1) (mmOf d)) | none => 0x80000000)
    | none => 0x80000000
  leBytes 1 sys ++ leBytes 1 sv ++ leBytes 1 (no a) ++ leBytes 1 (no b)
    ++ leBytes 2 (g.causesOf (2 * sys) sv ||| g.causesOf (2 * sys + 1) sv) ++ leBytes 2 0
    ++ leBytes 4 (match p with
      | some p => sgn 4 (mmOf (ionoOf (measAt x p.a) (measAt x p.b) (p.a / 48) (p.b / 48)))
      | none => 0x80000000)
    ++ leBytes 2 (match p with | some p => (match p.rateMms with | some v => sgn 2 v | none => 0x8000) | none => 0x8000)
    ++ leBytes 2 0 ++ leBytes 4 (cmc a) ++ leBytes 4 (cmc b)

/-- Body of KD_GNSS_CHECK (R294). -/
def gnssCheckBody (x : GnssEpochIn) (s : State) : List Byte :=
  let g := s.gnss
  let svs := fun sys => sortBy (fun a b => decide (a ≤ b)) (((g.bankChans (2 * sys) ++ g.bankChans (2 * sys + 1)).filter
    (fun c => (g.ch c).codeLock)).map (fun c => (g.ch c).sv)).eraseDups
  let es := (svs 0).map (g.checkEntry x 0) ++ (svs 1).map (g.checkEntry x 1)
  let susp := ((List.range 192).filter (fun c => decide ((g.ch c).sv ≠ 0) && g.suspect (c / 48) (g.ch c).sv)).length
  mkBody 64 [(0x20, 4, g.epoch), (0x24, 1, es.length),
    (0x25, 1, flags [(7, g.clkFail), (6, g.clkNa), (5, g.frozenRef.isSome), (4, g.clkEval)]),
    (0x26, 1, g.bankFlags 0), (0x27, 1, g.bankFlags 1), (0x28, 1, g.bankFlags 2), (0x29, 1, g.bankFlags 3),
    (0x2A, 1, g.usable), (0x2B, 1, susp), (0x2C, 2, sgn 2 (nth default g.agc 0).dev),
    (0x2E, 2, sgn 2 (nth default g.agc 1).dev), (0x30, 4, g.clkEpoch),
    (0x34, 4, sgn 4 (clampI (-(2 ^ 31)) (2 ^ 31 - 1) g.biasRes)),
    (0x38, 4, sgn 4 (clampI (-(2 ^ 31)) (2 ^ 31 - 1) g.driftRes)), (0x3C, 4, sat 32 g.allow),
    (0x40, 2, g.antMa), (0x42, 1, g.ant)] ++ es.flatten

end Sys2Proof.Machine
end

