-- ==== Sys2Proof/Machine/Rtcm.lean ====
section
/-!
DEFINITION. RTCM 3 frames (R300, R303, R406): framing, CRC-24Q, and the header fields that the
positioning engine uses. The places of the fields are those of RTCM 10403.3 (log entry 34).
-/
namespace Sys2Proof.Machine

/-- One bit of CRC-24Q. -/
def crc24Bit (c : Nat) : Nat := let d := c * 2; if d < 2 ^ 24 then d else (d ^^^ 0x1864CFB) % 2 ^ 24

/-- One byte of CRC-24Q. -/
def crc24Byte (c : Nat) (b : Byte) : Nat :=
  crc24Bit (crc24Bit (crc24Bit (crc24Bit (crc24Bit (crc24Bit (crc24Bit (crc24Bit (c ^^^ (b.toNat * 2 ^ 16)))))))))

/-- CRC-24Q of bytes: polynomial 0x1864CFB, initial value 0. -/
def crc24q (bs : List Byte) : Nat := bs.foldl crc24Byte 0

/-- The big-endian number of bytes. -/
def beNat (bs : List Byte) : Nat := bs.foldl (fun a b => a * 256 + b.toNat) 0

/-- `n` bits of a byte list from bit `off`, most significant first. -/
def beBits (bs : List Byte) (off n : Nat) : Nat :=
  let b := slice bs (off / 8) ((off % 8 + n + 7) / 8)
  beNat b / 2 ^ (8 * b.length - off % 8 - n) % 2 ^ n

/-- The same, in two's complement. -/
def beBitsS (bs : List Byte) (off n : Nat) : Int := toSigned n (beBits bs off n)

/-- Payload length that a frame's header gives. -/
def rtcmLen (bs : List Byte) : Nat := beBits bs 14 10

/-- Split bytes into frames by their length fields (R303); none when they do not span the bytes. -/
def rtcmSplit : (fuel : Nat) → List Byte → Option (List (List Byte))
  | _, [] => some []
  | 0, _ => none
  | f + 1, bs =>
    let n := rtcmLen bs + 6
    if bs.length < n then none
    else (rtcmSplit f (bs.drop n)).map (fun l => bs.take n :: l)

/-- Preamble and CRC-24Q of a whole frame hold. -/
def rtcmOk (fr : List Byte) : Bool :=
  let n := rtcmLen fr
  fr.head? == some 0xD3 && decide (fr.length = n + 6) && decide (crc24q (fr.take (n + 3)) = beNat (fr.drop (n + 3)))

/-- What the positioning engine reads of a frame (R300). -/
inductive Rtcm where
  /-- 1005 or 1006: station and ARP in 0.1 mm. -/
  | station (id : Nat) (x y z : Int)
  /-- An MSM of GPS or Galileo: station, epoch time in ms of week, multiple-message bit. -/
  | msm (galileo : Bool) (id towMs : Nat) (more : Bool)
  | other
  deriving DecidableEq, Repr

/-- Decode a frame (R300). -/
def rtcmDecode (fr : List Byte) : Rtcm :=
  let p := (fr.drop 3).take (rtcmLen fr)
  let t := beBits p 0 12
  if t = 1005 ∨ t = 1006 then
    .station (beBits p 12 12) (beBitsS p 34 38) (beBitsS p 74 38) (beBitsS p 114 38)
  else if t = 1074 ∨ t = 1077 then .msm false (beBits p 12 12) (beBits p 24 30) (decide (beBits p 54 1 = 1))
  else if t = 1094 ∨ t = 1097 then .msm true (beBits p 12 12) (beBits p 24 30) (decide (beBits p 54 1 = 1))
  else .other

end Sys2Proof.Machine
end

