-- ==== Sys2Proof/Machine/PosOps.lean ====
section
/-!
DEFINITION. The positioning engine (R298–R304, R314): corrections, base epochs, modes, KD_POSITION.
-/
namespace Sys2Proof.Machine

/-! ## Corrections -/

/-- CORR_SOURCE in force (R302). -/
def corrMode (s : State) : Nat := fld s.fus.main 0x26 1

/-- The host (true) or the modem (false) is the primary source, for a mode with one or two sources. -/
def primaryHost (s : State) : Bool := corrMode s == 2 || corrMode s == 4

/-- A source is the one in use (R302). -/
def inUse (host : Bool) (s : State) : Bool :=
  match corrMode s with
  | 0 => false
  | 1 => !host
  | 2 => host
  | _ => host == (primaryHost s != s.pos.backup)

/-- A source of corrections. -/
def Pos.src (p : Pos) (host : Bool) : CorrSrc := if host then p.host else p.modem

/-- Change a source. -/
def Pos.upSrc (p : Pos) (host : Bool) (f : CorrSrc → CorrSrc) : Pos :=
  if host then { p with host := f p.host } else { p with modem := f p.modem }

/-- Two stations differ (R301): in number, or by more than 100 mm. -/
def Station.moved (a b : Station) : Bool :=
  let d := fun (x y : Int) => (x - y) * (x - y)
  a.id != b.id || decide (1000000 < d a.x b.x + d a.y b.y + d a.z b.z)

/-- The two sources give the same station (R302). -/
def Pos.sameStation (p : Pos) : Bool :=
  match p.modem.station, p.host.station with
  | some a, some b => !a.moved b
  | _, _ => false

/-- Change between primary and backup: a station change unless the stations agree (R302). -/
def Pos.switch (p : Pos) (b : Bool) : Pos :=
  { p with backup := b, primaryRun := 0, moved := p.moved || !p.sameStation }

/-- A complete base epoch of a source (R301, R302). -/
def baseComplete (host : Bool) (s : State) : State :=
  let two := decide (3 ≤ corrMode s)
  if two && host == primaryHost s then
    s.upPos (fun p =>
      let n := p.primaryRun + 1
      let p1 := { p with primaryEl := s.now.el, primaryRun := n }
      if p.backup && decide (10 ≤ n) then p1.switch false else p1)
  else s

/-- Add a base epoch, in place of one of the same time. -/
def CorrSrc.add (c : CorrSrc) (b : BaseEp) : CorrSrc :=
  { c with base := (b :: c.base.filter (fun x => x.tow != b.tow)).take 64 }

/-- Take one frame whose CRC holds (R300–R302). Answers whether the frame is used. -/
def rtcmTake (host : Bool) (fr : List Byte) (stamp : Nat) (s : State) : State × Bool :=
  let used := inUse host s
  match rtcmDecode fr with
  | .other => (s.upPos (fun p => { p with ignored := satAdd 32 p.ignored 1 }), false)
  | .station id x y z =>
    let st : Station := ⟨id, x, y, z⟩
    match (s.pos.src host).station with
    | some old =>
      if old.moved st then
        (s.upPos (fun p => { (p.upSrc host (fun _ => ⟨some st, [], []⟩)) with moved := p.moved || used }), used)
      else (s, used)
    | none => (s.upPos (fun p => p.upSrc host (fun c => { c with station := some st })), used)
  | .msm gal id tow more =>
    match (s.pos.src host).station with
    | some st =>
      if st.id ≠ id then (s, false)
      else
        let c := s.pos.src host
        let b0 := (c.collecting.find? (fun b => b.tow == tow)).getD ⟨id, tow, false, false, false, false, s.now.el, stamp⟩
        let b : OpenBase := if gal then { b0 with gotGal := true, endGal := b0.endGal || !more, stamp := stamp }
          else { b0 with gotGps := true, endGps := b0.endGps || !more, stamp := stamp }
        let rest := c.collecting.filter (fun b => b.tow != tow)
        if (!b.gotGps || b.endGps) && (!b.gotGal || b.endGal) then
          (baseComplete host (s.upPos (fun p => p.upSrc host (fun c =>
            ({ c with collecting := rest } : CorrSrc).add ⟨tow, false, stamp⟩))), used)
        else (s.upPos (fun p => p.upSrc host (fun c => { c with collecting := rest ++ [b] })), used)
    | none => (s, false)

/-- A base epoch that is not complete 200 ms after its first message is used as it stands (R301). -/
def baseTimeout (host : Bool) (s : State) : State :=
  match (s.pos.src host).collecting with
  | [] => s
  | b :: rest =>
    let s1 := reachEl (b.firstEl + 200 * qMs) s
    s1.upPos (fun p =>
      let p1 := p.upSrc host (fun c => ({ c with collecting := rest } : CorrSrc).add ⟨b.tow, true, b.stamp⟩)
      if host == primaryHost s then { p1 with primaryRun := 0 } else p1)

/-! ## Solved epochs -/

/-- Milliseconds of a week. -/
def weekMs : Nat := 604800000

/-- The base epoch used for a rover epoch (R301): the latest whose time is at or before it, with its age. -/
def baseFor (c : CorrSrc) (tow : Nat) : Option (BaseEp × Nat) :=
  let aged := c.base.map (fun b => (b, (tow + weekMs - b.tow % weekMs) % weekMs))
  (aged.filter (fun x => decide (x.2 < weekMs / 2))).foldl (fun m x =>
    match m with
    | some y => if x.2 < y.2 then some x else some y
    | none => some x) none

/-- The mode after a solved epoch, and the event that the change raises (R299). -/
def posMode (s : State) (v : PosSol) (age : Option Nat) : Pos × Option (Nat × Nat) :=
  let p := s.pos
  let m := s.fus.main
  let low := decide (s.gnss.usable < 4) || decide (v.sats < 4 ∧ p.mode = 0)
  let minSats := fld m 0x2E 1
  let fresh := match age with | some a => decide (a ≤ fld m 0x2A 2) | none => false
  let good := decide (fld m 0x2C 2 ≤ v.ratio)
  let p0 := { p with moved := false }
  if low then
    if p.mode = 0 then (p0, none) else ({ p0 with mode := 0, passRun := 0, failRun := 0 }, some (44, 0))
  else
    match p.mode with
    | 0 => ({ p0 with mode := 1 }, some (44, 1))
    | 1 =>
      if (match corrMode s with | 0 => false | _ => true) && fresh && decide (minSats ≤ v.common) then
        ({ p0 with mode := 2, passRun := 0, failRun := 0 }, some (44, 2))
      else (p0, none)
    | k =>
      if p.moved then ({ p0 with mode := 1, passRun := 0, failRun := 0 }, some (45, 1))
      else if !fresh then ({ p0 with mode := 1, passRun := 0, failRun := 0 }, some (46, 1))
      else if k = 2 then
        let n := if good then p.passRun + 1 else 0
        if 5 ≤ n ∧ minSats ≤ v.fixedSats then
          ({ p0 with mode := 3, passRun := 0, failRun := 0 }, some (44, 3))
        else ({ p0 with passRun := n }, none)
      else
        let n := if good then 0 else p.failRun + 1
        if 3 ≤ n ∨ v.fixedSats < minSats then
          ({ p0 with mode := 2, passRun := 0, failRun := 0 }, some (44, 2))
        else ({ p0 with failRun := n }, none)

/-- The source of corrections in use, if any. -/
def activeCorr (s : State) : CorrSrc :=
  if inUse true s then s.pos.host else if inUse false s then s.pos.modem else ⟨none, [], []⟩

/-- Body of KD_POSITION (R320). -/
def positionBody (s : State) (v : PosSol) (b : Option (BaseEp × Nat)) : List Byte :=
  let p := s.pos
  let st := (activeCorr s).station
  let c := fun (x : Int) => sgn 2 (clampI (-32768) 32767 x)
  mkBody 64 [(0x20, 4, s.gnss.epoch), (0x24, 1, p.mode),
    (0x25, 1, flags [(7, p.backup && decide (3 ≤ corrMode s)),
      (6, match b with | some x => x.1.part && decide (2 ≤ p.mode) | none => false),
      (5, v.velValid), (4, !s.fus.validPose)]),
    (0x26, 1, s.gnss.usable), (0x27, 1, if p.mode = 3 then v.ambFixed else 0),
    (0x28, 8, sgn 8 v.lat), (0x30, 8, sgn 8 v.lon), (0x38, 4, sgn 4 v.heightMm),
    (0x3C, 2, c v.velN), (0x3E, 2, c v.velE), (0x40, 2, c v.velD),
    (0x42, 2, match st with | some x => x.id | none => 0xFFFF),
    (0x44, 4, match p.corrAge with | some a => a | none => 0xFFFFFFFF),
    (0x48, 2, if 2 ≤ p.mode then sat 16 v.ratio else 0), (0x4A, 2, sat 16 v.sigmaH), (0x4C, 2, sat 16 v.sigmaV),
    (0x4E, 2, sat 16 v.pdop), (0x50, 4, match b with | some x => x.1.tow | none => 0),
    (0x54, 4, p.ignored)]

/-- The comparison of a solved epoch with the fused position (R314). -/
def posCheck (v : PosSol) (s : State) : State :=
  if s.fus.validPose ∧ 2 ≤ s.pos.mode ∧ v.sigmaH ≤ 1000 then
    if posDisagree s.fus.gate v.lat v.lon (F64.ofNat v.sigmaH) v.fLat v.fLon (F64.ofNat v.fSigma) then
      let n := s.pos.disagree + 1
      if 100 ≤ n ∧ !s.fus.excluded 0 then raise 50 0xFFFF 0 (s.upPos (fun p => { p with disagree := 0 }))
      else s.upPos (fun p => { p with disagree := n })
    else s.upPos (fun p => { p with disagree := 0 })
  else s.upPos (fun p => { p with disagree := 0 })

/-- The engine solves at this epoch (R298). -/
def posDue (s : State) (at_ : Nat) : Bool :=
  let rate := max 1 s.gnss.rate
  let pr := max 1 (fld s.fus.main 0x21 1)
  decide (rate ≤ pr) || decide (at_ < at_ / (qSec / pr) * (qSec / pr) + qSec / rate)

/-- Two positions lie within 500 mm of each other (R308). -/
def posNear (lat lon lat0 lon0 : Int) : Bool :=
  let x := enOf 10000000000 lat lon 0 lat0 lon0 0
  F64.le (F64.add (F64.mul x.1 x.1) (F64.mul x.2 x.2)) (F64.ofInt 250000)

/-- A source that is used gives a position (R308): the first one initialises the position, and with it the
heading saved at key-off where it lies near the saved position. -/
def Fusion.locate (f : Fusion) (src : Nat) (lat lon : Int) : Fusion :=
  if f.uses src && !f.posInit then
    { f with
      posInit := true
      headInit := f.headInit || (match f.saved with | some q => posNear lat lon q.1 q.2 | none => false) }
  else f

/-- The positioning engine at an epoch (R298–R304, R311, R314). -/
def posEpoch (sol : Option PosSol) (at_ : Nat) (s : State) : State :=
  let s0 := s.upFus (fun f => { f with gnssNew := f.gnssNew || decide (0 < s.gnss.usable) })
  if !posDue s at_ then s0
  else
    let v := sol.getD default
    let b := baseFor (activeCorr s0) v.tow
    let x := posMode s0 (if sol.isSome then v else { v with sats := 0 }) (b.map (·.2))
    let s1 := s0.upPos (fun _ => { x.1 with corrAge := b.map (·.2) })
    let s2 : State := match x.2 with | some e => raise e.1 0xFFFF e.2 s1 | none => s1
    let s3 : State := if s2.pos.mode = 0 ∨ sol.isNone then s2
      else s2.upFus (fun f =>
        let f1 := (f.locate 0 v.lat v.lon).put ⟨0, 0, [F64.ofInt v.lat, F64.ofInt v.lon], F64.ofNat v.sigmaH, s.now.el⟩
        if v.velValid then f1.put ⟨0, 1, [F64.ofInt v.fwd], F64.ofNat v.sigmaVel, s.now.el⟩ else f1)
    let s4 := posCheck v s3
    let acc := match b with | some y => max at_ y.1.stamp | none => at_
    emit 0x0A05 5 3 0 acc at_ (positionBody s4 v b) s4

end Sys2Proof.Machine
end

