-- ==== Sys2Proof/Machine/Fusion.lean ====
section
/-!
DEFINITION. The commands of positioning and fusion (R296–R325).
-/
namespace Sys2Proof.Machine

/-! ## Corrections -/

/-- Layout of KD_RTCM_IN for a LENGTH (R303). -/
def scRtcmIn (len : Nat) : RecSchema :=
  { lens := if 5 ≤ len ∧ len ≤ 4064 then [len] else []
    flds := [fu 0x20 2 1 64 1, fb 0x24 (len - 4) (2 ^ (8 * (len - 4)) - 1) 0], rel := fun _ => [] }

/-- Take the frames of a command in order: used and failed ones are counted (R303). -/
def rtcmAll (host : Bool) (stamp : Nat) : List (List Byte) → State → State × Nat × Nat
  | [], s => (s, 0, 0)
  | f :: r, s =>
    if rtcmOk f then
      let x := rtcmTake host f stamp s
      let y := rtcmAll host stamp r x.1
      (y.1, y.2.1 + (if x.2 then 1 else 0), y.2.2)
    else
      let y := rtcmAll host stamp r s
      (y.1, y.2.1, y.2.2 + 1)

/-- KD_RTCM_IN (R303). -/
def execKdRtcmIn (dt : Nat) (p : Post) (s : State) : Host.Outcome State Fault Refusal :=
  .next (command dt 0x0A02 3 p (scRtcmIn p.length) false decideAt (fun u s =>
    match rtcmSplit 65 (p.body.drop 4) with
    | none => u.refuse 0x0A02 0 s
    | some fs =>
      if fs.length ≠ fld p.body 0x20 2 then u.refuse 0x0A02 0 s
      else
        let x := rtcmAll true u.acc fs s
        complete u.kind u.unit p u.acc ⟨0, 0, x.2.2, x.2.1, 0, u.bound⟩ x.1) s)

/-- BASE_EPOCH_TIMEOUT (R301), for the host source or the modem source. -/
def execBaseEpochTimeout (host : Bool) (s : State) : Host.Outcome State Fault Refusal :=
  .next (baseTimeout host s)

/-- CORR_SOURCE_BACKUP (R302): 5 s without a complete base epoch from the primary source. -/
def execCorrSourceBackup (s : State) : Host.Outcome State Fault Refusal :=
  if 3 ≤ corrMode s ∧ !s.pos.backup then
    .next ((reachEl (s.pos.primaryEl + 5 * qSec) s).upPos (fun p => p.switch true))
  else .next s

/-! ## Outputs -/

/-- EDGE_VALID (R316). -/
def edgeValid (s : State) : Bool :=
  s.fus.validPose && (match s.fus.edgeEl with
    | some t => decide (s.now.el < t + fld s.fus.main 0x3C 2 * qMs) | none => false)

/-- DEGRADED (R308). -/
def degraded (f : Fusion) : Bool := f.dead || decide (f.exclMask &&& fld f.main 0x28 2 ≠ 0)

/-- The velocity is known from GNSS or from wheels (R308). -/
def velKnown (s : State) : Bool :=
  s.pos.mode != 0 || [3, 4, 5, 6].any (fun w => s.fus.uses w && !s.fus.absent.testBit w && decide (nth 0 s.fus.seen w ≠ 0))

/-- Nearest whole number to `n / d`, ties up (log entry 22). -/
def divNear (n : Int) (d : Nat) : Int := (2 * n + d) / (2 * (d : Int))

/-- XTRACK_MM, HEADING_ERR in 2^-32 turn, and LINE_REVERSED (R317). -/
def lineErrors (s : State) (e : PoseEst) : F64 × Int × Bool :=
  let l := s.fus.line
  let x := enOf 10000000000 e.lat e.lon e.heightMm (fldS l 0x24 4 * 1000) (fldS l 0x28 4 * 1000) e.heightMm
  let h := turnRad (fld l 0x2C 2) 16
  let xt := F64.sub (F64.sub (F64.mul x.1 (F64.cos h)) (F64.mul x.2 (F64.sin h))) (F64.ofInt (fldS l 0x30 4))
  -- wrapped to (−½, +½] turn
  let he : Int := -(wrapI (2 ^ 32) ((fld l 0x2C 2 : Int) * 2 ^ 16 - e.heading))
  if 2 ^ 30 < he.natAbs then
    (F64.neg xt, if 0 < he then he - 2 ^ 31 else he + 2 ^ 31, true)
  else (xt, he, false)

/-- Body of KD_POSE (R319). -/
def poseBody (s : State) (x : FusionIn) (vel : Bool) : List Byte :=
  let f := s.fus
  let e := x.est
  let edge := edgeValid s
  let c := fun (v : Int) => sgn 2 (clampI (-32768) 32767 v)
  let on := f.validPose && decide (fld f.line 0x21 1 = 1)
  let le := lineErrors s e
  let hostRecent := match f.hostEl with | some t => decide (s.now.el < t + qSec) | none => false
  mkBody 96 [(0x20, 4, f.count), (0x24, 1, s.pos.mode),
    (0x25, 1, flags [(7, f.validPose), (6, vel), (5, degraded f), (4, edge), (3, f.dead), (2, hostRecent),
      (1, on && le.2.2)]),
    (0x26, 2, f.exclMask), (0x28, 8, sgn 8 e.lat), (0x30, 8, sgn 8 e.lon), (0x38, 4, sgn 4 e.heightMm),
    (0x3C, 2, c (divNear e.velN 1000)), (0x3E, 2, c (divNear e.velE 1000)), (0x40, 2, c (divNear e.velD 1000)),
    (0x42, 2, c (divNear e.fwd 1000)), (0x44, 2, sgn 2 (divNear e.roll 65536)),
    (0x46, 2, sgn 2 (divNear e.pitch 65536)), (0x48, 2, sgn 2 (divNear e.heading 65536)),
    (0x4A, 2, c (divNear e.yawRate 1000000)),
    (0x4C, 2, if edge then c e.edgeOffsetMm else 0x8000), (0x4E, 2, if edge then sgn 2 e.edgeHeading else 0x8000),
    (0x50, 2, sat 16 e.sigmaHMm), (0x52, 2, sat 16 e.sigmaVMm), (0x54, 2, sat 16 e.sigmaVelMms),
    (0x56, 2, sat 16 e.sigmaHeading),
    (0x58, 4, if on then sgn 4 (clampI (-(2 ^ 31)) (2 ^ 31 - 1) (F64.rint le.1)) else 0x80000000),
    (0x5C, 2, if on then sgn 2 (divNear le.2.1 65536) else 0x8000), (0x5E, 2, f.absent),
    (0x60, 4, match s.pos.corrAge with | some a => a | none => 0xFFFFFFFF),
    (0x64, 2, sat 16 x.gated), (0x66, 2, sat 16 f.late), (0x68, 2, sat 16 f.imuBad)]

/-- The signals of an output (R318) with their validity; stamp t + 500 µs. -/
def poseSignals (e : PoseEst) (vel : Bool) (t : Nat) (s : State) : State :=
  let f := s.fus
  let edge := edgeValid s
  let on := f.validPose && decide (fld f.line 0x21 1 = 1)
  let le := lineErrors s e
  let b := fun (x : Bool) => (if x then 2 ^ 30 else 0 : Int)
  let st := t + 500 * qUs
  let all : List (Nat × Bool × Int) := [
    (2048, true, b f.validPose), (2049, true, b (s.pos.mode == 3)),
    (2050, vel, q130 e.fwd 20000000), (2051, vel, q130 e.side 5000000), (2052, vel, q130 e.yawRate 1000000000),
    (2053, f.validPose, q130 e.roll (2 ^ 30)), (2054, f.validPose, q130 e.pitch (2 ^ 30)),
    (2055, edge, q130 e.edgeOffsetMm 5000), (2056, edge, q130 e.edgeHeading (2 ^ 14)),
    (2057, on, F64.rhalf (F64.clamp (F64.ofInt (-(2 ^ 31))) (F64.ofInt (2 ^ 31 - 1))
      (F64.div (F64.mul le.1 (F64.ofInt (2 ^ 30))) (F64.ofInt 5000)))),
    (2058, on, q130 le.2.1 (2 ^ 30)), (2059, f.validPose, q130 e.heading (2 ^ 31)),
    (2060, true, b edge), (2061, true, b (degraded f)), (2062, vel, q130 e.velD 5000000),
    (2063, true, q130 e.sigmaHMm 10000)]
  all.foldl (fun s x => if x.2.1 then publish x.1 st x.2.2 s else s) s

/-- The pose's validity changes (R308). -/
def setPoseValid (v : Bool) (s : State) : State :=
  if s.fus.validPose = v then s
  else raise 51 0xFFFF (if v then 1 else 0) (s.upFus (fun f => { f with validPose := v }))

/-- DEAD_RECKONING changes (R308). -/
def setDead (v : Bool) (s : State) : State :=
  if s.fus.dead = v then s
  else raise 49 0xFFFF (if v then 1 else 0) (s.upFus (fun f => { f with dead := v }))

/-- Take the records that a commit has brought since the last output (R321). Another CORR_SOURCE starts at its
primary; where that is not the source that was in use, it is a change of source (R302). -/
def fusionRecords (s : State) : State :=
  let m := recBody s 0x0A01 0
  let g := recBody s 0x0A01 1
  let l := recBody s 0x0A01 2
  let i := recBody s 0x0A01 3
  let anew := decide (fld m 0x28 2 ≠ fld s.fus.main 0x28 2) || g != s.fus.geom
  let s1 := s.upFus (fun f => { f with
    main := m, geom := g, line := l, imu := i, pairs := if anew then [] else f.pairs })
  if fld m 0x26 1 ≠ fld s.fus.main 0x26 1 then
    let s2 := s1.upPos (fun p => { p with backup := false, primaryEl := s.now.el, primaryRun := 0 })
    s2.upPos (fun p => { p with
      moved := p.moved || (fld s.fus.main 0x26 1 != 0 && inUse true s != inUse true s2 && !p.sameStation) })
  else s1

/-- FUSION_OUTPUT (R306–R309, R316–R319): an output instant, with the filter's estimate (log entry 12). -/
def execFusionOutput (x : FusionIn) (s : State) : Host.Outcome State Fault Refusal :=
  let t := s.fus.next
  let s0 := fusionRecords (reach t s)
  let el := s0.now.el
  let f := s0.fus
  let gnss := x.gnss && f.gnssNew && f.uses 0
  let s1 := s0.upFus (fun f => { f with
    next := nextMul (qSec / max 1 (fld f.main 0x22 2)) t, count := (f.count + 1) % 2 ^ 32
    late := f.late + x.late, gnssNew := false, feature := false
    gnssEl := if gnss then el else f.gnssEl, edgeEl := if f.feature then some el else f.edgeEl })
  let s2 := if gnss then setDead false s1 else s1
  let e := x.est
  -- heading from course over ground: 2 s at 1 000 mm/s or more and at most 0.05 rad/s (R308)
  let course := decide (1000000 ≤ e.fwd) && decide (e.yawRate.natAbs ≤ 50000000) && s2.pos.mode != 0
  let since := if course then some (f.cogSince.getD el) else none
  let head := s2.fus.headInit || (match since with | some c => decide (c + 2 * qSec ≤ el) | none => false)
  let s3 := s2.upFus (fun f => { f with cogSince := since, headInit := head })
  let s4 := setPoseValid (s3.fus.posInit && head && decide (e.sigmaHMm ≤ 5000) && decide (e.sigmaHeading ≤ 910)) s3
  let vel := s4.fus.validPose || velKnown s4
  let o : FOut := ⟨t, el, e, s4.fus.validPose, vel, degraded s4.fus⟩
  let s5 := s4.upFus (fun f => { f with outs := (o :: f.outs.takeWhile (fun y => decide (el < y.el + 3 * qSec))) })
  let s6 := poseSignals e vel t s5
  let d := fld s6.fus.main 0x24 2
  let stepped := match s6.fus.stepEl with | some z => decide (el < z + qSec) | none => false
  .next (if d = 0 ∨ s6.fus.count % d ≠ 0 then s6
    else emit 0x0A04 5 3 (if stepped then 0x80 else 0) x.acc t (poseBody s6 x vel) s6)

/-- DEAD_RECKONING_TIMEOUT (R308): 1 s without a GNSS measurement update. -/
def execDeadReckoningTimeout (s : State) : Host.Outcome State Fault Refusal :=
  if s.fus.dead then .next s else .next (setDead true (reachEl (s.fus.gnssEl + qSec) s))

/-- EDGE_HOLD_EXPIRY (R316): no feature within EDGE_HOLD_MS. -/
def execEdgeHoldExpiry (s : State) : Host.Outcome State Fault Refusal :=
  match s.fus.edgeEl with
  | some t => .next ((reachEl (t + fld s.fus.main 0x3C 2 * qMs) s).upFus (fun f => { f with edgeEl := none }))
  | none => .next s

/-! ## Comparison -/

/-- Causes of an exclusion as CODE (R312, R313; log entry 36). -/
inductive ExclWhy where
  | decided | ranked | equal | rate | skew
  deriving DecidableEq, Repr

/-- CODE of FUSION_EXCLUDE. -/
def ExclWhy.code : ExclWhy → Nat
  | .decided => 1 | .ranked => 2 | .equal => 3 | .rate => 4 | .skew => 5

/-- What the count of a pair leads to (R312): sources to exclude with their cause. -/
def decidePair (mode : Nat) (srcs : List Nat) (cmp : Nat → Nat → Option Bool) (a b : Nat) :
    List (Nat × ExclWhy) :=
  let low := max (srcRank mode a) (srcRank mode b)
  let ds := srcs.filter (fun t => decide (t ≠ a) && decide (t ≠ b) && decide (srcRank mode t < low)
    && (match cmp t a, cmp t b with | some x, some y => x != y | _, _ => false))
  match (sortBy (fun x y => decide (srcRank mode x ≤ srcRank mode y)) ds).head? with
  | some t => [(if cmp t a = some true then a else b, .decided)]
  | none =>
    if srcRank mode a = srcRank mode b then [(a, .equal), (b, .equal)]
    else [(if srcRank mode a < srcRank mode b then b else a, .ranked)]

/-- FUSION_CHECK_EPOCH (R311–R313). -/
def execFusionCheckEpoch (s : State) : Host.Outcome State Fault Refusal :=
  let t := s.fus.checkNext
  let s0 := (reach t s).upFus (fun f => { f with checkNext := nextMul qTap t })
  let el := s0.now.el
  let pulled := ([0, 1, 2, 3].filterMap (wheelEst s0)) ++ (steerEst s0).toList
  let s1 := s0.upFus (fun f => pulled.foldl (fun f e =>
    if f.ests.any (fun y => y.src == e.src && y.qty == e.qty && decide (e.el ≤ y.el)) then f else f.put e) f)
  let f := s1.fus
  let on := (List.range 15).filter f.enabled
  let cmp := compare f.gate f.ests el
  let mode := s1.pos.mode
  let clean := on.filter (fun x => !f.excluded x)
  let prs := clean.flatMap (fun a => (clean.filter (fun b => decide (a < b))).map (fun b => (a, b)))
  let cnt := prs.map (fun p =>
    let was := ((f.pairs.find? (fun c => c.a == p.1 && c.b == p.2)).map (·.n)).getD 0
    ({ a := p.1, b := p.2, n := match cmp p.1 p.2 with
        | some true => was + 1 | some false => 0 | none => was } : PairCount))
  let hits := (cnt.filter (fun c => decide (10 ≤ c.n))).flatMap (fun c => decidePair mode clean cmp c.a c.b)
  let firsts := hits.foldl (fun (acc : List (Nat × ExclWhy)) h => if acc.any (fun y => y.1 == h.1) then acc else acc ++ [h]) []
  let out := firsts.map (·.1)
  -- readmission of the sources excluded before this epoch
  let runs := f.excl.map (fun e =>
    let cs := clean.filterMap (fun b => cmp e.src b)
    ({ e with run := if f.enabled e.src && cs != [] && cs.all (fun d => !d) then e.run + 1 else 0 } : Excl))
  let back := (runs.filter (fun e => decide (fld f.main 0x30 2 ≤ e.run))).map (·.src)
  let s2 := s1.upFus (fun f => { f with
    pairs := cnt.filter (fun c => decide (c.n ≠ 0) && !out.contains c.a && !out.contains c.b)
    excl := runs.filter (fun e => !back.contains e.src) ++ out.map (fun x => ⟨x, 0⟩) })
  let s3 := firsts.foldl (fun s h => raise 47 h.1 h.2.code s) s2
  .next (back.foldl (fun s x => raise 48 x 0 s) s3)

/-- SOURCE_ABSENT (R313): a source has been silent for 1 s. -/
def execSourceAbsent (src : Fin 15) (s : State) : Host.Outcome State Fault Refusal :=
  if s.fus.enabled src && !s.fus.absent.testBit src then
    .next ((reachEl (nth 0 s.fus.seen src + qSec) s).upFus (fun f => { f with absent := f.absent ||| 2 ^ src.val }))
  else .next s

/-! ## Inputs -/

/-- Layout of KD_HOST_FIX (R315). -/
def scHostFix : RecSchema :=
  { lens := [32]
    flds := [fu 0x20 8 0 (2 ^ 64 - 1) 0, fs 0x28 4 (-(2 ^ 31)) (2 ^ 31 - 1) 0, fs 0x2C 4 (-(2 ^ 31)) (2 ^ 31 - 1) 0,
      fs 0x30 4 (-(2 ^ 31)) (2 ^ 31 - 1) 0, fu 0x34 2 1 65534 1, fu 0x36 2 1 65534 1 [0xFFFF],
      fu 0x38 2 0 0xFFFF 0, fu 0x3A 2 0 0xFFFF 0]
    rel := fun _ => [] }

/-- KD_HOST_FIX (R308, R314, R315). -/
def execKdHostFix (dt : Nat) (p : Post) (s : State) : Host.Outcome State Fault Refusal :=
  .next (command dt 0x0A03 3 p scHostFix false decideAt (fun u s =>
    let t := fld p.body 0x20 8
    if u.acc < t ∨ t + fld s.fus.main 0x36 2 * qMs < u.acc then u.refuse 0x0A01 0 s
    else
      let lat := fldS p.body 0x28 4 * 1000
      let lon := fldS p.body 0x2C 4 * 1000
      let s1 := s.upFus (fun f =>
        let f1 := f.put ⟨14, 0, [F64.ofInt lat, F64.ofInt lon], F64.ofNat (fld p.body 0x34 2),
          (s.now.el : Int) - ((s.now.ft : Int) - t)⟩
        if f.uses 14 then
          { f1.locate 14 lat lon with hostEl := if f.dead || !f.posInit then some s.now.el else f.hostEl }
        else f1)
      u.accept 0 s1) s)

/-- IMU0_DATA_READY (R305): a sample of the on-module IMU. -/
def execImu0DataReady (dt : Nat) (x : ImuSample) (s : State) : Host.Outcome State Fault Refusal :=
  let s1 := tick dt s
  .next (imuTake 0 x s1.now.el s1)

/-- The external IMU is configured (R324). -/
def imu1On (s : State) : Bool := decide (fld s.fus.main 0x32 2 ≠ 0)

/-- A data-ready edge is counted in the rate window of its stamp (R35, R37). -/
def Fusion.countEdge (stamp : Nat) (f : Fusion) : Fusion :=
  if stamp < f.windowNext then { f with edges := f.edges + 1 } else { f with edgesNext := f.edgesNext + 1 }

/-- IMU_DRDY (R324, R37): an edge of `IMU_DRDY`; the edge that DRDY_EDGE selects is counted and starts a
transfer, or is counted in IMU1_BAD while one runs. -/
def execImuDrdy (dt : Nat) (rising : Bool) (s : State) : Host.Outcome State Fault Refusal :=
  let s1 := tick dt s
  if !imu1On s1 || rising == decide (fld s1.fus.imu 0x24 1 = 1) then .next s1
  else
    .next (s1.upFus (fun f =>
      match f.transfer with
      | some _ => { f.countEdge s1.now.ft with imuBad := f.imuBad + 1 }
      | none => { f.countEdge s1.now.ft with transfer := some s1.now.el }))

/-- CRC-8 of R324: polynomial 0x07, initial value 0. -/
def crc8 (bs : List Byte) : Nat :=
  bs.foldl (fun c b =>
    (List.range 8).foldl (fun c _ => let d := c * 2; if d < 256 then d else (d ^^^ 0x107) % 256) (c ^^^ b.toNat)) 0

/-- The frame passes its check (R324). -/
def imuFrameOk (recd : List Byte) (fr : List Byte) : Bool :=
  let n := fld recd 0x26 1
  let body := fr.take (n - 1)
  let last := (nth 0 fr (n - 1)).toNat
  match fld recd 0x27 1 / 4 % 4 with
  | 1 => decide (body.foldl (fun a b => a + b.toNat) 0 % 256 = last)
  | 2 => decide (crc8 body = last)
  | _ => true

/-- Field `i` of an external IMU frame (R324). -/
def imuField (recd fr : List Byte) (i : Nat) : Int :=
  let w := if (fld recd 0x27 1).testBit 1 then 4 else 2
  let bs := slice fr (fld recd (0x30 + i) 1) w
  let bs := bs ++ List.replicate (w - bs.length) 0
  toSigned (8 * w) (if (fld recd 0x27 1).testBit 0 then leNat bs.reverse else leNat bs)

/-- IMU_TRANSFER_END (R324): the transfer has captured a frame. -/
def execImuTransferEnd (dt : Nat) (frame : List Byte) (s : State) : Host.Outcome State Fault Refusal :=
  let s1 := tick dt s
  match s1.fus.transfer with
  | none => .next s1
  | some el =>
    let r := s1.fus.imu
    let s2 := s1.upFus (fun f => { f with transfer := none })
    if imuFrameOk r frame then
      let g := fun i => imuField r frame i * fld r 0x38 4
      let a := fun i => imuField r frame i * fld r 0x3C 4
      .next (imuTake 1 ⟨g 0, g 1, g 2, a 3, a 4, a 5⟩ el s2)
    else .next (s2.upFus (fun f => { f with imuBad := f.imuBad + 1 }))

/-- The window of data-ready stamps ends and the next one starts at `start`, to end at `next` (R37). Only a window of a
whole second is judged: one that a start or a step has cut short or drawn out has no nominal count (log entry 74). -/
def closeRate (start next : Nat) (s : State) : State :=
  let f := s.fus
  let n := f.edges
  let rate := fld f.main 0x32 2
  let s2 := s.upFus (fun f => { f with edges := f.edgesNext, edgesNext := 0, windowFrom := start, windowNext := next })
  if rate = 0 ∨ f.windowNext ≠ f.windowFrom + qSec then s2
  else if 5 * rate < 1000 * ((n : Int) - rate).natAbs then
    let s3 := s2.upFus (fun f => { f with rateBad := true, rateGood := 0 })
    if f.rateBad then s3 else raise 47 2 ExclWhy.rate.code s3
  else if f.rateBad then
    if 10 ≤ f.rateGood + 1 then raise 48 2 0 (s2.upFus (fun f => { f with rateBad := false, rateGood := 0 }))
    else s2.upFus (fun f => { f with rateGood := f.rateGood + 1 })
  else s2

/-- IMU1_RATE_WINDOW (R37): a 1 s window of data-ready stamps ends. -/
def execImu1RateWindow (s : State) : Host.Outcome State Fault Refusal :=
  let t := s.fus.windowNext
  .next (closeRate t (nextMul qSec t) (reach t s))

/-! ## Hooks of other units -/

/-- A usable feature of pipeline `p` (R316, R348): it updates the crop-edge line. -/
def fusFeature (p : Nat) (s : State) : State :=
  s.upFus (fun f => if f.uses (8 + p) then { f with feature := true } else f)

/-- A camera is excluded under R36, or returns. -/
def fusSkew (p : Nat) (bad : Bool) (s : State) : State :=
  if s.fus.skew.testBit p = bad then s
  else
    let s1 := s.upFus (fun f => { f with skew := if bad then f.skew ||| 2 ^ p else f.skew &&& (63 - 2 ^ p) })
    raise (if bad then 47 else 48) (8 + p) (if bad then ExclWhy.skew.code else 0) s1

/-- A frame of the modem's RTCM stream (R302). -/
def modemRtcm (fr : List Byte) (stamp : Nat) (s : State) : State := (rtcmTake false fr stamp s).1

end Sys2Proof.Machine
end

