-- ==== Sys2Proof/Machine/Pixels.lean ====
section
/-!
DEFINITION. The image pipeline of R335–R338, the statistics of R344, the classes, features and scalars of
R346, R347 and R349, and the frames of R340: functions of the lines received and of the records in force.
An image is a list of rows.
-/
namespace Sys2Proof.Machine

/-- Build an image of `w` by `h` from a function of column and row. -/
def tabulate {α : Type} (w h : Nat) (f : Nat → Nat → α) : List (List α) :=
  (List.range h).map (fun y => (List.range w).map (fun x => f x y))

/-- Pixel of an image. -/
def px {α : Type} (d : α) (img : List (List α)) (x y : Nat) : α := nth d (nth [] img y) x

/-- Mirrored coordinate of an edge (R335, R338): about the first or last line, so that a CFA position is kept. -/
def mirror (n : Nat) (i : Int) : Nat :=
  if i < 0 then (-i).toNat else if (n : Int) ≤ i then (2 * ((n : Int) - 1) - i).toNat else i.toNat

/-- Bits per pixel of a data type (R330). -/
def dtBits (dt : Nat) : Nat := match dt with | 0x2B => 10 | 0x2C => 12 | 0x2D => 14 | _ => 16

/-- Bytes that a line of `w` pixels needs. -/
def lineBytes (dt w : Nat) : Nat := (w * dtBits dt + 7) / 8

/-- Byte `i` of a line, 0 where it is missing (R333). -/
def byteAt (l : List Byte) (i : Nat) : Nat := (nth 0 l i).toNat

/-- Pixel `x` of a line as CSI-2 packs it (R330; log entry 42). -/
def rawPixel (dt : Nat) (l : List Byte) (x : Nat) : Nat :=
  match dt with
  | 0x2B =>
    let g := x / 4 * 5
    byteAt l (g + x % 4) * 4 + byteAt l (g + 4) / 4 ^ (x % 4) % 4
  | 0x2C =>
    let g := x / 2 * 3
    byteAt l (g + x % 2) * 16 + byteAt l (g + 2) / 16 ^ (x % 2) % 16
  | 0x2D =>
    let g := x / 4 * 7
    let low := byteAt l (g + 4) + 256 * byteAt l (g + 5) + 65536 * byteAt l (g + 6)
    byteAt l (g + x % 4) * 64 + low / 64 ^ (x % 4) % 64
  | _ => byteAt l (2 * x) * 256 + byteAt l (2 * x + 1)

/-- Interpolation in a table of 1 024 points at a 16-bit value (R336), clamped to `w` bits. -/
def interp (tab : List Nat) (w x : Nat) : Nat :=
  let k := x / 64
  let f := x % 64
  let t := fun (i : Nat) => ((nth 0 tab i : Nat) : Int)
  let next := if k < 1023 then t (k + 1) else t 1023 + (t 1023 - t 1022)
  (clampI 0 (2 ^ w - 1) (t k + ((next - t k) * f + 32) / 64)).toNat

/-- The points of the LIN or TONE table of a record (R352). -/
def tablePoints (w : Nat) (b : List Byte) : List Nat := (List.range 1024).map (fun i => fld b (0x30 + w * i) w)

/-- CFA position of a pixel, in the order of rows (R335); 0 for MONO. -/
def cfaPhase (cfa x y : Nat) : Nat := if cfa = 4 then 0 else 2 * (y % 2) + x % 2

/-- Colour at a CFA position: 0 red, 1 green, 2 blue (R352). -/
def cfaColour (cfa x y : Nat) : Nat :=
  let tab := match cfa with
    | 0 => [0, 1, 1, 2] | 1 => [1, 0, 2, 1] | 2 => [1, 2, 0, 1] | _ => [2, 1, 1, 0]
  nth 0 tab (cfaPhase cfa x y)

/-- The exposure merge of one pixel (R337): `ls` are the black-level outputs, `ratio` the RATIO words. -/
def mergePixel (lo hi : Nat) (ratio ls : List Nat) : Nat :=
  let step := fun (x k : Nat) =>
    let n := (nth 0 ls k * nth 0 ratio (k - 1) + 0x8000) / 65536
    let p := nth 0 ls (k - 1)
    let a := if p ≤ lo then 65536 else if hi ≤ p then 0 else ((hi - p) * 65536) / (hi - lo)
    (x * a + n * (65536 - a) + 0x8000) / 65536
  min ((List.range (ls.length - 1)).foldl (fun x i => step x (i + 1)) (nth 0 ls 0)) (2 ^ 32 - 1)

/-- What the pipeline makes of a frame. -/
structure Image where
  w : Nat
  h : Nat
  /-- Tone-mapped pixels: red, green and blue, 12 bits each. -/
  rgb : List (List (Nat × Nat × Nat))
  satE0 : Nat
  defects : Nat

/-- The 8 nearest neighbours of the same colour (R338). -/
def neighbours (img : List (List Nat)) (w h d x y : Nat) : List Nat :=
  let at_ := fun (dx dy : Int) => px 0 img (mirror w ((x : Int) + dx)) (mirror h ((y : Int) + dy))
  let d : Int := d
  [at_ (-d) (-d), at_ 0 (-d), at_ d (-d), at_ (-d) 0, at_ d 0, at_ (-d) d, at_ 0 d, at_ d d]

/-- Sixteen times the colour `c` that demosaicing gives at a pixel (R335): the 5 × 5 filters of Malvar,
He and Cutler. -/
def demosaic16 (img : List (List Nat)) (cfa w h x y c : Nat) : Int :=
  let at_ := fun (dx dy : Int) => ((px 0 img (mirror w ((x : Int) + dx)) (mirror h ((y : Int) + dy)) : Nat) : Int)
  let own := cfaColour cfa x y
  let ctr := at_ 0 0
  let h1 := at_ (-1) 0 + at_ 1 0
  let v1 := at_ 0 (-1) + at_ 0 1
  let h2 := at_ (-2) 0 + at_ 2 0
  let v2 := at_ 0 (-2) + at_ 0 2
  let dg := at_ (-1) (-1) + at_ 1 (-1) + at_ (-1) 1 + at_ 1 1
  if own = c then 16 * ctr
  else if c = 1 then 8 * ctr + 4 * (h1 + v1) - 2 * (h2 + v2)
  else if own = 1 then
    -- colour at a green pixel: in its row or in its column
    if cfaColour cfa (x + 1) y = c then 10 * ctr + 8 * h1 - 2 * h2 - 2 * dg + v2
    else 10 * ctr + 8 * v1 - 2 * v2 - 2 * dg + h2
  else 12 * ctr + 4 * dg - 3 * (h2 + v2)

/-- The stages of R335 from unpacking to the tone map. -/
def pipeline (recs : List (List Byte)) (ratio : List Nat) (pix : List (List Byte)) : Image :=
  let pr := nth [] recs 0
  let pc := nth [] recs 2
  let dt := fld pr 0x24 1
  let ex := fld pr 0x25 1
  let cfa := fld pr 0x26 1
  let w := fld pr 0x28 2
  let h := fld pr 0x2A 2
  let lin := tablePoints 3 (nth [] recs 1)
  let tone := tablePoints 2 (nth [] recs 6)
  let lo := fld pc 0x3C 4
  let hi := fld pc 0x40 4
  let black := (List.range 4).map (fun i => fld pc (0x24 + 4 * i) 4)
  let rt := (List.range 2).map (fun i => if nth 0 ratio i = 0 then fld pc (0x34 + 4 * i) 4 else nth 0 ratio i)
  let level := fun (x y e : Nat) =>
    let raw := rawPixel dt (nth [] pix (y * ex + e)) x
    interp lin 24 (raw * 2 ^ (16 - dtBits dt)) - nth 0 black (cfaPhase cfa x y)
  let stack := tabulate w h (fun x y => (List.range ex).map (level x y))
  let merged := stack.map (·.map (mergePixel lo hi rt))
  let th := fld pc 0x44 4
  let fix := fun (x y : Nat) =>
    let m := px 0 merged x y
    if th = 0 then (m, false)
    else
      let ns := neighbours merged w h (if cfa = 4 then 1 else 2) x y
      let top := ns.foldl max 0
      let bot := ns.foldl min (ns.headD 0)
      if top + th < m then (top, true) else if m < bot - th then (bot, true) else (m, false)
  let fixed := tabulate w h fix
  let clean := fixed.map (·.map (·.1))
  let ccm := fun (i : Nat) => fldS pc (0x48 + 2 * i) 2
  let shift := fld pc 0x5A 1
  let map1 := fun (v : Nat) => interp tone 12 (min (v / 2 ^ shift) 65535)
  let colour := fun (x y : Nat) =>
    let c := fun (k : Nat) => if cfa = 4 then px 0 clean x y else (Config.demosaicRound (demosaic16 clean cfa w h x y k)).toNat
    let mix := fun (r : Nat) =>
      (clampI 0 (2 ^ 32 - 1) ((ccm (3 * r) * c 0 + ccm (3 * r + 1) * c 1 + ccm (3 * r + 2) * c 2 + 2048) / 4096)).toNat
    (map1 (mix 0), map1 (mix 1), map1 (mix 2))
  { w := w, h := h, rgb := tabulate w h colour
    satE0 := (stack.flatten.filter (fun l => decide (hi ≤ nth 0 l 0))).length
    defects := (fixed.flatten.filter (·.2)).length }

/-- Nearest integer of `n / d`, and 0 for a zero divisor. -/
def nearest (n d : Nat) : Nat := if d = 0 then 0 else (2 * n + d) / (2 * d)

/-- Brightness of a pixel (R344). -/
def lumaOf (p : Nat × Nat × Nat) : Nat := (77 * p.1 + 150 * p.2.1 + 29 * p.2.2 + 128) / 256

/-- The statistics of R344: Y_MEAN, SHARPNESS, HIST and ZONE as they stand from offset 0x40. -/
def statsBody (im : Image) (b : List Byte) : List Byte :=
  let y := im.rgb.map (·.map lumaOf)
  let all := y.flatten
  let hist := (List.range 256).map (fun k => (all.filter (fun v => decide (v / 16 = k))).length)
  let zoneOf := fun (n i : Nat) => min 15 (i / max 1 (n / 16))
  let sums := (y.zipIdx.flatMap (fun r => r.1.zipIdx.map (fun c => (16 * zoneOf im.h r.2 + zoneOf im.w c.2, c.1))))
  let zones := (List.range 256).map (fun z =>
    let vs := (sums.filter (fun v => v.1 == z)).map (·.2)
    nearest vs.sum vs.length)
  let sharp := (tabulate (im.w - 2) (im.h - 2) (fun x y0 =>
    let g := fun (dx dy : Nat) => ((px 0 y (x + dx) (y0 + dy) : Nat) : Int)
    (4 * g 1 1 - g 0 1 - g 2 1 - g 1 0 - g 1 2).natAbs)).flatten
  let b1 := putBytes b 0x40 (leBytes 2 (nearest all.sum all.length) ++ [0, 0]
    ++ leBytes 4 (sat 32 (nearest (16 * sharp.sum) sharp.length)))
  putBytes b1 0x48 (hist.flatMap (leBytes 4) ++ zones.flatMap (leBytes 2))

/-- Class table entry of a pixel (R346): from the blocks of 2 048 entries. -/
def classEntry (recs : List (List Byte)) (p : Nat × Nat × Nat) : Nat :=
  let i := p.1 / 128 * 1024 + p.2.1 / 128 * 32 + p.2.2 / 128
  fld (nth [] recs (8 + i / 2048)) (0x30 + i % 2048) 1

/-- The region of the analysis record. -/
structure Roi where
  x0 : Nat
  y0 : Nat
  x1 : Nat
  y1 : Nat

/-- The region of R346. -/
def roiOf (ana : List Byte) : Roi := ⟨fld ana 0x24 2, fld ana 0x26 2, fld ana 0x28 2, fld ana 0x2A 2⟩

/-- Classes of the pixels between two rows of the region's columns; none for an ignored pixel (R346). -/
def classRows (recs : List (List Byte)) (im : Image) (r : Roi) (ya yb : Nat) : List (List (Option Nat)) :=
  (slice' im.rgb ya (yb - ya)).map (fun row =>
    (slice' row r.x0 (r.x1 - r.x0)).map (fun p =>
      let e := classEntry recs p
      if e.testBit 7 then none else some (e % 8)))
where
  /-- `n` elements of a list from index `i`. -/
  slice' {α : Type} (l : List α) (i n : Nat) : List α := (l.drop i).take n

/-- Pixels counted, and pixels of each class (R346). -/
def classCounts (rows : List (List (Option Nat))) : Nat × List Nat :=
  let l := rows.flatten.filterMap id
  (l.length, (List.range 8).map (fun c => (l.filter (· == c)).length))

/-- Counted pixels and mask pixels of each column of a band. -/
def columnCounts (mask : Nat) (rows : List (List (Option Nat))) (w : Nat) : List (Nat × Nat) :=
  (List.range w).map (fun x =>
    let l := rows.filterMap (fun r => nth none r x)
    (l.length, (l.filter (fun c => mask.testBit c)).length))

/-- The EDGE point of a band (R347): scanned columns with their numbers; `run` columns of crop so far. -/
def edgeScan : List (Nat × Nat × Nat) → Nat → Option Nat
  | [], _ => none
  | (x, n, m) :: r, run =>
    if n = 0 then edgeScan r run
    else if n ≤ 2 * m then edgeScan r (run + 1)
    else if 8 ≤ run then some x
    else edgeScan r 0

/-- The point of a band (R347). -/
def bandPoint (mode side x0 : Nat) (cols : List (Nat × Nat)) : Option F64 :=
  let l := cols.zipIdx.map (fun c => (x0 + c.2, c.1.1, c.1.2))
  if mode = 1 then (edgeScan (if side = 0 then l else l.reverse) 0).map F64.ofNat
  else
    let n := (l.map (·.2.1)).sum
    let m := (l.map (·.2.2)).sum
    if 64 * m < n ∨ m = 0 then none
    else some (F64.add (F64.div (F64.ofNat (l.map (fun c => c.1 * c.2.2)).sum) (F64.ofNat m)) (F64.ofRat 1 2))

/-- A line feature (R347): POINTS, CONF, COL_TOP, COL_BOTTOM, RESIDUAL. -/
structure Feature where
  points : Nat
  conf : Nat
  top : Int
  bottom : Int
  residual : Nat

/-- The line through the points of the bands (R347). With fewer than 4 points there is none, and CONF
is 0. -/
def fitLine (r : Roi) (pts : List (F64 × F64)) : Option Feature :=
  if pts.length < 4 then none
  else
    let n := F64.ofNat pts.length
    let s := fun (f : F64 × F64 → F64) => F64.sum (pts.map f)
    let sy := s (·.1)
    let sx := s (·.2)
    let syy := s (fun p => F64.mul p.1 p.1)
    let sxy := s (fun p => F64.mul p.1 p.2)
    let beta := F64.div (F64.sub (F64.mul n sxy) (F64.mul sy sx)) (F64.sub (F64.mul n syy) (F64.mul sy sy))
    let alpha := F64.div (F64.sub sx (F64.mul beta sy)) n
    let line := fun (y : F64) => F64.add alpha (F64.mul beta y)
    let err := fun (p : F64 × F64) => F64.sub p.2 (line p.1)
    let rms := F64.sqrt (F64.div (s (fun p => F64.mul (err p) (err p))) n)
    let u16 := fun (v : F64) => F64.rhalf (F64.mul v (F64.ofInt 16))
    let col := fun (v : F64) => clampI (-(2 ^ 31)) (2 ^ 31 - 1) (u16 v)
    let res := sat 16 (u16 rms).toNat
    let ratio := F64.min (F64.ofRat res (2 * (r.x1 - r.x0) : Nat)) F64.one
    let conf := F64.mul (F64.ofRat pts.length 16) (F64.sub F64.one ratio)
    some { points := pts.length, conf := (F64.rhalf (F64.mul conf (F64.ofInt 65535))).toNat
           top := col (line F64.zero), bottom := col (line (F64.ofNat (r.y1 - r.y0))), residual := res }

/-- The points of the 16 bands as (row below ROI_Y0, column) (R347). -/
def bandPoints (recs : List (List Byte)) (im : Image) : List (F64 × F64) :=
  let ana := nth [] recs 3
  let r := roiOf ana
  let hb := (r.y1 - r.y0) / 16
  (List.range 16).filterMap (fun b =>
    let rows := classRows recs im r (r.y0 + b * hb) (r.y0 + (b + 1) * hb)
    (bandPoint (fld ana 0x23 1) (fld ana 0x2D 1) r.x0 (columnCounts (fld ana 0x2C 1) rows (r.x1 - r.x0))).map
      (fun c => (F64.ofRat ((2 * b + 1) * hb : Nat) 2, c)))

/-- Pad a line to a multiple of 64 bytes. -/
def pad64 (l : List Byte) (n : Nat) : List Byte := (l ++ List.replicate n 0).take n

/-- The scaled frame (R340): its width, height, stride and bytes. -/
def scaledFrame (im : Image) (scale fmt : Nat) : Nat × Nat × Nat × List Byte :=
  let w := im.w / scale
  let h := im.h / scale
  let avg := fun (f : Nat × Nat × Nat → Nat) (x y : Nat) =>
    nearest ((List.range scale).flatMap (fun j => (List.range scale).map (fun i =>
      f (px (0, 0, 0) im.rgb (x * scale + i) (y * scale + j))))).sum (scale * scale)
  let comp := fun (v : Nat) => if fmt = 0 then leBytes 1 (v / 16) else leBytes 2 v
  let stride := (w * (if fmt = 0 then 3 else 6) + 63) / 64 * 64
  let line := fun (y : Nat) => pad64 ((List.range w).flatMap (fun x =>
    comp (avg (·.1) x y) ++ comp (avg (·.2.1) x y) ++ comp (avg (·.2.2) x y))) stride
  (w, h, stride, (List.range h).flatMap line)

/-- The stride and the bytes of a frame as stored (R340, R341). -/
def fullFrame (lines : List (List Byte)) : Nat × List Byte :=
  let stride := (lines.foldl (fun m l => max m l.length) 0 + 63) / 64 * 64
  (stride, lines.flatMap (fun l => pad64 l stride))

end Sys2Proof.Machine
end

