-- ==== Sys2Proof/Machine/CamOps.lean ====
section
/-!
DEFINITION. What the camera ports and pipelines do with triggers, frames, register writes and exposure
settings (R326–R350).
-/
namespace Sys2Proof.Machine

/-- Pipeline `p`. -/
def pipeOf (s : State) (p : Nat) : Pipe := nth Pipe.reset s.cam.pipes p
/-- Change pipeline `p`. -/
def upPipe (p : Nat) (f : Pipe → Pipe) (s : State) : State :=
  s.upCam (fun c => { c with pipes := upd c.pipes p f })
/-- Port `n`. -/
def portOf (s : State) (n : Nat) : CamPort := nth CamPort.reset s.cam.ports n
/-- Change port `n`. -/
def upPort (n : Nat) (f : CamPort → CamPort) (s : State) : State :=
  s.upCam (fun c => { c with ports := upd c.ports n f })

/-- KEY of record `i` of pipeline `p` (R352). -/
def camKey (p i : Nat) : Nat := 64 + 32 * p + i
/-- The pipeline record in force. -/
def pipeRec (s : State) (p : Nat) : List Byte := recBody s 0x0B01 (camKey p 0)
/-- Frames per second of a pipeline. -/
def pipeFps (s : State) (p : Nat) : Nat := max 1 (fld (pipeRec s p) 0x34 1)
/-- Port that pipeline `p` is bound to. -/
def pipePort (s : State) (p : Nat) : Nat := fld (pipeRec s p) 0x22 1
/-- Port record field. -/
def portCfg (s : State) (n off size : Nat) : Nat := cfg s 0x0B01 n off size
/-- A pipeline has a record (R351). -/
def pipeHasRec (s : State) (p : Nat) : Bool := ((curCat s).find 0x0B01 (camKey p 0)).isSome

/-- The first trigger instant at or after `t` of a grid of `fps` with a phase (R329). -/
def trigFrom (fps phase t : Nat) : Nat :=
  if t ≤ phase then phase
  else
    let u := t - phase
    let k := u % qSec * fps / qSec
    let at_ := fun (i : Nat) => u / qSec * qSec + i * qSec / fps
    phase + (if u ≤ at_ k then at_ k else at_ (k + 1))

/-- The first trigger instant of pipeline `p` at or after `t`. -/
def pipeTrig (s : State) (p t : Nat) : Nat := trigFrom (pipeFps s p) (fld (pipeRec s p) 0x38 4) t

/-- The region of the analysis is the whole frame where no record sets it (R352). -/
def anaBody (s : State) (p : Nat) : List Byte :=
  match (curCat s).find 0x0B01 (camKey p 3) with
  | some b => b
  | none => putBytes (defaultBody 0x0B01 (camKey p 3)) 0x28 (fieldBytes (pipeRec s p) 0x28 4)

/-- The records that serve for a frame that starts now (R350). -/
def frameRecs (s : State) (p : Nat) : List (List Byte) :=
  (List.range 24).map (fun i => if i = 3 then anaBody s p else recBody s 0x0B01 (camKey p i))

/-! ## Marks -/

/-- Bits of R333. -/
def mkCrc : Nat := 2 ^ 15
/-- ECC_FIX. -/
def mkEccFix : Nat := 2 ^ 14
/-- ECC_BAD. -/
def mkEccBad : Nat := 2 ^ 13
/-- SHORT. -/
def mkShort : Nat := 2 ^ 12
/-- LONG. -/
def mkLong : Nat := 2 ^ 11
/-- LATE. -/
def mkLate : Nat := 2 ^ 10
/-- TRUNCATED. -/
def mkTrunc : Nat := 2 ^ 9
/-- CLOCK_SKEW. -/
def mkSkew : Nat := 2 ^ 8
/-- MISSED. -/
def mkMissed : Nat := 2 ^ 7
/-- EXTRA_FRAME. -/
def mkExtra : Nat := 2 ^ 6
/-- FOREIGN_DT. -/
def mkForeign : Nat := 2 ^ 5
/-- EXP_WRITE_FAIL. -/
def mkExpFail : Nat := 2 ^ 4
/-- STEPPED_TRIGGER. -/
def mkStepped : Nat := 2 ^ 3

/-- The frame carries an error mark or CLOCK_SKEW (R346). -/
def markedFrame (m : Nat) : Bool :=
  decide (m &&& (mkCrc ||| mkEccBad ||| mkShort ||| mkLong ||| mkLate ||| mkTrunc ||| mkMissed ||| mkExtra
    ||| mkForeign ||| mkSkew) ≠ 0)

/-- Event of a mark bit (R333). -/
def markEvent (b : Nat) : Option Nat :=
  match b with
  | 15 => some 56 | 14 => some 55 | 13 => some 55
  | 12 => some 57 | 11 => some 57 | 10 => some 57 | 9 => some 57 | 5 => some 57
  | 7 => some 58 | 6 => some 58 | _ => none

/-- The marks of a frame occur: the first after 1 s without one raises its event (R333), with the first fields of the
frame's record as DATA (R430). -/
def noteMarks (p marks : Nat) (data : List Byte) (s : State) : State :=
  (List.range 16).foldl (fun (s : State) b =>
    if !marks.testBit b then s
    else
      let last := nth none (pipeOf s p).lastMark b
      let s1 := upPipe p (fun x => { x with lastMark := upd x.lastMark b (fun _ => some s.now.el) }) s
      match markEvent b with
      | some e => if dropIsFirst last s.now.el then raiseX e p 0 0 data s.now.ft s.now.ft s1 else s1
      | none => s1) s

/-! ## Records -/

/-- Slip FLAGS of a frame's records: STEPPED, and PARTIAL where a disable closed the frame (R329, R350). -/
def frameFlags (marks : Nat) (part : Bool) : Nat := flags [(7, marks.testBit 3), (3, part)]

/-- The KD_FRAME_STATS of a trigger without a frame (R344). -/
def missedRecord (p : Nat) (s : State) : State :=
  let x := pipeOf s p
  match x.cur with
  | none => s
  | some t =>
    let marks := mkMissed ||| (if x.curStepped then mkStepped else 0) ||| (if x.expNow.fail then mkExpFail else 0)
    let body := mkBody 32 [(0x21, 1, p), (0x22, 2, marks), (0x24, 4, x.frameNumber)]
    emitFull 0x0B04 7 4 (frameFlags marks false) none x.expNow.id t t body none (noteMarks p marks (body.take 16) s)

/-- Embedded counter or time of a frame (R334): bytes most significant first, missing ones 0. -/
def embValue (f : OpenFrame) : Nat :=
  let pr := nth [] f.recs 0
  let off := fld pr 0x2E 2
  let n := match fld pr 0x27 1 with | 1 => 4 | 2 => 8 | _ => 0
  (List.range n).foldl (fun a i => a * 256 + byteAt (nth [] f.emb 0) (off + i)) 0

/-- Lines of the frame, embedded ones first. -/
def OpenFrame.lines (f : OpenFrame) : List (List Byte) := f.emb ++ f.pix

/-- The first fields of KD_FRAME_STATS of a frame with its MARKS (R344). -/
def OpenFrame.head (f : OpenFrame) (p marks : Nat) : List (Nat × Nat × Nat) :=
  [(0x21, 1, p), (0x22, 2, marks), (0x24, 4, f.number), (0x28, 4, sat 32 (f.fs - f.trig)),
    (0x2C, 2, sat 16 f.lines.length), (0x2E, 2, sat 16 f.crc)]

/-- CLOCK_SKEW of a frame against the last agreeing one (R334). -/
def skewOf (f : OpenFrame) (a : Agreed) : Bool :=
  let pr := nth [] f.recs 0
  let v := embValue f
  match fld pr 0x27 1 with
  | 1 =>
    let m := 2 ^ fld pr 0x2D 1
    let pred := add32 a.number ((v % m + m - a.value % m) % m)
    decide (2 ≤ sub32 pred f.number ∧ 2 ≤ sub32 f.number pred)
  | 2 =>
    let dt : Int := ((v + 2 ^ 64 - a.value) % 2 ^ 64 * fld pr 0x30 4 * 4 : Nat)
    decide (qSec < (a.trig + dt - f.trigC).natAbs * fld pr 0x34 1)
  | _ => false

/-- The check of R334 and R36 as a frame closes: its mark, the last agreeing frame, the camera's place in
fusion. -/
def checkSkew (p : Nat) (f : OpenFrame) (s : State) : State × Bool :=
  let x := pipeOf s p
  let bad := match x.agreed with | some a => skewOf f a | none => false
  if bad then
    let s1 := upPipe p (fun x => { x with skewed := true, goodRun := 0 }) s
    let s2 := if x.skewed then s1
      else raiseX 59 p 0 0 (mkBody 16 (f.head p (f.marks ||| mkSkew))) s1.now.ft s1.now.ft s1
    (fusSkew p true s2, true)
  else
    let n := x.goodRun + 1
    let s1 := upPipe p (fun x => { x with
      agreed := some ⟨f.number, f.trigC, embValue f⟩, skewed := false, goodRun := min n 16 }) s
    (if 16 ≤ n then fusSkew p false s1 else s1, false)

/-- Put a frame into the store (R339): the oldest are overwritten. -/
def storeFrame (mib : Nat) (f : StoredFrame) (l : List StoredFrame) : List StoredFrame :=
  let size := fun (g : StoredFrame) => (g.lines.map (fun b => (b.length + 63) / 64 * 64)).sum
  ((f :: l).foldl (fun (acc : List StoredFrame × Nat) g =>
    let n := acc.2 + size g
    if n ≤ mib * 2 ^ 20 then (acc.1 ++ [g], n) else (acc.1, mib * 2 ^ 20 + 1)) ([], 0)).1

/-- KD_FRAME of a stored frame in full (R340, R341). -/
def fullRecord (p : Nat) (f : StoredFrame) (part : Bool) (s : State) : State :=
  let x := fullFrame f.lines
  emitFull 0x0B03 6 4 (0x20 ||| frameFlags f.marks part) none f.expId f.fs f.trig
    (mkBody 32 [(0x20, 1, p), (0x21, 1, 1), (0x22, 2, f.marks), (0x24, 4, f.number), (0x28, 2, f.width),
      (0x2A, 2, f.lines.length), (0x2C, 1, 2), (0x2D, 1, f.exposures), (0x2E, 1, f.dt),
      (0x30, 4, x.2.length), (0x34, 4, x.1)]) (some x.2) s

/-- The scaled frame (R340, R341). -/
def scaledRecord (p : Nat) (f : OpenFrame) (im : Image) (part : Bool) (s : State) : State :=
  let pr := nth [] f.recs 0
  let fmt := fld pr 0x42 1
  let x := scaledFrame im (max 1 (fld pr 0x41 1)) fmt
  emitFull 0x0B03 6 4 (0x20 ||| frameFlags f.marks part) none f.exp.id f.fs f.trig
    (mkBody 32 [(0x20, 1, p), (0x21, 1, 0), (0x22, 2, f.marks), (0x24, 4, f.number), (0x28, 2, x.1),
      (0x2A, 2, x.2.1), (0x2C, 1, fmt), (0x2D, 1, fld pr 0x25 1), (0x2E, 1, fld pr 0x24 1),
      (0x30, 4, x.2.2.2.length), (0x34, 4, x.2.2.1)]) (some x.2.2.2) s

/-- KD_FRAME_STATS of a frame (R344). -/
def statsRecord (p : Nat) (f : OpenFrame) (im : Image) (part : Bool) (s : State) : State :=
  let b := mkBody 1576 (f.head p f.marks ++ [(0x30, 2, sat 16 f.ecc), (0x34, 4, embValue f % 2 ^ 32),
    (0x38, 4, im.satE0), (0x3C, 4, sat 32 im.defects)])
  emitFull 0x0B04 7 4 (frameFlags f.marks part) none f.exp.id f.fs f.trig (statsBody im b) none s

/-- The class signals (R346) and the scalar signals (R349) of an unmarked frame. -/
def frameSignals (p : Nat) (f : OpenFrame) (im : Image) (counted : Nat) (fracs : List Nat) (s : State) : State :=
  let s1 := if counted = 0 then s
    else (List.range 8).foldl (fun (s : State) c => inputAt (2112 + 8 * p + c) f.trig f.trigC (q130 (nth 0 fracs c : Nat) 65535) s) s
  f.scalars.zipIdx.foldl (fun (s : State) r =>
    let b := r.1
    if fld b 0x22 1 ≠ p then s
    else
      let x := classCounts (classRows f.recs im (roiOf (nth [] f.recs 3)) (fld b 0x24 2) (fld b 0x26 2))
      let n := ((List.range 8).filterMap (fun c => if (fld b 0x23 1).testBit c then some (nth 0 x.2 c) else none)).sum
      if x.1 = 0 then s
      else inputAt (2160 + r.2) f.trig f.trigC (q130 ((1000 * n : Nat)) ((x.1 * fld b 0x28 2 : Nat))) s) s1

/-- A usable feature goes to fusion: the crop-edge line, and the yaw rate from the line's angle (R311,
R316). -/
def frameFeature (p : Nat) (f : OpenFrame) (t : Feature) (s : State) : State :=
  let r := roiOf (nth [] f.recs 3)
  let ang := Config.lineAngle (nth [] f.recs 5) r.y0 r.y1 t.top t.bottom
  let s1 := (fusFeature p s).upFus (fun u => u.see (8 + p) s.now.el)
  let s2 : State := match (pipeOf s p).angle with
    | some a =>
      let dt := f.trigC - a.2
      if dt ≤ 0 then s1
      else
        let rate := F64.div (F64.sub a.1 ang) (F64.ofRat dt 4000000000)
        s1.upFus (fun u => u.put ⟨8 + p, 2, [rate], F64.ofRat 1 100, (s.now.el : Int) - ((s.now.ft : Int) - f.trigC)⟩)
    | none => s1
  upPipe p (fun x => { x with angle := some (ang, f.trigC) }) s2

/-- Sample analysis of a frame (R346–R349): its signals, its feature, and KD_SAMPLE_CLASSES. With fewer
than 4 points the line has no columns: they are free values (log entry 45). -/
def analyse (p : Nat) (f : OpenFrame) (im : Image) (part : Bool) (s : State) : State :=
  let ana := nth [] f.recs 3
  let on := decide (fld ana 0x22 1 = 1)
  let r := roiOf ana
  let marked := markedFrame f.marks
  let cc := if on then classCounts (classRows f.recs im r r.y0 r.y1) else (0, List.replicate 8 0)
  let fracs := cc.2.map (fun n => nearest (65535 * n) cc.1)
  let mode := if on then fld ana 0x23 1 else 0
  let pts := if mode = 0 then [] else bandPoints f.recs im
  let fit := fitLine r pts
  let usable := match fit with | some t => decide (fld ana 0x2E 2 ≤ t.conf) && !marked | none => false
  let open_ := decide (mode ≠ 0) && fit.isNone
  let t : Feature := match fit with
    | some t => t
    | none => if open_ then ⟨pts.length, 0, toSigned 32 (freeNat 32 s), toSigned 32 (freeNat 32 (drawn s)),
        freeNat 16 (drawn (drawn s))⟩ else ⟨0, 0, 0, 0, 0⟩
  let s0 := if open_ then drawn (drawn (drawn s)) else s
  let s1 := if marked || !on then s0 else frameSignals p f im cc.1 fracs s0
  let s2 := if usable then frameFeature p f t s1 else s1
  let s3 := if marked then s2
    else s2.upPas (fun q => { q with frames := ⟨p, f.trig, f.trigC, fracs⟩ :: q.frames })
  emitFull 0x0B05 7 4 (frameFlags f.marks part) none f.exp.id f.fs f.trig
    (putBytes (mkBody 48 [(0x20, 1, p), (0x21, 1, flags [(7, marked), (6, usable)]), (0x24, 4, f.number),
      (0x28, 4, cc.1), (0x40, 1, mode), (0x41, 1, t.points), (0x42, 2, t.conf), (0x44, 4, sgn 4 t.top),
      (0x48, 4, sgn 4 t.bottom), (0x4C, 2, t.residual)]) 0x30 (fracs.flatMap (leBytes 2))) none s3

/-- A frame closes (R332, R333, R339–R349): marks, store, records, signals, feature. -/
def closeFrame (p extra : Nat) (part : Bool) (s : State) : State :=
  let x := pipeOf s p
  match x.frame with
  | none => s
  | some f0 =>
    let pr := nth [] f0.recs 0
    let short := decide (f0.emb.length < fld pr 0x2C 1)
      || decide (f0.pix.length < fld pr 0x2A 2 * fld pr 0x25 1)
    let f1 := { f0 with marks := f0.marks ||| extra ||| (if short then mkShort else 0)
                  ||| (if x.expNow.fail && decide (x.expNow.id = f0.exp.id) || f0.exp.fail then mkExpFail else 0) }
    let sk := checkSkew p f1 (upPipe p (fun x => { x with frame := none }) s)
    let f := { f1 with marks := f1.marks ||| (if sk.2 then mkSkew else 0) }
    let s1 := noteMarks p f.marks (mkBody 16 (f.head p f.marks)) sk.1
    let st : StoredFrame := ⟨f.number, f.trig, f.fs, f.marks, f.exp.id, f.lines, fld pr 0x28 2, fld pr 0x25 1, fld pr 0x24 1⟩
    let s2 := upPipe p (fun x => { x with store := storeFrame (fld pr 0x44 2) st x.store }) s1
    let im := pipeline f.recs f.exp.ratios f.pix
    let due := fun (d : Nat) => decide (d ≠ 0) && decide (f.number % d = 0)
    let s3 := if due (fld pr 0x40 1) then scaledRecord p f im part s2 else s2
    let s4 := if due (fld pr 0x43 1) then fullRecord p st part s3 else s3
    analyse p f im part (statsRecord p f im part s4)

/-! ## Pipeline states (R350) -/

/-- The writes of a record or of a command, from an offset. -/
def writesAt (b : List Byte) (off n : Nat) : List CamWrite :=
  (List.range n).map (fun i =>
    let o := off + 8 * i
    ⟨fld b o 2, fld b (o + 2) 1, fld b (o + 3) 1, fld b (o + 4) 4⟩)

/-- All writes of Starting are acknowledged: Running at the next frame start (R350). -/
def pipeReady (x : Pipe) : Pipe := { x with ready := true, partialSeen := x.looseOpen }

/-- Send the writes of Starting: INIT, then those of the latest setting that took effect (R350), once
the link is locked and the port enabled. -/
def startWrites (p : Nat) (s : State) : State :=
  let x := pipeOf s p
  let n := pipePort s p
  if x.st ≠ .starting || x.ready || x.jobs.any (·.init) || x.retryEl.isSome
      || decide ((portOf s n).lock = 0) || decide (portCfg s n 0x22 1 = 0) then s
  else
    let init := recBody s 0x0B01 (camKey p 4)
    let ws := writesAt init 0x28 (fld init 0x22 1) ++ x.expNow.writes
    if ws.isEmpty then upPipe p pipeReady s
    else upPipe p (fun x => { x with jobs := x.jobs ++ [⟨true, ws, s.now.el⟩] }) s

/-- Enter a state; each change raises CAM_PIPE_STATE (R350). -/
def setPipe (p : Nat) (st : PipeState) (s : State) : State :=
  if (pipeOf s p).st = st then s
  else raise 62 p (match st with | .off => 0 | .starting => 1 | .running => 2)
    (upPipe p (fun x => { x with st := st }) s)

/-- Enter Starting (R350): the check of R334 begins anew in Running, the writes are sent. -/
def enterPipeStarting (p : Nat) (s : State) : State :=
  let s1 := setPipe p .starting s
  startWrites p (upPipe p (fun x => { x with
    ready := false, looseOpen := false, partialSeen := false, retryEl := none, agreed := none, skewed := false
    jobs := x.jobs.filter (fun j => !j.init) }) s1)

/-- Off to Starting (R350): the triggers start at the next trigger instant. -/
def startPipe (p : Nat) (s : State) : State :=
  if (pipeOf s p).st ≠ .off then s
  else
    enterPipeStarting p (upPipe p (fun x => { x with
      next := pipeTrig s p (s.now.ft + 1), cur := none, judged := false, started := false, curStepped := false
      stepped := 0, jobs := [], angle := none }) s)

/-- Running to Starting (R350): the open frame closes TRUNCATED. -/
def fallBack (p : Nat) (s : State) : State :=
  if (pipeOf s p).st ≠ .running then s else enterPipeStarting p (closeFrame p mkTrunc false s)

/-- To Off (R350): the open frame closes TRUNCATED with PARTIAL, pending settings are refused with STATE,
the trigger goes inactive. The shut-down ends at the first beat boundary at or after 3 ms, by which the
frame's records are delivered (R344). -/
def stopPipe (p : Nat) (s : State) : State :=
  let x := pipeOf s p
  if x.st = .off then upPipe p (fun x => { x with enableAfter := false }) s
  else
    let s1 := closeFrame p mkTrunc true s
    let s2 := setPipe p .off (upPipe p (fun x => { x with
      cur := none, trigEnd := none, jobs := [], exps := [], ready := false, retryEl := none, angle := none
      shut := if x.frame.isSome then some (beatAt (s.now.ft + 3 * qMs)) else none, enableAfter := false }) s1)
    x.exps.foldl (fun (s : State) e => complete 0x0B02 4 e.post e.stamp (refusedWith 8 0 (beatAt s.now.ft)) s) s2

/-- At a beat boundary a shut-down ends, and an enable that waits starts the pipeline (R350). -/
def camBeat (b : Nat) (s : State) : State :=
  (List.range 6).foldl (fun (s : State) p =>
    let x := pipeOf s p
    match x.shut with
    | some t =>
      if t ≤ b then
        let s1 := upPipe p (fun x => { x with shut := none, enableAfter := false }) s
        if x.enableAfter then startPipe p s1 else s1
      else s
    | none => s) s

/-- All pipelines go Off (key-off). -/
def camShutdown (s : State) : State := (List.range 6).foldl (fun s p => stopPipe p s) s

/-- Fields of the pipeline record whose change takes a pipeline back to Starting (R350). -/
def pipeShape (b : List Byte) : List Nat :=
  [fld b 0x22 1, fld b 0x23 1, fld b 0x24 1, fld b 0x25 1, fld b 0x26 1, fld b 0x28 2, fld b 0x2A 2,
   fld b 0x2C 1, fld b 0x34 1, fld b 0x38 4]

/-- What a commit boundary does to pipeline `p`, whose record was `old` (R350, R352). -/
def pipeCommit (p : Nat) (old : List Byte) (s : State) : State :=
  let new := pipeRec s p
  let moved := decide (fld old 0x34 1 ≠ fld new 0x34 1) || decide (fld old 0x38 4 ≠ fld new 0x38 4)
  let s1 := if moved && decide ((pipeOf s p).st ≠ .off) then
      upPipe p (fun x => { x with next := pipeTrig s p (s.now.ft + 1) }) s else s
  let s2 := if pipeShape old = pipeShape new then s1
    else if (pipeOf s1 p).st = .running then fallBack p s1
    else if (pipeOf s1 p).st = .starting ∧ fld old 0x22 1 ≠ fld new 0x22 1 then enterPipeStarting p s1
    else s1
  startWrites p s2

/-- A link loses lock (R326): its pipelines return to Starting (R350). -/
def linkLost (n : Nat) (s : State) : State :=
  if (portOf s n).lock = 0 then s
  else
    let s1 := raise 52 n 0 (upPort n (fun y => { y with
      lock := 0, losses := satAdd 16 y.losses 1, retryEl := s.now.el + 100 * qMs }) s)
    (List.range 6).foldl (fun (s : State) p =>
      if pipePort s p ≠ n then s
      else
        match (pipeOf s p).st with
        | .running => fallBack p s
        | .starting => enterPipeStarting p s
        | .off => s) s1

/-- The power state of a port while POC is set (R328); each change raises CAM_POWER. -/
def setPoc (n st : Nat) (s : State) : State :=
  if portCfg s n 0x24 1 = 0 || (portOf s n).poc = st || s.pow.state != .serving || s.pow.sub == .holdup then s
  else raise 53 n st (upPort n (fun y => { y with poc := st }) s)

/-- What a commit boundary does to port `n`: POC clear is OFF (R328), and a port that goes off or
changes its gear loses its link; `old` is the record before. -/
def portCommit (n : Nat) (old : List Byte) (s : State) : State :=
  let on := decide (portCfg s n 0x22 1 = 1)
  let s1 := if decide (portCfg s n 0x24 1 = 0) && decide ((portOf s n).poc ≠ 0) then
      raise 53 n 0 (upPort n (fun y => { y with poc := 0 }) s) else s
  if !on then linkLost n s1
  else if fld old 0x22 1 = 0 then upPort n (fun y => { y with retryEl := s1.now.el + 100 * qMs }) s1
  else if fld old 0x23 1 ≠ portCfg s n 0x23 1 then linkLost n s1
  else s1

/-! ## Exposure settings (R342, R343) -/

/-- A setting whose T2 is past and whose writes are all answered completes. -/
def expSettle (p : Nat) (s : State) : State :=
  let x := pipeOf s p
  match x.exps.find? (fun e => e.num.isSome && e.done) with
  | none => s
  | some e =>
    let bad := e.late || e.nack
    let s1 := upPipe p (fun x => { x with
      exps := x.exps.filter (fun y => !(y.post == e.post && y.stamp == e.stamp))
      expNow := if x.expNow.id = e.id && bad then { x.expNow with fail := true } else x.expNow }) s
    let s2 := complete 0x0B02 4 e.post e.stamp
      ⟨0, 0, flags [(0, e.late), (1, e.nack)], e.acked, (e.num.getD 0), e.t2⟩ s1
    if bad then raise 61 p 0 s2 else s2

/-- A trigger: a setting whose T2 it is takes effect (R342). -/
def expTrigger (p t : Nat) (s : State) : State :=
  let x := pipeOf s p
  match x.exps.find? (fun e => e.num.isNone && decide (e.t2 ≤ t)) with
  | none => s
  | some e =>
    let e1 := { e with num := some x.frameNumber, done := e.done || e.writes.isEmpty }
    expSettle p (upPipe p (fun x => { x with
      exps := x.exps.map (fun y => if y.post == e.post && y.stamp == e.stamp then e1 else y)
      expNow := ⟨e.id, e.ratios, e.writes, e.nack || !e1.done⟩ }) s)

/-- A new setting, accepted at `a` (R342, R343). -/
def expAccept (p : Nat) (u : Sub) (s : State) : State :=
  let b := u.post.body
  let x := pipeOf s p
  let a := u.bound
  let old := x.exps.find? (fun e => e.num.isNone && decide (a < e.t1))
  let held := x.exps.find? (fun e => e.num.isNone && decide (e.t1 ≤ a) && decide (a < e.t2))
  let t1 := match held with
    | some e => e.t2
    | none => if x.cur = some a then a else max x.next (pipeTrig s p a)
  let e : ExpSet := { post := u.post, stamp := u.acc, id := fld b 0x24 4
                      ratios := [fld b 0x28 4, fld b 0x2C 4], writes := writesAt b 0x40 (fld b 0x21 1)
                      t1 := t1, t2 := pipeTrig s p (t1 + 1), sent := false, done := false, acked := 0
                      nack := false, late := false, num := none }
  let s1 : State := match old with
    | some o => complete 0x0B02 4 o.post o.stamp ⟨3, 0, 0, u.post.corr, 0, a⟩
        (upPipe p (fun x => { x with exps := x.exps.filter (fun y => !(y.post == o.post && y.stamp == o.stamp)) }) s)
    | none => s
  upPipe p (fun x => { x with exps := x.exps ++ [e] }) s1

/-! ## The uplink (R327) -/

/-- A write of pipeline `p` is answered. A failure counts at the port and raises CAM_UPLINK. -/
def writeAnswered (p : Nat) (ack : Bool) (s : State) : State :=
  let x := pipeOf s p
  match x.jobs with
  | [] => s
  | j :: js =>
    match j.left with
    | [] => upPipe p (fun x => { x with jobs := js }) s
    | w :: ws =>
      let n := pipePort s p
      let s1 := if ack then s
        else raise 54 n 0 (upPort n (fun y => { y with upErr := satAdd 32 y.upErr 1 }) s)
      let el := s.now.el
      let rest := if ws.isEmpty then js.map (fun y => { y with sentEl := max y.sentEl el })
        else { j with left := ws, sentEl := el + w.delay * 100 * qUs } :: js
      if j.init then
        if !ack then upPipe p (fun x => { x with
            jobs := js.map (fun y => { y with sentEl := max y.sentEl el }), retryEl := some (el + qSec) }) s1
        else
          let s2 := upPipe p (fun x => { x with jobs := rest }) s1
          if ws.isEmpty then upPipe p pipeReady s2 else s2
      else
        let f := fun (e : ExpSet) =>
          if e.sent && !e.done then
            { e with acked := e.acked + (if ack then 1 else 0), nack := e.nack || !ack, done := ws.isEmpty
                     late := e.late || (ack && decide (e.t2 ≤ s.now.ft)) }
          else e
        expSettle p (upPipe p (fun x => { x with jobs := rest, exps := updFirst (fun e => e.sent && !e.done) f x.exps }) s1)

/-! ## Packets -/

/-- The pipeline that a (PORT, VC) is bound to and that is not Off (R331). -/
def boundPipe (s : State) (port vc : Nat) : Option Nat :=
  (List.range 6).find? (fun p =>
    let r := pipeRec s p
    decide ((pipeOf s p).st ≠ .off) && decide (fld r 0x22 1 = port) && decide (fld r 0x23 1 = vc))

/-- A packet of a (PORT, VC) bound to no pipeline (R331, R345). -/
def unboundPacket (n : Nat) (s : State) : State :=
  let last := (portOf s n).lastUnbound
  let s1 := upPort n (fun y => { y with unbound := satAdd 32 y.unbound 1, lastUnbound := some s.now.el }) s
  if dropIsFirst last s.now.el then raise 60 n 0 s1 else s1

/-- Change the open frame of a pipeline. -/
def upFrame (p : Nat) (f : OpenFrame → OpenFrame) (s : State) : State :=
  upPipe p (fun x => { x with frame := x.frame.map f }) s

/-- A corrected header marks the frame (R333). -/
def eccFixed (fix : Bool) (f : OpenFrame) : OpenFrame :=
  if fix then { f with marks := f.marks ||| mkEccFix, ecc := f.ecc + 1 } else f

/-- A long packet of an open frame (R330, R333). -/
def takePacket (dt : Nat) (pay : List Byte) (crcOk fix : Bool) (f : OpenFrame) : OpenFrame :=
  let pr := nth [] f.recs 0
  let f := eccFixed fix f
  if dt = 0x12 ∨ dt = fld pr 0x24 1 then
    let f := if crcOk then f else { f with marks := f.marks ||| mkCrc, crc := f.crc + 1 }
    if dt = 0x12 then
      if f.emb.length < fld pr 0x2C 1 then { f with emb := f.emb ++ [pay] }
      else { f with marks := f.marks ||| mkLong }
    else if f.pix.length < fld pr 0x2A 2 * fld pr 0x25 1 then
      let need := lineBytes (fld pr 0x24 1) (fld pr 0x28 2)
      let m := if pay.length < need then mkShort else if need < pay.length then mkLong else 0
      { f with pix := f.pix ++ [pay.take need], marks := f.marks ||| m }
    else { f with marks := f.marks ||| mkLong }
  else if 0x10 ≤ dt then { f with marks := f.marks ||| mkForeign }
  else f

/-- KD_FRAME_STATS in FORM 1 of a port (R345), with the supply current and voltage measured. -/
def portStatus (n ma mv t : Nat) (s : State) : State :=
  let x := portOf s n
  emit 0x0B04 7 4 0 t t (mkBody 32 [(0x20, 1, 1), (0x21, 1, n), (0x22, 1, x.lock), (0x23, 1, x.poc),
    (0x24, 2, ma), (0x26, 2, mv), (0x28, 4, x.unbound), (0x2C, 4, x.eccBad), (0x30, 4, x.upErr),
    (0x34, 2, x.losses), (0x36, 2, x.partials)]) s

end Sys2Proof.Machine
end

