-- ==== Sys2Proof/Machine/Camera.lean ====
section
/-!
DEFINITION. The commands of the camera ports and pipelines (R326–R351).
-/
namespace Sys2Proof.Machine

/-- CAM_TRIGGER (R329, R333, R342): the previous window is judged, FRAME_NUMBER increments, a setting whose
T2 this is takes effect. -/
def execCamTrigger (p : Fin 6) (s : State) : Host.Outcome State Fault Refusal :=
  let x := pipeOf s p
  if x.st = .off || s.pow.state != .serving then .next s
  else
    let t := x.next
    let s1 := reach t s
    let s2 := if x.st = .running && x.judged && !x.started then missedRecord p s1 else s1
    let s3 := upPipe p (fun x => { x with
      frameNumber := add32 x.frameNumber 1, cur := some t, curC := t, judged := decide (x.st = .running), started := false
      curStepped := decide (0 < x.stepped), stepped := x.stepped - 1, next := pipeTrig s p (t + 1)
      trigEnd := some (s2.now.el + fld (pipeRec s p) 0x36 2 * qUs) }) s2
    .next (expTrigger p t s3)

/-- CAM_TRIGGER_END (R329): TRIG_WIDTH_US after the active edge. -/
def execCamTriggerEnd (p : Fin 6) (s : State) : Host.Outcome State Fault Refusal :=
  match (pipeOf s p).trigEnd with
  | none => .next s
  | some t => .next (upPipe p (fun x => { x with trigEnd := none }) (reachEl t s))

/-- FRAME_START (R331–R333, R350): a frame-start packet of a virtual channel. -/
def execFrameStart (port : Fin 6) (dt vc : Nat) (eccFix : Bool) (s : State) : Host.Outcome State Fault Refusal :=
  let s1 := tick dt s
  if (portOf s1 port).lock = 0 then .next s1
  else
    match boundPipe s1 port vc with
    | none => .next (unboundPacket port s1)
    | some p =>
      let x := pipeOf s1 p
      let s2 : State := if x.st = .running then closeFrame p mkTrunc false s1
        else if x.ready && x.cur.isSome then
          let s2 := if x.partialSeen then
              upPort port (fun y => { y with partials := satAdd 16 y.partials 1 }) s1 else s1
          setPipe p .running (upPipe p (fun x => { x with partialSeen := false, looseOpen := false, judged := true, started := false }) s2)
        else upPipe p (fun x => { x with looseOpen := true }) s1
      match (pipeOf s2 p).st, x.cur with
      | .running, some t =>
        let ft := s2.now.ft
        let y := pipeOf s2 p
        let lateUs := fld (pipeRec s2 p) 0x3C 4
        let late := decide (lateUs ≠ 0) && decide (y.curC + lateUs * qUs < ft)
        let marks := (if late then mkLate else 0) ||| (if y.started then mkExtra else 0)
          ||| (if y.curStepped then mkStepped else 0)
        let f : OpenFrame :=
          { number := y.frameNumber, trig := t, trigC := y.curC, fs := ft, fsEl := s2.now.el, marks := marks, emb := [], pix := []
            crc := 0, ecc := 0, exp := y.expNow, recs := frameRecs s2 p
            scalars := (List.range 16).map (fun i => recBody s2 0x0B01 (256 + i)) }
        .next (upPipe p (fun x => { x with frame := some (eccFixed eccFix f), started := true }) s2)
      | _, _ => .next s2

/-- CSI2_PACKET (R330–R333): a packet other than a frame start or end; `ecc` is 0 for a good header, 1 for
a corrected one, 2 for an uncorrectable one. -/
def execCsi2Packet (port : Fin 6) (dt vc type : Nat) (pay : List Byte) (crcOk : Bool) (ecc : Fin 3) (s : State) :
    Host.Outcome State Fault Refusal :=
  let s1 := tick dt s
  if (portOf s1 port).lock = 0 then .next s1
  else if ecc = 2 then
    let s2 := upPort port (fun y => { y with eccBad := satAdd 32 y.eccBad 1 }) s1
    .next ((List.range 6).foldl (fun (s : State) p =>
      if pipePort s p = port then upFrame p (fun f => { f with marks := f.marks ||| mkEccBad }) s else s) s2)
  else
    match boundPipe s1 port vc with
    | none => .next (unboundPacket port s1)
    | some p => .next (upFrame p (takePacket type pay crcOk (decide (ecc = 1))) s1)

/-- FRAME_END (R332, R339–R349). -/
def execFrameEnd (port : Fin 6) (dt vc : Nat) (eccFix : Bool) (s : State) : Host.Outcome State Fault Refusal :=
  let s1 := tick dt s
  if (portOf s1 port).lock = 0 then .next s1
  else
    match boundPipe s1 port vc with
    | none => .next (unboundPacket port s1)
    | some p => .next (closeFrame p 0 false (upFrame p (eccFixed eccFix) (upPipe p (fun x => { x with looseOpen := false }) s1)))

/-- FRAME_END_TIMEOUT (R333): two trigger intervals after the frame start. -/
def execFrameEndTimeout (p : Fin 6) (s : State) : Host.Outcome State Fault Refusal :=
  match (pipeOf s p).frame with
  | none => .next s
  | some f => .next (closeFrame p mkTrunc false (reachEl (f.fsEl + 2 * qSec / pipeFps s p) s))

/-- CAM_LINK_LOCK (R326, R350). -/
def execCamLinkLock (port : Fin 6) (dt : Nat) (s : State) : Host.Outcome State Fault Refusal :=
  let s1 := tick dt s
  if (portOf s1 port).lock ≠ 0 || decide (portCfg s1 port 0x22 1 = 0) || s1.pow.state != .serving then .next s1
  else
    let g := portCfg s1 port 0x23 1
    let s2 := raise 52 port g (upPort port (fun y => { y with lock := g }) s1)
    .next ((List.range 6).foldl (fun (s : State) p => if pipePort s p = port then startWrites p s else s) s2)

/-- CAM_LINK_LOSS (R326, R333, R350). -/
def execCamLinkLoss (port : Fin 6) (dt : Nat) (s : State) : Host.Outcome State Fault Refusal :=
  .next (linkLost port (tick dt s))

/-- CAM_LINK_RETRY (R326): every 100 ms without lock. -/
def execCamLinkRetry (port : Fin 6) (s : State) : Host.Outcome State Fault Refusal :=
  let x := portOf s port
  if x.lock ≠ 0 || decide (portCfg s port 0x22 1 = 0) || s.pow.state != .serving then .next s
  else .next (upPort port (fun y => { y with retryEl := x.retryEl + 100 * qMs }) (reachEl x.retryEl s))

/-- UPLINK_REPLY (R327): the outstanding write of a pipeline is acknowledged or not. -/
def execUplinkReply (p : Fin 6) (dt : Nat) (ack : Bool) (s : State) : Host.Outcome State Fault Refusal :=
  let s1 := tick dt s
  match (pipeOf s1 p).jobs with
  | [] => .next s1
  | j :: _ => .next (if j.sentEl ≤ s1.now.el then writeAnswered p ack s1 else s1)

/-- UPLINK_TIMEOUT (R327): 2 ms without a reply. -/
def execUplinkTimeout (p : Fin 6) (s : State) : Host.Outcome State Fault Refusal :=
  match (pipeOf s p).jobs with
  | [] => .next s
  | j :: _ => .next (writeAnswered p false (reachEl (j.sentEl + 2 * qMs) s))

/-- POC_OK (R328). -/
def execPocOk (port : Fin 6) (dt : Nat) (s : State) : Host.Outcome State Fault Refusal :=
  .next (setPoc port 1 (tick dt s))

/-- POC_OPEN (R328): below 20 mA for 100 ms. -/
def execPocOpen (port : Fin 6) (dt : Nat) (s : State) : Host.Outcome State Fault Refusal :=
  .next (setPoc port 2 (tick dt s))

/-- POC_OVERCURRENT (R328): the limit holds 10 ms; the supply is removed, and retried after 5 s. -/
def execPocOvercurrent (port : Fin 6) (dt : Nat) (s : State) : Host.Outcome State Fault Refusal :=
  let s1 := tick dt s
  .next (upPort port (fun y => { y with pocRetryEl := s1.now.el + 5 * qSec }) (setPoc port 3 s1))

/-- POC_RETRY (R328): every 5 s after an overcurrent; the state stays until the current shows another. -/
def execPocRetry (port : Fin 6) (s : State) : Host.Outcome State Fault Refusal :=
  let x := portOf s port
  if x.poc ≠ 3 then .next s
  else .next (upPort port (fun y => { y with pocRetryEl := x.pocRetryEl + 5 * qSec }) (reachEl x.pocRetryEl s))

/-- Layout of KD_EXPOSURE (R342). -/
def scExposure (b : List Byte) : RecSchema :=
  let n := fld b 0x21 1
  { lens := [32 + 8 * n]
    flds := [fu 0x20 1 0 5 0, fu 0x21 1 0 32 0, fu 0x24 4 1 (2 ^ 32 - 1) 1,
      fu 0x28 4 0x10000 0x1000000 0 [0], fu 0x2C 4 0x10000 0x1000000 0 [0]] ++ writeFlds n 0x40
    rel := fun _ => [] }

/-- KD_EXPOSURE (R342, R343). -/
def execKdExposure (dt : Nat) (p : Post) (s : State) : Host.Outcome State Fault Refusal :=
  .next (command dt 0x0B02 4 p (scExposure p.body) true decideAt (fun u s =>
    let n := fld p.body 0x20 1
    if (pipeOf s n).st ≠ .running then u.refuse 8 0 s else expAccept n u s) s)

/-- EXPOSURE_WRITES (R342): the writes of the pending setting go out at T1. -/
def execExposureWrites (p : Fin 6) (s : State) : Host.Outcome State Fault Refusal :=
  match (pipeOf s p).exps.find? (fun e => !e.sent) with
  | none => .next s
  | some e =>
    let s1 := reach e.t1 s
    let job : List UpJob := if e.writes.isEmpty then [] else [⟨false, e.writes, s1.now.el⟩]
    .next (expSettle p (upPipe p (fun x => { x with
      exps := updFirst (fun y => !y.sent) (fun y => { y with sent := true, done := y.writes.isEmpty }) x.exps
      jobs := x.jobs ++ job }) s1))

/-- Layout of KD_PIPE_ENABLE (R351). -/
def scPipeEnable : RecSchema :=
  { lens := [32], flds := [fu 0x20 1 0 5 0, fu 0x21 1 0 2 0, fu 0x24 4 0 (2 ^ 32 - 1) 0], rel := fun _ => [] }

/-- KD_PIPE_ENABLE, ACTION 0 (R350). -/
def execPipeDisable (dt : Nat) (p : Post) (s : State) : Host.Outcome State Fault Refusal :=
  .next (command dt 0x0B06 4 p scPipeEnable true decideAt (fun u s =>
    u.accept 0 (stopPipe (fld p.body 0x20 1) s)) s)

/-- KD_PIPE_ENABLE, ACTION 1 (R350, R351). -/
def execPipeEnable (dt : Nat) (p : Post) (s : State) : Host.Outcome State Fault Refusal :=
  .next (command dt 0x0B06 4 p scPipeEnable true decideAt (fun u s =>
    let n := fld p.body 0x20 1
    if !pipeHasRec s n then u.refuse 8 0 s
    else
      match (pipeOf s n).shut with
      | some t =>
        complete u.kind u.unit u.post u.acc ⟨2, 0, 0, t - u.bound, 0, u.bound⟩
          (upPipe n (fun x => { x with enableAfter := true }) s)
      | none => u.accept 0 (startPipe n s)) s)

/-- KD_PIPE_ENABLE, ACTION 2 (R340): a stored frame in full, or FRAME_GONE. -/
def execPipeDeliverFull (dt : Nat) (p : Post) (s : State) : Host.Outcome State Fault Refusal :=
  .next (command dt 0x0B06 4 p scPipeEnable true decideAt (fun u s =>
    let n := fld p.body 0x20 1
    match (pipeOf s n).store.find? (fun f => decide (f.number = fld p.body 0x24 4)) with
    | some f => u.accept 0 (fullRecord n f false s)
    | none => raise 63 n 0 (u.refuse 0x0B04 0 s)) s)

/-- PIPE_INIT_RETRY (R350): 1 s after a write that was not acknowledged. -/
def execPipeInitRetry (p : Fin 6) (s : State) : Host.Outcome State Fault Refusal :=
  match (pipeOf s p).retryEl with
  | none => .next s
  | some t => .next (startWrites p (upPipe p (fun x => { x with retryEl := none }) (reachEl t s)))

/-- CAM_PORT_STATUS (R345): each GPS second, with the supply current in mA and voltage in mV measured at
each port. -/
def execCamPortStatus (meas : List (Nat × Nat)) (s : State) : Host.Outcome State Fault Refusal :=
  if s.pow.state != .serving then .next s
  else
    let t := s.cam.statusNext
    let s1 := (reach t s).upCam (fun c => { c with statusNext := nextMul qSec t })
    .next ((List.range 6).foldl (fun (s : State) n =>
      if portCfg s n 0x22 1 = 0 then s
      else
        let m := nth (0, 0) meas n
        portStatus n m.1 m.2 t s) s1)

end Sys2Proof.Machine
end

