-- ==== Sys2Proof/Machine/ValveOps.lean ====
section
/-!
DEFINITION. What the valve output stage does with a channel (R217–R239): phases, boost queue, hold load,
switching off, detections, and the decision of a request.
-/
namespace Sys2Proof.Machine

/-! ## Reading the stage -/

/-- Channel `n`. -/
def vch (s : State) (n : Nat) : VChan := nth default s.valve.ch n

/-- Bank `b`. -/
def vbank (s : State) (b : Nat) : VBank := nth default s.valve.banks b

/-- The channel goes into a phase (R220): its current means are counted anew. -/
def VChan.enter (c : VChan) (p : VPhase) (el : Nat) : VChan := { c with phase := p, phaseEl := el, means := 0 }

/-- Change channel `n`. -/
def upVch (n : Nat) (f : VChan → VChan) (s : State) : State :=
  s.upValve (fun v => { v with ch := upd v.ch n f })

/-- Change bank `b`. -/
def upVbank (b : Nat) (f : VBank → VBank) (s : State) : State :=
  s.upValve (fun v => { v with banks := upd v.banks b f })

/-- The channel is the even member of a pair in force (R231). -/
def isPair (s : State) (n : Nat) : Bool := decide (n % 2 = 0) && s.valve.pairMask.testBit (n / 2)

/-- The channel is the odd member of a pair in force (R231). -/
def isOdd (s : State) (n : Nat) : Bool := decide (n % 2 = 1) && s.valve.pairMask.testBit (n / 2)

/-- The channel whose record and phase govern a member of a pair (R231). -/
def vhead (s : State) (n : Nat) : Nat := if isOdd s n then n - 1 else n

/-- RISE, PEAK or HOLD (R219). -/
def VChan.on (c : VChan) : Bool :=
  match c.phase with | .rise => true | .peak => true | .hold => true | _ => false

/-- RISE or PEAK (R220). -/
def VChan.boosting (c : VChan) : Bool :=
  match c.phase with | .rise => true | .peak => true | _ => false

/-- QUENCH_FAST or QUENCH_SLOW. -/
def VChan.quenching (c : VChan) : Bool :=
  match c.phase with | .quenchFast => true | .quenchSlow => true | _ => false

/-- Channels of a bank (R217). -/
def bankChans (b : Nat) : List Nat := [4 * b, 4 * b + 1, 4 * b + 2, 4 * b + 3]

/-- Boost slots that a channel takes (R226). -/
def slotsOf (s : State) (n : Nat) : Nat := if isPair s n then 2 else 1

/-- Boost slots held in a bank (R226). -/
def slotsHeld (s : State) (b : Nat) : Nat :=
  ((bankChans b).map (fun n => if (vch s n).boosting then slotsOf s n else 0)).sum

/-- Contribution of a channel to the hold load of its bank (R229): a waiting profile replaces what the
channel holds. -/
def VChan.load (c : VChan) : Nat :=
  match c.wait with
  | some w => w.ihold
  | none => if c.on then c.ihold else 0

/-- Hold load of a bank (R229). -/
def bankLoad (s : State) (b : Nat) : Nat := ((bankChans b).map (fun n => (vch s n).load)).sum

/-- The high-side switch of a bank is closed (R219, R237). A bank line fault opens it by taking every channel of the
bank out of these phases (R234). -/
def hsClosed (s : State) (b : Nat) : Bool :=
  !s.valve.inhibit && (bankChans b).any (fun n => (vch s n).on || decide ((vch s n).phase = .quenchSlow))

/-- V_D of channel `n` (R218). -/
def measVd (n : Nat) (m : ValveMeas) : Nat := nth 0 m.vd (n % 4)

/-- The low-side current of channel `n`; a pair reports the sum of both members (R218, R231). -/
def measI (s : State) (n : Nat) (m : ValveMeas) : Nat :=
  nth 0 m.il (n % 4) + if isPair s n then nth 0 m.il (n % 4 + 1) else 0

/-- The channel record of the Catalogue. -/
def vrec (s : State) (n : Nat) : List Byte := recBody s 0x0701 n

/-- Field of the bank record of the Catalogue (R240). -/
def vbankCfg (s : State) (off size : Nat) : Nat := cfg s 0x0701 24 off size

/-- A loop that is not Off names this destination (R182). -/
def destOwned (s : State) (types : List Nat) (di : Nat) : Bool :=
  s.ctl.loops.any (fun l =>
    decide (l.state ≠ .off)
      && (match l.law with
          | some b => types.contains (fld b 0x27 1) && decide (fld b 0x28 2 = di)
          | none => false))

/-- A command of the commanding lane on an output path (R57): after a takeover the first one is noted; a path whose
check has not come within 1 beat of it has reported acceptance. -/
def provePath (p : OutPath) (s : State) : State :=
  s.upLanes (fun l =>
    if !l.unproven.contains p then l
    else
      match l.tried.find? (fun x => x.1 == p) with
      | none => { l with tried := l.tried ++ [(p, s.now.el)] }
      | some x =>
        if x.2 + qBeat < s.now.el then
          { l with unproven := l.unproven.filter (fun q => q != p), tried := l.tried.filter (fun x => x.1 != p) }
        else l)

/-- An output path that has been found silent: its outputs keep their last state (R57). -/
def pathDead (p : OutPath) (s : State) : Bool := s.lanes.deadPaths.contains p

/-! ## Records -/

/-- Code of a phase in KD_VALVE_STATUS (R243). -/
def VPhase.code : VPhase → Nat
  | .off => 0
  | .rise => 1
  | .peak => 2
  | .hold => 3
  | .quenchFast => 4
  | .quenchSlow => 5

/-- PHASE of a channel (R243): WAITING where a profile waits and the channel does not run one. -/
def phaseCode (s : State) (n : Nat) : Nat :=
  let c := vch s n
  if isOdd s n then 7 else if c.wait.isSome && decide (c.phase = .off) then 6 else c.phase.code

/-- The 8 bytes of a channel in KD_VALVE_STATUS (R243). -/
def chanBytes (s : State) (n : Nat) : List Byte :=
  let c := vch s n
  leBytes 1 (phaseCode s n)
    ++ leBytes 1 (flags [(7, decide (c.fault ≠ 0)), (6, c.wait.isSome && decide (c.phase = .hold)),
      (5, c.noMotion), (4, c.clipped), (3, c.takeover), (2, c.peakNotReached), (1, c.quenchTimeout)])
    ++ leBytes 2 (if c.on then c.ihold else 0) ++ leBytes 2 c.iMa ++ leBytes 1 c.fault ++ leBytes 1 c.band

/-- Body of KD_VALVE_STATUS (R243). -/
def valveStatusBody (s : State) : List Byte :=
  let b6 := List.range 6
  let pending := decide (vbankCfg s 0x22 2 ≠ s.valve.pairMask)
  b6.flatMap (fun b => leBytes 2 (sat 16 (bankLoad s b)))
    ++ b6.flatMap (fun b => leBytes 1 (16 * min 15 (vbank s b).queue.length + slotsHeld s b))
    ++ b6.flatMap (fun b => leBytes 1 (flags [(7, hsClosed s b), (6, (vbank s b).undervolt),
        (5, (vbank s b).bankLine), (4, s.valve.inhibit), (3, pending)]))
    ++ List.replicate 8 0
    ++ (List.range 24).flatMap (chanBytes s)

/-- Deliver KD_VALVE_STATUS (R243) for the beat boundary at or after now. -/
def valveStatus (s : State) : State :=
  let t := ceilTo qBeat s.now.ft
  emit 0x0705 14 0x0B 0 t t (valveStatusBody s) s

/-! ## Armature motion (R232) -/

/-- A sample while the low-side switch conducts, in mA (R232): `least` is DIP_MIN_MA. -/
def DipWatch.sense (least delay ma : Nat) (w : DipWatch) : DipWatch :=
  let peak := max w.peak ma
  match w.dip with
  | none => { w with peak := peak, dip := if ma + least ≤ peak then some ⟨peak, ma, delay⟩ else none }
  | some d =>
    if ma < d.iMin then { w with dip := some { d with iMin := ma, delay := delay } }
    else { w with ended := decide (d.iMin + least ≤ ma) }

/-- One sample of a boost (R232): the detector runs while the switch conducts; an opening ends a dip, and M is found
anew after it. Only the first dip counts. -/
def DipWatch.feed (least : Nat) (w : DipWatch) (x : Sense) : DipWatch :=
  if w.ended then w
  else if x.closed then w.sense least x.delay x.ma
  else ⟨0, w.dip, w.dip.isSome⟩

/-- The samples of channel `n` reach its detector while it is in boost (R232). -/
def watchDip (n : Nat) (w : List Sense) (s : State) : State :=
  upVch n (fun c =>
    if c.boosting then { c with dipWatch := w.foldl (DipWatch.feed (fld c.recd 0x38 2)) c.dipWatch } else c) s

/-- KD_ARMATURE at the end of a boost, and VALVE_NO_MOTION (R232, R245). Whatever ends a boost ends it so, a restart
from RISE too (DESIGN CHOICE, log entry 80). -/
def armature (n : Nat) (s : State) : State :=
  let c := vch s n
  if fld c.recd 0x22 1 = 0 then upVch n (fun c => { c with noMotion := false }) s
  else
    match c.dipWatch.dip with
    | some d =>
      let t := (c.start + d.delay) % 2 ^ 64
      emit 0x0707 14 0x0B 0 t t
        (mkBody 32 [(0x20, 1, n), (0x21, 1, 0), (0x22, 1, c.band), (0x24, 2, d.peak - d.iMin),
          (0x26, 2, d.iMin), (0x28, 8, c.start), (0x30, 4, d.delay)])
        (upVch n (fun c => { c with noMotion := false }) s)
    | none =>
      let body := mkBody 32 [(0x20, 1, n), (0x21, 1, 1), (0x22, 1, c.band), (0x28, 8, c.start)]
      let s1 := upVch n (fun c => { c with noMotion := true }) s
      raiseX 91 n 0 0 (body.take 16) s.now.ft s.now.ft
        (emit 0x0707 14 0x0B 0 s.now.ft s.now.ft body s1)

/-- The boost of channel `n` ends here, if it is in one. -/
def boostEnds (n : Nat) (s : State) : State := if (vch s n).boosting then armature n s else s

/-! ## Starts, waits and switching off -/

/-- Complete a profile start, where a host command carries it (R225). -/
def reqDone (r : VReq) (d : Done) (s : State) : State :=
  match r.post with
  | some (p, acc) => complete r.kind 0x0B p acc d s
  | none => s

/-- A profile starts now (R220, R225, R239). A mark of R238 stays: only a request of the new lane clears it. -/
def startProfile (n : Nat) (r : VReq) (s : State) : State :=
  let s := boostEnds n s
  let recd := vrec s n
  let b := s.valve.band
  let boost := fld recd (0x28 + 2 * b) 2
  let s1 := upVch n (fun c => { c.enter .rise s.now.el with
    start := s.now.ft, startEl := s.now.el, endEl := s.now.el + boost * qUs
    ihold := r.ihold, target := r.ihold, ipk := if r.ipk = 0 then fld recd 0x24 2 else r.ipk
    band := b, boostUs := boost, peakUs := fld recd (0x30 + 2 * b) 2, recd := recd
    peakNotReached := false, openRun := 0, wait := none
    openCheck := true, testing := false, dipWatch := ⟨0, none, false⟩ }) s
  let late := s.now.el - r.reqEl
  let d16 := flags [(0, r.quenchWait), (1, r.boostWait), (2, r.takeoverRestart)]
  let out := if r.boostWait then 1 else if r.quenchWait then 2 else 0
  reqDone r ⟨out, 0, d16, if out = 0 then 0 else sat 32 late, 0, s.now.ft⟩ s1

/-- Start heads of a bank's boost queue while they fit (R226). -/
def runQueue : (fuel : Nat) → (b : Nat) → State → State
  | 0, _, s => s
  | k + 1, b, s =>
    match (vbank s b).queue with
    | [] => s
    | n :: r =>
      match (vch s n).wait with
      | none => runQueue k b (upVbank b (fun x => { x with queue := r }) s)
      | some w =>
        if slotsHeld s b + slotsOf s n ≤ 2 then
          runQueue k b (startProfile n w (upVbank b (fun x => { x with queue := r }) s))
        else s

/-- A profile start that needs a boost slot: at once, or in the queue (R226). -/
def needSlot (n : Nat) (r : VReq) (s : State) : State :=
  let b := n / 4
  if (vbank s b).queue.isEmpty ∧ slotsHeld s b + slotsOf s n ≤ 2 then startProfile n r s
  else
    let w := { r with boostWait := true, deadline := max r.reqEl s.now.el + 2 * qMs }
    upVbank b (fun x => { x with queue := x.queue ++ [n] }) (upVch n (fun c => { c with wait := some w }) s)

/-- A channel goes into a quench (R220). With no profile left to run, no mark of R238 is left (log entry 80). -/
def enterQuench (n : Nat) (fast : Bool) (s : State) : State :=
  let s := boostEnds n s
  upVch n (fun c => { c.enter (if fast then .quenchFast else .quenchSlow) s.now.el with
    endEl := s.now.el + (if fast then fld c.recd 0x44 2 else fld c.recd 0x46 2) * qUs
    quenchAt := s.now.el, openRun := 0, openCheck := false, takeover := false }) s

/-- A channel that is on is switched off; its boost slot may go to the next in the queue (R220, R226). -/
def quench (n : Nat) (fast : Bool) (s : State) : State :=
  if (vch s n).on then runQueue 4 (n / 4) (enterQuench n fast s) else s

/-- A latching detection switches a channel off with QUENCH_FAST (R235): one that freewheels slowly, too. -/
def faultQuench (n : Nat) (s : State) : State :=
  let c := vch s n
  if c.on || decide (c.phase = .quenchSlow) then enterQuench n true s else s

/-- Cancel the waiting profile of a channel with an outcome (R223, R226, R237). -/
def cancelWait (n : Nat) (d : Done) (s : State) : State :=
  match (vch s n).wait with
  | none => s
  | some w =>
    reqDone w d (upVbank (n / 4) (fun x => { x with queue := x.queue.filter (fun m => m != n) })
      (upVch n (fun c => { c with wait := none }) s))

/-- The quench of a channel is over: a loop's shut-down that waits for it ends (R213), a waiting
profile starts or queues (R225). -/
def quenchOver (n : Nat) (timeout : Bool) (s : State) : State :=
  let t := s.now.ft
  let s1 := upVch n (fun c => { c.enter .off s.now.el with quenchTimeout := timeout }) s
  let s2 := s1.upCtl (fun c => { c with loops := c.loops.map (fun l =>
    if l.shut = .quench n then { l with shut := .until t } else l) })
  let s3 := if timeout then raise 94 n 0 s2 else s2
  match (vch s3 n).wait with
  | none => s3
  | some w => needSlot n w s3

/-- Latch a fault on channels of one bank and switch them off fast (R235): what waits there is refused first, and the
queue runs when all of them are off. -/
def latchFaults (ns : List Nat) (b case_ : Nat) (s : State) : State :=
  let s1 := ns.foldl (fun s n => cancelWait n (refusedWith 0x0702 0 (beatAt s.now.ft)) s) s
  let s2 := ns.foldl (fun s n => upVch n (fun c => { c with fault := case_ }) (faultQuench n s)) s1
  runQueue 4 b s2

/-- Event source of a case (R447). -/
def caseEvent (case_ : Nat) : Nat := 83 + case_

/-- DIAG_MASK bit of a case (R240): cases 1, 2, 4, 5 and 6. -/
def caseBit : Nat → Nat
  | 1 => 4
  | 2 => 3
  | 4 => 2
  | 5 => 1
  | _ => 0

/-- A detection always latches, or by its DIAG_MASK bit (R235). -/
def caseLatches (s : State) (n case_ : Nat) : Bool :=
  decide (case_ = 3) || decide (case_ = 7) || (fld (vrec s n) 0x23 1).testBit (caseBit case_)

/-- KD_VALVE_DIAG and the event of a detection (R235, R244): not again while the same case was detected within the last
1 s. `hs` is the high-side at the test. -/
def diagnose (n case_ : Nat) (hs : Bool) (m : ValveMeas) (s : State) : State :=
  let again := match (vch s n).seen.find? (fun x => x.1 == case_) with
    | some x => decide (s.now.el < x.2 + qSec)
    | none => false
  let s1 := upVch n (fun c => { c with
    seen := (case_, s.now.el) :: c.seen.filter (fun x => x.1 != case_) }) s
  let body := mkBody 32 [(0x20, 1, n), (0x21, 1, case_), (0x22, 1, if hs then 1 else 0),
    (0x23, 1, if caseLatches s n case_ then 1 else 0), (0x24, 2, measVd n m), (0x26, 2, sat 16 (measI s n m)),
    (0x28, 2, sgn 2 (clampI (-32768) 32767 m.excess)), (0x2A, 2, m.vhb), (0x2C, 2, m.vs)]
  if again then s1
  else raiseX (caseEvent case_) n case_ 0 (body.take 16) s.now.ft s.now.ft
    (emit 0x0706 14 0x0B 0 s.now.ft s.now.ft body s1)

/-- A detection on one channel (R235). A fault that is latched already stays as it is. -/
def detect (n case_ : Nat) (m : ValveMeas) (s : State) : State :=
  let s1 := diagnose n case_ (hsClosed s (n / 4)) m s
  if caseLatches s n case_ && decide ((vch s1 n).fault = 0) then valveStatus (latchFaults [n] (n / 4) case_ s1) else s1

/-- The channels of a bank that are commanded by their own number (R231). -/
def bankHeads (s : State) (b : Nat) : List Nat := (bankChans b).filter (fun n => !isOdd s n)

/-- BANK_LINE (R234, R235): every channel of the bank is switched off and latched at once, whatever was latched on it,
and each reports with the high-side as it stood at the test. -/
def bankLineFault (b : Nat) (m : ValveMeas) (s : State) : State :=
  let ns := bankHeads s b
  let hs := hsClosed s b
  let s1 := ns.foldl (fun s n => diagnose n 7 hs m s) s
  let s2 := upVbank b (fun x => { x with bankLine := true }) (latchFaults ns b 7 s1)
  if ns.all (fun n => decide ((vch s n).fault = 7)) then s2 else valveStatus s2

/-! ## Deciding a request -/

/-- Limit of IHOLD_MA (R241). -/
def iholdMax (s : State) (n : Nat) : Nat := if isPair s n then 6000 else 3000

/-- The refusal that R224 gives a request, in the order of its table: reason and DETAIL32. `kind` is the
kind of R241, `ihold` the hold current after the request. -/
def valveRefusal (s : State) (n kind ihold : Nat) (host : Bool) : Option (Nat × Nat) :=
  let c := vch s n
  let b := n / 4
  let newLoad := bankLoad s b - c.load + ihold
  if host && destOwned s [1, 2] n then some (9, 0)
  else if s.valve.inhibit then some (0x0701, 0)
  else if decide (c.fault ≠ 0) && decide (kind ≠ 0x0704) then some (0x0702, 0)
  else if isOdd s n then some (0x0703, 0)
  else if decide (kind = 0x0703) && !c.on && c.wait.isNone then some (8, 0)
  else if decide (kind ≠ 0x0704) && decide (vbankCfg s (0x24 + 2 * b) 2 < newLoad)
      && decide (bankLoad s b < newLoad) then some (0x11, newLoad)
  else none

/-- A command on a valve channel that has passed R224, as an item of the output vector (R45, R57). -/
def valveIssue (type n ihold : Nat) (s : State) : State := provePath .valve (issue (.value type n ihold) s)

/-- A profile start that has passed R224 (R221, R223, R225, R226). -/
def acceptProfile (n : Nat) (r : VReq) (corr : Nat) (s : State) : State :=
  if pathDead .valve s then reqDone r (refusedWith 8 0 (beatAt s.now.ft)) s
  else
  let s := valveIssue 1 n r.ihold s
  let c := vch s n
  match c.wait with
  | some w =>
    -- the new request takes the place of the waiting one and its requested start
    let w2 := { r with reqEl := w.reqEl, quenchWait := w.quenchWait, boostWait := w.boostWait,
                       deadline := w.deadline }
    upVch n (fun c => { c with wait := some w2 }) (reqDone w ⟨3, 0, 0, corr, 0, beatAt s.now.ft⟩ s)
  | none =>
    if c.boosting then startProfile n r s
    else if c.quenching then upVch n (fun c => { c with wait := some { r with quenchWait := true } }) s
    else needSlot n r s

/-- A hold trim that has passed R224 (R221). -/
def acceptTrim (n ihold : Nat) (s : State) : State :=
  if pathDead .valve s then s
  else upVch n (fun c =>
    match c.wait with
    | some w => { c with wait := some { w with ihold := ihold } }
    | none => { c with ihold := ihold, target := if c.phase = .hold then c.target else ihold }) (valveIssue 2 n ihold s)

/-- An off command that has passed R224 (R223, R241). `q` is QUENCH of R241. -/
def acceptOff (n q : Nat) (clear : Bool) (corr : Nat) (s : State) : State :=
  if pathDead .valve s then s
  else
  let s1 := cancelWait n ⟨3, 0, 0, corr, 0, beatAt s.now.ft⟩ (valveIssue 1 n 0 s)
  let fast := decide (q = 1) || (decide (q = 0) && decide (fld (vch s n).recd 0x21 1 = 0))
  let s2 := quench n fast s1
  let had := decide ((vch s n).fault ≠ 0)
  let still := (bankHeads s (n / 4)).any (fun m => m != n && decide ((vch s m).fault = 7))
  if clear && had then
    valveStatus (upVbank (n / 4) (fun b => { b with bankLine := b.bankLine && still })
      (upVch n (fun c => { c with fault := 0, seen := [] }) s2))
  else s2

/-- A hold trim or a profile start on a channel, as R238 turns them after a takeover. Answers the
refusal instead where R224 gives one. -/
def valveStart (n kind ihold ipk : Nat) (post : Option (Post × Nat)) (reqEl corr : Nat) (s : State) :
    State × Option (Nat × Nat) :=
  match valveRefusal s n kind ihold post.isSome with
  | some x =>
    (if x.1 = 0x11 then raise 93 n 0 s else s, some x)
  | none =>
    let restart := (vch s n).takeover && decide (kind = 0x0703)
    if kind = 0x0702 ∨ restart then
      let s1 := upVch n (fun c => { c with takeover := false }) s
      (acceptProfile n ⟨ihold, ipk, post, kind, reqEl, false, false, restart, 0⟩ corr s1, none)
    else (acceptTrim n ihold s, none)

/-! ## Host commands at their requested start -/

/-- Decide one host command at its requested start (R223–R225). -/
def decideHost (h : VHost) (t : Nat) (s : State) : State :=
  let n := fld h.post.body 0x20 1
  let refuse := fun (x : Nat × Nat) (s : State) =>
    complete h.kind 0x0B h.post h.acc ⟨4, x.1, 0, x.2, 0, t⟩ s
  if h.kind = 0x0704 then
    match valveRefusal s n h.kind 0 true with
    | some x => refuse x s
    | none =>
      complete h.kind 0x0B h.post h.acc ⟨0, 0, 0, 0, 0, t⟩
        (acceptOff n (fld h.post.body 0x21 1) (decide (fld h.post.body 0x22 1 = 1)) h.post.corr s)
  else
    let ipk := if h.kind = 0x0702 then fld h.post.body 0x26 2 else 0
    let restart := (vch s n).takeover
    let x := valveStart n h.kind (fld h.post.body 0x24 2) ipk (some (h.post, h.acc)) s.now.el h.post.corr s
    match x.2 with
    | some y => refuse y x.1
    | none =>
      if h.kind = 0x0703 ∧ !restart then complete h.kind 0x0B h.post h.acc ⟨0, 0, 0, 0, 0, t⟩ x.1 else x.1

/-- Decide the host commands for one channel: the last in stream order, the others SUPERSEDED (R223). -/
def decideChannel (t n : Nat) (due : List VHost) (s : State) : State :=
  let mine := due.filter (fun h => fld h.post.body 0x20 1 == n)
  match mine.getLast? with
  | none => s
  | some l =>
    decideHost l t (mine.dropLast.foldl (fun s h =>
      complete h.kind 0x0B h.post h.acc ⟨3, 0, 0, l.post.corr, 0, t⟩ s) s)

/-! ## Loop values -/

/-- Current in mA of a loop value, clipped (R181, R241). -/
def loopMa (s : State) (n scale : Nat) (v : Int) : Nat × Bool :=
  let x := ((2 * v * (scale : Int) + 2 ^ 30) / 2 ^ 31).toNat
  (min x (iholdMax s n), decide (iholdMax s n < x))

/-- The value of a loop takes effect at a valve channel (R181): a trim where the value in mA differs from the
one that the channel holds or waits to hold. Answers whether it was refused. -/
def valveLoop (profile : Bool) (n scale : Nat) (v : Int) (s : State) : State × Bool :=
  let c := vch s n
  if profile && decide (v ≤ 0) then
    match valveRefusal s n 0x0704 0 false with
    | some _ => (s, true)
    | none => (acceptOff n 0 false 0 s, false)
  else
    let m := loopMa s n scale v
    let s1 := upVch n (fun c => { c with clipped := m.2 }) s
    let started := c.on || c.wait.isSome
    if profile && !started then
      let x := valveStart n 0x0702 m.1 0 none s.now.el 0 s1
      (x.1, x.2.isSome)
    else if c.load = m.1 then (s1, false)
    else
      let x := valveStart n 0x0703 m.1 0 none s.now.el 0 s1
      (x.1, x.2.isSome)

/-- Hold current commanded in force ÷ DEST_SCALE (R212). -/
def valvePresent (s : State) (n scale : Nat) : Int :=
  let c := vch s n
  if c.on then q130 c.ihold scale else 0

/-! ## All channels at once -/

/-- Every waiting profile of the stage ends with an outcome (R237, R473). -/
def emptyQueues (reason : Nat) (s : State) : State :=
  (List.range 24).foldl (fun s n => cancelWait n (refusedWith reason 0 (beatAt s.now.ft)) s) s

/-- Every channel off with fast quench (R237, R471, R473). -/
def allOffFast (s : State) : State := (List.range 24).foldl (fun s n => quench n true s) s

/-- The stage marks the channels that run a profile of the old lane (R238). -/
def markTakeover (s : State) : State :=
  s.upValve (fun v => { v with ch := v.ch.map (fun c => { c with takeover := c.on }) })

end Sys2Proof.Machine
end

