-- ==== Sys2Proof/Machine/FieldOps.lean ====
section
/-!
DEFINITION. What the digital outputs, the counters and the reports of the field I/O do (R355–R377).
-/
namespace Sys2Proof.Machine

/-- Output `n`. -/
def dqOf (s : State) (n : Nat) : Dq := nth default s.field.dq n

/-- Change output `n`. -/
def upDq (n : Nat) (f : Dq → Dq) (s : State) : State :=
  s.upField (fun v => { v with dq := upd v.dq n f })

/-- The DQ record of the Catalogue (R377). -/
def dqRec (s : State) (n : Nat) : List Byte := recBody s 0x0C01 (96 + n)

/-- The general record (R377). -/
def fieldGen (s : State) (off size : Nat) : Nat := cfg s 0x0C01 128 off size

/-- Duty applied in Q1.30: on/P (R369). -/
def Dq.applied (d : Dq) : Int := q130 d.onCounts d.period

/-! ## Field status -/

/-- Sensor supply enabled: its bit in SUPPLY_EN, from the first beat of Serving on (R375). -/
def supplyEn (s : State) (i : Nat) : Bool :=
  decide (s.pow.state = .serving) && decide (s.pow.sub ≠ .holdup) && s.pow.firstBeat && (fieldGen s 0x21 1).testBit i

/-- Body of KD_DI_REPORT FORM 1 (R376). -/
def fieldStatusBody (s : State) : List Byte :=
  let f := s.field
  let lv := (f.di.zipIdx.map (fun x => bit x.2 x.1.level)).sum
  mkBody 32 [(0x20, 1, 1), (0x21, 1, if s.valve.inhibit then 1 else 0),
      (0x22, 1, flags [(7, supplyEn s 0), (6, supplyEn s 0 && !f.fault5), (5, supplyEn s 1),
        (4, supplyEn s 1 && !f.fault10), (3, f.vdqLow)]),
      (0x24, 6, lv), (0x2C, 2, f.vdqMv), (0x2E, 2, f.sup5Mv), (0x30, 2, f.sup10Mv), (0x32, 2, f.sup5Ma),
      (0x34, 2, f.sup10Ma)]
    ++ f.dq.flatMap (fun d => leBytes 2 ((2 * d.onCounts * 65535 + d.period) / (2 * max 1 d.period)))
    ++ f.dq.zipIdx.flatMap (fun x => leBytes 1 (flags [(7, decide (x.1.onCounts ≠ 0)), (6, x.1.latched),
        (5, x.1.openOn), (4, x.1.short), (3, s.valve.inhibit), (2, destOwned s [3] x.2)]))

/-- Deliver the field status (R376) for the beat boundary at or after now. -/
def fieldStatus (s : State) : State :=
  let t := ceilTo qBeat s.now.ft
  emit 0x0C03 8 0x05 0 t t (fieldStatusBody s) s

/-- Deliver KD_DI_REPORT FORM 0 (R357). -/
def diReport (n : Nat) (c : DiChange) (levelEnd : Bool) (s : State) : State :=
  let b := fun (x : Bool) => if x then 1 else 0
  emit 0x0C03 8 0x05 0 c.stamp c.stamp
    (mkBody 32 [(0x20, 1, 0), (0x21, 1, n), (0x22, 1, b c.level), (0x23, 1, b levelEnd),
      (0x24, 2, sat 16 c.extra)]) s

/-! ## Duties -/

/-- The duty of an output changes now, under the MODE and PWM_FREQ_HZ in force (R368, R369). -/
def dqApply (n duty : Nat) (newPeriod : Bool) (s : State) : State :=
  let d := dqOf s n
  let r := dqRec s n
  let pwm := decide (fld r 0x21 1 = 1)
  let freq := max 1 (fld r 0x22 2)
  let p := 100000000 / freq
  let on := if pwm then (2 * duty * p + 2 ^ 30) / 2 ^ 31 else if 2 ^ 29 ≤ duty then p else 0
  let s1 := upDq n (fun d => { d with
    pwm := pwm, freq := freq, duty := duty, onCounts := on, period := p
    phaseEl := if newPeriod then s.now.el else d.phaseEl
    openOn := d.openOn && decide (on ≠ 0), short := d.short && decide (on = 0) }) s
  let s3 := if (dqOf s1 n).applied = d.applied then s1 else input (112 + n) s.now.ft (dqOf s1 n).applied s1
  if (d.openOn && decide (on = 0)) || (d.short && decide (on ≠ 0)) then fieldStatus s3 else s3

/-- The output is off for any reason (R369): its duty applied is 0. A fault that ends with the state it is
tested in is a change of a `DQ` fault (R376). -/
def dqOff (n : Nat) (s : State) : State :=
  let d := dqOf s n
  let s1 := upDq n (fun d => { d with duty := 0, onCounts := 0, openOn := false }) s
  let s2 := if d.onCounts = 0 then s1 else input (112 + n) s.now.ft 0 s1
  if d.openOn then fieldStatus s2 else s2

/-- Complete a command whose duty waits, with an outcome. -/
def dqDone (w : DqDuty) (d : Done) (s : State) : State :=
  match w.post with
  | some (p, acc) => complete 0x0C02 0x05 p acc d s
  | none => s

/-- Drop a duty that waits, with the outcome of the command that carries it. -/
def dqCancel (n : Nat) (d : Done) (s : State) : State :=
  match (dqOf s n).wait with
  | none => s
  | some w => dqDone w d (upDq n (fun d => { d with wait := none }) s)

/-- A duty takes effect now or waits for the next PWM period start (R369), where the path of the digital outputs takes
commands (R57). -/
def dqTake (n duty : Nat) (post : Option (Post × Nat)) (s : State) : State :=
  let d := dqOf s n
  let w : DqDuty := ⟨duty, s.now.el, post⟩
  if pathDead .dq s then dqDone w (refusedWith 8 0 (beatAt s.now.ft)) s
  else
  let s := provePath .dq (issue (.value 3 n duty) s)
  let s1 := dqCancel n ⟨3, 0, 0, (match post with | some (p, _) => p.corr | none => 0), 0, beatAt s.now.ft⟩ s
  if d.duty = 0 ∨ !d.pwm then
    dqDone w (accepted 0 s.now.ft) (dqApply n duty true s1)
  else upDq n (fun d => { d with wait := some w }) s1

/-- A change of MODE or PWM_FREQ_HZ takes effect at the next PWM period start, and where no period runs at
once (R377, R369). -/
def dqCommit (n : Nat) (old : List Byte) (s : State) : State :=
  let d := dqOf s n
  if fieldBytes old 0x21 3 = fieldBytes (dqRec s n) 0x21 3 || decide (d.duty = 0) then s
  else if !d.pwm then dqApply n d.duty true s
  else if d.wait.isSome then s
  else upDq n (fun d => { d with wait := some ⟨d.duty, s.now.el, none⟩ }) s

/-- The elapsed instant of the first PWM period start at or after an elapsed instant (R368, R369). -/
def Dq.periodStart (d : Dq) (el : Nat) : Nat :=
  let per := max 1 d.period * 40
  if el ≤ d.phaseEl then d.phaseEl else d.phaseEl + ceilTo per (el - d.phaseEl)

/-- The value of a loop takes effect at a digital output (R370, R181). Answers whether it was refused. -/
def dqLoop (n : Nat) (v : Int) (s : State) : State × Bool :=
  if s.valve.inhibit || (dqOf s n).latched then (s, true)
  else (dqTake n (clampI 0 (2 ^ 30) v).toNat none s, false)

/-- Every output off (R373, R471, R473). -/
def dqAllOff (reason : Nat) (s : State) : State :=
  (List.range 24).foldl (fun s n => dqOff n (dqCancel n (refusedWith reason 0 (beatAt s.now.ft)) s)) s

/-! ## Counters -/

/-- Counter `n`. -/
def cnt (s : State) (n : Nat) : Counter := nth default s.field.counters n

/-- Change counter `n`. -/
def upCnt (n : Nat) (f : Counter → Counter) (s : State) : State :=
  s.upField (fun v => { v with counters := upd v.counters n f })

/-- Count one edge into the open gate (R360). -/
def Counter.take (c : Counter) (e : Edge) : Counter :=
  { c with n := c.n + 1, first := if c.n = 0 then some e else c.first, prev := c.last, last := some e }

/-- Result of a gate: frequency as a fraction of Hz, period as a fraction of q, and the FLAGS of R363. -/
structure GateRes where
  fNum : Nat
  fDen : Nat
  pNum : Nat
  pDen : Nat
  flags : Nat

/-- The time from one stamp to a later one, in q, across a step too (R29, R360). -/
def span (a b : Int) : Nat := (b - a).toNat

/-- R360 for a gate that closes at the instant `close`. -/
def gateResult (c : Counter) (close gateMs timeoutMs : Nat) : GateRes :=
  let many := decide (200 * gateMs < c.n)
  match c.first, c.last, c.prev with
  | some a, some b, prev =>
    if 2 ≤ c.n then
      let d := max 1 (span a.cmp b.cmp)
      ⟨(c.n - 1) * qSec, d, d, c.n - 1, flags [(5, many)]⟩
    else
      match prev with
      | some q =>
        if span b.cmp close ≤ timeoutMs * qMs then
          let p := max 1 (max (span q.cmp b.cmp) (span b.cmp close))
          ⟨qSec, p, p, 1, flags [(6, decide (span q.cmp b.cmp < span b.cmp close)), (5, many), (4, true)]⟩
        else ⟨0, 1, 0, 1, 0x80⟩
      | none => ⟨0, 1, 0, 1, 0x80⟩
  | none, some b, some q =>
    if span b.cmp close ≤ timeoutMs * qMs then
      let p := max 1 (max (span q.cmp b.cmp) (span b.cmp close))
      ⟨qSec, p, p, 1, flags [(6, decide (span q.cmp b.cmp < span b.cmp close)), (4, true)]⟩
    else ⟨0, 1, 0, 1, 0x80⟩
  | _, _, _ => ⟨0, 1, 0, 1, 0x80⟩

/-- Rounded to nearest. -/
def roundDiv (n d : Nat) : Nat := (2 * n + d) / (2 * max 1 d)

/-- Close the gate of counter `n` now (R360–R363), with the Slip flags of its record, and open the next
one. Signals and report follow the rule. -/
def closeGate (n fl next : Nat) (s : State) : State :=
  let c := cnt s n
  let t := s.now.ft
  let r := recBody s 0x0C01 n
  let g := gateResult c t (fld r 0x26 2) (fld r 0x2C 4)
  let noSig := decide (g.flags = 0x80)
  let sf : Int := if noSig then 0 else q130 (g.fNum * 1000) (g.fDen * max 1 (fld r 0x30 4))
  let sp : Int := if noSig then 2 ^ 31 - 1 else q130 g.pNum (g.pDen * 4000 * max 1 (fld r 0x34 4))
  let o := fun (e : Option Edge) => match e with | some e => e.ft | none => 0
  let acc := match c.last with | some e => if noSig && decide (c.n = 0) then t else e.ft | none => t
  let body := mkBody 64 [(0x20, 1, n), (0x21, 1, g.flags), (0x22, 1, fld r 0x24 1), (0x24, 4, c.n),
    (0x28, 4, (c.total + 2 ^ 32 - c.ahead.length) % 2 ^ 32), (0x2C, 4, sat 32 (roundDiv (g.fNum * 1000) g.fDen)),
    (0x30, 8, roundDiv g.pNum g.pDen), (0x38, 8, o c.first), (0x40, 8, o c.last), (0x48, 8, c.gateOpen)]
  let base : Counter := { c with gateOpen := t, gateNext := next, n := 0, first := none, ahead := [] }
  let s1 := upCnt n (fun _ => c.ahead.foldl Counter.take base) s
  let s2 := input (80 + n) t sp (input (48 + n) t sf s1)
  let s3 := if g.flags.testBit 5 then raiseX 103 n 0 0 (body.take 16) t t s2 else s2
  if (fld r 0x21 1).testBit 2 then emit 0x0C04 8 0x05 fl acc t body s3 else s3

/-- Work of the field inputs at a beat boundary `b`: signals 64 + n (R359) and the first changes of the
interval that ends there (R357). -/
def fieldBeat (b : Nat) (s : State) : State :=
  let s1 := (List.range 16).foldl (fun s n =>
    let c := cnt s n
    let rest := c.fresh.filter (fun e => !decide (e.cmp < (b : Int)))
    match (c.fresh.filter (fun e => decide (e.cmp < (b : Int)))).getLast? with
    | some e =>
      inputAt (64 + n) e.ft e.cmp ((c.total + 2 ^ 32 - rest.length) % 2 ^ 32 : Nat)
        (upCnt n (fun c => { c with fresh := rest }) s)
    | none => s) s
  (List.range 48).foldl (fun s n =>
    let d := nth default s.field.di n
    match d.change with
    | some c =>
      if c.stamp < b then
        diReport n c d.level (s.upField (fun f => { f with di := upd f.di n (fun d => { d with change := none }) }))
      else s
    | none => s) s1

/-! ## The window of KD_AI_REPORT -/

/-- The order of statuses for the worst of a window (R367). -/
def aiRank : Nat → Nat
  | 4 => 5
  | 3 => 4
  | 2 => 3
  | 5 => 2
  | 1 => 1
  | _ => 0

/-- Rounded to nearest, of a signed number over a positive one. -/
def roundDivI (n : Int) (d : Nat) : Int :=
  let d : Int := max 1 d
  (2 * n + d) / (2 * d)

/-- A sample of value `x` and status `st` in the window of KD_AI_REPORT (R367). -/
def Ai.window (x : Int) (st : Nat) (a : Ai) : Ai :=
  let open_ := decide (a.worst = 0)
  { a with
    sum := a.sum + x, least := if open_ then x else min a.least x
    largest := if open_ then x else max a.largest x
    worst := if aiRank a.worst < aiRank st then st else a.worst }

/-- A sample of the sixteen inputs in the window of KD_AI_REPORT; an input without a status has none (R367). -/
def Field.window (f : Field) (x : AiAhead) : Field :=
  { f with
    samples := f.samples + 1, lastSample := x.stamp
    ai := f.ai.zipIdx.map (fun a =>
      let v := nth (0, 0) x.vals a.2
      if v.2 = 0 then a.1 else a.1.window v.1 v.2) }

/-- Close the window of KD_AI_REPORT now and open the next one, with the samples that already belong to it (R35,
R367). -/
def closeAi (fl next : Nat) (s : State) : State :=
  let f := s.field
  let t := s.now.ft
  let body := mkBody 16 [(0x20, 2, sat 16 f.samples), (0x28, 8, f.winStart)]
    ++ f.ai.flatMap (fun a =>
      let k := fun (x : Int) => leBytes 2 (ofSigned 16 (clampI (-32768) 32767 (roundDivI x 1000)))
      (if a.worst = 0 then List.replicate 6 0
        else leBytes 2 (ofSigned 16 (clampI (-32768) 32767 (roundDivI a.sum (1000 * max 1 f.samples))))
          ++ k a.least ++ k a.largest)
        ++ leBytes 1 a.worst ++ [0])
  let s1 := emit 0x0C05 8 0x05 fl (if f.samples = 0 then t else f.lastSample) t body s
  s1.upField (fun f => f.ahead.foldl Field.window { f with
    winStart := t, winNext := next, samples := 0, ahead := [], ai := f.ai.map (fun a => { a with sum := 0, worst := 0 }) })

end Sys2Proof.Machine
end

