-- ==== Sys2Proof/Machine/CanOps.lean ====
section
/-!
DEFINITION. What the CAN controllers do with frames, queues, objects and states (R382–R392).
-/
namespace Sys2Proof.Machine

/-- Controller `c`. -/
def cctl (s : State) (c : Nat) : CanCtl := nth default s.can.ctl c

/-- Change controller `c`. -/
def upCtlr (c : Nat) (f : CanCtl → CanCtl) (s : State) : State :=
  s.upCan (fun v => { v with ctl := upd v.ctl c f })

/-- The controller record of the Catalogue (R394). -/
def canRec (s : State) (c : Nat) : List Byte := recBody s 0x0D01 c

/-- The record of set-point object `o` (R396). -/
def objRec (s : State) (o : Nat) : List Byte := recBody s 0x0D02 (4096 + o)

/-! ## Bit fields of a payload (R386) -/

/-- Bit `i` of a payload, counted as the little-endian rule counts. -/
def dataBit (d : List Byte) (i : Nat) : Bool := (nth 0 d (i / 8)).toNat.testBit (i % 8)

/-- The payload bits of a field, least significant first. -/
def fieldBits (start bits : Nat) (big : Bool) : List Nat :=
  if big then
    -- the field runs down from START_BIT and goes on at bit 7 of the next byte
    ((List.range bits).map (fun k =>
      let p := 7 - start % 8 + k
      8 * (start / 8 + p / 8) + (7 - p % 8))).reverse
  else (List.range bits).map (start + ·)

/-- Extract an unsigned field. -/
def getField (d : List Byte) (start bits : Nat) (big : Bool) : Nat :=
  ((fieldBits start bits big).zipIdx.map (fun x => bit x.2 (dataBit d x.1))).sum

/-- Replace one bit of a payload. -/
def setBit (d : List Byte) (i : Nat) (v : Bool) : List Byte :=
  upd d (i / 8) (fun b =>
    let w := b.toNat
    BitVec.ofNat 8 (if w.testBit (i % 8) = v then w else if v then w + 2 ^ (i % 8) else w - 2 ^ (i % 8)))

/-- Replace a field by the low bits of a value. -/
def putField (d : List Byte) (start bits : Nat) (big : Bool) (v : Nat) : List Byte :=
  (fieldBits start bits big).zipIdx.foldl (fun d x => setBit d x.1 (v.testBit x.2)) d

/-! ## Status and states -/

/-- Body of KD_CAN_STATUS (R399). -/
def canStatusBody (c : Nat) (k : CanCtl) : List Byte :=
  let st := match k.state with
    | .off => 0 | .integrating => 1 | .errorActive => 2 | .errorPassive => 3 | .busOff => 4 | .recovering => 5
  mkBody 64 ([(0x20, 1, c), (0x21, 1, st), (0x22, 1, min 255 k.tec), (0x23, 1, min 255 k.recErr),
    (0x24, 1, min 255 k.tdcMeasured), (0x25, 1, min 255 k.queue.length), (0x26, 1, min 255 k.queueMax),
    (0x27, 1, flags [(7, k.wakeSource), (6, k.tdcRange), (5, k.afterShutdown), (4, k.clipped)]),
    (0x28, 4, k.rxFrames), (0x2C, 4, k.rxUnbound), (0x30, 4, k.rxLost), (0x34, 2, k.rxRemote),
    (0x36, 2, k.busOffs), (0x38, 4, k.txFrames), (0x3C, 4, k.txDiscarded), (0x40, 4, k.txExpired),
    (0x4E, 2, k.txDuplicate)] ++ k.errs.zipIdx.map (fun x => (0x44 + 2 * x.2, 2, x.1)))

/-- Deliver KD_CAN_STATUS (R399); with a record that is delivered, what it reports "since the previous record"
starts anew. -/
def canStatus (c : Nat) (s : State) : State :=
  let t := ceilTo qBeat s.now.ft
  upCtlr c (fun k => if commanding s then { k with
      queueMax := k.queue.length, clipped := false, wakeSource := false, afterShutdown := false } else k)
    (emit 0x0D05 9 0x06 0 t t (canStatusBody c (cctl s c)) s)

/-- Raise a source of controller `c`, with the first fields of its status record as DATA (R430). -/
def canRaise (src c code : Nat) (s : State) : State :=
  raiseX src c code 0 ((canStatusBody c (cctl s c)).take 16) s.now.ft s.now.ft s

/-- A controller changes its state (R382); CODE of the events is the new state. -/
def canSetState (c : Nat) (st : CanState) (s : State) : State :=
  let was := (cctl s c).state
  if was = st then s
  else
    let s1 := upCtlr c (fun k => { k with state := st }) s
    let s2 := match was, st with
      | .errorActive, .errorPassive => canRaise 104 c 3 s1
      | .errorPassive, .errorActive => canRaise 104 c 2 s1
      | _, .busOff => canRaise 105 c 4 (upCtlr c (fun k => { k with
          busOffs := satAdd 16 k.busOffs 1, delayEl := s.now.el + fld (canRec s c) 0x30 2 * qMs }) s1)
      | _, _ => s1
    canStatus c s2

/-- The state that the error counters give a controller on the bus (R382). -/
def canByCounters (c : Nat) (s : State) : State :=
  let k := cctl s c
  match k.state with
  | .errorActive =>
    if 255 < k.tec then canSetState c .busOff s
    else if 127 < k.tec ∨ 127 < k.recErr then canSetState c .errorPassive s else s
  | .errorPassive =>
    if 255 < k.tec then canSetState c .busOff s
    else if k.tec ≤ 127 ∧ k.recErr ≤ 127 then canSetState c .errorActive s else s
  | _ => s

/-- The controller sends and receives. -/
def CanCtl.onBus (k : CanCtl) : Bool :=
  match k.state with | .errorActive => true | .errorPassive => true | _ => false

/-- Count a protocol error by type (R399). -/
def bumpErr (e : CanErr) (l : List Nat) : List Nat :=
  match e with
  | .arbitration => l
  | .stuff => upd l 0 (fun n => satAdd 16 n 1)
  | .form => upd l 1 (fun n => satAdd 16 n 1)
  | .ack => upd l 2 (fun n => satAdd 16 n 1)
  | .bit => upd l 3 (fun n => satAdd 16 n 1)
  | .crc => upd l 4 (fun n => satAdd 16 n 1)

/-- An error in what a controller receives: REC rises by 1, or by 8 where ISO 11898-1 says so (R382). -/
def canRxError (c : Nat) (e : CanErr) (eight : Bool) (s : State) : State :=
  canByCounters c (upCtlr c (fun k => { k with
    recErr := min 255 (k.recErr + if eight then 8 else 1), errs := bumpErr e k.errs }) s)

/-! ## Transmit queue -/

/-- Append an entry (R45, R387). -/
def canPush (c : Nat) (e : CanEntry) (s : State) : State :=
  issue (.frame c e.frame)
    (upCtlr c (fun k => { k with queue := k.queue ++ [e], queueMax := max k.queueMax (k.queue.length + 1) }) s)

/-- Entries of the present lane (R387, R392). -/
def CanCtl.own (k : CanCtl) : List CanEntry := k.queue.filter (fun e => !e.old)

/-- The frame of a set-point object with a raw value (R388). -/
def objFrame (r : List Byte) (raw : Int) : CanFrame :=
  let bits := fld r 0x2C 1
  let fl := fld r 0x22 1
  let dlc := fld r 0x28 1
  { id := fld r 0x24 4, ide := fl.testBit 1, fdf := fl.testBit 2, brs := fl.testBit 3, esi := false
    remote := false, dlc := dlc
    data := putField ((fieldBytes r 0x40 64).take (canLen dlc)) (fld r 0x2A 2) bits
      ((fld r 0x29 1).testBit 0) (ofSigned bits raw) }

/-- Raw value in force of an object (R388). -/
def objRaw (s : State) (o : Nat) : Int :=
  (nth default s.can.objs o).raw.getD
    (let r := objRec s o
     if (fld r 0x29 1).testBit 1 then fldS r 0x30 4 else (fld r 0x30 4 : Nat))

/-- Enqueue the frame of a set-point object (R387, R388). -/
def objEnqueue (o : Nat) (s : State) : State :=
  let r := objRec s o
  let c := fld r 0x23 1
  let k := cctl s c
  if k.state = .off then s
  else
    let ob := nth default s.can.objs o
    let fr := objFrame r (objRaw s o)
    let s1 := s.upCan (fun v => { v with objs := upd v.objs o (fun x => { x with frames := add32 x.frames 1 }) })
    let mine := fun (e : CanEntry) => e.obj == some o && e.attempts == 0 && !e.old
    if k.queue.any mine then
      let q := updFirst mine (fun e => { e with frame := fr }) k.queue
      upCtlr c (fun k => { k with queue := q }) s
    else if k.own.length < 32 then
      canPush c ⟨fr, none, false, some o, ob.frames, s.now.el, none, 0, false, false⟩ s1
    else
      let first := match k.lastDiscard with | none => true | some t => decide (t + qSec ≤ s.now.el)
      let s2 := upCtlr c (fun k => { k with txDiscarded := satAdd 32 k.txDiscarded 1, lastDiscard := some s.now.el }) s
      if first then canRaise 107 c 0 s2 else s2

/-- Whether an object takes values: enabled, and its controller not OFF (R388). -/
def objEnabled (s : State) (o : Nat) : Bool :=
  let r := objRec s o
  (fld r 0x22 1).testBit 0 && decide ((cctl s (fld r 0x23 1)).state ≠ .off)

/-- Range of a set-point object's field (R388). -/
def objRange (r : List Byte) : Int × Int :=
  let bits := fld r 0x2C 1
  if (fld r 0x29 1).testBit 1 then (-(2 ^ (bits - 1)), 2 ^ (bits - 1) - 1) else (0, 2 ^ bits - 1)

/-- Give an enabled object a raw value (R388), where the CAN path takes commands (R57). -/
def objWrite (o : Nat) (v : Int) (s : State) : State :=
  if pathDead .can s then s
  else
  let r := objRec s o
  let g := objRange r
  let w := clampI g.1 g.2 v
  let was := objRaw s o
  let s1 := s.upCan (fun x => { x with objs := upd x.objs o (fun b => { b with raw := some w }) })
  let s2 := if w = v then s1 else upCtlr (fld r 0x23 1) (fun k => { k with clipped := true }) s1
  let s3 := provePath .can (issue (.value 4 o w) s2)
  if (fld r 0x22 1).testBit 4 && decide (w ≠ was) then objEnqueue o s3 else s3

/-- The value of a loop takes effect at a set-point object (R181, R388). Answers whether it was refused. -/
def objLoop (o scale : Nat) (v : Int) (s : State) : State × Bool :=
  if objEnabled s o then (objWrite o ((2 * v * (scale : Int) + 2 ^ 30) / 2 ^ 31) s, false) else (s, true)

/-- Complete the host command of an entry. -/
def entryDone (e : CanEntry) (d : Done) (s : State) : State :=
  match e.post with
  | some (p, acc) => complete 0x0D03 0x06 p acc d s
  | none => s

/-- Of entries that leave a queue while others stay, those that complete a host command: of two copies of one
item one completes it, and none where the other copy stays (R392). -/
def completing (gone stay : List CanEntry) : List CanEntry :=
  gone.filter (fun e => e.post.isSome && !stay.any (fun x => x.post == e.post)
    && !(e.copy && gone.any (fun x => x.old && x.post == e.post)))

/-- Empty a queue at a disable (R383): the head stays while a frame may still be on the bus. -/
def canEmpty (c : Nat) (keepHead : Bool) (s : State) : State :=
  let q := (cctl s c).queue
  let gone := if keepHead then q.drop 1 else q
  let stay := if keepHead then q.take 1 else []
  let s1 := upCtlr c (fun k => { k with queue := stay }) s
  (completing gone stay).foldl (fun s e => entryDone e (refusedWith 0x0D01 0 (beatAt s.now.ft)) s) s1

/-- Begin a shut-down (R383). -/
def canShutdown (c : Nat) (again : Bool) (s : State) : State :=
  let s1 := upCtlr c (fun k => { k with shutdown := true, enableAfter := again }) s
  canSetState c .off (if again then s1 else canEmpty c true s1)

/-- Fields whose change shuts a controller down (R382): bit timing (NBRP to DSJW), MODE, FD_ENABLE, TERM, ISOBUS,
TDC_EN. -/
def canTimingChanged (a b : List Byte) : Bool :=
  decide (fieldBytes a 0x22 1 ≠ fieldBytes b 0x22 1)
    || decide (fld a 0x23 1 &&& 0x1B ≠ fld b 0x23 1 &&& 0x1B)
    || decide (fieldBytes a 0x24 10 ≠ fieldBytes b 0x24 10)

/-- A controller's record takes effect at a commit boundary (R382, R394): `old` was in force before. -/
def canCommit (c : Nat) (old : List Byte) (s : State) : State :=
  let new := canRec s c
  let k := cctl s c
  let on := decide (fld new 0x21 1 = 1)
  if k.state = .off then
    if k.shutdown then upCtlr c (fun k => { k with enableAfter := on }) s
    else if on then canSetState c .integrating s else s
  else if !on then canShutdown c false s
  else if canTimingChanged old new then canShutdown c true s else s

/-- The controllers stop without a status (R471, R473): OFF, nothing queued. -/
def canStop (s : State) : State :=
  s.upCan (fun c => { c with
    ctl := c.ctl.map (fun k => { k with state := .off, queue := [], shutdown := false }), host := [], batch := [] })

/-! ## Takeover (R55, R392) -/

/-- At kS the old lane's entries stay, and the new lane queues its own copy of every entry of the last
10 ms. -/
def canTakeover (s : State) : State :=
  s.upCan (fun v => { v with ctl := v.ctl.map (fun k =>
    let copies := (k.own.filter (fun e => decide (s.now.el ≤ e.inEl + 10 * qMs))).map
      (fun e => { e with attempts := 0, copy := true })
    { k with queue := k.queue.map (fun e => { e with old := true }) ++ copies
             txDuplicate := satAdd 16 k.txDuplicate copies.length }) })

/-- At the end of the overlap window the old lane's entries are discarded; answers how many (R55). DESIGN CHOICE (log
entry 73): a host command whose only entry is one of them gets no completion. -/
def canOverlapEnd (s : State) : State × Nat :=
  let n := (s.can.ctl.map (fun k => (k.queue.filter (·.old)).length)).sum
  (s.upCan (fun v => { v with ctl := v.ctl.map (fun k => { k with queue := k.queue.filter (fun e => !e.old) }) }), n)

/-! ## Host frames -/

/-- The layout of KD_CAN_TX (R397); every condition that R389 orders is checked there. -/
def scCanTx (object : Bool) : RecSchema :=
  { lens := [96]
    flds := [fu 0x20 1 0 5 0, fb 0x21 1 7 0, fu 0x22 1 0 15 0, fu 0x23 1 0 191 0 [0xFF],
      fu 0x24 4 0 (2 ^ 32 - 1) 0, fu 0x28 8 0 (2 ^ 64 - 1) 0, fu 0x30 2 0 10000 0,
      fu 0x34 4 0 (2 ^ 32 - 1) 0] ++ frep 64 0x40 1 (fun _ o => fu o 1 0 255 0)
    rel := fun b =>
      if object then
        badIf (decide (fld b 0x20 1 ≠ 0)) 0x20 ++ badIf (decide (fld b 0x21 1 ≠ 0)) 0x21
        ++ badIf (decide (fld b 0x22 1 ≠ 0)) 0x22 ++ badIf (decide (fld b 0x24 4 ≠ 0)) 0x24
        ++ (List.range 64).flatMap (fun i => badIf (decide (fld b (0x40 + i) 1 ≠ 0)) (0x40 + i))
      else [] }

/-- The refusals of R389 in their order: reason and DETAIL16. -/
def canTxRefusal (s : State) (p : Post) : Option (Nat × Nat) :=
  let b := p.body
  let o := fld b 0x23 1
  if o ≠ 0xFF then
    let c := fld (objRec s o) 0x23 1
    if (cctl s c).state = .off then some (0x0D01, 0)
    else if destOwned s [4] o then some (9, 0)
    else if !objEnabled s o then some (0x0D04, 0) else none
  else
    let c := fld b 0x20 1
    let fl := fld b 0x21 1
    let r := fld (canRec s c) 0x23 1
    let len := canLen (fld b 0x22 1)
    let k := cctl s c
    let range := lowest (
      badIf ((fl.testBit 1 && !r.testBit 0) || (fl.testBit 2 && !fl.testBit 1)) 0x21
      ++ badIf (!fl.testBit 1 && decide (8 < fld b 0x22 1)) 0x22
      ++ badIf (decide (canIdMax (fl.testBit 0) < fld b 0x24 4)) 0x24
      ++ (List.range 64).flatMap (fun i => badIf (decide (len ≤ i) && decide (fld b (0x40 + i) 1 ≠ 0)) (0x40 + i)))
    if k.state = .off then some (0x0D01, 0)
    else if fl.testBit 1 && r.testBit 3 then some (0x0D02, 0)
    else
      match range with
      | some x => some (7, x)
      | none =>
        if decide ((k.own.filter (·.host)).length < fld (canRec s c) 0x2F 1) && decide (k.own.length < 32) then none
        else some (0x11, 0)

/-- Decide a KD_CAN_TX now (R389). -/
def canDecide (h : CanHost) (s : State) : State :=
  let p := h.post
  let b := p.body
  match canTxRefusal s p with
  | some (r, d) => complete 0x0D03 0x06 p h.acc (refusedWith r d (beatAt s.now.ft)) s
  | none =>
    if fld b 0x23 1 ≠ 0xFF then
      let o := fld b 0x23 1
      let raw : Int := if (fld (objRec s o) 0x29 1).testBit 1 then fldS b 0x34 4 else (fld b 0x34 4 : Nat)
      objWrite o raw (complete 0x0D03 0x06 p h.acc (accepted 0 s.now.ft) s)
    else
      let fl := fld b 0x21 1
      let dlc := fld b 0x22 1
      let life := fld b 0x30 2
      let fr : CanFrame := ⟨fld b 0x24 4, fl.testBit 0, fl.testBit 1, fl.testBit 2, false, false, dlc,
        (fieldBytes b 0x40 64).take (canLen dlc)⟩
      if pathDead .can s then complete 0x0D03 0x06 p h.acc (refusedWith 8 0 (beatAt s.now.ft)) s
      else provePath .can (canPush (fld b 0x20 1) ⟨fr, some (p, h.acc), true, none, p.seq, s.now.el,
        if life = 0 then none else some (s.now.el + life * qMs), 0, false, false⟩ s)

/-- KD_CAN_TX (R389): decided at once where its boundary needs no wait for AT_STAMP, else at the beat. -/
def canCommand (dt : Nat) (object : Bool) (p : Post) (s : State) : State :=
  let at_ := fld p.body 0x28 8
  command dt 0x0D03 0x06 p (scCanTx object) true (fun acc => if at_ ≤ acc + 200 * qUs then startAt acc 0 else acc)
    (fun u s =>
      if u.cmp + 10 * qSec < at_ then
        let u := { u with bound := decideAt u.cmp }
        u.refuse 7 0x28 s
      else
        let h : CanHost := ⟨p, u.acc, startAt u.cmp at_⟩
        if at_ ≤ u.cmp + 200 * qUs ∧ commanding s then canDecide h s else s.upCan (fun v => { v with host := v.host ++ [h] })) s

/-- The KD_CAN_TX that waited for the beat boundary `b` (R387, R389); it waits on while no lane commands (R56). -/
def canBeat (b : Nat) (s : State) : State :=
  if !commanding s then s
  else
  let due := s.can.host.filter (fun h => decide (h.start ≤ b))
  due.foldl (fun s h => canDecide h s)
    (s.upCan (fun v => { v with host := v.host.filter (fun h => !decide (h.start ≤ b)) }))

/-! ## The close of a beat batch -/

/-- Body of KD_CAN_RX (R398). -/
def canRxBody (x : CanSlot) : List Byte :=
  let f := x.frame
  let len := canLen f.dlc
  mkBody (32 + (len + 7) / 8 * 8) [(0x20, 1, x.ctl),
      (0x21, 1, flags [(7, decide (x.lost ≠ 0)), (6, f.fdf), (5, f.brs), (4, f.esi), (3, f.ide), (2, x.own),
        (1, x.short)]),
      (0x22, 2, x.obj), (0x24, 4, f.id), (0x28, 1, f.dlc), (0x2A, 2, sat 16 x.lost)]
    |> fun b => putBytes b 0x40 (f.data.take len)

/-- Frames that the batch brought are delivered, orders reach their loops (R172, R385, R386). -/
def canBatch (s : State) : State :=
  let s1 := s.can.batch.foldl (fun s x =>
    let k := cctl s x.ctl
    let first := match k.lastLost with | none => true | some t => decide (t + qSec ≤ s.now.el)
    let s1 := emit 0x0D04 9 0x06 0 x.stamp x.stamp (canRxBody x) s
    if x.lost = 0 then s1
    else
      let s2 := upCtlr x.ctl (fun k => { k with rxLost := satAdd 32 k.rxLost x.lost, lastLost := some s.now.el }) s1
      if first then canRaise 106 x.ctl 0 s2 else s2) s
  let s2 := s.can.orders.foldl (fun s o => s.upCtl (fun c => { c with
    loops := upd c.loops o.loop (fun l => { l with orders := l.orders ++ [⟨o.owner, o.val, o.stamp, o.cmp, none⟩] }) })) s1
  s2.upCan (fun v => { v with batch := [], orders := [] })

end Sys2Proof.Machine
end

