-- ==== Sys2Proof/Machine/Can.lean ====
section
/-!
DEFINITION. The commands of the CAN controllers (R378–R400), but CAN_WAKE_PATTERN, which stands with
the wake sources.
-/
namespace Sys2Proof.Machine

/-! ## Reception -/

/-- The enabled receive object of controller `c` that binds an identifier (R384). -/
def boundObject (s : State) (c : Nat) (f : CanFrame) : Option (Nat × List Byte) :=
  ((curCat s).recs.find? (fun r =>
    r.kind == 0x0D02 && decide (r.key < 3072) && decide (r.key / 512 = c)
      && (fld r.body 0x22 1).testBit 0 && ((fld r.body 0x22 1).testBit 1 == f.ide)
      && decide (fld r.body 0x24 4 = f.id))).map (fun r => (r.key % 512, r.body))

/-- One signal entry of an object takes its value from a frame (R386). -/
def canEntry (c obj : Nat) (r : List Byte) (f : CanFrame) (stamp cmp : Nat) (s : State) (n : Nat) : State :=
  let o := 0x28 + 16 * n
  let sig := fld r o 2
  let start := fld r (o + 2) 2
  let bits := fld r (o + 4) 1
  let fmt := fld r (o + 5) 1
  if sig = 0xFFFF ∨ canLen f.dlc ≤ canFieldEnd start bits (fmt.testBit 0) then s
  else
    let raw := getField f.data start bits (fmt.testBit 0)
    if fmt.testBit 2 then
      let old := s.can.counts.find? (fun x => x.sig == sig)
      let cnt := match old with
        | none => raw
        | some x => (x.count + (raw + 2 ^ bits - x.field % 2 ^ bits) % 2 ^ bits) % 2 ^ 32
      inputIn ⟨sig, tie 10 c, ⟨stamp, cmp, (cnt : Nat)⟩⟩ (s.upCan (fun v => { v with
        counts := ⟨sig, cnt, raw⟩ :: v.counts.filter (fun x => x.sig != sig) }))
    else
      let x : Int := if fmt.testBit 1 then toSigned bits raw else (raw : Int)
      let w := clampI (-(2 ^ 31)) (2 ^ 31 - 1) (((x - fldS r (o + 8) 4) * fldS r (o + 12) 4 + 2 ^ 15) / 2 ^ 16)
      let lp := fld r (o + 6) 1
      let s1 := inputIn ⟨sig, tie 10 c, ⟨stamp, cmp, w⟩⟩ s
      if lp = 0xFF then s1
      else
        let owner := match fld r 0x23 1 with
          | 1 => 0x3000 + c * 0x200 + obj
          | 2 => (if c = 4 then 0x2400 else 0x2500) + f.id % 256
          | _ => 0
        s1.upCan (fun v => { v with orders := v.orders ++ [⟨lp, owner, w, stamp, cmp⟩] })

/-- An entry's field lies beyond the frame's data (R386). -/
def canShort (r : List Byte) (f : CanFrame) : Bool :=
  (List.range 4).any (fun n =>
    let o := 0x28 + 16 * n
    decide (fld r o 2 ≠ 0xFFFF)
      && decide (canLen f.dlc ≤ canFieldEnd (fld r (o + 2) 2) (fld r (o + 4) 1) ((fld r (o + 5) 1).testBit 0)))

/-- Put a frame into the batch slot of its object (R385). -/
def canSlotPut (x : CanSlot) (l : List CanSlot) : List CanSlot :=
  if l.any (fun y => y.ctl == x.ctl && y.obj == x.obj) then
    l.map (fun y => if y.ctl = x.ctl ∧ y.obj = x.obj then { x with lost := y.lost + 1 } else y)
  else l ++ [x]

/-- CAN_FRAME_RECEIVED (R384–R386): a frame whose start-of-frame lies `ago` q before its end, after `dt`.
`own` says that it is the controller's own in a loopback mode (R391). An FD frame is a form error where FD_ENABLE
is clear (R378). REC falls as ISO 11898-1 says; from above 127 it falls to a free value of 119 to 127. -/
def execCanFrameReceived (c : Fin 6) (dt ago : Nat) (f : CanFrame) (own : Bool) (s : State) :
    Host.Outcome State Fault Refusal :=
  let s0 := tick dt s
  let k := cctl s0 c
  if !k.onBus || (own && decide (fld (canRec s0 c) 0x22 1 = 0))
      || (!own && decide (fld (canRec s0 c) 0x22 1 = 1)) then .next s0
  else if f.fdf && !(fld (canRec s0 c) 0x23 1).testBit 0 then .next (canRxError c .form false s0)
  else
    let stamp := agoStamp ago s0
    let high := decide (127 < k.recErr)
    let rec' := if own then k.recErr else if high then 119 + freeNat 16 s0 % 9 else k.recErr - 1
    let s1 := upCtlr c (fun k => { k with recErr := rec' }) s0
    let s1 := canByCounters c (if high && !own then drawn s1 else s1)
    if f.remote then .next (upCtlr c (fun k => { k with rxRemote := satAdd 16 k.rxRemote 1 }) s1)
    else
      match boundObject s1 c f with
      | none => .next (upCtlr c (fun k => { k with rxUnbound := satAdd 32 k.rxUnbound 1 }) s1)
      | some (obj, r) =>
        let accept := if f.fdf then (fld r 0x22 1).testBit 4 else (fld r 0x22 1).testBit 3
        if !accept then .next (upCtlr c (fun k => { k with rxUnbound := satAdd 32 k.rxUnbound 1 }) s1)
        else
          let s2 := upCtlr c (fun k => { k with rxFrames := satAdd 32 k.rxFrames 1 }) s1
          let s3 := (List.range 4).foldl (canEntry c obj r f stamp (agoCmp ago s0)) s2
          let x : CanSlot := ⟨c, obj, stamp, f, canShort r f, own, 0⟩
          if (fld r 0x22 1).testBit 2 then .next (s3.upCan (fun v => { v with batch := canSlotPut x v.batch }))
          else .next s3

/-- CAN_RX_ERROR (R382): REC rises by 1, or by 8 where ISO 11898-1 says so (`eight`). -/
def execCanRxError (c : Fin 6) (dt : Nat) (e : CanErr) (eight : Bool) (s : State) :
    Host.Outcome State Fault Refusal :=
  let s1 := tick dt s
  .next (if (cctl s1 c).onBus then canRxError c e eight s1 else s1)

/-! ## Transmission -/

/-- CAN_TX_SUCCESS (R389, R380): the head frame is sent; its start-of-frame lies `ago` q before now, and
`tdc` is the delay measured where it was sent with BRS. -/
def execCanTxSuccess (c : Fin 6) (dt ago tdc : Nat) (s : State) : Host.Outcome State Fault Refusal :=
  let s1 := tick dt s
  let k := cctl s1 c
  match k.queue with
  | [] => .next s1
  | e :: r =>
    if !k.onBus && !k.shutdown then .next s1
    else
      let rc := canRec s1 c
      let tdcOn := e.frame.brs && (fld rc 0x23 1).testBit 4
      let far := tdcOn && decide (127 < tdc + fld rc 0x2E 1)
      -- the other copy of the item no longer has a completion to give (R392)
      let same := fun (x : CanEntry) => x.post == e.post && e.post.isSome
      let s2 := upCtlr c (fun k => { k with
        queue := r.map (fun x => if same x then { x with post := none } else x)
        tec := k.tec - 1, txFrames := satAdd 32 k.txFrames 1
        tdcMeasured := if e.frame.brs then min 255 tdc else k.tdcMeasured
        tdcRange := if tdcOn then far else k.tdcRange }) s1
      let twice := e.copy || r.any (fun x => same x && x.copy)
      let s3 := entryDone e ⟨0, 0, if twice then 1 else 0, e.attempts + 1, 0, agoStamp ago s1⟩ s2
      .next (canByCounters c (if far then canRaise 108 c 0 s3 else s3))

/-- CAN_TX_ERROR (R387, R382): the head frame loses arbitration or meets an error and is tried again. TEC
rises by 8 but for lost arbitration, the exceptions of ISO 11898-1 (`exempt`), and a missing acknowledgement
in a loopback mode (R391). -/
def execCanTxError (c : Fin 6) (dt : Nat) (e : CanErr) (exempt : Bool) (s : State) :
    Host.Outcome State Fault Refusal :=
  let s1 := tick dt s
  let k := cctl s1 c
  if !k.onBus || k.queue.isEmpty || (decide (e = .ack) && decide (fld (canRec s1 c) 0x22 1 ≠ 0)) then .next s1
  else
    let up := if e = .arbitration ∨ exempt then 0 else 8
    .next (canByCounters c (upCtlr c (fun k => { k with
      tec := min 256 (k.tec + up)
      errs := bumpErr e k.errs
      queue := match k.queue with
        | [] => []
        | x :: r => { x with attempts := x.attempts + 1 } :: r }) s1))

/-- CAN_TX_LIFETIME (R389): the host frame whose LIFETIME_MS ends first is removed. -/
def execCanTxLifetime (c : Fin 6) (s : State) : Host.Outcome State Fault Refusal :=
  let k := cctl s c
  let ends := k.queue.filterMap (·.endEl)
  match ends with
  | [] => .next s
  | a :: r =>
    let t := r.foldl min a
    let s1 := reachEl t s
    let gone := completing (k.queue.filter (fun e => e.endEl == some t)) []
    let s2 := upCtlr c (fun k => { k with queue := k.queue.filter (fun e => !(e.endEl == some t))
                                          txExpired := satAdd 32 k.txExpired gone.length }) s1
    .next (gone.foldl (fun s e => entryDone e (refusedWith 0x12 0 (beatAt s1.now.ft)) s) s2)

/-- CAN_TX_FRAME: KD_CAN_TX with OBJECT 0xFF (R389, R397). -/
def execCanTxFrame (dt : Nat) (p : Post) (s : State) : Host.Outcome State Fault Refusal :=
  .next (canCommand dt false p s)

/-- CAN_OBJECT_WRITE: KD_CAN_TX with an object number (R388, R389, R397). -/
def execCanObjectWrite (dt : Nat) (p : Post) (s : State) : Host.Outcome State Fault Refusal :=
  .next (canCommand dt true p s)

/-- CAN_SETPOINT_PERIOD (R388): at the next PERIOD_MS instant of object `o` its frame is enqueued, while
a lane commands and the object is enabled. -/
def execCanSetpointPeriod (o : Fin 192) (s : State) : Host.Outcome State Fault Refusal :=
  let per := fld (objRec s o) 0x2E 2
  if per = 0 then .next s
  else
    let t := (nth default s.can.objs o).next
    let s1 := (reach t s).upCan (fun v => { v with
      objs := upd v.objs o (fun x => { x with next := nextMul (per * qMs) t }) })
    .next (if commanding s1 && objEnabled s1 o then objEnqueue o s1 else s1)

/-! ## States -/

/-- CAN_INTEGRATED (R382): 11 recessive bits in a row. -/
def execCanIntegrated (c : Fin 6) (dt : Nat) (s : State) : Host.Outcome State Fault Refusal :=
  let s1 := tick dt s
  .next (if (cctl s1 c).state = .integrating then canSetState c .errorActive s1 else s1)

/-- CAN_BUSOFF_DELAY (R382): BUSOFF_DELAY_MS have elapsed. -/
def execCanBusoffDelay (c : Fin 6) (s : State) : Host.Outcome State Fault Refusal :=
  let k := cctl s c
  .next (if k.state = .busOff then canSetState c .recovering (reachEl k.delayEl s) else s)

/-- CAN_RECOVERED (R382): 128 occurrences of 11 recessive bits. -/
def execCanRecovered (c : Fin 6) (dt : Nat) (s : State) : Host.Outcome State Fault Refusal :=
  let s1 := tick dt s
  .next (if (cctl s1 c).state = .recovering then
      canSetState c .errorActive (upCtlr c (fun k => { k with tec := 0, recErr := 0 }) s1)
    else s1)

/-- CAN_SHUTDOWN_END (R382, R383): the frame on the bus has ended. -/
def execCanShutdownEnd (c : Fin 6) (dt : Nat) (s : State) : Host.Outcome State Fault Refusal :=
  let s1 := tick dt s
  let k := cctl s1 c
  if !k.shutdown then .next s1
  else
    let s2 := upCtlr c (fun k => { k with shutdown := false }) s1
    if k.enableAfter then
      .next (canSetState c .integrating (upCtlr c (fun k => { k with afterShutdown := true, enableAfter := false }) s2))
    else .next (canEmpty c false s2)

/-- CAN_STATUS_PERIOD (R399): with STATUS_MS 0 there is none. -/
def execCanStatusPeriod (c : Fin 6) (s : State) : Host.Outcome State Fault Refusal :=
  let per := fld (canRec s c) 0x32 2
  if per = 0 then .next s
  else
    let t := (cctl s c).statusNext
    .next (canStatus c (upCtlr c (fun k => { k with statusNext := nextMul (per * qMs) t }) (reach t s)))

end Sys2Proof.Machine
end

