-- ==== Sys2Proof/Machine/DisplayOps.lean ====
section
/-!
DEFINITION. What the display does: image, DC balance, sequences (R419–R426).
-/
namespace Sys2Proof.Machine

/-- The display record of the Catalogue (R428). -/
def dispRec (s : State) : List Byte := recBody s 0x0F01 0

/-- Body of KD_DISPLAY_STATUS (R429). -/
def dispBody (d : Display) : List Byte :=
  let st := match d.state with | .off => 0 | .rails => 1 | .clearing => 2 | .showing => 3 | .shutdown => 4
  mkBody 32 [(0x20, 1, st), (0x21, 1, d.band),
    (0x22, 1, flags [(7, d.blEn), (6, d.lcdEn0), (5, d.lcdEn1), (4, d.silent), (3, d.afterShutdown), (2, d.plus)]),
    (0x24, 2, d.hz), (0x28, 4, d.frames), (0x2C, 4, d.mapCorr), (0x30, 4, d.deferred)]

/-- Deliver KD_DISPLAY_STATUS (R429). -/
def dispStatus (s : State) : State :=
  let t := ceilTo qBeat s.now.ft
  let s1 := emit 0x0F03 2 0x08 0 t t (dispBody s.disp) s
  s1.upDisp (fun d => { d with afterShutdown := d.afterShutdown && !commanding s })

/-- A change of state (R424): DISPLAY_STATE with the new state as CODE, and the status. -/
def dispState (st : DispState) (s : State) : State :=
  let code := match st with | .off => 0 | .rails => 1 | .clearing => 2 | .showing => 3 | .shutdown => 4
  dispStatus (raise 114 0xFFFF code (s.upDisp (fun d => { d with state := st })))

/-- Enter RAILS (R425): the full power-up order from its first step. -/
def dispRails (s : State) : State :=
  dispState .rails (s.upDisp (fun d => { d with
    lcdEn0 := true, lcdEn1 := false, blEn := false, stepEl := s.now.el, held := false, shutStep := 0, anyOn := false }))

/-- LCD_EN1 falls (R426, step 4). -/
def dispEn1Low (s : State) : State :=
  s.upDisp (fun d => { d with lcdEn1 := false, shown := 0, accPlus := 0, accMinus := 0, shutStep := 2, stepEl := s.now.el })

/-- Begin the shut-down (R426): step 2 is skipped in RAILS and CLEARING, where no pixel has been on. -/
def dispShutdown (s : State) : State :=
  match s.disp.state with
  | .off => s
  | .shutdown => s.upDisp (fun d => { d with held := false })
  | _ =>
    let s1 := dispState .shutdown (s.upDisp (fun d => { d with blEn := false, shutStep := 1, held := false }))
    if decide (s.disp.state = .showing) || s1.disp.anyOn then s1 else dispEn1Low s1

/-- ENABLE takes effect at a commit boundary or at the start of Serving (R424, R428). -/
def dispCommit (s : State) : State :=
  let on := decide (fld (dispRec s) 0x20 1 = 1) && decide (s.pow.state = .serving) && decide (s.pow.sub = .run)
  match s.disp.state with
  | .off => if on then dispRails s else s
  | .shutdown =>
    if on && !s.disp.held then s.upDisp (fun d => { d with held := true, afterShutdown := true })
    else if on then s else s.upDisp (fun d => { d with held := false })
  | _ => if on then s else dispShutdown s

/-- The supply falls (R427): every line to ground, the bookkeeping discarded. -/
def dispLoss (s : State) : State :=
  let s1 := s.upDisp (fun d => { d with
    blEn := false, lcdEn0 := false, lcdEn1 := false, shown := 0, accPlus := 0, accMinus := 0
    shutStep := 0, held := false, anyOn := false })
  if s.disp.state = .off then s1 else dispState .off s1

/-- The host is silent (R421). -/
def hostSilent (s : State) : Bool :=
  let d := s.disp
  let t := fld (dispRec s) 0x22 2
  decide ((nth default s.hub.link.sr 0).st ≠ .running) || !d.mapEver
    || (decide (t ≠ 0) && decide (d.lastMapEl + t * qMs ≤ s.now.el))

/-- A start or an end of silence raises DISPLAY_FALLBACK (R421); CODE 1 for the start (log entry 18). -/
def dispSilence (s : State) : State :=
  let now := hostSilent s
  if now = s.disp.silent then s
  else raise 115 0xFFFF (if now then 1 else 0) (s.upDisp (fun d => { d with silent := now }))

/-- Status conditions (R422); `fixed` says that positioning is in FIXED. -/
def dispConds (s : State) (fixed : Bool) : Nat :=
  let act := fun (l : Lane) => decide (l.state = .active)
  let latched := s.valve.ch.any (fun c => decide (c.fault ≠ 0)) || s.field.dq.any (·.latched)
  flags [(0, s.time.timeOk), (1, act s.lanes.recto), (2, act s.lanes.verso),
    (3, decide (s.lanes.recto.state = .standby) || decide (s.lanes.verso.state = .standby)),
    (4, s.valve.inhibit), (5, fixed), (6, s.disp.silent), (7, latched)]

/-- The pixels of a 60-byte image (R423). -/
def imageOf (b : List Byte) : Nat := leNat b

/-- The image that is wanted (R421, R422). -/
def dispWanted (s : State) : Nat :=
  let r := dispRec s
  let base := if s.disp.silent then imageOf (fieldBytes r 0x48 60) else s.disp.hostImage
  (List.range 8).foldl (fun img c =>
    let px := fld r (0x38 + 2 * c) 2
    if px = 0xFFFF then img
    else
      let clear := img &&& ((2 ^ 480 - 1) ^^^ 2 ^ px)
      if s.disp.conds.testBit c then clear ||| 2 ^ px else clear) base

/-- Number of pixels in a set. -/
def popcount (n : Nat) : Nat := ((List.range 480).filter (fun i => n.testBit i)).length

/-- Account the frame that ended (R419). -/
def Display.account (d : Display) : Display :=
  if d.plus then
    { d with accPlus := d.accPlus ||| (d.shown &&& (2 ^ 480 - 1 ^^^ d.accMinus)), accMinus := d.accMinus &&& (2 ^ 480 - 1 ^^^ d.shown) }
  else
    { d with accMinus := d.accMinus ||| (d.shown &&& (2 ^ 480 - 1 ^^^ d.accPlus)), accPlus := d.accPlus &&& (2 ^ 480 - 1 ^^^ d.shown) }

/-- Show an image in the frame that begins, under R419. Answers the turn-offs that are deferred. -/
def Display.apply (d : Display) (want : Nat) : Display × Nat :=
  let late := d.shown &&& (2 ^ 480 - 1 ^^^ want) &&& (d.accPlus ||| d.accMinus)
  let n := popcount late
  ({ d with shown := want ||| late, deferred := satAdd 32 d.deferred n
            anyOn := d.anyOn || decide (want ||| late ≠ 0) }, n)

/-- Temperature band of the display (R420). -/
def displayTemp (c : Int) (s : State) : State :=
  let r := dispRec s
  let edges := [fldS r 0x24 1, fldS r 0x25 1, fldS r 0x26 1]
  s.upDisp (fun d => { d with bandDue := bandOf edges d.bandDue (c + fldS r 0x21 1) })

/-- What the display does at a beat (R421, R422): silence and conditions, while a lane commands. -/
def displayBeat (fixed : Bool) (s : State) : State :=
  if commanding s then
    let s1 := dispSilence s
    s1.upDisp (fun d => { d with conds := dispConds s1 fixed })
  else s

end Sys2Proof.Machine
end

