-- ==== Sys2Proof/Machine/Display.lean ====
section
/-!
DEFINITION. The commands of the cab display (R417–R429).
-/
namespace Sys2Proof.Machine

/-- DISPLAY_LCD_EN1 (R425): 20 ms into RAILS. -/
def execDisplayLcdEn1 (s : State) : Host.Outcome State Fault Refusal :=
  if decide (s.disp.state = .rails) && !s.disp.lcdEn1 then
    .next ((reachEl (s.disp.stepEl + 20 * qMs) s).upDisp (fun d => { d with lcdEn1 := true }))
  else .next s

/-- DISPLAY_RAILS_DONE (R424, R425): 70 ms into RAILS the scan starts with a + frame, all pixels off. -/
def execDisplayRailsDone (s : State) : Host.Outcome State Fault Refusal :=
  if decide (s.disp.state = .rails) && s.disp.lcdEn1 then
    let s1 := reachEl (s.disp.stepEl + 70 * qMs) s
    .next (dispState .clearing (s1.upDisp (fun d => { d with
      plus := true, shown := 0, accPlus := 0, accMinus := 0, frames := 0, rateFrames := 0, rateEl := s1.now.el
      band := d.bandDue, hz := max 1 (fld (dispRec s1) (0x28 + 2 * d.bandDue) 2), anyOn := false })))
  else .next s

/-- Take up a new band at a pair boundary (R420). -/
def takeBand (s : State) : State :=
  let d := s.disp
  let hz := max 1 (fld (dispRec s) (0x28 + 2 * d.bandDue) 2)
  if d.band = d.bandDue ∧ d.hz = hz then s
  else
    let s1 := s.upDisp (fun d => { d with band := d.bandDue, hz := hz, rateFrames := 0, rateEl := s.now.el })
    if d.band = d.bandDue then s1 else dispStatus s1

/-- A frame of SHOWING begins: the map that waits takes effect and the image is shown (R419, R423). -/
def showFrame (s : State) : State :=
  let s1 := match s.disp.waiting with
    | some w => s.upDisp (fun d => { d with hostImage := w.image, mapCorr := w.post.corr })
    | none => s
  let x := s1.disp.apply (dispWanted s1)
  let s2 := s1.upDisp (fun _ => { x.1 with waiting := none })
  match s.disp.waiting with
  | some w => complete 0x0F02 0x08 w.post w.acc (accepted x.2 s2.now.ft) s2
  | none => s2

/-- DISPLAY_FRAME (R418–R426): a frame ends and the next one begins, with the opposite polarity. -/
def execDisplayFrame (s : State) : Host.Outcome State Fault Refusal :=
  let d := s.disp
  let scans := decide (d.state = .clearing) || decide (d.state = .showing)
    || (decide (d.state = .shutdown) && decide (d.shutStep = 1))
  if !scans then .next s
  else
    let t := d.rateEl + (d.rateFrames + 1) * qSec / max 1 d.hz
    let s1 := (reachEl t s).upDisp (fun d => { d.account with
      plus := !d.plus, frames := add32 d.frames 1, rateFrames := d.rateFrames + 1 })
    let pair := s1.disp.plus
    match d.state with
    | .clearing =>
      if s1.disp.frames = 4 then
        let s2 := takeBand (s1.upDisp (fun d => { d with blEn := true }))
        .next (dispState .showing (showFrame s2))
      else .next (if pair then takeBand s1 else s1)
    | .showing => .next (showFrame (if pair then takeBand s1 else s1))
    | _ =>
      if pair && decide (s1.disp.accPlus = 0) && decide (s1.disp.accMinus = 0) then .next (dispEn1Low s1)
      else .next (s1.upDisp (fun d => (d.apply 0).1))

/-- DISPLAY_SHUTDOWN_EN0 (R426): LCD_EN0 falls 50 ms after LCD_EN1. -/
def execDisplayShutdownEn0 (s : State) : Host.Outcome State Fault Refusal :=
  if decide (s.disp.state = .shutdown) && decide (s.disp.shutStep = 2) then
    let s1 := reachEl (s.disp.stepEl + 50 * qMs) s
    .next (s1.upDisp (fun d => { d with lcdEn0 := false, shutStep := 3, stepEl := s1.now.el }))
  else .next s

/-- DISPLAY_SHUTDOWN_END (R424, R426): 100 ms later the shut-down ends; a held enable goes to RAILS. -/
def execDisplayShutdownEnd (s : State) : Host.Outcome State Fault Refusal :=
  if decide (s.disp.state = .shutdown) && decide (s.disp.shutStep = 3) then
    let s1 := reachEl (s.disp.stepEl + 100 * qMs) s
    if s1.disp.held && decide (s1.pow.state = .serving) then .next (dispRails s1)
    else .next (dispState .off (s1.upDisp (fun d => { d with shutStep := 0 })))
  else .next s

/-- Layout of KD_SEGMENT_MAP (R423). -/
def scSegmentMap : RecSchema := ⟨[64], frep 60 0x24 1 (fun _ o => fu o 1 0 255 0), fun _ => []⟩

/-- KD_SEGMENT_MAP (R423): waits for the first frame boundary after its decision; a map that waits is
SUPERSEDED. -/
def execKdSegmentMap (dt : Nat) (p : Post) (s : State) : Host.Outcome State Fault Refusal :=
  .next (command dt 0x0F02 0x08 p scSegmentMap true decideAt (fun u s =>
    let s1 := match s.disp.waiting with
      | some w => complete 0x0F02 0x08 w.post w.acc ⟨3, 0, 0, p.corr, 0, u.bound⟩ s
      | none => s
    dispSilence (s1.upDisp (fun d => { d with
      waiting := some ⟨imageOf (fieldBytes p.body 0x24 60), p, u.acc⟩, mapEver := true, lastMapEl := s1.now.el }))) s)

/-- DISPLAY_HOST_TIMEOUT (R421): HOST_TIMEOUT_MS after the last map the host is silent. While no lane commands the
last image stays (R422); the next beat of a commanding lane finds the silence. -/
def execDisplayHostTimeout (s : State) : Host.Outcome State Fault Refusal :=
  let t := fld (dispRec s) 0x22 2
  if decide (t = 0) || !s.disp.mapEver || s.disp.silent then .next s
  else
    let s1 := reachEl (s.disp.lastMapEl + t * qMs) s
    .next (if commanding s then dispSilence s1 else s1)

/-- DISPLAY_STATUS_PERIOD (R429): with STATUS_MS 0 there is none. -/
def execDisplayStatusPeriod (s : State) : Host.Outcome State Fault Refusal :=
  let per := fld (dispRec s) 0x34 2
  if per = 0 then .next s
  else
    let t := s.disp.statusNext
    .next (dispStatus ((reach t s).upDisp (fun d => { d with statusNext := nextMul (per * qMs) t })))

end Sys2Proof.Machine
end

