-- ==== Sys2Proof/Machine/Field.lean ====
section
/-!
DEFINITION. The commands of the field inputs, counters and outputs (R354–R377).
-/
namespace Sys2Proof.Machine

/-! ## Inputs -/

/-- The next instant of the 1 µs filter grid (R12, R28, R355). -/
def diSample (s : State) : Nat := ceilTo qUs (max s.field.diFrom s.now.ft)

/-- The sample at the present instant is the first one after the power-up (R355). -/
def diFirst (s : State) : Bool := decide (s.now.el < s.field.diStartEl + qUs)

/-- Samples that the integrator needs to reach the end where the level becomes `level` (R355). -/
def Di.need (d : Di) (filterN : Nat) (level : Bool) : Nat := if level then filterN - d.acc else d.acc

/-- The integrator can have reached that end by the sample at the elapsed instant `el`, one step a sample
(R355). -/
def Di.canReach (d : Di) (filterN : Nat) (level : Bool) (el : Nat) : Bool :=
  decide (d.accEl + d.need filterN level * qUs ≤ el)

/-- The integrator stands at the end of `level` at the elapsed instant `el` (R355). -/
def Di.settle (d : Di) (filterN : Nat) (level : Bool) (el : Nat) : Di :=
  { d with level := level, acc := if level then filterN else 0, accEl := el }

/-- DI_CHANGE (R355–R357): at the filter sample that follows, the integrator reaches FILTER_N or 0 and the level
changes; the first sample after a power-up sets the level, which is no change. A level that the input already
has, or that the integrator cannot have reached yet, is no change either. -/
def execDiChange (n : Fin 48) (dt : Nat) (level : Bool) (s : State) : Host.Outcome State Fault Refusal :=
  let t := diSample (tick dt s)
  let s1 := reach t (tick dt s)
  let d := nth default s1.field.di n
  let r := recBody s1 0x0C01 n
  let set := fun (s : State) => s.upField (fun f => { f with
    di := upd f.di n (fun d => d.settle (fld r 0x22 2) level s.now.el) })
  if diFirst s1 then .next (set s1)
  else if d.level == level || !d.canReach (fld r 0x22 2) level s1.now.el then .next s1
  else
    let ch : Option DiChange :=
      if (fld r 0x21 1).testBit 1 then
        match d.change with
        | some c => some { c with extra := c.extra + 1 }
        | none => some ⟨t, level, 0⟩
      else none
    let s2 := (set s1).upField (fun f => { f with di := upd f.di n (fun d => { d with change := ch }) })
    .next (input n t (if level then 2 ^ 30 else 0) s2)

/-- COUNTER_EDGE (R358): an edge at the fast comparator, before INVERT, with the length of the level
before it in ns. It is counted where EDGE selects it and MIN_PULSE_NS lets it pass. -/
def execCounterEdge (n : Fin 16) (dt : Nat) (rising : Bool) (widthNs : Nat) (s : State) :
    Host.Outcome State Fault Refusal :=
  let s1 := tick dt s
  let r := recBody s1 0x0C01 n
  let up := rising != (fld r 0x21 1).testBit 0
  let sel := match fld r 0x24 1 with | 0 => up | 1 => !up | _ => true
  if sel && decide (fld r 0x28 4 ≤ widthNs) then
    let e : Edge := ⟨s1.now.ft, s1.now.ft⟩
    .next (upCnt n (fun c =>
      let c1 := { c with total := (c.total + 1) % 2 ^ 32, fresh := c.fresh ++ [e] }
      if s1.now.ft < c.gateNext then c1.take e else { c1 with ahead := c1.ahead ++ [e] }) s1)
  else .next s1

/-- GATE_CLOSE (R360): the gate of input `n` closes at its grid instant. -/
def execGateClose (n : Fin 16) (s : State) : Host.Outcome State Fault Refusal :=
  let t := (cnt s n).gateNext
  let s1 := reach t s
  .next (closeGate n 0 (nextMul (max 1 (fld (recBody s1 0x0C01 n) 0x26 2) * qMs) t) s1)

/-- Status of a sample (R366) in 1/1000 of the engineering unit. -/
def aiStatus (r : List Byte) (shuntOpen : Bool) (x : Int) : Nat :=
  if fld r 0x21 1 = 0 then 0
  else if fld r 0x21 1 = 1 then (if x < 0 ∨ 10000000 < x then 5 else 1)
  else if shuntOpen then 4
  else if x < (fld r 0x28 2 : Int) * 1000 then 2
  else if (fld r 0x2A 2 : Int) * 1000 < x then 3
  else 1

/-- Full scale of an analog input (R377). -/
def aiFs (r : List Byte) : Nat :=
  if fld r 0x22 2 = 0 then (if fld r 0x21 1 = 2 then 20000 else 10000) else fld r 0x22 2

/-- One sample of one input (R364–R366): status and signal. -/
def aiSampleOne (n : Nat) (x : Int) (s : State) : State :=
  let r := recBody s 0x0C01 (64 + n)
  let a := nth default s.field.ai n
  let st := aiStatus r a.shuntOpen x
  if st = 0 then s.upField (fun f => { f with ai := upd f.ai n (fun a => { a with status := 0, y := none }) })
  else
    let v := q130 (x - fldS r 0x24 2 * 1000) (1000 * aiFs r)
    let y := match a.y with
      | none => v
      | some y => if fld r 0x26 1 = 0 then v else y + (v - y) / 2 ^ fld r 0x26 1
    let refreshed := decide (st = 1) || decide (st = 5)
    let s1 := s.upField (fun f => { f with ai := upd f.ai n (fun a => { a with
      status := st, y := if refreshed then some y else a.y }) })
    let s2 := if refreshed then input (96 + n) s.now.ft y s1 else s1
    if st ≠ 1 ∧ st ≠ a.status then raise 101 n st s2 else s2

/-- AI_SAMPLE (R364, R367): at each instant of the 100 µs grid; `xs` are the engineering values in 1/1000 mV or
1/1000 µA after gain and offset (log entry 17). -/
def execAiSample (xs : List Int) (s : State) : Host.Outcome State Fault Refusal :=
  let t := s.field.aiNext
  let s1 := (reach t s).upField (fun f => { f with aiNext := t + qBeat })
  let s2 := (List.range 16).foldl (fun s n => aiSampleOne n (nth 0 xs n) s) s1
  .next (s2.upField (fun f =>
    let x : AiAhead := ⟨t, f.ai.zipIdx.map (fun a => (nth 0 xs a.2, a.1.status))⟩
    if fieldGen s 0x22 2 ≠ 0 ∧ f.winNext ≤ t then { f with ahead := f.ahead ++ [x] } else f.window x))

/-- AI_SHUNT_OPEN (R366): above 30 mA for 10 ms, in CURRENT mode. -/
def execAiShuntOpen (n : Fin 16) (dt : Nat) (s : State) : Host.Outcome State Fault Refusal :=
  let s1 := tick dt s
  if cfg s1 0x0C01 (64 + n) 0x21 1 = 2 then
    .next (s1.upField (fun f => { f with ai := upd f.ai n (fun a =>
      { a with shuntOpen := true, recloseEl := s1.now.el + qSec }) }))
  else .next s1

/-- AI_SHUNT_RECLOSE (R366): an opened shunt is reclosed after 1 s. -/
def execAiShuntReclose (n : Fin 16) (s : State) : Host.Outcome State Fault Refusal :=
  let a := nth default s.field.ai n
  if a.shuntOpen then
    .next ((reachEl a.recloseEl s).upField (fun f => { f with
      ai := upd f.ai n (fun a => { a with shuntOpen := false }) }))
  else .next s

/-- AI_REPORT (R367): with AI_REPORT_MS 0 there is none. -/
def execAiReport (s : State) : Host.Outcome State Fault Refusal :=
  let per := fieldGen s 0x22 2
  if per = 0 then .next s
  else
    let t := s.field.winNext
    .next (closeAi 0 (nextMul (per * qMs) t) (reach t s))

/-! ## Outputs -/

/-- Layout of KD_DQ_SET (R370): the ranges of DUTY and AT_STAMP come after the other reasons of R370. -/
def scDqSet : RecSchema :=
  ⟨[32], [fu 0x20 1 0 23 0, fb 0x21 1 3 0, fu 0x24 4 0 (2 ^ 32 - 1) 0, fu 0x28 8 0 (2 ^ 64 - 1) 0], fun _ => []⟩

/-- The field of a KD_DQ_SET that lies out of range (R370), with the stamp `cmp` of the command. -/
def dqOutOfRange (b : List Byte) (cmp : Nat) : Option Nat :=
  if !(fld b 0x21 1).testBit 1 && decide (2 ^ 30 < fld b 0x24 4) then some 0x24
  else if cmp + 10 * qSec < fld b 0x28 8 then some 0x28
  else none

/-- The first reason of R370, but for RANGE, for which KD_DQ_SET is refused. -/
def dqRefusal (b : List Byte) (s : State) : Option Nat :=
  let n := fld b 0x20 1
  let clear := (fld b 0x21 1).testBit 0
  let only := (fld b 0x21 1).testBit 1
  if !only && destOwned s [3] n then some 9
  else if !only && s.valve.inhibit then some 0x0C01
  else if (dqOf s n).latched && !clear && !only then some 0x0C02
  else none

/-- KD_DQ_SET waits for its boundary (R370); one that is out of range is decided at once. -/
def dqCommand (dt : Nat) (p : Post) (s : State) : State :=
  command dt 0x0C02 0x05 p scDqSet true (fun acc => acc) (fun u s =>
    match dqOutOfRange p.body u.cmp with
    | some off =>
      let u := { u with bound := decideAt u.cmp }
      let s1 := reach u.bound s
      match dqRefusal p.body s1 with
      | some r => u.refuse r 0 s1
      | none => u.refuse 7 off s1
    | none => s.upField (fun f => { f with host := f.host ++ [⟨p, u.acc, startAt u.cmp (fld p.body 0x28 8)⟩] })) s

/-- DQ_SET: KD_DQ_SET without CLEAR_ONLY (R370). -/
def execDqSet (dt : Nat) (p : Post) (s : State) : Host.Outcome State Fault Refusal :=
  .next (dqCommand dt p s)

/-- DQ_CLEAR_ONLY: KD_DQ_SET with CLEAR_ONLY (R370). -/
def execDqClearOnly (dt : Nat) (p : Post) (s : State) : Host.Outcome State Fault Refusal :=
  .next (dqCommand dt p s)

/-- Decide one KD_DQ_SET at its boundary (R370, R371). -/
def dqDecide (h : DqHost) (s : State) : State :=
  let n := fld h.post.body 0x20 1
  let only := (fld h.post.body 0x21 1).testBit 1
  match dqRefusal h.post.body s with
  | some r => complete 0x0C02 0x05 h.post h.acc (refusedWith r 0 (beatAt s.now.ft)) s
  | none =>
    let s1 := if (dqOf s n).latched then fieldStatus (upDq n (fun d => { d with latched := false }) s) else s
    if only then complete 0x0C02 0x05 h.post h.acc (accepted 0 s.now.ft) s1
    else dqTake n (fld h.post.body 0x24 4) (some (h.post, h.acc)) s1

/-- The duty of output `n` that waits takes effect at its PWM period start (R369). -/
def dqWaitEnds (n : Nat) (s : State) : State :=
  let d := dqOf s n
  match d.wait with
  | none => s
  | some w =>
    let s1 := reachEl (d.periodStart w.fromEl) s
    dqDone w (accepted 0 s1.now.ft) (dqApply n w.duty true (upDq n (fun d => { d with wait := none }) s1))

/-- DQ_DUTY_EFFECT (R369, R370): output `n` at whichever comes first: the boundary of the KD_DQ_SET that
waits, or the PWM period start at which a duty takes effect. -/
def execDqDutyEffect (n : Fin 24) (s : State) : Host.Outcome State Fault Refusal :=
  let d := dqOf s n
  let mine := s.field.host.filter (fun h => fld h.post.body 0x20 1 == n.val)
  let first := mine.foldl (fun (a : Option Nat) h => match a with | none => some h.start | some t => some (min t h.start)) none
  let waitAt := d.wait.map (fun w => s.now.ft + (d.periodStart w.fromEl - s.now.el))
  let hostTurn := match first, waitAt with
    | some a, some b => decide (a ≤ b)
    | some _, none => true
    | none, _ => false
  match first with
  | some t =>
    if hostTurn && commanding s then
      let s1 := reach t s
      let due := mine.filter (fun h => decide (h.start ≤ t))
      let s2 := s1.upField (fun f => { f with host := f.host.filter (fun h => !due.contains h) })
      match due.getLast? with
      | none => .next s2
      | some l =>
        .next (dqDecide l (due.dropLast.foldl (fun s h =>
          complete 0x0C02 0x05 h.post h.acc ⟨3, 0, 0, l.post.corr, 0, t⟩ s) s2))
    else .next (dqWaitEnds n s)
  | none => .next (dqWaitEnds n s)

/-- Tests run while VDQ is at 7.0 V or above (R371). -/
def dqTests (s : State) : Bool := decide (7000 ≤ s.field.vdqMv)

/-- DQ_OVERLOAD (R371): the output goes off and latches. -/
def execDqOverload (n : Fin 24) (dt : Nat) (s : State) : Host.Outcome State Fault Refusal :=
  let s1 := tick dt s
  if dqTests s1 && decide ((dqOf s1 n).onCounts ≠ 0) then
    let s2 := upDq n (fun d => { d with latched := true })
      (dqOff n (dqCancel n (refusedWith 0x0C02 0 (beatAt s1.now.ft)) s1))
    .next (fieldStatus (raise 97 n 0 s2))
  else .next s1

/-- DQ_OPEN_LOAD (R371): reported where DIAG_MASK has its bit. -/
def execDqOpenLoad (n : Fin 24) (dt : Nat) (s : State) : Host.Outcome State Fault Refusal :=
  let s1 := tick dt s
  let d := dqOf s1 n
  if dqTests s1 && (fld (dqRec s1 n) 0x24 1).testBit 0 && decide (d.onCounts ≠ 0) && !d.openOn then
    .next (fieldStatus (raise 98 n 0 (upDq n (fun d => { d with openOn := true }) s1)))
  else .next s1

/-- DQ_SUPPLY_SHORT (R371): reported where DIAG_MASK has its bit. -/
def execDqSupplyShort (n : Fin 24) (dt : Nat) (s : State) : Host.Outcome State Fault Refusal :=
  let s1 := tick dt s
  let d := dqOf s1 n
  if dqTests s1 && (fld (dqRec s1 n) 0x24 1).testBit 1 && decide (d.onCounts = 0) && !d.short then
    .next (fieldStatus (raise 99 n 0 (upDq n (fun d => { d with short := true }) s1)))
  else .next s1

/-! ## OUT_INHIBIT, supplies -/

/-- A change of OUT_INHIBIT is reported as input 48 and in the status (R374, R376). CODE and LEVEL are 1
for asserted and 0 for released (log entry 18). -/
def inhibitReport (v : Bool) (s : State) : State :=
  let c := if v then 1 else 0
  fieldStatus (diReport 48 ⟨s.now.ft, v, 0⟩ v (raise 95 0xFFFF c (raise 96 0xFFFF c s)))

/-- OUT_INHIBIT_ASSERT (R373, R237): every output opens, the boost queues are emptied. -/
def execOutInhibitAssert (dt : Nat) (s : State) : Host.Outcome State Fault Refusal :=
  let s1 := tick dt s
  if s1.valve.inhibit then .next s1
  else
    let s2 := s1.upValve (fun v => { v with inhibit := true })
    let s3 := allOffFast (emptyQueues 0x0701 s2)
    .next (inhibitReport true (dqAllOff 0x0C01 s3))

/-- OUT_INHIBIT_RELEASE (R374, R237): outputs stay off until a new value takes effect. -/
def execOutInhibitRelease (dt : Nat) (s : State) : Host.Outcome State Fault Refusal :=
  let s1 := tick dt s
  if s1.valve.inhibit then .next (inhibitReport false (s1.upValve (fun v => { v with inhibit := false })))
  else .next s1

/-- SENSOR_SUPPLY_FAULT (R375): supply 0 (`SENS_5V`) or 1 (`SENS_10V`) has been at its limit for 10 ms. -/
def execSensorSupplyFault (i : Fin 2) (dt : Nat) (s : State) : Host.Outcome State Fault Refusal :=
  let s1 := tick dt s
  let was := if i = 0 then s1.field.fault5 else s1.field.fault10
  let s2 := s1.upField (fun f =>
    if i = 0 then { f with fault5 := true, retry5 := s1.now.el + qSec }
    else { f with fault10 := true, retry10 := s1.now.el + qSec })
  .next (if was then s2 else fieldStatus (raise 102 i 1 s2))

/-- SENSOR_SUPPLY_RETRY (R375): `ok` says that the supply came up again. -/
def execSensorSupplyRetry (i : Fin 2) (ok : Bool) (s : State) : Host.Outcome State Fault Refusal :=
  let was := if i = 0 then s.field.fault5 else s.field.fault10
  if !was then .next s
  else
    let s1 := reachEl (if i = 0 then s.field.retry5 else s.field.retry10) s
    let s2 := s1.upField (fun f =>
      if i = 0 then { f with fault5 := !ok, retry5 := s1.now.el + qSec }
      else { f with fault10 := !ok, retry10 := s1.now.el + qSec })
    .next (if ok then fieldStatus (raise 102 i 0 s2) else s2)

/-- VDQ_LOW_SET (R375): VDQ in mV below VDQ_LOW_MV for 100 ms. -/
def execVdqLowSet (dt mv : Nat) (s : State) : Host.Outcome State Fault Refusal :=
  let s1 := (tick dt s).upField (fun f => { f with vdqMv := sat 16 mv })
  if decide (mv < fieldGen s1 0x26 2) && !s1.field.vdqLow then
    .next (fieldStatus (raise 100 0xFFFF 0 (s1.upField (fun f => { f with vdqLow := true }))))
  else .next s1

/-- VDQ_LOW_CLEAR (R375): VDQ at or above VDQ_LOW_MV + 500 mV for 100 ms. -/
def execVdqLowClear (dt mv : Nat) (s : State) : Host.Outcome State Fault Refusal :=
  let s1 := (tick dt s).upField (fun f => { f with vdqMv := sat 16 mv })
  if decide (fieldGen s1 0x26 2 + 500 ≤ mv) && s1.field.vdqLow then
    .next (fieldStatus (s1.upField (fun f => { f with vdqLow := false })))
  else .next s1

/-- FIELD_STATUS_PERIOD (R376), with what is measured for it: VDQ, the two sensor supplies in mV and
their currents in mA. With STATUS_MS 0 there is none. -/
def execFieldStatusPeriod (vdq v5 v10 i5 i10 : Nat) (s : State) : Host.Outcome State Fault Refusal :=
  let per := fieldGen s 0x24 2
  if per = 0 then .next s
  else
    let t := s.field.statusNext
    .next (fieldStatus ((reach t s).upField (fun f => { f with
      statusNext := nextMul (per * qMs) t, vdqMv := sat 16 vdq, sup5Mv := sat 16 v5, sup10Mv := sat 16 v10
      sup5Ma := sat 16 i5, sup10Ma := sat 16 i10 })))

end Sys2Proof.Machine
end

