-- ==== Sys2Proof/Machine/NavCheck.lean ====
section
/-!
DEFINITION. The checks of navigation messages, formed from DATA (R281): the parity of LNAV words and CRC-24Q. The spec
names the standards; what it takes from them is the model's (PRESUMED, log entry 28).
-/
namespace Sys2Proof.Machine

/-- The first `n` bits of DATA in transmission order (R282). -/
def navBits (n : Nat) (data : List Byte) : List Bool :=
  (List.range n).map (fun i => (nth 0 data (i / 8)).toNat.testBit (7 - i % 8))

/-- The bits as bytes, 40 of them, the bits that are not used 0 (R282). -/
def navBytes (bits : List Bool) : List Byte :=
  (List.range 40).map (fun i =>
    BitVec.ofNat 8 ((List.range 8).foldl (fun a j => 2 * a + (nth false bits (8 * i + j)).toNat) 0))

/-- CRC-24Q over bits. -/
def crc24Bits (bits : List Bool) : Nat := bits.foldl (fun c b => crc24Bit (if b then c ^^^ 2 ^ 23 else c)) 0

/-- A number from bits, the most significant first. -/
def bitsNat (bits : List Bool) : Nat := bits.foldl (fun a b => 2 * a + b.toNat) 0

/-- IS-GPS-200: for D25 to D30, whether D29* (or else D30*) of the word before enters, and which of d1 to d24. -/
def lnavParity : List (Bool × List Nat) :=
  [(true, [1, 2, 3, 5, 6, 10, 11, 12, 13, 14, 17, 18, 20, 23]),
   (false, [2, 3, 4, 6, 7, 11, 12, 13, 14, 15, 18, 19, 21, 24]),
   (true, [1, 3, 4, 5, 7, 8, 12, 13, 14, 15, 16, 19, 20, 22]),
   (false, [2, 4, 5, 6, 8, 9, 13, 14, 15, 16, 17, 20, 21, 23]),
   (false, [1, 3, 5, 6, 7, 9, 10, 14, 15, 16, 17, 18, 21, 22, 24]),
   (true, [3, 5, 6, 8, 9, 10, 11, 13, 15, 19, 22, 23, 24])]

/-- A word of 30 bits passes its parity (R281): `p29` and `p30` are D29* and D30* of the word before it. -/
def lnavWordOk (p29 p30 : Bool) (w : List Bool) : Bool :=
  let d := (w.take 24).map (fun b => b != p30)
  let want := lnavParity.map (fun r => r.2.foldl (fun a i => a != nth false d (i - 1)) (if r.1 then p29 else p30))
  w.drop 24 == want

/-- PARITY_FAIL of a subframe (R281, R282): bit w − 1 is set where word w fails; `prev` are D29 and D30 before it. -/
def lnavFail : (n : Nat) → (prev : Bool × Bool) → (bits : List Bool) → Nat
  | 0, _, _ => 0
  | n + 1, prev, bits =>
    let w := bits.take 30
    (if lnavWordOk prev.1 prev.2 w then 0 else 1) + 2 * lnavFail n (nth false w 28, nth false w 29) (bits.drop 30)

/-- The bits that CRC-24Q covers in a message of bank 1, 2 or 3, and those of the CRC. -/
def navCovered (bank : Nat) (bits : List Bool) : List Bool × List Bool :=
  match bank with
  | 1 => (bits.take 276, bits.drop 276)
  | 2 => (bits.take 114 ++ (bits.drop 120).take 82, (bits.drop 202).take 24)
  | _ => (bits.take 214, (bits.drop 214).take 24)

/-- A CNAV, I/NAV or F/NAV message passes its CRC-24Q (R281). -/
def navCrcOk (bank : Nat) (bits : List Bool) : Bool :=
  let x := navCovered bank bits
  decide (crc24Bits x.1 = bitsNat x.2)

/-- BITS of the message type of a bank (R281). -/
def navLen (bank : Nat) : Nat := nth 0 [300, 300, 240, 244] bank

end Sys2Proof.Machine
end

