-- ==== Sys2Proof/Machine/Gnss.lean ====
section
/-!
DEFINITION. The commands of the GNSS front end (R269–R295).
-/
namespace Sys2Proof.Machine

/-- Change channel `c`. -/
def upChan (c : Nat) (f : GChan → GChan) (s : State) : State :=
  s.upGnss (fun g => { g with chans := upd g.chans c f })

/-- A channel without a satellite: SLIPS and the state of GNSS_NAV_ERRORS are the channel's own (R278, R282). -/
def GChan.freed (k : GChan) : GChan :=
  { GChan.reset with slips := k.slips, navFail := k.navFail, navRaised := k.navRaised }

/-- Allocated channels of bank `b` that are no DUPLICATE hold satellite `sv` (R273). -/
def Gnss.holders (g : Gnss) (b sv : Nat) : List Nat :=
  (g.bankChans b).filter (fun x => (g.ch x).sv == sv && !(g.ch x).dup)

/-- A bank has room for a satellite: 44 are tracked at most (R273). -/
def Gnss.roomIn (g : Gnss) (b : Nat) : Bool := decide (((g.bankChans b).filter (fun x => !(g.ch x).dup)).length < 44)

/-- A satellite that one bank has taken up receives a channel in the other bank of its system, without a lock (R273):
the lowest that is free (DESIGN CHOICE, log entry 81). -/
def Gnss.withOther (g : Gnss) (b sv : Nat) : Gnss :=
  let o := if b % 2 = 0 then b + 1 else b - 1
  if !(g.holders o sv).isEmpty || !g.roomIn o then g
  else
    match ((List.range 48).map (48 * o + ·)).find? (fun x => decide ((g.ch x).sv = 0)) with
    | some x => { g with chans := upd g.chans x (fun k => { k.freed with sv := sv }) }
    | none => g

/-- Channel `c` and the channels of its satellite in both banks of the system are released; a DUPLICATE alone. -/
def Gnss.releaseSat (g : Gnss) (c : Nat) : Gnss :=
  let k := g.ch c
  let b := c / 48 / 2 * 2
  let all := if k.dup || k.sv == 0 then [c] else g.holders b k.sv ++ g.holders (b + 1) k.sv
  { g with chans := all.foldl (fun l x => upd l x GChan.freed) g.chans }

/-- What a channel's locks become (R278, R288): SLIPS counts each slip, and each loss and recovery of carrier lock. -/
def GChan.locked (k : GChan) (code carrier slip : Bool) (el : Nat) : GChan :=
  let carrier := carrier && code
  let moved := k.hadLock && (carrier != k.carrierLock)
  let lost := slip || !carrier
  { k with
    codeLock := code, carrierLock := carrier, hadLock := k.hadLock || carrier
    slips := (k.slips + slip.toNat + moved.toNat) % 256, slip := k.slip || slip
    lockEl := if carrier && !k.carrierLock then el else k.lockEl
    arc := if lost then none else k.arc, cmc := if lost then none else k.cmc }

/-- CHANNEL_LOCK (R273, R278, R288): channel `c` tracks satellite `sv` (0 releases it) with the locks
given; `slip` says that a cycle slip was detected. A satellite that is masked, that another channel of the bank
tracks already, or one beyond the 44 of a bank, is not taken up. -/
def execChannelLock (c : Fin 192) (dt : Nat) (sv : Nat) (code carrier slip : Bool) (s : State) :
    Host.Outcome State Fault Refusal :=
  let s1 := tick dt s
  let g := s1.gnss
  let b := c.val / 48
  let k := g.ch c
  if !awake s1 then .next s1
  else if sv = 0 then .next (s1.upGnss (·.releaseSat c))
  else if !svOk b sv || svMasked g.recd b sv then .next s1
  else if k.sv = sv then .next (upChan c (·.locked code carrier slip s1.now.el) s1)
  else
    -- a channel that the satellite was given and that holds no lock makes way
    let mine := (g.holders b sv).filter (fun x => decide (x ≠ c.val))
    let others := mine.any (fun x => (g.ch x).codeLock)
    let g1 : Gnss := { g with chans := mine.foldl (fun l x => upd l x GChan.freed) g.chans }
    if others || (decide (k.sv = 0) && !g1.roomIn b) then .next s1
    else
      .next (s1.upGnss (fun _ => ({ g1 with
        chans := upd g1.chans c (fun k => { k.freed with sv := sv }.locked code carrier slip s1.now.el) } : Gnss).withOther b sv))

/-- The clock check at a GPS second, and the time solution for the discipline interval (R17, R292, R304). The solution
is given as the latched measurements make it; the delay that R21 removes from them is removed from its bias here. -/
def gnssClock (x : ClockSol) (s : State) : State :=
  let v : ClockSol := { x with b := x.b + ifDelay s }
  let g := s.gnss
  let t := s.time
  if g.usable < 4 then s
  else
    let s1 := s.upTime (fun t => { t with sol := some ⟨v.b, v.sats⟩ })
    if !(fld g.recd 0x50 1).testBit 5 then clockPassed s1
    else
      let c := (accrue s).gnss.corr / (qSec : Int)
      let x := g.clkCheck s.now.el v t.r c t.unknown (uncertNs s)
      let s2 := s1.upGnss (fun g => { g with
        clkFail := x.1 == .fail, clkNa := x.1 == .na, clkEval := true, clkEpoch := g.epoch
        biasRes := x.2.1, driftRes := x.2.2.1, allow := x.2.2.2.1 })
      match x.1 with
      | .fail =>
        clockFailed (raise 41 0xFFFF 0 (s2.upGnss (fun g => { g with frozenRef := g.clkRef s.now.el })))
      | _ => clockPassed (s2.upGnss (fun g => g.clkJoin s.now.el x.2.2.2.2))

/-- GNSS_PAIRS_LOW (R290). -/
def gnssPairs (s : State) : State :=
  let g := s.gnss
  let n := g.usablePairs
  let since := if 4 ≤ n then some (g.okSince.getD s.now.el) else none
  let armed := g.armed || (match g.okSince with | some t => decide (t + 10 * qSec ≤ s.now.el) | none => false)
  let fell := decide (4 ≤ g.usable) && decide (n < 4)
  let s1 := s.upGnss (fun g => { g with usable := n, okSince := since, armed := armed && !fell })
  if fell && armed then raise 42 0xFFFF 0 s1 else s1

/-- The antenna state changes (R270). -/
def antTo (st : Nat) (s : State) : State :=
  if s.gnss.ant = st then s
  else raise 34 0xFFFF st (s.upGnss (fun g => { g with ant := st }))

/-- The records of an epoch (R276, R277, R279, R294): none in Keeping. -/
def gnssRecords (x : GnssEpochIn) (at_ fl : Nat) (s : State) : State :=
  let d := fld s.gnss.recd 0x23 1
  if s.pow.state ≠ .serving ∨ d = 0 ∨ s.gnss.epoch % d ≠ 0 then s
  else
    let s1 := (List.range 4).foldl (fun s b => emit 0x0902 3 2 fl at_ at_ (gnssEpochBody x b s) s) s
    (emit 0x0904 3 2 fl at_ at_ (gnssCheckBody x s1) s1).upGnss (fun g => { g with clkEval := false })

/-- GNSS_EPOCH (R275–R294): all channels latch at the grid instant; the record in force, the checks, the
marks, the time solution, the records and the positioning engine follow. -/
def execGnssEpoch (x : GnssEpochIn) (s : State) : Host.Outcome State Fault Refusal :=
  if !awake s then .next s
  else
    let at_ := s.gnss.next
    let s0 := reach at_ s
    let el := s0.now.el
    let recd := recBody s0 0x0901 0
    let rate := if s0.pow.state = .keeping then 1
      else if at_ % qSec = 0 then max 1 (fld recd 0x20 1) else s0.gnss.rate
    let stepNow := match s0.time.fixedStep with | some v => v.2 == at_ | none => false
    let old := s0.gnss
    let sr := s0.upGnss (fun g => { g with recd := recd, rate := rate, antMa := x.antMa })
    let x := atAntenna x sr
    let s1 := sr.upGnss (fun g => g.epochStep x at_ el)
    let s2 := s1.upGnss (fun g => { g with
      epoch := (g.epoch + 1) % 2 ^ 32, past := ((el, (g.epoch + 1) % 2 ^ 32) :: g.past).take 256
      suspLog := ((el, g.suspects) :: g.suspLog).take 256, lastAt := at_, lastEl := el, next := nextMul (qSec / max 1 rate) at_
      bias := if fld recd 0x21 1 = 0 then false else g.bias || g.ant != 3 })
    let s3 := if fld recd 0x21 1 = 0 then antTo 0 s2 else s2
    let s4 := (old.news s3.gnss).foldl (fun s e => raise e.1 e.2 0 s) s3
    let s5 := gnssPairs s4
    let s6 := match x.clock with
      | some v => if at_ % qSec = 0 then gnssClock v s5 else s5
      | none => s5
    let s7 := gnssRecords x at_ (if stepNow then 0x80 else 0) s6
    let s8 := if s7.pow.state = .serving then posEpoch x.pos at_ s7 else s7
    .next (s8.upGnss (fun g => { g with chans := g.chans.map (fun k => { k with slip := false }) }))

/-- SUSPECT_HOLD_EXPIRY (R289): SUSPECT_HOLD_S have passed without a cause. -/
def execSuspectHoldExpiry (bank : Fin 4) (sv : Nat) (s : State) : Host.Outcome State Fault Refusal :=
  match s.gnss.causes.find? (fun c => c.bank == bank.val && c.sv == sv) with
  | some ⟨_, _, 0, some e⟩ =>
    let s1 := (reachEl e s).upGnss (fun g => { g with
      causes := g.causes.filter (fun c => !(c.bank == bank.val && c.sv == sv)) })
    .next (s1.upGnss (fun g => { g with suspLog := ((s1.now.el, g.suspects) :: g.suspLog).take 256 }))
  | _ => .next s

/-- DUAL_PEAK_FOUND (R286): the search of bank `c / 48` finds a second peak of satellite `sv`, `ns` from
the tracked one with C/N0 `cn0` in 0.01 dB-Hz; the free channel `c` takes it, marked DUPLICATE. -/
def execDualPeakFound (c : Fin 192) (dt : Nat) (sv ns cn0 : Nat) (s : State) :
    Host.Outcome State Fault Refusal :=
  let s1 := tick dt s
  let g := s1.gnss
  let b := c.val / 48
  let mine := (g.bankChans b).filter (fun x => (g.ch x).sv == sv)
  if awake s1 ∧ (g.ch c).sv = 0 ∧ mine.length = 1 ∧ sv ≠ 0 ∧ 3000 ≤ cn0 ∧ fld g.recd 0x44 2 < ns
      ∧ (fld g.recd 0x50 1).testBit 3 then
    .next (raise 38 (svInst b sv) 0 (upChan c (fun k => { k.freed with sv := sv, codeLock := true, dup := true }) s1))
  else .next s1

/-- Body of KD_GNSS_NAVBITS (R282): `el` is the elapsed instant of ACCESSION. -/
def navBody (g : Gnss) (c el parityFail : Nat) (fail : Bool) (bits : List Bool) : List Byte :=
  let b := c / 48
  putBytes (mkBody 56 [(0x20, 1, b), (0x21, 1, c % 48), (0x22, 1, (g.ch c).sv), (0x23, 1, b),
    (0x24, 1, if fail then 1 else 0), (0x25, 1, bit 7 (g.suspectAt b (g.ch c).sv el)), (0x26, 2, bits.length),
    (0x28, 2, parityFail), (0x2C, 4, g.epochOf el)]) 0x30 (navBytes bits)

/-- D29* and D30* before a subframe that began at the elapsed instant `el` (R281): those of the subframe that ended
there, else `heard`, the two bits that the channel has heard before it. -/
def GChan.before (k : GChan) (el : Nat) (heard : Bool × Bool) : Bool × Bool :=
  if k.navEnd.1 = el then k.navEnd.2 else heard

/-- NAV_MESSAGE (R281, R282): a message of channel `c` is complete; its last bit ended `accAgo` q ago and
its first began `effAgo` q ago. Its check is formed from its bits and, for LNAV, from the two before them. -/
def execNavMessage (c : Fin 192) (dt accAgo effAgo : Nat) (d29 d30 : Bool) (data : List Byte) (s : State) :
    Host.Outcome State Fault Refusal :=
  let s1 := tick dt s
  let b := c.val / 48
  let k := s1.gnss.ch c
  if !awake s1 || !k.codeLock then .next s1
  else
    let bits := navBits (navLen b) data
    let el := s1.now.el - accAgo
    let parity := if b = 0 then lnavFail 10 (k.before (s1.now.el - effAgo) (d29, d30)) bits else 0
    let fail := if b = 0 then decide (parity ≠ 0) else !navCrcOk b bits
    let s2 := if s1.pow.state = .serving ∧ (fld s1.gnss.recd 0x22 1).testBit b then
        emit 0x0903 4 2 0 (agoStamp accAgo s1) (agoStamp effAgo s1) (navBody s1.gnss c el parity fail bits) s1
      else s1
    let n := if fail then k.navFail + 1 else 0
    let now := decide (3 ≤ n) && !k.navRaised
    let s3 := upChan c (fun k => { k with
      navFail := n, navRaised := fail && (k.navRaised || now)
      navEnd := if b = 0 then (el, nth false bits 298, nth false bits 299) else k.navEnd }) s2
    .next (if now then raiseX 43 c 0 0 ((navBody s1.gnss c el parity fail bits).take 16) s3.now.ft s3.now.ft s3 else s3)

/-- ANTENNA_OK (R270): the bias current lies in 2–60 mA. -/
def execAntennaOk (dt ma : Nat) (s : State) : Host.Outcome State Fault Refusal :=
  let s1 := tick dt s
  if fld s1.gnss.recd 0x21 1 = 0 ∨ ma < 2 ∨ 60 < ma ∨ !awake s1 then .next s1
  else .next (antTo 1 (s1.upGnss (fun g => { g with bias := true, antMa := ma })))

/-- ANTENNA_OPEN (R270): the bias current has been below 2 mA for 100 ms. -/
def execAntennaOpen (dt : Nat) (s : State) : Host.Outcome State Fault Refusal :=
  let s1 := tick dt s
  if fld s1.gnss.recd 0x21 1 = 0 ∨ !awake s1 then .next s1
  else .next (antTo 2 (s1.upGnss (fun g => { g with bias := true })))

/-- ANTENNA_OVERCURRENT (R270): the limit has been reached for 10 ms; the bias is removed. -/
def execAntennaOvercurrent (dt : Nat) (s : State) : Host.Outcome State Fault Refusal :=
  let s1 := tick dt s
  if fld s1.gnss.recd 0x21 1 = 0 ∨ !awake s1 then .next s1
  else .next (antTo 3 (s1.upGnss (fun g => { g with bias := false, retryEl := s1.now.el + 5 * qSec })))

/-- ANTENNA_RETRY (R270): the bias is applied again, 5 s after it was removed. -/
def execAntennaRetry (s : State) : Host.Outcome State Fault Refusal :=
  if s.gnss.ant = 3 then
    .next ((reachEl s.gnss.retryEl s).upGnss (fun g => { g with bias := true, retryEl := g.retryEl + 5 * qSec }))
  else .next s

end Sys2Proof.Machine
end

