-- ==== Sys2Proof/Machine/LinkOps.lean ====
section
/-!
DEFINITION. Shared operations of the host link: ring states and faults (R93), the table check (R71),
set-up (R97), doorbell words (R78, R94), KD_LINK_STATUS (R95), the events of R68, delivery (R83, R90, R92)
and the MSI-X registers (R521).
-/
namespace Sys2Proof.Machine

/-- Change the host link. -/
def upLink (f : Link → Link) (s : State) : State := s.upHub (fun h => { h with link := f h.link })

/-- Change submission ring `n`. -/
def upSr (n : Nat) (f : Sr → Sr) (s : State) : State := upLink (fun l => { l with sr := upd l.sr n f }) s

/-- Change delivery ring `n`. -/
def upDr (n : Nat) (f : Dr → Dr) (s : State) : State := upLink (fun l => { l with dr := upd l.dr n f }) s

/-- The host reaches the module: the host-link section serves, the link is up and the device is in D0. -/
def linkLive (s : State) : Bool := s.pow.state == .serving && s.hub.link.up && !s.hub.link.d3hot

/-- Limit of a ring: its size less its RESERVE (R75). -/
def ringLimit (e : RingEntry) : Nat := 2 ^ e.log2 - e.reserve

/-- The slot of a ring that an index occupies, i & (size − 1) (R75). -/
def ringSlot (e : RingEntry) (i : Nat) : Nat := i % 2 ^ e.log2

/-- Host addresses of `n` entries from index `i` on: 64 bytes each, from the last slot on to slot 0 (R70, R75, R80). -/
def slotAddrs (e : RingEntry) (i n : Nat) : List Nat :=
  (List.range n).map (fun k => e.base + 64 * ringSlot e (add32 i k))

/-! ## KD_LINK_STATUS -/

/-- FAULT_MASK (R74). -/
def Link.faultMask (l : Link) : Nat :=
  ((l.sr.map (·.st) ++ l.dr.map (·.st)).zipIdx.map (fun x => if x.1 = .faulted then 2 ^ x.2 else 0)).sum

/-- Body of KD_LINK_STATUS (R95). -/
def Link.statusBody (l : Link) (cause : Nat) : List Byte :=
  mkBody 32 [(0x20, 1, cause), (0x21, 1, l.speed), (0x22, 1, l.width),
    (0x23, 1, flags [(7, l.l1), (6, l.dozing)]), (0x24, 4, l.dozeCount), (0x28, 8, l.faultMask),
    (0x30, 2, l.resets), (0x32, 2, l.pollFails), (0x34, 2, l.aerCorr), (0x36, 2, l.aerUncorr),
    (0x38, 2, l.pollUs)]

/-- Deliver KD_LINK_STATUS for the beat boundary `b` (R95). -/
def linkStatus (cause b : Nat) (s : State) : State :=
  emit 0x0302 2 0x0E 0 b b (s.hub.link.statusBody cause) s

/-! ## Ring states -/

/-- State of the ring of table entry `n` (R70, R93). -/
def Link.ringState (l : Link) (n : Nat) : RingState :=
  if n < 32 then (nth default l.sr n).st else (nth default l.dr (n - 32)).st

/-- Set the state of the ring of table entry `n`. -/
def setRing (n : Nat) (st : RingState) (s : State) : State :=
  if n < 32 then upSr n (fun r => { r with st := st }) s else upDr (n - 32) (fun r => { r with st := st }) s

/-- A Running ring becomes Faulted (R93): the event source `ev` with the table entry as INSTANCE (R545), and
KD_LINK_STATUS. -/
def faultRing (ev n : Nat) (s : State) : State :=
  if s.hub.link.ringState n = .running then
    let s1 := raise ev n 0 (setRing n .faulted s)
    linkStatus 2 (beatAt s1.now.ft) s1
  else s

/-! ## Events of R68 -/

/-- A submission ring at an event of R68. -/
def Sr.drop (r : Sr) : Sr :=
  { r with st := .unused, hold := none, p := 0, c := 0, taken := 0, skip := 0, at_ := [] }

/-- A delivery ring at an event of R68: supplies are forgotten, the backlog stays (R547). -/
def Dr.drop (d : Dr) : Dr :=
  { d with st := .unused, hold := none, f := 0, h := 0, chain := [], at_ := [], supplies := [], unsig := [], inRing := [] }

/-- The host-link state at an event of R68 (R509, R521, R547). -/
def Link.drop (l : Link) (up : Bool) : Link :=
  { l with
      up := up, speed := if up then l.speed else 0, width := if up then l.width else 0, l1 := false, d3hot := false
      sr := l.sr.map Sr.drop, dr := l.dr.map Dr.drop, words := List.replicate 64 0
      running := false, tableBad := false, badEntry := 0, badReason := 0
      dozing := false, phase := .awake, pollUs := 20, pollAt := none, pollsIssued := 0, pollsDone := 0
      msix := l.msix.map (fun v => { MsixVec.reset with sent := v.sent })
      goPending := false, setupRunning := false }

/-- An event of R68: the host-link state is reset; LINK_STATE. `up` where the link itself stays up. -/
def linkReset (up : Bool) (s : State) : State :=
  let s1 := upLink (fun l => { l.drop up with resets := satAdd 16 l.resets 1 }) (s.upBar (fun _ => Bar.reset))
  raise 20 0xFFFF 0 s1

/-! ## The ring table -/

/-- The lowest reason of R71 that entry `n` of a table breaks; reason 9 is not an entry's. DESIGN CHOICE (log entry 73):
a COMPLETION_RING above 31, for which R71 names no reason, names no used delivery ring, and breaks reason 4. -/
def tableReason (t : List RingEntry) (n : Nat) : Option Nat :=
  let e := nth RingEntry.zero t n
  let dr := decide (32 ≤ n)
  let used := decide (e.log2 ≠ 0)
  let sized := decide (6 ≤ e.log2) && decide (e.log2 ≤ 16)
  let earlier := (((t.drop 32).take (n - 32)).filter (fun x => decide (x.log2 ≠ 0))).foldl
    (fun a x => a ||| x.classMask) 0
  let zeroed := if dr then decide (e.compRing ≠ 0)
    else decide (e.vec ≠ 0) || decide (e.coalCount ≠ 0) || decide (e.coalTime ≠ 0) || decide (e.classMask ≠ 0)
  if used && decide (e.base % min (64 * 2 ^ e.log2) 4096 ≠ 0) then some 1
  else if used && !sized then some 2
  else if used && sized && decide (2 ^ e.log2 / 2 < e.reserve) then some 3
  else if used && !dr && (decide (31 < e.compRing) || decide ((nth RingEntry.zero t (32 + e.compRing)).log2 = 0)) then
    some 4
  else if used && dr && decide ((e.classMask &&& earlier) / 2 ≠ 0) then some 5
  else if (decide (n = 0) || decide (n = 32)) && !used then some 6
  else if decide (e.rsv0 ≠ 0) || decide (e.rsv1 ≠ 0) || zeroed then some 7
  else if dr && decide (63 < e.vec) && decide (e.vec ≠ 0xFF) then some 8
  else if used && dr && (decide (e.coalCount < 1) || decide (4096 < e.coalCount) || decide (10000 < e.coalTime)) then
    some 10
  else none

/-- The base registers are invalid (R511). -/
def Bar.invalid (b : Bar) : Bool :=
  let rt := b.rtHi * 2 ^ 32 + b.rtLo
  let db := b.dbHi * 2 ^ 32 + b.dbLo
  let ret := b.retHi * 2 ^ 32 + b.retLo
  let meet := fun (x m y n : Nat) => decide (x < y + n) && decide (y < x + m)
  decide (rt = 0) || decide (db = 0) || decide (ret = 0)
    || meet rt 2048 db 4096 || meet rt 2048 ret 4096 || meet db 4096 ret 4096

/-- BAD_ENTRY and BAD_REASON of a set-up, none where the table is accepted (R71, R511). -/
def tableFault (b : Bar) (t : List RingEntry) : Option (Nat × Nat) :=
  if b.invalid then some (0xFF, 9)
  else (List.range 64).findSome? (fun n => (tableReason t n).map (fun r => (n, r)))

/-! ## Set-up -/

/-- A submission ring as a set-up or a reset takes it: indices and SEQUENCE 0 (R75, R103). -/
def Sr.start (e : RingEntry) (hold : Option Hold) : Sr :=
  ⟨if e.log2 = 0 then .unused else .running, e, hold, 0, 0, 0, 0, [], 0⟩

/-- A delivery ring as a set-up or a reset takes it: indices and SEQUENCE 0, nothing waits, no supplies (R75,
R83, R94, R97, R103). -/
def Dr.start (d : Dr) (e : RingEntry) (hold : Option Hold) (drops : Nat) : Dr :=
  { d with st := if e.log2 = 0 then .unused else .running, entry := e, hold := hold, f := 0, h := 0, seq := 0
           backlog := [], chain := [], at_ := [], drops := drops, supplies := [], unsig := [], inRing := [] }

/-- Classes that a delivery ring takes (R71): none where it is unused. -/
def ringClasses (e : RingEntry) : Nat := if e.log2 = 0 then 0 else e.classMask

/-- The records of the rings `which` that are in the stream already keep the SEQUENCE that their ring expected when they
were fetched (R94, R103). -/
def Link.keepSeq (l : Link) (which : Nat → Bool) : List Stamped :=
  l.stream.map (fun x => if which x.ring then { x with exp := some (x.exp.getD (nth default l.sr x.ring).seq) } else x)

/-- Step 7 of R97 on the host link, at elapsed time `el`. -/
def Link.setup (l : Link) (bad : Option (Nat × Nat)) (t : List RingEntry) (el : Nat) : Link :=
  let ok := bad.isNone
  let t1 := if ok then t else List.replicate 64 RingEntry.zero
  { l with
      sr := (t1.take 32).map (fun e => Sr.start e none)
      dr := (l.dr.zip (t1.drop 32)).map (fun x => x.1.start x.2 none 0)
      stream := l.keepSeq (fun _ => true), words := List.replicate 64 0
      running := ok, tableBad := !ok, badEntry := (bad.getD (0, 0)).1, badReason := (bad.getD (0, 0)).2
      dozing := false, phase := .awake, dozeAt := el + 50 * qMs, dozeCount := 0
      discardedAtGo := sat 32 ((l.dr.map (fun d => backlogEntries d.backlog)).sum)
      pollFails := 0, failRun := 0, aerCorr := 0, aerUncorr := 0
      pollAt := none, pollsIssued := 0, pollsDone := 0, undelivered := List.replicate 32 0
      everSetUp := l.everSetUp || ok
      route := if ok then (t.drop 32).map ringClasses else l.route
      compRing := if ok then (t.take 32).map (·.compRing) else l.compRing
      -- a GO held meanwhile is performed once now (R513)
      setupRunning := l.goPending, goPending := false }

/-! ## Doze -/

/-- A doorbell word changed, or WAKE came: awake, the 50 ms begin anew (R85, R87). -/
def Link.stir (l : Link) (el : Nat) : Link := { l with dozing := false, phase := .awake, dozeAt := el + 50 * qMs }

/-- A doze ends (R87, R513): WAKE_SEEN. While awake, the timer begins anew. -/
def endDoze (s : State) : State :=
  let l := s.hub.link
  if !l.running then s
  else if l.phase = .dozing then
    raise 27 0xFFFF 0 (upLink (fun l => { l.stir s.now.el with pollAt := none }) s)
  else upLink (fun l => l.stir s.now.el) s

/-! ## Doorbell words -/

/-- What a doorbell word does to a submission ring: none where it breaks R78. -/
def Sr.word (r : Sr) (w : Nat) : Option Sr :=
  if ringLimit r.entry < sub32 w r.c ∨ sub32 w r.c < sub32 r.p r.c then none else some { r with p := w }

/-- What a doorbell word does to a delivery ring: none where it breaks R78; released entries leave. -/
def Dr.word (d : Dr) (w : Nat) : Option Dr :=
  if sub32 d.f d.h < sub32 w d.h then none
  else some { d with h := w, inRing := d.inRing.filter (fun x => decide (sub32 w d.h ≤ sub32 x.1 d.h)) }

/-- A hold ends with poll `k` where the word reads 0 and the poll was issued after the completion was covered
(R94). -/
def holdEnds (h : Hold) (k w : Nat) : Bool :=
  match h with
  | .waiting => false
  | .covered n => decide (n < k) && decide (w = 0)

/-- Take word `w` of table entry `n` as poll `k` read it (R78, R94). -/
def takeWord (k n w : Nat) (s : State) : State :=
  let l := s.hub.link
  if n < 32 then
    let r := nth default l.sr n
    match r.st, r.hold with
    | .running, some h => if holdEnds h k w then upSr n (fun r => { r with hold := none, p := 0 }) s else s
    | .running, none =>
      if w = r.p then s
      else
        match r.word w with
        | some r1 => upSr n (fun _ => r1) s
        | none => faultRing 23 n s
    | _, _ => s
  else
    let d := nth default l.dr (n - 32)
    match d.st, d.hold with
    | .running, some h => if holdEnds h k w then upDr (n - 32) (fun d => { d with hold := none, h := 0 }) s else s
    | .running, none =>
      if w = d.h then s
      else
        match d.word w with
        | some d1 => upDr (n - 32) (fun _ => d1) s
        | none => faultRing 23 n s
    | _, _ => s

/-- A submission ring begins a new fetch pass: up to 64 entries of a long refused record are passed over (R88,
R106). -/
def Sr.pass (r : Sr) : Sr :=
  let n := if r.st = .running ∧ r.hold = none then min r.skip (min 64 (sub32 r.p r.c)) else 0
  { r with taken := n, skip := r.skip - n, c := add32 r.c n }

/-- The words of a poll, or of the read of R85, have arrived: changes are checked in the order of the table and
a new fetch pass begins. -/
def takeWords (k : Nat) (ws : List Nat) (s : State) : State :=
  let changed := decide (ws ≠ s.hub.link.words)
  let s1 := ws.zipIdx.foldl (fun s x => takeWord k x.2 x.1 s) s
  upLink (fun l =>
    let l1 := { l with words := ws, sr := l.sr.map Sr.pass }
    if changed then l1.stir s.now.el else l1) s1

/-- A read of host memory fails: AER counts poisoned data and timeouts as uncorrectable errors (log
entry 61). -/
def noteAer (c : DmaCause) (s : State) : State :=
  match c with
  | .poisoned | .timeout => upLink (fun l => { l with aerUncorr := satAdd 16 l.aerUncorr 1 }) s
  | .abort | .unsupported => s

/-! ## Delivery -/

/-- The buffers that `n` bytes need, in order of supply (R83), none where the supplies do not suffice. -/
def takeBufs : (n : Nat) → List Buf → Option (List Buf × List Buf)
  | 0, l => some ([], l)
  | _ + 1, [] => none
  | n + 1, b :: r => (takeBufs (n + 1 - b.len) r).map (fun x => (b :: x.1, x.2))

/-- Bytes filled into each buffer, with its number in the chain. -/
def fillBufs : (data : List Byte) → (i : Nat) → List Buf → List (Nat × Buf × List Byte)
  | _, _, [] => []
  | data, i, b :: r => (i, b, data.take b.len) :: fillBufs (data.drop b.len) (i + 1) r

/-- Bulk data padded to a multiple of 64 bytes (R81). -/
def padBulk (data : List Byte) : List Byte := data ++ List.replicate (ceilTo 64 data.length - data.length) 0

/-- The KD_BUFPTR records that follow a delivered record (R81, R83). SEQUENCE of such a record is a free value
(log entry 62). -/
def bufPtrs (r : DRec) (bufs : List Buf) (seq : Nat) : List DRec :=
  let data := padBulk (r.bulk.getD [])
  (fillBufs data 0 bufs).map (fun x =>
    { kind := 2, cls := r.cls, source := r.source, flags := r.flags &&& 0x40, owner := none
      seq := seq, corr := r.corr, acc := r.acc, eff := r.eff
      body := mkBody 32 [(0x20, 8, x.2.1.addr), (0x28, 4, x.2.2.length), (0x2C, 2, x.1),
        (0x2E, 2, bufs.length), (0x30, 4, crc32c x.2.2)]
      bulk := none, vec := none, holdOf := none })

/-- Write records to a delivery ring (R77, R102): the fill index advances, CREDIT is set. -/
def Dr.write (d : Dr) (r : DRec) : Dr :=
  let f := add32 d.f r.entries
  let credit := sat 16 (ringLimit d.entry - sub32 f d.h)
  { d with f := f, at_ := slotAddrs d.entry d.f r.entries
           inRing := d.inRing ++ [(d.f, { r with owner := some (r.owner.getD credit) })] }

/-- The message of a delivery ring's vector, where one is due (R92). -/
def Link.ringSignal (l : Link) (n : Nat) (due : Dr → Bool) : Link :=
  let d := nth default l.dr n
  if decide (d.entry.vec ≠ 0xFF) && !d.unsig.isEmpty && due d then
    { l.signal d.entry.vec with dr := upd l.dr n (fun d => { d with unsig := [] }) }
  else l

/-- A RET_DR write covers a record: hold and event message follow (R94, R435). -/
def Link.covered (l : Link) (r : DRec) : Link :=
  let l1 := match r.vec with | some v => l.signal v | none => l
  match r.holdOf with
  | none => l1
  | some n =>
    let held : Option Hold → Option Hold := fun h => if h = some .waiting then some (.covered l.pollsIssued) else h
    if n < 32 then { l1 with sr := upd l1.sr n (fun r => { r with hold := held r.hold }) }
    else { l1 with dr := upd l1.dr (n - 32) (fun d => { d with hold := held d.hold }) }

/-- The next record that delivery ring `n` is to take: a KD_BUFPTR of the record before it, else the oldest that waits,
where the supplies suffice (R83); and the ring without it. -/
def Dr.nextOut (d : Dr) (seq : Nat) : Option (DRec × Dr) :=
  match d.chain, d.backlog with
  | c :: q, _ => some (c, { d with chain := q })
  | [], r :: q =>
    (takeBufs (padBulk (r.bulk.getD [])).length d.supplies).map (fun x =>
      (r, { d with backlog := q, chain := bufPtrs r x.1 seq, supplies := x.2 }))
  | [], [] => none

/-- The commanding lane writes the next record of delivery ring `n` where credit allows, advances RET_DR and sends the
messages due (R77, R83, R90, R92). -/
def deliverOne (n : Nat) (s : State) : State :=
  let d := nth default s.hub.link.dr n
  if !commanding s || !s.hub.link.running || d.st != .running || d.hold.isSome then s
  else
    match d.nextOut (freeNat 32 s) with
    | none => s
    | some (r, d1) =>
      if ringLimit d.entry < sub32 d.f d.h + r.entries then s
      else
        let d2 := d1.write r
        let d3 := { d2 with unsig := if d.entry.vec ≠ 0xFF then d.unsig ++ [s.now.el] else [] }
        let s1 := upLink (fun l =>
          ({ l with dr := l.dr.set n d3 }.covered r).ringSignal n
            (fun d => decide (d.entry.coalTime = 0) || decide (d.entry.coalCount ≤ d.unsig.length))) s
        if r.bulk.isSome then drawn s1 else s1

/-- Layout of KD_BUFPTR (R81). DESIGN CHOICE (log entry 73): a SEGMENT that is not below SEGMENTS is RANGE at the offset
of SEGMENTS, in a supply too. -/
def scBufptr : RecSchema :=
  ⟨[32], [fu 0x20 8 0 (2 ^ 64 - 1) 0, fu 0x28 4 64 16777216 64, fu 0x2C 2 0 65534 0, fu 0x2E 2 1 65535 1,
      fu 0x30 4 0 (2 ^ 32 - 1) 0, fu 0x34 1 0 1 0, fu 0x35 1 0 31 0],
    fun b =>
      badIf (decide (fld b 0x20 8 % 64 ≠ 0)) 0x20 ++ badIf (decide (fld b 0x28 4 % 64 ≠ 0)) 0x28
        ++ badIf (decide (fld b 0x2E 2 ≤ fld b 0x2C 2)) 0x2E
        ++ badIf (decide (fld b 0x34 1 = 1) && decide (fld b 0x30 4 ≠ 0)) 0x30
        ++ badIf (decide (fld b 0x34 1 = 0) && decide (fld b 0x35 1 ≠ 0)) 0x35⟩

/-! ## MSI-X -/

/-- Write one 32-bit word of the MSI-X table (R521): a vector that is unmasked with its pending bit set sends
its message (R92). -/
def Link.msixWrite (l : Link) (v word value : Nat) : Link :=
  { l with msix := upd l.msix v (fun m =>
      if word = 0 then { m with addrLo := value / 4 * 4 }
      else if word = 1 then { m with addrHi := value }
      else if word = 2 then { m with data := value }
      else
        let masked := decide (value % 2 = 1)
        if !masked && m.pending then { m with masked := false, pending := false, sent := m.sent + 1 }
        else { m with masked := masked }) }

end Sys2Proof.Machine
end

