-- ==== Sys2Proof/Machine/HostLink.lean ====
section
/-!
DEFINITION. The commands of the host link: link events (R67, R68, R95), polling, fetch and doze (R84–R89,
R93), BAR0 writes (R507–R521), delivery (R90, R92), ring reset (R94), buffer supplies (R82, R83), refused
kinds (R106), and the periodic records (R95, R110).
-/
namespace Sys2Proof.Machine

/-! ## Link events -/

/-- LINK_UP (R67, R95): the link finishes training at `speed` and `width`, or the device returns to D0; LINK_STATE, and
KD_LINK_STATUS with CAUSE 3 where it has trained otherwise before. -/
def execLinkUp (dt speed width : Nat) (l1 : Bool) (s : State) : Host.Outcome State Fault Refusal :=
  let s1 := tick dt s
  if s1.pow.state ≠ .serving ∨ s1.pow.perst ∨ (s1.hub.link.up ∧ s1.hub.link.d3hot = false) then .next s1
  else
    let was := s1.hub.link.trained
    let s2 := raise 20 0xFFFF 1 (upLink (fun l => { l with
      up := true, speed := speed, width := width, trained := (speed, width), l1 := l1, d3hot := false }) s1)
    .next (if was = (0, 0) ∨ was = (speed, width) then s2 else linkStatus 3 (beatAt s2.now.ft) s2)

/-- LINK_LOSS (R68). -/
def execLinkLoss (dt : Nat) (s : State) : Host.Outcome State Fault Refusal :=
  let s1 := tick dt s
  if s1.pow.state = .serving ∧ s1.hub.link.up then .next (linkReset false s1) else .next s1

/-- HOT_RESET (R68): the link trains again afterwards. -/
def execHotReset (dt : Nat) (s : State) : Host.Outcome State Fault Refusal :=
  let s1 := tick dt s
  if s1.pow.state = .serving ∧ s1.hub.link.up then .next (linkReset false s1) else .next s1

/-- FUNCTION_LEVEL_RESET (R68): the link itself stays up. -/
def execFunctionLevelReset (dt : Nat) (s : State) : Host.Outcome State Fault Refusal :=
  let s1 := tick dt s
  if s1.pow.state = .serving ∧ s1.hub.link.up then .next (linkReset true s1) else .next s1

/-- D3HOT (R67, R68): the link itself stays up; the device answers again in D0, after a reset or a new training. -/
def execD3hot (dt : Nat) (s : State) : Host.Outcome State Fault Refusal :=
  let s1 := tick dt s
  if linkLive s1 then .next (upLink (fun l => { l with d3hot := true }) (linkReset true s1)) else .next s1

/-- LINK_RATE_CHANGE (R95): KD_LINK_STATUS with CAUSE 3. -/
def execLinkRateChange (dt speed width : Nat) (l1 : Bool) (s : State) : Host.Outcome State Fault Refusal :=
  let s1 := tick dt s
  if !linkLive s1 then .next s1
  else
    let changed := decide (s1.hub.link.speed ≠ speed) || decide (s1.hub.link.width ≠ width)
    let s2 := upLink (fun l => { l with speed := speed, width := width, trained := (speed, width), l1 := l1 }) s1
    .next (if changed then linkStatus 3 (beatAt s2.now.ft) s2 else s2)

/-! ## Polling, fetch, doze -/

/-- DOORBELL_POLL (R84, R87, R512): the next poll is issued, DB_POLL after the one before; the first after a
set-up or a doze comes `dt` from now. -/
def execDoorbellPoll (dt : Nat) (s : State) : Host.Outcome State Fault Refusal :=
  let l := s.hub.link
  if !linkLive s || !l.running || l.phase != .awake then .next s
  else
    let s1 := match l.pollAt with | some t => reachEl t s | none => tick dt s
    let us := s1.bar.dbPollUs
    .next (upLink (fun l => { l with
      pollUs := us, pollAt := some (s1.now.el + us * qUs), pollsIssued := l.pollsIssued + 1 }) s1)

/-- DOORBELL_READ_COMPLETE (R78, R84, R88, R89): the data of the oldest outstanding poll arrives. The correctable errors
that AER has reported since the read before are counted with it (R95). -/
def execDoorbellReadComplete (dt : Nat) (r : PageRead) (s : State) : Host.Outcome State Fault Refusal :=
  let s1 := tick dt s
  let l := s1.hub.link
  if !linkLive s1 || !l.running || decide (l.pollsIssued ≤ l.pollsDone) then .next s1
  else
    .next (takeWords (l.pollsDone + 1) r.words (upLink (fun l => { l with
      pollsDone := l.pollsDone + 1, failRun := 0, aerCorr := satAdd 16 l.aerCorr r.corr }) s1))

/-- DOORBELL_READ_FAIL (R93, R538): the oldest outstanding poll is skipped; the third failure in a row raises
LINK_ERROR, and (DESIGN CHOICE, log entry 73) a run begins anew after it, so that the sixth raises it again. A failed
read of R85 leaves the module at that step (log entry 61). -/
def execDoorbellReadFail (dt : Nat) (cause : DmaCause) (s : State) : Host.Outcome State Fault Refusal :=
  let s1 := tick dt s
  let l := s1.hub.link
  let poll := decide (l.pollsDone < l.pollsIssued)
  if !linkLive s1 || !l.running || (!poll && l.phase != .checking) then .next s1
  else
    let run := l.failRun + 1
    let s2 := noteAer cause (upLink (fun l => { l with
      pollsDone := if poll then l.pollsDone + 1 else l.pollsDone
      pollFails := satAdd 16 l.pollFails 1, failRun := if run = 3 then 0 else run }) s1)
    .next (if run = 3 then raise 21 0xFFFF 0 s2 else s2)

/-- Completions wait in the backlog of a submission ring's COMPLETION_RING so that fetching pauses (R88). -/
def fetchPaused (l : Link) (r : Sr) : Bool :=
  decide (1024 ≤ ((nth default l.dr r.entry.compRing).backlog.filter (fun x => x.cls == 0)).length)

/-- The order of descriptors in the input stream (R91): by stamp, then by ring; within a ring the earlier one first. -/
def Stamped.le (a b : Stamped) : Bool := decide (a.cmp < b.cmp) || (a.cmp == b.cmp && decide (a.ring ≤ b.ring))

/-- RING_READ_COMPLETE (R79, R80, R88, R89, R106): the record of `entries` entries that begins at C of ring
`n` arrives and is stamped. One above the limit faults the ring (R78); of one above 64 entries the rest is
passed over in later polls. -/
def execRingReadComplete (dt : Nat) (n : Fin 32) (entries : Nat) (s : State) : Host.Outcome State Fault Refusal :=
  let s1 := tick dt s
  let l := s1.hub.link
  let r := nth default l.sr n.val
  let left := sub32 r.p r.c
  if !linkLive s1 || r.st != .running || r.hold.isSome || decide (r.skip ≠ 0) || decide (left = 0)
      || decide (64 ≤ r.taken) || decide (entries = 0) || fetchPaused l r then .next s1
  else if ringLimit r.entry < entries then .next (faultRing 23 n.val s1)
  else
    let now_ := if 64 < entries then min left (64 - r.taken) else entries
    if left < now_ ∨ 64 < r.taken + now_ then .next s1
    else
      .next (upSr n.val (fun r => { r with
          c := add32 r.c now_, taken := r.taken + now_, skip := entries - now_, at_ := slotAddrs r.entry r.c now_ })
        (upLink (fun l => { l with
          stream := insertSorted Stamped.le ⟨n.val, s1.now.ft, s1.now.ft, entries, none⟩ l.stream }) s1))

/-- DMA_ERROR (R93, R538): an access to the ring of table entry `n` or to one of its buffers fails. -/
def execDmaError (dt : Nat) (n : Fin 64) (cause : DmaCause) (s : State) : Host.Outcome State Fault Refusal :=
  let s1 := tick dt s
  if linkLive s1 && decide (s1.hub.link.ringState n.val = .running) then
    .next (faultRing 25 n.val (noteAer cause s1))
  else .next s1

/-- DOZE_TIMEOUT (R85): 50 ms without a doorbell change; DOZING is written and the page is read once more. -/
def execDozeTimeout (s : State) : Host.Outcome State Fault Refusal :=
  let l := s.hub.link
  if !linkLive s || !l.running || l.phase != .awake then .next s
  else .next (upLink (fun l => { l with dozing := true, phase := .checking }) (reachEl l.dozeAt s))

/-- DOZE_CHECK_READ (R85): a changed word resumes polling; otherwise the doze begins. -/
def execDozeCheckRead (dt : Nat) (words : List Nat) (s : State) : Host.Outcome State Fault Refusal :=
  let s1 := tick dt s
  let l := s1.hub.link
  if !linkLive s1 || !l.running || l.phase != .checking then .next s1
  else
    let s2 := upLink (fun l => { l with failRun := 0 }) s1
    if words = l.words then
      .next (raise 26 0xFFFF 0 (upLink (fun l => { l with
        phase := .dozing, dozeCount := add32 l.dozeCount 1, pollAt := none }) s2))
    else .next (takeWords l.pollsDone words s2)

/-- WAKE (R87, R514): a write with bit 0 set. -/
def execWake (dt value : Nat) (s : State) : Host.Outcome State Fault Refusal :=
  let s1 := tick dt s
  if linkLive s1 && decide (value % 2 = 1) then .next (endDoze s1) else .next s1

/-! ## BAR0 -/

/-- A write to RING_GO with bit 0 set (R513). -/
def ringGo (s : State) : State :=
  if keyoff s then s
  else
    let s1 := if s.hub.link.phase = .dozing then endDoze s else s
    if s1.hub.link.setupRunning || !s1.pow.firstBeat then upLink (fun l => { l with goPending := true }) s1
    else upLink (fun l => { l with setupRunning := true }) s1

/-- RING_GO (R513). -/
def execRingGo (dt value : Nat) (s : State) : Host.Outcome State Fault Refusal :=
  let s1 := tick dt s
  if linkLive s1 && decide (value % 2 = 1) then .next (ringGo s1) else .next s1

/-- RING_SETUP (R71, R97, R513): step 7 with the ring table as read, for a GO that runs or that was held for
the first beat of the Active lane; KD_LINK_STATUS with CAUSE 1 at the next beat boundary (R95). -/
def execRingSetup (dt : Nat) (table : List RingEntry) (s : State) : Host.Outcome State Fault Refusal :=
  let s1 := tick dt s
  let l := s1.hub.link
  if !linkLive s1 || (!l.setupRunning && !(l.goPending && s1.pow.firstBeat)) then .next s1
  else
    let bad := tableFault s1.bar table
    -- a GO held for the first beat is the one performed now
    let s2 := upLink (fun l =>
      { l with goPending := l.setupRunning && l.goPending }.setup bad table s1.now.el) s1
    match bad with
    | some (e, r) => .next (raise 22 e r s2)
    | none => .next (linkStatus 1 (beatAt (s2.now.ft + 1)) s2)

/-- The value that DB_POLL stores (R512). -/
def pollClamp (value : Nat) : Nat := max 2 (min 1000 (value % 1024))

/-- DB_POLL (R512). -/
def execDbPoll (dt value : Nat) (s : State) : Host.Outcome State Fault Refusal :=
  let s1 := tick dt s
  if linkLive s1 then .next (s1.upBar (fun b => { b with dbPollUs := pollClamp value })) else .next s1

/-- LG_CURSOR (R444, R520). -/
def execLgCursor (dt value : Nat) (s : State) : Host.Outcome State Fault Refusal :=
  let s1 := tick dt s
  if linkLive s1 then
    .next (s1.upHub (fun h => { h with lg := { h.lg with cursor := value % 65536 } }))
  else .next s1

/-- FT_SNAP (R519): a read captures Field Time to within 7 q, a free value. -/
def execFtSnap (dt : Nat) (s : State) : Host.Outcome State Fault Refusal :=
  let s1 := tick dt s
  if linkLive s1 then
    .next (drawn (s1.upTime (fun t => { t with snap := s1.now.ft - freeNat 3 s1 })))
  else .next s1

/-- A write to one 32-bit register of BAR0 (R508, R511). -/
def barWrite (off value : Nat) (s : State) : State :=
  if 0x1000 ≤ off ∧ off < 0x1400 then
    upLink (fun l => l.msixWrite ((off - 0x1000) / 16) (off % 16 / 4) value) s
  else
    match off with
    | 0x100 => s.upBar (fun b => { b with rtLo := value / 4096 * 4096 })
    | 0x104 => s.upBar (fun b => { b with rtHi := value })
    | 0x108 => s.upBar (fun b => { b with dbLo := value / 4096 * 4096 })
    | 0x10C => s.upBar (fun b => { b with dbHi := value })
    | 0x110 => s.upBar (fun b => { b with retLo := value / 4096 * 4096 })
    | 0x114 => s.upBar (fun b => { b with retHi := value })
    | 0x118 => s.upBar (fun b => { b with dbPollUs := pollClamp value })
    | 0x11C => if value % 2 = 1 then ringGo s else s
    | 0x120 => if value % 2 = 1 then endDoze s else s
    | 0x300 => s.upHub (fun h => { h with lg := { h.lg with cursor := value % 65536 } })
    | _ => s

/-- REGISTER_WRITE (R508, R511, R521): a write of `size` bytes at `off`. Outside the MSI-X table only aligned
writes of 4 bytes have an effect; the table also takes aligned writes of 8. -/
def execRegisterWrite (dt off size value : Nat) (s : State) : Host.Outcome State Fault Refusal :=
  let s1 := tick dt s
  if !linkLive s1 then .next s1
  else if size = 4 ∧ off % 4 = 0 then .next (barWrite off (value % 2 ^ 32) s1)
  else if size = 8 ∧ off % 8 = 0 ∧ 0x1000 ≤ off ∧ off < 0x1400 then
    .next (barWrite (off + 4) (value / 2 ^ 32 % 2 ^ 32) (barWrite off (value % 2 ^ 32) s1))
  else .next s1

/-- MSIX_UNMASK (R92, R521): vector `v` is unmasked; a pending message is sent. -/
def execMsixUnmask (dt : Nat) (v : Fin 64) (s : State) : Host.Outcome State Fault Refusal :=
  let s1 := tick dt s
  if linkLive s1 then .next (upLink (fun l => l.msixWrite v.val 3 0) s1) else .next s1

/-! ## Delivery -/

/-- RECORD_DELIVERY (R90): delivery ring `n`. -/
def execRecordDelivery (dt : Nat) (n : Fin 32) (s : State) : Host.Outcome State Fault Refusal :=
  let s1 := tick dt s
  if linkLive s1 then .next (deliverOne n.val s1) else .next s1

/-- COAL_TIME (R92): COAL_TIME_US has passed since the oldest unsignalled record of delivery ring `n`. -/
def execCoalTime (n : Fin 32) (s : State) : Host.Outcome State Fault Refusal :=
  let d := nth default s.hub.link.dr n.val
  match d.unsig with
  | [] => .next s
  | t :: _ =>
    let s1 := reachEl (t + d.entry.coalTime * qUs) s
    .next (upLink (fun l => l.ringSignal n.val (fun _ => true)) s1)

/-! ## Ring reset -/

/-- The table in force, entry by entry. DESIGN CHOICE (log entry 73): R94 judges an entry read again with the rest of the
table as accepted at set-up; where an earlier reset has changed an entry, with that entry. -/
def Link.table (l : Link) : List RingEntry := l.sr.map (·.entry) ++ l.dr.map (·.entry)

/-- An accepted reset of the ring of entry `n` (R94): entries discarded, and the host link after it. -/
def Link.resetRing (l : Link) (n : Nat) (e : RingEntry) : Nat × Link :=
  let hold := if e.log2 = 0 then none else some Hold.waiting
  if n < 32 then
    let r := nth default l.sr n
    (sub32 r.p r.c, { l with
      sr := l.sr.set n (Sr.start e hold), compRing := l.compRing.set n e.compRing, stream := l.keepSeq (fun i => i == n) })
  else
    let d := nth default l.dr (n - 32)
    let k := backlogEntries d.backlog
    (k, { l with dr := l.dr.set (n - 32) (d.start e hold (satAdd 32 d.drops k))
                 route := l.route.set (n - 32) (ringClasses e) })

/-- KD_RING_RESET (R94): `e` is the ring's table entry as read again at the decision. Never quiet. DESIGN CHOICE (log
entry 73): DETAIL16 of the refusal for a bad entry is 0. -/
def execKdRingReset (dt : Nat) (p : Post) (e : RingEntry) (s : State) : Host.Outcome State Fault Refusal :=
  .next (command dt 0x0301 0x0E p ⟨[32], [fu 0x20 1 0 63 0], fun _ => []⟩ false decideAt
    (fun u s =>
      let n := fld p.body 0x20 1
      let was := s.hub.link.ringState n
      if n = p.ring then u.refuse 0x16 0 s
      else if was = .unused then u.refuse 8 0 s
      else
        match tableReason (s.hub.link.table.set n e) n with
        | some r =>
          complete u.kind u.unit p u.acc ⟨4, 7, 0, r, 0, u.bound⟩ (raise 22 n r s)
        | none =>
          let x := s.hub.link.resetRing n e
          let s1 := upLink (fun _ => x.2) s
          let s2 := if s1.hub.link.ringState n = was then s1 else linkStatus 2 (beatAt s1.now.ft) s1
          completeX u.kind u.unit p u.acc (accepted x.1 u.bound) (some n) s2) s)

/-! ## Periodic records -/

/-- LINK_STATUS_PERIOD (R95): every 10 s. -/
def execLinkStatusPeriod (s : State) : Host.Outcome State Fault Refusal :=
  if s.pow.state ≠ .serving then .next s
  else
    let t := s.hub.link.statusNext
    .next (linkStatus 0 t (upLink (fun l => { l with statusNext := t + 10 * qSec }) (reach t s)))

/-- CLASS_COUNTS_PERIOD (R110): every 10 s. DESIGN CHOICE (log entry 73): SOURCE is the host link, whose counters they
are. -/
def execClassCountsPeriod (s : State) : Host.Outcome State Fault Refusal :=
  if s.pow.state ≠ .serving then .next s
  else
    let t := s.hub.link.countsNext
    let s1 := upLink (fun l => { l with countsNext := t + 10 * qSec }) (reach t s)
    let body := mkBody 128 (s1.hub.link.undelivered.zipIdx.map (fun x => (0x20 + 4 * x.2, 4, x.1)))
    .next (emit 3 2 0x0E 0 t t body s1)

/-! ## Buffer pointers and refused kinds -/

/-- What a KD_BUFPTR posted on its own does (R82, R83): a supply is held for its delivery ring, and completes
only where it is refused; a segment continues no chain. -/
def bufptrAct (p : Post) (u : Sub) (s : State) : State :=
  if fld p.body 0x34 1 = 0 then u.refuse 0x0A 0 s
  else
    let n := fld p.body 0x35 1
    let d := nth default s.hub.link.dr n
    if d.st = .unused then u.refuse 8 0 s
    else if 1024 ≤ d.supplies.length then u.refuse 0x0B 0 s
    else upDr n (fun d => { d with supplies := d.supplies ++ [⟨fld p.body 0x20 8, fld p.body 0x28 4⟩] }) s

/-- BUFPTR_SUPPLY (R83): a KD_BUFPTR with USE 1. -/
def execBufptrSupply (dt : Nat) (p : Post) (s : State) : Host.Outcome State Fault Refusal :=
  .next (command dt 2 0x0E p scBufptr false decideAt (bufptrAct p) s)

/-- BUFPTR_SEGMENT_STRAY (R82): a KD_BUFPTR with USE 0 that continues no chain. -/
def execBufptrSegmentStray (dt : Nat) (p : Post) (s : State) : Host.Outcome State Fault Refusal :=
  .next (command dt 2 0x0E p scBufptr false decideAt (bufptrAct p) s)

/-- A submission whose kind or direction is wrong (R106): one refusal, at the boundary of R544. -/
def refuseKind (dt kind reason : Nat) (p : Post) (s : State) : State :=
  if s.pow.state ≠ .serving then tick dt s
  else
  let x := arrive dt kind 0x0E p decideAt s
  x.2.refuse reason 0 x.1

/-- UNKNOWN_KIND (R106): refused with KIND. -/
def execUnknownKind (dt kind : Nat) (p : Post) (s : State) : Host.Outcome State Fault Refusal :=
  .next (refuseKind dt kind 2 p s)

/-- DELIVERY_KIND_POSTED (R106): refused with DIRECTION. -/
def execDeliveryKindPosted (dt kind : Nat) (p : Post) (s : State) : Host.Outcome State Fault Refusal :=
  .next (refuseKind dt kind 4 p s)

end Sys2Proof.Machine
end

