-- ==== Sys2Proof/Machine/Dest.lean ====
section
/-!
DEFINITION. The destinations of a loop's output (R181, R184, R185, R212).
-/
namespace Sys2Proof.Machine

/-- Present value of a destination for R212; none where R212 takes the loop's own last output. -/
def destPresent (s : State) (dt di scale : Nat) : Option Int :=
  match dt with
  | 1 => some (valvePresent s di scale)
  | 2 => some (valvePresent s di scale)
  | 3 => some (dqOf s di).applied
  | 4 => some (q130 (objRaw s di) scale)
  | 5 => some (nth default s.ctl.loops di).sp
  | _ => none

/-- MEMBERS of a group record (R204). -/
def membersOf (recd : List Byte) : List Nat :=
  (List.range 128).filter (fun n => (fld recd 0x28 16).testBit n)

/-- The group that a loop belongs to under the Catalogue in force (R197). -/
def groupOf (s : State) (n : Nat) : Option Nat :=
  (List.range 16).find? (fun g => (fld (recBody s 0x0602 g) 0x28 16).testBit n)

/-- The value that a boundary brought did not take effect: the one before it stays (R206). -/
def Loop.effBack (l : Loop) : Loop := { l with eff := (l.eff.tail.headD 0) :: l.eff.tail }

/-- A destination refused the value of loop `n` and keeps its state; in a group, every member's history keeps
the destination's previous value (R185, R202, R206). -/
def destRefuse (n : Nat) (s : State) : State :=
  let s1 := s.upCtl (fun c => { c with loops := upd c.loops n (fun l => { l with destRefused := true }) })
  match groupOf s n with
  | none => s1.upCtl (fun c => { c with loops := upd c.loops n Loop.effBack })
  | some g =>
    let ms := membersOf (recBody s 0x0602 g)
    s1.upCtl (fun c =>
      { c with loops := ms.foldl (fun l m => upd l m Loop.effBack) c.loops
               groups := upd c.groups g (fun x => { x with destRefused := true }) })

/-- The value of loop `n` takes effect at the instant `t` (R181, R184). Outputs act while a lane
commands (R56). -/
def destHand (n dt di scale : Nat) (v : Int) (t : Nat) (s : State) : State :=
  if !commanding s then s
  else
    let done := fun (x : State × Bool) => if x.2 then destRefuse n x.1 else x.1
    match dt with
    | 1 => done (valveLoop true di scale v s)
    | 2 => done (valveLoop false di scale v s)
    | 3 => done (dqLoop di v s)
    | 4 => done (objLoop di scale v s)
    | 5 => (issue (.value 5 di v) s).upCtl (fun c => { c with loops := upd c.loops di (fun l =>
        { l with orders := l.orders ++ [⟨0x1000 + n, v, t, t, none⟩] }) })
    | _ => s

end Sys2Proof.Machine
end

