-- ==== Sys2Proof/Machine/Law.lean ====
section
/-!
DEFINITION. The law of R177 to R179 with the back-calculation of R199 and the initialisation of R212, as
exact integer functions. A `Bool` beside a value says that a clamp was met on the way.
-/
namespace Sys2Proof.Machine

/-- `sat32` with its clamp. -/
def sat32 (x : Int) : Int × Bool :=
  let y := clampI (-(2 ^ 31)) (2 ^ 31 - 1) x
  (y, decide (y ≠ x))

/-- `sat64` with its clamp. -/
def sat64 (x : Int) : Int × Bool :=
  let y := clampI (-(2 ^ 63)) (2 ^ 63 - 1) x
  (y, decide (y ≠ x))

/-- Q7.24 × Q1.30. -/
def mulg (g x : Int) : Int × Bool := sat32 ((g * x + 2 ^ 23) / 2 ^ 24)

/-- Q1.30 × Q1.30. -/
def mulf (f x : Int) : Int × Bool := sat32 ((f * x + 2 ^ 29) / 2 ^ 30)

/-- The settings of the law (R176, R190). -/
structure Law where
  kp : Int
  ki : Int
  kd : Int
  beta : Int
  gamma : Int
  alphaD : Int
  b0 : Int
  b1 : Int
  a1 : Int
  g0 : Int
  g1 : Int
  outMin : Int
  outMax : Int
  rate : Int
  clampMode : Bool

/-- The settings in a law record (R190). -/
def lawOf (b : List Byte) : Law :=
  { kp := fldS b 0x30 4, ki := fldS b 0x34 4, kd := fldS b 0x38 4, beta := fldS b 0x3C 4
    gamma := fldS b 0x40 4, alphaD := fldS b 0x44 4, b0 := fldS b 0x48 4, b1 := fldS b 0x4C 4
    a1 := fldS b 0x50 4, g0 := fldS b 0x54 4, g1 := fldS b 0x58 4, outMin := fldS b 0x5C 4
    outMax := fldS b 0x60 4, rate := fldS b 0x64 4, clampMode := decide (fld b 0x26 1 = 1) }

/-- The part of the law before the integrator (R177). -/
structure Front where
  e : Int
  ed : Int
  p : Int
  dF : Int
  inc : Int
  iNew : Int
  ff : Int
  sum : Bool
  satInt : Bool

/-- R177 down to `I_new`, and the feed-forward. -/
def lawFront (g : Law) (st : LawSt) (y r ff0 ff1 : Int) : Front :=
  let e := sat32 (r - y)
  let br := mulf g.beta r
  let ep := sat32 (br.1 - y)
  let gr := mulf g.gamma r
  let ed := sat32 (gr.1 - y)
  let p := mulg g.kp ep.1
  let dd := sat32 (ed.1 - st.edPrev)
  let dRaw := mulg g.kd dd.1
  let df0 := sat32 (dRaw.1 - st.dF)
  let df1 := mulf g.alphaD df0.1
  let dF := sat32 (st.dF + df1.1)
  let inc := (g.ki * e.1 + 2 ^ 7) / 2 ^ 8
  let iNew := sat64 (st.i + inc)
  let f0 := mulg g.g0 ff0
  let f1 := mulg g.g1 ff1
  let ff := sat32 (f0.1 + f1.1)
  { e := e.1, ed := ed.1, p := p.1, dF := dF.1, inc := inc, iNew := iNew.1, ff := ff.1
    sum := e.2 || br.2 || ep.2 || gr.2 || ed.2 || p.2 || dd.2 || dRaw.2 || df0.2 || df1.2 || dF.2
      || f0.2 || f1.2 || ff.2
    satInt := iNew.2 }

/-- The part of the law after the integrator (R177). -/
structure Back where
  uPid : Int
  w : Int
  u : Int
  out : Int
  sum : Bool
  satOut : Bool
  deriving DecidableEq, Repr

/-- R177 from `u_pid` to `out`, with the integrator `i`. -/
def lawBack (g : Law) (st : LawSt) (p dF ff i : Int) : Back :=
  let ii := sat32 ((i + 2 ^ 15) / 2 ^ 16)
  let uPid := sat32 (p + ii.1 + dF)
  let w0 := mulg g.b0 uPid.1
  let w1 := mulg g.b1 st.uPrev
  let w2 := mulg g.a1 st.wPrev
  let w := sat32 (w0.1 + w1.1 - w2.1)
  let u := sat32 (w.1 + ff)
  let lim := if g.rate ≠ 0x7FFFFFFF then clampI (st.outPrev - g.rate) (st.outPrev + g.rate) u.1 else u.1
  let out := clampI g.outMin g.outMax lim
  { uPid := uPid.1, w := w.1, u := u.1, out := out
    sum := ii.2 || uPid.2 || w0.2 || w1.2 || w2.2 || w.2 || u.2
    satOut := decide (lim ≠ u.1) || decide (out ≠ lim) }

/-- What a sample of the law leaves. -/
structure LawRes where
  st : LawSt
  out : Int
  sum : Bool
  satInt : Bool
  satOut : Bool
  held : Bool
  deriving DecidableEq, Repr

/-- The stored states at the end of R177. -/
def lawStore (f : Front) (b : Back) (i : Int) : LawSt := ⟨i, f.dF, f.ed, b.uPid, b.w, b.out⟩

/-- The candidate of R177 with `I_new`, before any windup. -/
def lawCand (g : Law) (st : LawSt) (f : Front) : Back := lawBack g st f.p f.dF f.ff f.iNew

/-- The windup step of R179. -/
def windup (g : Law) (st : LawSt) (f : Front) : LawRes :=
  let b := lawCand g st f
  if g.clampMode && ((decide (b.out < b.u) && decide (0 < f.inc))
      || (decide (b.u < b.out) && decide (f.inc < 0))) then
    let b2 := lawBack g st f.p f.dF f.ff st.i
    ⟨lawStore f b2 st.i, b2.out, f.sum || b2.sum, false, b2.satOut, true⟩
  else ⟨lawStore f b f.iNew, b.out, f.sum || b.sum, f.satInt, b.satOut, false⟩

/-- `I = I_new` without windup (R200). -/
def freeRun (g : Law) (st : LawSt) (f : Front) : LawRes :=
  let b := lawCand g st f
  ⟨lawStore f b f.iNew, b.out, f.sum || b.sum, f.satInt, b.satOut, false⟩

/-- Back-calculation (R199): the integrator whose output is `target`. -/
def backcalc (g : Law) (st : LawSt) (f : Front) (target : Int) : LawRes :=
  let gt := clampI g.outMin g.outMax target
  let wt := sat32 (gt - f.ff)
  let n1 := mulg g.b1 st.uPrev
  let n2 := mulg g.a1 st.wPrev
  let num := wt.1 - n1.1 + n2.1
  let ut := sat32 (if g.b0 = 0 then 0 else (num * 2 ^ 24).tdiv g.b0)
  let iN := sat64 ((ut.1 - f.p - f.dF) * 65536)
  let b := lawBack g st f.p f.dF f.ff iN.1
  ⟨lawStore f b iN.1, b.out, f.sum || wt.2 || n1.2 || n2.2 || ut.2 || b.sum, iN.2, b.satOut, false⟩

/-- Stored states of the initialisation of R212, before its back-calculation, and whether a clamp was
met in forming them. -/
def initStates (g : Law) (f : Front) (v0 : Int) : LawSt × Bool :=
  let v := clampI g.outMin g.outMax v0
  let wt := sat32 (v - f.ff)
  let aw := mulg g.a1 wt.1
  let d := g.b0 + g.b1
  let ut := sat32 (if d = 0 then 0 else ((wt.1 + aw.1) * 2 ^ 24).tdiv d)
  (⟨0, 0, f.ed, ut.1, wt.1, v⟩, wt.2 || aw.2 || ut.2)

/-- The first sample of Starting (R212): no increment, D_f = 0, first output v0. -/
def lawInit (g : Law) (y r ff0 ff1 v0 : Int) : Front × LawRes :=
  let ed := (sat32 ((mulf g.gamma r).1 - y)).1
  let f0 := lawFront g ⟨0, 0, ed, 0, 0, 0⟩ y r ff0 ff1
  let f := { f0 with dF := 0, inc := 0, iNew := 0, satInt := false }
  let i := initStates g f v0
  let res := backcalc g i.1 f v0
  (f, { res with sum := res.sum || i.2 })

end Sys2Proof.Machine
end

