-- ==== Sys2Proof/Machine/Supervise.lean ====
section
/-!
DEFINITION. Loop supervision (R206–R210) on one loop slot: the plausibility model, the oscillation
detector, settling and the actions.
-/
namespace Sys2Proof.Machine

/-- What supervision found at a sample. -/
inductive Found where
  | nothing | plaus | osc | settled
  deriving DecidableEq, Repr

/-- The value that took effect at the destination at the present boundary (R206). -/
def Loop.inForce (l : Loop) : Int := l.eff.headD l.st.outPrev

/-- One sample of the model of R206: whether the residual lies outside its band. -/
def plausStep (l : Loop) (y : Int) : Loop × Bool :=
  let g := fldS l.sup 0x28 4
  let a := l.eff.getD (fld l.sup 0x26 2) l.inForce
  let x := (sat32 ((mulg g a).1 + fldS l.sup 0x2C 4)).1
  let ym := (sat32 (l.ym + (mulf (fldS l.sup 0x30 4) (sat32 (x - l.ym)).1).1)).1
  let rs := (sat32 (y - ym)).1
  let bias := (sat32 (l.bias + (mulf (fldS l.sup 0x38 4) (sat32 (rs - l.bias)).1).1)).1
  let d := (sat32 (rs - bias)).1
  ({ l with ym := ym, bias := bias }, decide (fldS l.sup 0x34 4 < (d.natAbs : Int)))

/-- Start the plausibility model at entry to Serving (R206). -/
def plausInit (l : Loop) (y : Int) : Loop :=
  { l with ym := y, bias := 0, plausCount := 0, eff := List.replicate 1024 l.inForce }

/-- Forget what the detectors of Starting and Recovering have counted (R207, R208). -/
def Loop.clearOsc (l : Loop) : Loop := { l with osc := [], oscSign := none }

/-- One sample of the oscillation detector (R207): whether it detects. -/
def oscStep (l : Loop) (e : Int) : Loop × Bool :=
  let k := fld l.sup 0x42 2
  let win := fld l.sup 0x40 2
  let marked := decide (fldS l.sup 0x3C 4 < (e.natAbs : Int))
  let sign := decide (0 < e)
  let change := marked && (match l.oscSign with | some p => p != sign | none => false)
  let l1 := { l with osc := (change :: l.osc).take win
                     oscSign := if marked then some sign else l.oscSign }
  if decide (k ≠ 0) && decide (k ≤ (l1.osc.filter id).length) then (l1.clearOsc, true) else (l1, false)

/-- Supervision of one sample, stale feedback held still (R209). The settle count runs at every sample: R208 asks for
the last SETTLE_SAMPLES samples and neither a detection nor the entry to a state ends them. A model that a change of its
record starts anew (R215) takes the feedback of the sample and is stepped from the next one on, as at the entry to
Serving (DESIGN CHOICE, log entry 79). -/
def supervise (l : Loop) (y e : Int) (stale : Bool) : Loop × Found :=
  let settle := if stale then l.settle
    else if (e.natAbs : Int) ≤ fldS l.sup 0x48 4 then min 65535 (l.settle + 1) else 0
  match l.state with
  | .off => (l, .nothing)
  | .serving =>
    let l := { l with settle := settle }
    let n := fld l.sup 0x24 2
    if l.plausNew then ({ plausInit l y with plausNew := false }, .nothing)
    else if n = 0 then (l, .nothing)
    else
      let x := plausStep l y
      if stale then (x.1, .nothing)
      else
        let c := if x.2 then x.1.plausCount + 1 else 0
        if c = n then ({ x.1 with plausCount := 0 }, .plaus) else ({ x.1 with plausCount := c }, .nothing)
  | _ =>
    let since := if l.fresh then 0 else l.since + 1
    let x := if stale || decide (fld l.sup 0x42 2 = 0) then (l, false) else oscStep l e
    if x.2 then ({ x.1 with since := 0, settle := settle }, .osc)
    else
      let l2 := { x.1 with since := since, settle := settle }
      if l.act = .none ∧ fld l.sup 0x40 2 ≤ since ∧ fld l.sup 0x44 2 ≤ settle then
        ({ plausInit l2 y with state := .serving, plausNew := false }, .settled)
      else (l2, .nothing)

/-- Take the action of value 0–2 (R210). -/
def Loop.takeAction (l : Loop) (a : Nat) : Loop :=
  let hold := fld l.sup 0x50 4
  match a with
  | 1 => { l with act := .hold, actLeft := hold, actTimed := decide (hold ≠ 0) }
  | 2 => { l with act := .fallback, actLeft := hold, actTimed := decide (hold ≠ 0) }
  | _ => l

/-- Value of an action in the table of R210. -/
def LoopAct.code : LoopAct → Nat
  | .none => 0
  | .hold => 1
  | .fallback => 2

/-- Candidate of a member under an action in force (R198). -/
def Loop.actionCand (l : Loop) (g : Law) (out : Int) : Int :=
  match l.act with
  | .none => out
  | .hold => l.st.outPrev
  | .fallback => clampI g.outMin g.outMax (fldS l.sup 0x4C 4)

end Sys2Proof.Machine
end

