-- ==== Sys2Proof/Machine/Loops.lean ====
section
/-!
DEFINITION. The Control Engine's commands (R166–R216): loop samples with group evaluation, set-point
orders, loop enable and disable, release of an action.
-/
namespace Sys2Proof.Machine

/-- Loop slot `n`. -/
def lp (s : State) (n : Nat) : Loop := nth default s.ctl.loops n

/-- Change loop slot `n`. -/
def upLoop (n : Nat) (f : Loop → Loop) (s : State) : State :=
  s.upCtl (fun c => { c with loops := upd c.loops n f })

/-- Change group `g`. -/
def upGroup (g : Nat) (f : Group → Group) (s : State) : State :=
  s.upCtl (fun c => { c with groups := upd c.groups g f })

/-- First sample boundary strictly after `t` on the grid of R166. -/
def boundaryAfter (law : List Byte) (t : Nat) : Nat :=
  let per := max 1 (fld law 0x22 2) * qBeat
  let ph := fld law 0x24 2 * qBeat
  if t < ph then ph else ((t - ph) / per + 1) * per + ph

/-- First sample boundary at or after `t` (R166). -/
def boundaryAt (law : List Byte) (t : Nat) : Nat :=
  if t = 0 then (if fld law 0x24 2 = 0 then 0 else boundaryAfter law 0) else boundaryAfter law (t - 1)

/-- The boundary that follows the sample at `t`: after a step, the first one at least T/2 later (R167). -/
def nextBoundary (l : Loop) (t : Nat) : Nat :=
  let law := l.law.getD []
  if l.stepped = 2 then boundaryAt law (t + max 1 (fld law 0x22 2) * qBeat / 2) else boundaryAfter law t

/-- Accession stamp of a loop's record: that of the feedback value, or the boundary where there is none
(R105, R195). -/
def Loop.accession (l : Loop) (t : Nat) : Nat := (l.fb.map (·.1)).getD t

/-- Body of KD_LOOP_STATUS (R195). -/
def loopStatusBody (n : Nat) (l : Loop) (t : Int) : List Byte :=
  let st := match l.state with | .off => 0 | .starting => 1 | .serving => 2 | .recovering => 3
  let age := match l.fb with
    | some x => sat 32 ((t - x.2) / 4000).toNat
    | none => 0xFFFFFFFF
  mkBody 64 [(0x20, 1, n), (0x21, 1, st), (0x22, 1, l.sticky), (0x23, 1, l.now), (0x24, 4, sgn 4 l.y),
    (0x28, 4, sgn 4 l.sp), (0x2C, 4, sgn 4 l.st.outPrev), (0x30, 4, sgn 4 l.ff), (0x34, 8, sgn 8 l.st.i),
    (0x3C, 4, age), (0x40, 4, l.samples % 2 ^ 32), (0x44, 2, l.superseded), (0x46, 2, l.refused),
    (0x48, 2, l.late), (0x4A, 1, l.role)]

/-- Deliver KD_LOOP_STATUS (R195). -/
def loopStatus (n t t1 : Nat) (s : State) : State :=
  let l := lp s n
  emit 0x0605 13 0x0A (if l.stepped ≠ 0 then 0x80 else 0) (l.accession t) t1 (loopStatusBody n l t) s

/-- Raise a control event of a loop, with DATA of its status record (R430). -/
def loopRaise (src n code t : Nat) (s : State) : State :=
  raiseX src n code 0 ((loopStatusBody n (lp s n) t).take 16) t t s

/-- A change of loop state: LOOP_STATE and KD_LOOP_STATUS (R211). -/
def loopStateChange (n t t1 : Nat) (s : State) : State :=
  let st := match (lp s n).state with | .off => 0 | .starting => 1 | .serving => 2 | .recovering => 3
  loopStatus n t t1 (loopRaise 76 n st t s)

/-! ## Orders -/

/-- Deliver KD_SETPOINT_TRACE (R196). -/
def spTrace (n : Nat) (o : Order) (outcome : Nat) (t : Nat) (s : State) : State :=
  emitFull 0x0607 13 0x0A 0 (some o.owner) (genAt s t) o.acc t
    (mkBody 32 [(0x20, 1, n), (0x21, 1, outcome), (0x24, 4, sgn 4 o.val), (0x28, 4, sgn 4 (lp s n).sp)])
    none s

/-- Complete the host command of an order, if a host command carries it. -/
def orderDone (o : Order) (d : Done) (s : State) : State :=
  match o.post with
  | none => s
  | some p => complete 0x0603 0x0A p o.acc d s

/-- The loop traces every order (R189). -/
def traceAll (s : State) (n : Nat) : Bool := decide (fld ((lp s n).law.getD []) 0x84 1 = 1)

/-- Refuse an order (R188). -/
def refuseOrder (n t : Nat) (o : Order) (notOwner : Bool) (s : State) : State :=
  let s1 := upLoop n (fun l => { l with refused := satAdd 16 l.refused 1 }) s
  let s2 := orderDone o (if notOwner then refusedWith 9 0 t else refusedWith 7 0x24 t) s1
  let s3 := if o.owner = 1 then s2 else raiseX 73 n 0 0 ((loopStatusBody n (lp s2 n) t).take 16) o.acc t s2
  if o.owner ≠ 1 || traceAll s n then spTrace n o (if notOwner then 2 else 3) t s3 else s3

/-- A considered order that does not win (R187). -/
def supersedeOrder (n t : Nat) (o : Order) (s : State) : State :=
  let s1 := upLoop n (fun l => { l with superseded := satAdd 16 l.superseded 1 }) s
  let s2 := orderDone o ⟨3, 0, 0, (lp s n).spCorr, 0, t⟩ s1
  if o.owner ≠ 1 || traceAll s n then spTrace n o 1 t s2 else s2

/-- An order sets the set-point in force to its value, clipped to `v` (R187, R188). -/
def putOrder (n : Nat) (o : Order) (v : Int) (s : State) : State :=
  let corr := match o.post with | some p => p.corr | none => 0
  upLoop n (fun l => { l with sp := v, spCmp := some o.cmp, spCorr := corr }) s

/-- The winner is reported (R187, R189). -/
def reportOrder (n t : Nat) (o : Order) (clipped : Bool) (s : State) : State :=
  let s2 := orderDone o (accepted (sgn 4 o.val) t) s
  if clipped then spTrace n o 4 t s2 else if traceAll s n then spTrace n o 0 t s2 else s2

/-- The latest of the orders, the last in order among equal stamps (R187). -/
def latestOrder : List Order → Option Order
  | [] => none
  | o :: r => some (r.foldl (fun a b => if a.cmp ≤ b.cmp then b else a) o)

/-- Take the orders that are due at the boundary `t` (R187, R188). Answers whether one was clipped. The set-point in
force after the boundary stands before the orders are reported (R196). A clipped order that is superseded is reported as
superseded (DESIGN CHOICE, log entry 79). -/
def takeOrders (n t : Nat) (s : State) : State × Bool :=
  let l := lp s n
  let law := l.law.getD []
  let own := fld law 0x68 2
  let lo := fldS law 0x70 4
  let hi := fldS law 0x74 4
  let due := l.orders.filter (fun o => decide (o.cmp < (t : Int)))
  let s0 := upLoop n (fun l => { l with orders := l.orders.filter (fun o => !decide (o.cmp < (t : Int))) }) s
  let cascade := fun (o : Order) => decide (0x1000 ≤ o.owner) && decide (o.owner ≤ 0x107F)
  let outside := fun (o : Order) => decide (o.val < lo) || decide (hi < o.val)
  let bad := due.filter (fun o => o.owner != own || (!cascade o && outside o))
  let good := due.filter (fun o => o.owner == own && (cascade o || !outside o))
  let refuse := fun (s : State) => bad.foldl (fun s o => refuseOrder n t o (o.owner != own) s) s
  match latestOrder good with
  | none => (refuse s0, false)
  | some w =>
    let wins := match l.spCmp with | none => true | some c => decide (c < w.cmp)
    let s2 := if wins then reportOrder n t w (outside w) (refuse (putOrder n w (clampI lo hi w.val) s0)) else refuse s0
    let losers := if wins then good.eraseIdx ((good.findIdx? (fun o => o == w)).getD 0) else good
    (losers.foldl (fun s o => supersedeOrder n t o s) s2, good.any outside)

/-! ## Going Off, starting -/

/-- Release the action in force (R210). -/
def releaseAction (n t : Nat) (s : State) : State :=
  let l := lp s n
  if l.act = .none then s
  else
    loopRaise 79 n (0x80 + l.act.code) t
      (upLoop n (fun l => { l with act := .none, actTimed := false, since := 0, settle := 0 }) s)

/-- Enter Starting at the boundary of the sample that follows (R211, R212). An action in force stays: an enable releases
it first (R210). -/
def enterStarting (n : Nat) (s : State) : State :=
  let was := (lp s n).state
  upLoop n (fun l =>
    let l := if was = .off then
        { l with sticky := 0, samples := 0, superseded := 0, refused := 0, late := 0, settle := 0 } else l
    { l.clearOsc with state := .starting, fresh := true, since := 0, plausCount := 0, shut := .no
                      changed := l.changed || decide (was ≠ .starting) }) s

/-- Go Off at the boundary `t` with OFF_MODE (R213): what is handed on, and until when the shut-down
runs. -/
def goOff (n t t1 : Nat) (mode : Nat) (s : State) : State :=
  let value := decide (mode = 1)
  let s0 := if (lp s n).changed then loopStateChange n t t1 s else s
  let s1 := upLoop n (fun l => { l.clearOsc with
    state := .off, fresh := false, changed := false, act := .none, actTimed := false, role := 0, shutAt := t
    due := if value then some (fldS l.sup 0x58 4) else none
    shut := if value then .until t1 else .no }) s0
  loopStateChange n t t1 s1

/-- The shut-down of a loop is over at `t` (R214). -/
def shutOver (l : Loop) (t : Nat) : Bool :=
  match l.shut with
  | .no => true
  | .until e => decide (e ≤ t)
  | .quench _ => false

/-- End of a shut-down in q, once known (R213). -/
def shutEnd (l : Loop) : Nat :=
  match l.shut with
  | .until e => e
  | _ => l.shutAt

/-- Carry out the commands that wait for the boundary `t` (R193, R213, R214). -/
def takeCmds : List LoopCmd → (n t t1 : Nat) → State → State
  | [], _, _, _, s => s
  | c :: r, n, t, t1, s =>
    let l := lp s n
    let keep := upLoop n (fun l => { l with cmds := l.cmds ++ [c] })
    if t ≤ c.decided then takeCmds r n t t1 (keep s)
    else
      match c.action with
      | 0 =>
        let s1 := if l.state = .off then s else goOff n t t1 (fld l.sup 0x54 1) s
        takeCmds r n t t1 (complete 0x0604 0x0A c.post c.stamp (accepted 0 t) s1)
      | 1 =>
        if l.state = .off ∧ shutOver l t = false then takeCmds r n t t1 (keep s)
        else
          -- decided while the shut-down ran: ACCEPTED_AFTER_SHUTDOWN with the wait (R214)
          let during := decide (l.state = .off) && decide (l.shutAt ≤ c.decided) && decide (c.decided < shutEnd l)
          let d : Done := if during then ⟨2, 0, 0, shutEnd l - c.decided, 0, t⟩ else accepted 0 t
          takeCmds r n t t1 (complete 0x0604 0x0A c.post c.stamp d (enterStarting n (releaseAction n t s)))
      | _ =>
        takeCmds r n t t1
          (complete 0x0604 0x0A c.post c.stamp (accepted 0 t) (upLoop n (fun l => { l with sticky := 0 }) s))

/-! ## Records in force -/

/-- A change of these fields returns a loop to Starting (R191). -/
def restartFields (a b : List Byte) : Bool :=
  decide (fieldBytes a 0x22 4 ≠ fieldBytes b 0x22 4) || decide (fieldBytes a 0x26 6 ≠ fieldBytes b 0x26 6)

/-- Take the law and supervision records of the Catalogue at a boundary (R191, R215). -/
def takeRecords (n : Nat) (s : State) : State :=
  let l := lp s n
  match (curCat s).find 0x0601 n with
  | none => s
  | some b =>
    let old := l.law.getD b
    let owner := decide (fld old 0x68 2 ≠ fld b 0x68 2)
    let s1 := upLoop n (fun l => { l with law := some b
                                          sp := if owner then fldS b 0x6C 4 else l.sp
                                          spCmp := if owner then none else l.spCmp
                                          spCorr := if owner then 0 else l.spCorr }) s
    let s2 := if restartFields old b && decide (l.state ≠ .off) then enterStarting n s1 else s1
    let sup := recBody s 0x0601 (128 + n)
    if sup = l.sup then s2
    else upLoop n (fun (l : Loop) =>
      { l.clearOsc with sup := sup, plausCount := 0, settle := 0, plausNew := decide (l.state = .serving) }) s2

/-! ## One sample -/

/-- Whether a signal names a feed-forward value and which (R175, R177): value and FF_STALE. -/
def ffValue (s : State) (law : List Byte) (off : Nat) (t : Nat) (r : Int) : Int × Bool :=
  let n := fld law off 2
  if n = 0xFFFE then (r, false)
  else if n = 0xFFFF then (0, false)
  else
    match takeAt s n t with
    | some v => if v.cmp < (t : Int) - (fld law 0x80 4 * qUs : Nat) then (0, true) else (v.val, false)
    | none => (0, true)

/-- What one member computes at `t` before the selection. -/
structure Member where
  n : Nat
  front : Front
  cand : Int
  /-- First sample of Starting (R212): the stored states before its back-calculation, whether a clamp was
  met in forming them, and its result. -/
  first : Option (LawSt × Bool × LawRes)
  stale : Bool
  ffStale : Bool
  /-- Sticky flags before the sample. -/
  sticky : Nat

/-- Feedback of a loop at `t`: value, stamps and staleness (R173, R174). -/
def feedback (s : State) (law : List Byte) (t : Nat) : Int × Option (Nat × Int) × Bool :=
  match takeAt s (fld law 0x2A 2) t with
  | some v =>
    let a := fld law 0x7C 4
    let age := if a = 0 then fld law 0x22 2 * qBeat else a * qUs
    (v.val, some (v.stamp, v.cmp), decide (v.cmp < (t : Int) - age))
  | none => (0, none, true)

/-- Present value of the destination for R212. -/
def startValue (s : State) (n : Nat) (gid : Option Nat) : Int :=
  let l := lp s n
  let law := l.law.getD []
  let own := if l.everOut then l.st.outPrev else 0
  match gid with
  | some g =>
    let gr := nth default s.ctl.groups g
    if gr.winner.isSome then gr.out else own
  | none => (destPresent s (fld law 0x27 1) (fld law 0x28 2) (fld law 0x78 4)).getD own

/-- Sampling, supervision and the law of one member up to its candidate (R177, R198, R206–R210).
A member that goes Off here gives none. -/
def sampleMember (n t t1 : Nat) (gid : Option Nat) (s : State) : State × Option Member :=
  let l := lp s n
  let law := l.law.getD []
  let g := lawOf law
  let fbk := feedback s law t
  let y := fbk.1
  let f0 := ffValue s law 0x2C t l.sp
  let f1 := ffValue s law 0x2E t l.sp
  let v0 := startValue s n gid
  let init := lawInit g y l.sp f0.1 f1.1 v0
  let front := if l.fresh then init.1 else lawFront g l.st y l.sp f0.1 f1.1
  let x := supervise { l with y := y, fb := fbk.2.1, ff := front.ff } y front.e fbk.2.2
  let s1 := upLoop n (fun _ => x.1) s
  let act := match x.2 with
    | .plaus => fld l.sup 0x22 1
    | .osc => fld l.sup 0x23 1
    | _ => 0
  let s2 := match x.2 with
    | .nothing => s1
    | .settled => upLoop n (fun l => { l with changed := true }) s1
    | .plaus =>
      let s1 := loopRaise 77 n 0 t (upLoop n (fun l => { l with sticky := l.sticky ||| 8 }) s1)
      if act = 3 then loopRaise 79 n 3 t s1
      else upLoop n (fun l => { l.clearOsc with state := .recovering, since := 0, changed := true }) s1
    | .osc =>
      let s1 := loopRaise 78 n 0 t (upLoop n (fun l => { l with sticky := l.sticky ||| 4 }) s1)
      if act = 3 then loopRaise 79 n 3 t s1 else s1
  if act = 3 ∧ x.2 ≠ .nothing ∧ x.2 ≠ .settled then
    (goOff n t t1 (fld l.sup 0x54 1) s2, none)
  else
    let s3 := if act = 0 then s2 else loopRaise 79 n act t (upLoop n (fun l => l.takeAction act) s2)
    let l3 := lp s3 n
    let out := if l.fresh then init.2.out else (lawCand g l.st front).out
    let i := initStates g front v0
    (s3, some ⟨n, front, l3.actionCand g out, if l.fresh then some (i.1, i.2, init.2) else none, fbk.2.2,
      f0.2 || f1.2, l.sticky⟩)

/-- The result of a member once the winner is known (R198). -/
def memberRes (l : Loop) (m : Member) (won : Bool) (g : Int) : LawRes :=
  let law := lawOf (l.law.getD [])
  if l.act ≠ .none then
    let x := match m.first with | some (i, clamped, _) => (i, clamped) | none => (l.st, false)
    let r := backcalc law x.1 m.front m.cand
    { r with out := m.cand, sum := r.sum || x.2, st := { r.st with outPrev := m.cand } }
  else
    match m.first with
    | some (i, clamped, r0) =>
      if !won && law.clampMode then
        let r := backcalc law i m.front g
        { r with sum := r.sum || clamped }
      else r0
    | none =>
      if won then windup law l.st m.front
      else if law.clampMode then backcalc law l.st m.front g
      else freeRun law l.st m.front

/-- Store a member's sample, publish its output and set-point, report it (R171, R180, R195, R211): one record, whichever
of the occasions of R195 the sample has. -/
def finishMember (m : Member) (t t1 : Nat) (gid : Option Nat) (won : Bool) (g : Int) (clipped : Bool)
    (s : State) : State :=
  let n := m.n
  let l := lp s n
  let r := memberRes l m won g
  let cur := flags [(7, r.sum), (6, r.satInt), (5, r.satOut), (4, m.stale), (3, m.ffStale),
    (2, clipped), (1, r.held), (0, l.destRefused)]
  let newSat := decide ((cur &&& 0xE0) &&& (0xE0 - (l.sticky &&& 0xE0)) ≠ 0)
  let newSticky := decide ((l.sticky ||| (cur &&& 0xF0)) &&& (0xFC - (m.sticky &&& 0xFC)) ≠ 0)
  let staleRise := m.stale && !(l.now.testBit 4)
  let refRise := l.destRefused && !(l.now.testBit 0)
  let role := match gid with | none => 0 | some _ => if won then 1 else 2
  let samples := (l.samples + 1) % 2 ^ 32
  let s1 := upLoop n (fun l => { l with
    st := r.st, everOut := true, sticky := l.sticky ||| (cur &&& 0xF0), now := cur, role := role
    samples := samples, fresh := false, changed := false
    actLeft := l.actLeft - 1
    due := if gid.isNone then some r.out else none }) s
  let s2 := publish (3200 + n) t1 l.sp (publish (3072 + n) t1 r.out s1)
  let s3 := if staleRise then loopRaise 70 n 0 t s2 else s2
  let s4 := if newSat then loopRaise 71 n 0 t s3 else s3
  let s5 := if refRise then loopRaise 72 n 0 t s4 else s4
  let div := fld (l.law.getD []) 0x6A 2
  if l.changed then loopStateChange n t t1 s5
  else if newSticky || (decide (div ≠ 0) && decide (samples % div = 0)) then loopStatus n t t1 s5 else s5

/-- The member with the lowest candidate, the lowest loop number on ties (R198). -/
def lowestCand : List Member → Option Member
  | [] => none
  | m :: r => some (r.foldl (fun a b => if b.cand < a.cand then b else a) m)

/-- Body of KD_GROUP_WINNER (R205). -/
def groupBody (s : State) (gid : Nat) (ms : List Member) (win : Option Member) (prev : Option Nat) :
    List Byte :=
  let gr := nth default s.ctl.groups gid
  let rest := match win with | some w => ms.filter (fun m => m.n != w.n) | none => []
  let ru := lowestCand rest
  let out := match win with | some w => w.cand | none => 0
  let held := match win with | some w => decide ((lp s w.n).act ≠ .none) | none => false
  let tie := match win with | some w => rest.any (fun m => m.cand == w.cand) | none => false
  let num := fun (o : Option Nat) => o.getD 0xFF
  let margin : Int := match win, ru with
    | some w, some r => clampI (-(2 ^ 31)) (2 ^ 31 - 1) (r.cand - w.cand)
    | _, _ => 0x7FFFFFFF
  mkBody 32 [(0x20, 1, gid), (0x21, 1, num (win.map (·.n))), (0x22, 1, num prev), (0x23, 1, ms.length),
    (0x24, 4, sgn 4 out), (0x28, 1, num (ru.map (·.n))),
    (0x29, 1, flags [(7, tie), (6, win.isNone), (5, gr.destRefused), (4, win.map (·.n) != prev), (3, held)]),
    (0x2C, 4, sgn 4 margin), (0x30, 4, gr.sinceChange), (0x34, 4, gr.changes)]

/-- The latest feedback stamp that a member took, or the boundary (R105, R205). -/
def lastFeedback (s : State) (ms : List Member) (t : Nat) : Nat :=
  let l := ms.filterMap (fun m => (lp s m.n).fb)
  match l with
  | [] => t
  | x :: r => (r.foldl (fun a b => if a.2 < b.2 then b else a) x).1

/-- Record the winner of an evaluation and report it (R202, R203). -/
def finishGroup (gid t t1 : Nat) (ms : List Member) (win : Option Member) (fbStamp : Nat) (stepped : Bool)
    (s : State) : State :=
  let gr := nth default s.ctl.groups gid
  let prev := gr.winner
  let changed := win.map (·.n) != prev
  let div := fld gr.recd 0x22 2
  let first := !gr.ever
  let evals := gr.evals + 1
  let s1 := upGroup gid (fun gr => { gr with
    ever := true, winner := win.map (·.n), evals := evals
    sinceChange := if changed then 0 else satAdd 32 gr.sinceChange 1
    changes := if changed then add32 gr.changes 1 else gr.changes
    out := match win with | some w => w.cand | none => gr.out
    due := match win with
      | some w =>
        let law := (lp s w.n).law.getD []
        some ⟨t1, fld law 0x27 1, fld law 0x28 2, fld law 0x78 4, w.cand⟩
      | none => gr.due
    tookPart := win.isSome }) s
  let s2 := match win with
    | some w => publish (3328 + gid) t1 w.cand (issue (.winner gid w.n) s1)
    | none => s1
  let body := groupBody s2 gid ms win prev
  let s3 := if changed then raiseX 74 gid ((win.map (·.n)).getD 0xFF) 0 (body.take 16) t t s2 else s2
  let s4 := if win.isNone && gr.tookPart then raiseX 75 gid 0 0 (body.take 16) t t s3 else s3
  let s5 := if changed || first || (decide (div ≠ 0) && decide (evals % div = 0)) then
      emit 0x0606 13 0x0A (if stepped then 0x80 else 0) fbStamp t1 body s4
    else s4
  upGroup gid (fun gr => { gr with destRefused := false }) s5

/-- A value of loop `n` takes effect at its destination (R184, R213). Where the OFF_VALUE of a loop that went Off has
switched a valve channel off, the shut-down runs to the end of the quench. -/
def handTo (n : Nat) (o : Owed) (s : State) : State :=
  let s1 := destHand n o.type o.index o.scale o.val o.at_ s
  if decide ((lp s n).state = .off) && decide (o.type = 1) && decide (o.val ≤ 0) && (vch s1 o.index).quenching then
    upLoop n (fun l => { l with shut := .quench o.index }) s1
  else s1

/-- What a loop's law record makes of a value handed on for the instant `t` (R181). -/
def Loop.owes (l : Loop) (t : Nat) (v : Int) : Owed :=
  let law := l.law.getD []
  ⟨t, fld law 0x27 1, fld law 0x28 2, fld law 0x78 4, v⟩

/-- The value that a loop handed on by itself takes effect (R184, R213). -/
def handOwn (n t : Nat) (s : State) : State :=
  let l := lp s n
  match l.due with
  | none => s
  | some v => handTo n (l.owes t v) (upLoop n (fun l => { l with due := none }) s)

/-- The value in force at a boundary enters a loop's history (R206). -/
def noteEff (n : Nat) (v : Option Int) (s : State) : State :=
  upLoop n (fun l => { l with eff := (v.getD l.inForce :: l.eff).take 1024 }) s

/-- The output handed on at the last sample takes effect (R184): a loop of its own. -/
def applyDue (n t : Nat) (s : State) : State :=
  if (lp s n).applied = some t then s else handOwn n t (noteEff n (lp s n).due s)

/-- The group output takes effect; every member's history takes the value (R184, R206). A member's own value
is one that it handed on before it joined the group, or its OFF_VALUE (R213). -/
def applyGroupDue (gid : Nat) (members : List Nat) (t : Nat) (s : State) : State :=
  let gr := nth default s.ctl.groups gid
  if gr.applied = some t then s else
  let own := members.foldl (fun (o : Option Int) n => (lp s n).due.or o) none
  let s0 := members.foldl (fun s n => noteEff n ((gr.due.map (·.val)).or own) s) s
  let s1 := members.foldl (fun s n => handOwn n t s) s0
  match gr.due with
  | none => s1
  | some o =>
    destHand (gr.winner.getD (members.headD 0)) o.type o.index o.scale o.val t
      (upGroup gid (fun gr => { gr with due := none }) s1)

/-- The orders for a loop in CAN frames of the open batch reach it (R172, R187). -/
def canOrders (n : Nat) (s : State) : State :=
  let mine := s.can.orders.filter (fun o => o.loop == n)
  (upLoop n (fun l => { l with orders := l.orders ++ mine.map (fun o => ⟨o.owner, o.val, o.stamp, o.cmp, none⟩) })
    s).upCan (fun v => { v with orders := v.orders.filter (fun o => o.loop != n) })

/-- Records, commands and orders of one slot at the boundary `t`. Answers whether an order was clipped. -/
def slotBefore (n t t1 : Nat) (s : State) : State × Bool :=
  let s1 := takeRecords n s
  let cmds := (lp s1 n).cmds
  let s2 := takeCmds cmds n t t1 (upLoop n (fun l => { l with cmds := [] }) s1)
  takeOrders n t (canOrders n s2)

/-- Move the grid of a slot on (R166, R167); a slot that was not sampled publishes its set-point in force too (R171). -/
def slotAfter (n t t1 : Nat) (s : State) : State :=
  let l := lp s n
  let s1 := if l.state = .off ∨ l.fresh then publish (3200 + n) t1 l.sp s else s
  upLoop n (fun l => { l with
    next := t1, last := some t, prev := l.last, stepped := l.stepped - 1, destRefused := false }) s1

/-- Where a member took part in the evaluation, the group's output governs: no OFF_VALUE is handed on (R213). -/
def groupGoverns (members : List Nat) (s : State) : State :=
  members.foldl (fun s n => if (lp s n).state = .off then upLoop n (fun l => { l with due := none }) s else s) s

/-- A sample of the slots `members` at `t`, as one group or as a loop of its own (R177, R198). -/
def sampleSlots (members : List Nat) (gid : Option Nat) (t t1 : Nat) (s : State) : State :=
  let s0 := match gid with
    | some g => applyGroupDue g members t (upGroup g (fun gr => { gr with recd := recBody s 0x0602 g }) s)
    | none => members.foldl (fun s n => applyDue n t s) s
  let step1 := fun (x : State × List Nat) (n : Nat) =>
    let y := slotBefore n t t1 x.1
    (y.1, if y.2 then n :: x.2 else x.2)
  let a := members.foldl step1 (s0, [])
  let stepped := members.any (fun n => decide ((lp a.1 n).stepped ≠ 0))
  let step2 := fun (x : State × List Member) (n : Nat) =>
    if (lp x.1 n).state = .off then x
    else
      let y := sampleMember n t t1 gid x.1
      match y.2 with
      | some m => (y.1, x.2 ++ [m])
      | none => (y.1, x.2)
  let b := members.foldl step2 (a.1, [])
  let win := lowestCand b.2
  let g := (win.map (·.cand)).getD 0
  let c := b.2.foldl (fun s m =>
    finishMember m t t1 gid (some m.n == win.map (·.n)) g (a.2.contains m.n) s) b.1
  let d := match gid with
    | some k =>
      let c1 := if b.2.isEmpty then c else groupGoverns members c
      finishGroup k t t1 b.2 win (lastFeedback c1 b.2 t) stepped c1
    | none => c
  members.foldl (fun s n => slotAfter n t t1 s) d

/-- A boundary of slots that wait for the grid of the group that they have joined: what they handed on takes effect, and
their records, commands and orders are taken. -/
def waitSlots (members : List Nat) (t t1 : Nat) (s : State) : State :=
  members.foldl (fun s n => slotAfter n t t1 (slotBefore n t t1 (applyDue n t s)).1) s

/-- The members of a group that have a sample boundary at `t`. -/
def membersAt (s : State) (g t : Nat) : List Nat :=
  (membersOf (recBody s 0x0602 g)).filter (fun m => (lp s m).law.isSome && decide ((lp s m).next = t))

/-- The members of a group share one grid (R197): a boundary is one of it unless it is only one of a grid that some slot
leaves (DESIGN CHOICE, log entry 14). -/
def evaluates (s : State) (n g t : Nat) : Bool :=
  let ms := (membersOf (recBody s 0x0602 g)).filter (fun m => (lp s m).law.isSome)
  let law := ((curCat s).find 0x0601 n).or (lp s n).law
  decide (membersAt s g t = ms) || decide (boundaryAt (law.getD []) t = t)

/-! ## The valve requests of one boundary (R223) -/

/-- The valve channel at which a value acts. -/
def Owed.channel (o : Owed) : Option Nat := if o.type = 1 ∨ o.type = 2 then some o.index else none

/-- The channel at which what slot `n` has handed on by itself acts at `t`. -/
def ownChannel (s : State) (n t : Nat) : Option Nat :=
  let l := lp s n
  if decide (l.next = t) && l.law.isSome then l.due.bind (fun v => (l.owes t v).channel) else none

/-- The channel at which what a group has handed on acts at `t`. -/
def groupChannel (s : State) (g t : Nat) : Option Nat :=
  (nth default s.ctl.groups g).due.bind (fun o => if o.at_ = t then o.channel else none)

/-- What slot `n` has handed on for channel `c` takes effect at `t`: a value that outlived its grid, its own, or its
group's. -/
def slotToChannel (c t n : Nat) (s : State) : State :=
  let s := match (lp s n).owed with
    | some o =>
      if o.at_ = t ∧ o.channel = some c then handTo n o (upLoop n (fun l => { l with owed := none }) s) else s
    | none => s
  let group := (groupOf s n).bind (fun g => if decide ((lp s n).next = t) && evaluates s n g t then some g else none)
  match group with
  | some g =>
    if ownChannel s n t = some c ∨ groupChannel s g t = some c then
      upGroup g (fun gr => { gr with applied := some t }) (applyGroupDue g (membersAt s g t) t s)
    else s
  | none =>
    if ownChannel s n t = some c then upLoop n (fun l => { l with applied := some t }) (applyDue n t s) else s

/-- Slot `n` has a value that takes effect at a valve channel at `t`. -/
def toValve (s : State) (t n : Nat) : Bool :=
  ((lp s n).owed.bind (fun o => if o.at_ = t then o.channel else none)).isSome || (ownChannel s n t).isSome
    || ((groupOf s n).bind (fun g => groupChannel s g t)).isSome

/-- The valve requests that take effect at the boundary `t`, in ascending channel number (R223): those of the host and
the values of loops. -/
def decideValves (t : Nat) (s : State) : State :=
  let due := s.valve.host.filter (fun h => h.start == t)
  let s1 := s.upValve (fun v => { v with host := v.host.filter (fun h => h.start != t) })
  let slots := (List.range 128).filter (toValve s t)
  (List.range 24).foldl (fun s c => slots.foldl (fun s n => slotToChannel c t n s) (decideChannel t c due s)) s1

/-- A slot that has handed a value to a valve channel for `t` takes part in the decision of that boundary (R223). -/
def decideAround (n t : Nat) (s : State) : State :=
  if toValve s t n then decideValves t s else s

/-- The sample boundary of loop `n` at `t`, a member's with the evaluation of its group (R197, R198). A slot whose
boundary is only one of the grid that it leaves takes its records there (log entry 14). -/
def sampleAt (n t : Nat) (s : State) : State :=
  let s := decideAround n t s
  let l := lp s n
  let law := ((curCat s).find 0x0601 n).or l.law
  let t1 := nextBoundary { l with law := law } t
  match groupOf s n with
  | none => sampleSlots [n] none t t1 s
  | some g =>
    if evaluates s n g t then sampleSlots (membersAt s g t) (some g) t t1 s
    else waitSlots (membersAt s g t) t t1 s

/-- The slot owes a value that takes effect before its next sample, or that has none to come. -/
def Loop.owesFirst (l : Loop) : Option Owed :=
  match l.owed with
  | some o => if l.law.isNone || decide (o.at_ ≤ l.next) then some o else none
  | none => none

/-- LOOP_SAMPLE (R177, R184, R198): the next sample boundary of loop `n`. A slot without a law record has no grid (R168);
what such a slot had handed on takes effect at the boundary of the grid that it had (R184, R213). -/
def execLoopSample (n : Fin 128) (s : State) : Host.Outcome State Fault Refusal :=
  let l := lp s n
  let s0 := match l.owesFirst with
    | some o => handTo n o (upLoop n (fun l => { l with owed := none }) (reach o.at_ s))
    | none => s
  let only := match l.owesFirst with | some o => decide (o.at_ ≠ l.next) | none => false
  match l.law with
  | none => .next s0
  | some _ => if only then .next s0 else .next (sampleAt n l.next (reach l.next s0))

/-- ACTION_HOLD_EXPIRY (R210): the samples of the action of loop `n` have passed. -/
def execActionHoldExpiry (n : Fin 128) (s : State) : Host.Outcome State Fault Refusal :=
  let l := lp s n
  .next (if l.actTimed && decide (l.actLeft = 0) then releaseAction n s.now.ft s else s)

/-! ## Commands of the host -/

/-- Layout of KD_SETPOINT (R192). -/
def scSetpoint : RecSchema := ⟨[32], [fu 0x20 1 0 127 0, fq 0x24 0], fun _ => []⟩

/-- Layout of KD_LOOP_ENABLE (R193). -/
def scLoopEnable : RecSchema := ⟨[32], [fu 0x20 1 0 127 0, fu 0x21 1 0 2 0], fun _ => []⟩

/-- KD_SETPOINT (R192): an order of the host, considered from its accession stamp on at the loop's sample
boundaries; a refusal without a sample grid is decided 200 µs after the stamp. -/
def execKdSetpoint (dt : Nat) (p : Post) (s : State) : Host.Outcome State Fault Refusal :=
  let at_ := fun c => if (lp s (fld p.body 0x20 1)).law.isNone || keyoff s then decideAt c else c
  .next (command dt 0x0603 0x0A p scSetpoint true at_ (fun u s =>
    let n := fld p.body 0x20 1
    if (lp s n).law.isNone then u.refuse 8 0 s
    else upLoop n (fun l => { l with orders := l.orders ++ [⟨1, fldS p.body 0x24 4, u.acc, u.cmp, some p⟩] }) s) s)

/-- Queue a KD_LOOP_ENABLE for the next sample boundary (R193). -/
def queueLoopCmd (action : Nat) (u : Sub) (s : State) : State :=
  upLoop (fld u.post.body 0x20 1)
    (fun l => { l with cmds := l.cmds ++ [⟨action, u.post, u.acc, u.bound⟩] }) s

/-- KD_LOOP_ENABLE, ACTION 0 (R213): to a loop already Off it is accepted and has no effect. A loop without a
law record has no sample boundary to wait for (R168). -/
def execLoopDisable (dt : Nat) (p : Post) (s : State) : Host.Outcome State Fault Refusal :=
  .next (command dt 0x0604 0x0A p scLoopEnable true decideAt (fun u s =>
    if (lp s (fld p.body 0x20 1)).law.isNone then u.accept 0 s
    else queueLoopCmd 0 u s) s)

/-- KD_LOOP_ENABLE, ACTION 1 (R193, R214). -/
def execLoopEnable (dt : Nat) (p : Post) (s : State) : Host.Outcome State Fault Refusal :=
  .next (command dt 0x0604 0x0A p scLoopEnable true decideAt (fun u s =>
    let n := fld p.body 0x20 1
    match (curCat s).find 0x0601 n with
    | none => u.refuse 8 0 s
    | some b => if fld b 0x2A 2 = 0xFFFF then u.refuse 8 0 s else queueLoopCmd 1 u s) s)

/-- KD_LOOP_ENABLE, ACTION 2 (R193): the sticky flags clear at the next sample boundary. -/
def execLoopClearSticky (dt : Nat) (p : Post) (s : State) : Host.Outcome State Fault Refusal :=
  .next (command dt 0x0604 0x0A p scLoopEnable true decideAt (fun u s =>
    if ((curCat s).find 0x0601 (fld p.body 0x20 1)).isNone then u.refuse 8 0 s
    else queueLoopCmd 2 u s) s)

end Sys2Proof.Machine
end

