-- ==== Sys2Proof/Machine/PassOps.lean ====
section
/-!
DEFINITION. The Crop Passage Engine's parts: header, speed and pose (R120–R123), Slices (R118–R124),
hops and kernels (R125–R130), attribution (R145–R155), density and preview (R157–R160).
-/
namespace Sys2Proof.Machine

/-- Code of the Crop Passage Engine (R99). -/
def unitPass : Nat := 9

/-- A chain field. -/
def chainCfg (s : State) (off size : Nat) : Nat := cfg s 0x0501 0 off size
/-- STAGE_COUNT in force. -/
def stageCount (s : State) : Nat := chainCfg s 0x21 1
/-- A hop field. -/
def hopCfg (s : State) (n off size : Nat) : Nat := cfg s 0x0501 n off size
/-- A field of the crop record of a crop (R162). -/
def cropCfg (s : State) (crop off size : Nat) : Nat := cfg s 0x0502 crop off size

/-- The latest value before an instant. -/
def valueBefore (l : List Sample) (t : Int) : Option Sample := l.find? (fun x => decide (x.cmp < t))
/-- The values in a window (R35), oldest first. -/
def valuesIn (l : List Sample) (a b : Int) : List Sample :=
  (l.filter (fun x => decide (a ≤ x.cmp) && decide (x.cmp < b))).reverse

/-! ## The header (R121) -/

/-- A stretch of a window on which the header's state is constant. -/
structure Seg where
  t0 : Int
  t1 : Int
  cut : Bool
  width : Nat
  mask : Nat
  down : Bool

/-- What the header signals hold. -/
structure Lev where
  down : Option Bool
  sw : Int
  sec : Option Int

/-- A height value moves the header state (R121). -/
def hdrStep (c : List Byte) (mm : F64) (d : Option Bool) : Option Bool :=
  if F64.le mm (F64.ofNat (fld c 0x2A 2)) then some true
  else match d with
    | none => some false
    | some x => if F64.le (F64.ofNat (fld c 0x2C 2)) mm then some false else some x

/-- Height in mm of a word of the height signal (R142). -/
def heightMm (s : State) (c : List Byte) (w : Int) : F64 :=
  F64.div (F64.mul (engOf s (fld c 0x24 2) w) (F64.ofNat (fld c 0x30 4))) (F64.ofInt 1000)

/-- Widths of the sections of a chain record. -/
def sectionWidths (c : List Byte) : List Nat := (List.range (fld c 0x22 1)).map (fun i => fld c (0x40 + 2 * i) 2)

/-- The state of the header with its signals at a level (R121; log entry 49 for signals without a
value). -/
def segAt (s : State) (c : List Byte) (l : Lev) (t0 t1 : Int) : Seg :=
  let full := 2 ^ fld c 0x22 1 - 1
  let none_ := fun (off : Nat) => decide (fld c off 2 = 0xFFFF)
  let down := none_ 0x24 || (l.down.getD false)
  let sw := none_ 0x26 || decide (l.sw ≠ 0)
  let mask := if none_ 0x28 then full
    else match l.sec with
      | some w => (F64.rint (engOf s (fld c 0x28 2) w)).toNat &&& full
      | none => 0
  let width := ((sectionWidths c).zipIdx.filterMap (fun x => if mask.testBit x.2 then some x.1 else none)).sum
  ⟨t0, t1, down && sw && decide (mask ≠ 0), width, mask, down⟩

/-- A value of header signal `i` (0 height, 1 switch, 2 sections). -/
def Lev.take (s : State) (c : List Byte) (l : Lev) (i : Nat) (v : Int) : Lev :=
  match i with
  | 0 => { l with down := hdrStep c (heightMm s c v) l.down }
  | 1 => { l with sw := v }
  | _ => { l with sec := some v }

/-- The header signals at the instant `a`, the header state `d0` before: where there is none yet, every value since
power-up has moved it (R121). -/
def levelsAt (s : State) (c : List Byte) (d0 : Option Bool) (a : Int) : Lev :=
  [fld c 0x24 2, fld c 0x26 2, fld c 0x28 2].zipIdx.foldl (fun l x =>
    if x.1 = 0xFFFF then l
    else if x.2 = 0 ∧ d0 = none then
      ((histAll s x.1).filter (fun v => decide (v.cmp < a))).reverse.foldl (fun l v => l.take s c 0 v.val) l
    else match valueBefore (histAll s x.1) a with
      | some v => l.take s c x.2 v.val
      | none => l) ⟨d0, 0, none⟩

/-- The stretches of a window [a, b), and the header state after it. -/
def levels (s : State) (c : List Byte) (d0 : Option Bool) (a b : Int) : List Seg × Option Bool :=
  let sigs := [fld c 0x24 2, fld c 0x26 2, fld c 0x28 2]
  let start := levelsAt s c d0 a
  let evs := sigs.zipIdx.flatMap (fun x =>
    if x.1 = 0xFFFF then [] else (valuesIn (histAll s x.1) a b).map (fun v => (v.cmp, x.2, v.val)))
  let r := (sortBy (fun (x y : Int × Nat × Int) => decide (x.1 ≤ y.1)) evs).foldl
    (fun (acc : List Seg × Lev × Int) e =>
      let segs := if acc.2.2 < e.1 then segAt s c acc.2.1 acc.2.2 e.1 :: acc.1 else acc.1
      (segs, acc.2.1.take s c e.2.1 e.2.2, max acc.2.2 e.1)) ([], start, a)
  ((segAt s c r.2.1 r.2.2 b :: r.1).reverse, r.2.1.down)

/-! ## Speed and pose (R120, R123) -/

/-- A stretch on which v(t) is linear. -/
structure VPiece where
  t0 : Int
  t1 : Int
  v0 : F64
  v1 : F64
  noSpeed : Bool

/-- Header-centre forward speed of an output, mm/s (R120). -/
def headerSpeed (c : List Byte) (o : FOut) : F64 :=
  F64.sub (F64.ofRat o.est.fwd 1000)
    (F64.mul (F64.ofRat o.est.yawRate 1000000000) (F64.ofInt (fldS c 0x36 2)))

/-- Seconds of a count of quanta. -/
def secs (q : Int) : F64 := F64.ofRat q 4000000000

/-- v(t) over a window: linear between two valid outputs, held beyond the latest one, and under R123
without a valid velocity (log entry 49). `outs` stands newest first. -/
def vPieces (c : List Byte) (outs : List FOut) (a b : Int) : List VPiece :=
  let at_ := fun (t : Int) => outs.find? (fun o => decide (o.cmp ≤ t))
  let valid := fun (t : Int) => outs.find? (fun o => decide (o.cmp ≤ t) && o.validVel)
  let inner := (outs.flatMap (fun (o : FOut) => ([o.cmp, o.cmp + 2 * qSec] : List Int))).filter (fun t => decide (a < t) && decide (t < b))
  let pts := (sortBy (fun (x y : Int) => decide (x ≤ y)) (a :: b :: inner)).eraseDups
  (pts.zip (pts.drop 1)).map (fun w =>
    match at_ w.1 with
    | none => ⟨w.1, w.2, F64.zero, F64.zero, true⟩
    | some o =>
      if !o.validVel then
        match valid w.1 with
        | some l =>
          let v := if w.1 < l.cmp + 2 * qSec then headerSpeed c l else F64.zero
          ⟨w.1, w.2, v, v, true⟩
        | none => ⟨w.1, w.2, F64.zero, F64.zero, true⟩
      else
        let v0 := headerSpeed c o
        match outs.reverse.find? (fun x => decide (o.cmp < x.cmp)) with
        | some n =>
          if n.validVel then
            let k := F64.div (F64.sub (headerSpeed c n) v0) (F64.ofInt (n.cmp - o.cmp))
            let v := fun (t : Int) => F64.add v0 (F64.mul k (F64.ofInt (t - o.cmp)))
            ⟨w.1, w.2, v w.1, v w.2, false⟩
          else ⟨w.1, w.2, v0, v0, false⟩
        | none => ⟨w.1, w.2, v0, v0, false⟩)

/-- Integral of max(v, 0) over a linear stretch of `q` quanta, mm (R122). -/
def posInt (va vb : F64) (q : Int) : F64 :=
  let dt := secs q
  let half := F64.ofRat 1 2
  let na := F64.lt va F64.zero
  let nb := F64.lt vb F64.zero
  if !na && !nb then F64.mul (F64.mul (F64.add va vb) half) dt
  else if na && nb then F64.zero
  else
    let z := F64.div va (F64.sub va vb)
    if nb then F64.mul (F64.mul (F64.mul va half) z) dt
    else F64.mul (F64.mul (F64.mul vb half) (F64.sub F64.one z)) dt

/-- Integral of max(v, 0) over [t0, t1). -/
def vIntegral (ps : List VPiece) (t0 t1 : Int) : F64 :=
  F64.sum (ps.map (fun p =>
    let lo := max p.t0 t0
    let hi := min p.t1 t1
    if hi ≤ lo then F64.zero
    else
      let k := F64.div (F64.sub p.v1 p.v0) (F64.ofInt (p.t1 - p.t0))
      let v := fun (t : Int) => F64.add p.v0 (F64.mul k (F64.ofInt (t - p.t0)))
      posInt (v lo) (v hi) (hi - lo)))

/-- The header centre at an instant (R120): position in 10^-7 degree, heading in 2^-16 turn, the output
used. -/
def headerPose (c : List Byte) (outs : List FOut) (t : Int) : Option (Int × Int × Nat × FOut) :=
  match outs.find? (fun o => decide (o.cmp ≤ t)) with
  | none => none
  | some o =>
    let dt := secs (t - o.cmp)
    let h := F64.add (turnRad o.est.heading 32) (F64.mul (F64.ofRat o.est.yawRate 1000000000) dt)
    let x := F64.ofInt (fldS c 0x34 2)
    let y := F64.ofInt (fldS c 0x36 2)
    let sn := F64.sin h
    let cs := F64.cos h
    let e := F64.add (F64.mul (F64.ofRat o.est.velE 1000) dt) (F64.add (F64.mul x sn) (F64.mul y cs))
    let n := F64.add (F64.mul (F64.ofRat o.est.velN 1000) dt) (F64.sub (F64.mul x cs) (F64.mul y sn))
    let p := displace o.est.lat o.est.lon e n
    let hd := F64.rint (F64.div (F64.mul h (F64.ofInt 32768)) piF)
    some (p.1, p.2, (hd % 65536).toNat, o)

/-! ## Taps and Slices -/

/-- What one tap interval gives (R122, R145). -/
structure TapCalc where
  a : F64
  sections : Nat
  reverse : Bool
  noSpeed : Bool
  last : Seg
  vEnd : F64
  down : Option Bool

/-- Evaluate a tap interval. -/
def tapCalc (s : State) (c : List Byte) (d0 : Option Bool) (a b : Int) : TapCalc :=
  let lv := levels s c d0 a b
  let ps := vPieces c s.fus.outs a b
  let stop := F64.neg (F64.ofNat (fld c 0x2E 2))
  let area := F64.sum (lv.1.map (fun g => if g.cut then F64.mul (F64.ofNat g.width) (vIntegral ps g.t0 g.t1) else F64.zero))
  { a := area
    sections := lv.1.foldl (fun m g => if g.cut && decide (g.t0 < g.t1) then m ||| g.mask else m) 0
    reverse := ps.any (fun p => F64.le (F64.min p.v0 p.v1) stop)
    noSpeed := ps.any (·.noSpeed)
    last := lv.1.getLastD (segAt s c ⟨d0, 0, none⟩ a b)
    vEnd := match ps.getLast? with | some p => p.v1 | none => F64.zero
    down := lv.2 }

/-- The header-centre odometer x(t) (R157): the integral of max(v, 0) goes on from `odoAt`, with v held beyond the
latest output. -/
def odoTo (s : State) (t : Int) : F64 :=
  let p := s.pas
  F64.add p.odo (vIntegral (vPieces p.chain s.fus.outs p.odoAt t) p.odoAt t)

/-- At the tap instant `t` the odometer is settled up to the latest output: v is linear between outputs (R120). -/
def odoSettle (t : Int) (s : State) : State :=
  match s.fus.outs.find? (fun o => decide (o.cmp ≤ t)) with
  | some o =>
    if s.pas.odoAt < o.cmp then s.upPas (fun p => { p with odo := odoTo s o.cmp, odoAt := o.cmp }) else s
  | none => s

/-- Latest stamp of the header and fusion inputs before an instant (R124). -/
def headerIn (s : State) (c : List Byte) (t : Int) : Nat :=
  let sigs := [fld c 0x24 2, fld c 0x26 2, fld c 0x28 2]
  let a := sigs.foldl (fun m n =>
    if n = 0xFFFF then m
    else match valueBefore (histAll s n) t with | some v => max m v.stamp | none => m) 0
  match s.fus.outs.find? (fun o => decide (o.cmp < t)) with
  | some o => max a o.cmp.toNat
  | none => a

/-- KD_SLICE of a finalised Slice (R124). -/
def sliceBody (sl : Slice) (height : Nat) (fl : Nat) (us : Nat) : List Byte :=
  mkBody 32 [(0x20, 4, sl.idx), (0x24, 4, sgn 4 sl.lat), (0x28, 4, sgn 4 sl.lon), (0x2C, 2, sl.heading),
    (0x2E, 2, sl.sections), (0x30, 4, sat 32 sl.area), (0x34, 2, sat 16 sl.width), (0x36, 2, height),
    (0x38, 2, sgn 2 sl.speed), (0x3A, 1, sl.crop), (0x3B, 1, fl), (0x3C, 4, sat 32 us)]

/-- Change the newest Slice. -/
def upHead (f : Slice → Slice) (s : State) : State :=
  s.upPas (fun p => { p with slices := match p.slices with | [] => [] | x :: r => f x :: r })

/-- Raise PASSAGE_STATE and enter a passage state (R137). -/
def setPass (st : PassState) (s : State) : State :=
  raise 64 0xFFFF (match st with | .empty => 0 | .cutting => 1 | .runout => 2)
    (s.upPas (fun p => { p with state := st }))

/-- Body of KD_PASSAGE_STATUS (R144) in the passage state `st`, with what is in force since the last tap instant. -/
def passBody (st : PassState) (s : State) : List Byte :=
  let p := s.pas
  let n := p.stages
  let used := fun (k : Nat) => decide (0 < k) && decide (k < n)
  let dead := fun (k : Nat) =>
    if used k then match p.kernels[k - 1]? with
      | some x => sat 32 (F64.rint x.deadUs).toNat
      | none => 0 else 0
  let hop := fun (k : Nat) =>
    let h := nth (Hop.reset k) p.hops (k - 1)
    let trunc := used k && (match p.kernels[k - 1]? with | some x => x.truncated | none => false)
    leBytes 4 (F64.rint h.aUs).toNat ++ leBytes 4 (F64.rint h.tauUs).toNat
      ++ leBytes 2 (sat 16 (F64.rint h.v).toNat)
      ++ leBytes 1 (flags [(7, h.stalled), (6, h.speedStale), (5, trunc), (4, h.aAtBound), (3, h.tauAtBound)])
      ++ leBytes 1 h.lastConf
  let stale := (List.range 7).any (fun i => used (i + 1) && (nth (Hop.reset 1) p.hops i).speedStale)
  let b := mkBody 160 [(0x20, 1, match st with | .empty => 0 | .cutting => 1 | .runout => 2), (0x21, 1, n),
    (0x22, 1, p.crop), (0x23, 1, flags [(7, p.inFlight), (6, stale)]), (0x24, 4, sub32 p.nextIdx 1),
    (0x28, 8, if p.everCut then p.e else 0)]
  putBytes (putBytes b 0x30 ((List.range 8).flatMap (fun k => leBytes 4 (dead k)))) 0x50
    ((List.range 7).flatMap (fun i => hop (i + 1)))

/-- Deliver KD_PASSAGE_STATUS in the passage state `st` (R144). -/
def passStatus (st : PassState) (t : Nat) (s : State) : State := emit 0x0506 11 unitPass 0 t t (passBody st s) s

/-- The open Slice ends at the tap instant `t` with number `n` (R118, R122, R124, R137): its areas are
taken again, now that v between the outputs of its window is known. -/
def finaliseSlice (t n : Nat) (stepNow : Bool) (s : State) : State :=
  match s.pas.slices with
  | [] => s
  | sl :: older =>
    let c := s.pas.chain
    let run := sl.taps.reverse.foldl (fun (acc : List (Tap × TapCalc) × Option Bool) x =>
      let k := tapCalc s c acc.2 x.t0 x.t1
      ((({ x with a := k.a } : Tap), k) :: acc.1, k.down)) ([], sl.down0)
    let area := (F64.rint (F64.sum (run.1.reverse.map (fun x => x.1.a)))).toNat
    let any := fun (f : TapCalc → Bool) => run.1.any (fun x => f x.2)
    let last := run.1.head?.map (·.2)
    let start : Int := match sl.taps.getLast? with | some x => x.t0 | none => s.pas.tapAt
    let pose := headerPose c s.fus.outs start
    let ok := match pose with | some x => x.2.2.2.validPose | none => false
    let v := match last with | some k => clampI (-32768) 32767 (F64.rint k.vEnd) | none => 0
    let down := match last with | some k => k.last.down | none => true
    let sl1 : Slice := { sl with
      endTap := n, finalised := true, taps := run.1.map (·.1), area := area, cut := decide (0 < area)
      lat := match pose with | some x => if ok then x.1 else -(2 ^ 31) | none => -(2 ^ 31)
      lon := match pose with | some x => if ok then x.2.1 else -(2 ^ 31) | none => -(2 ^ 31)
      heading := match pose with | some x => x.2.2.1 | none => 0
      noPose := !ok, poseDegraded := match pose with | some x => x.2.2.2.degraded | none => false
      sections := run.1.foldl (fun m x => m ||| x.2.sections) 0
      width := match last with | some k => k.last.width | none => 0
      speed := v, stepped := sl.stepped || stepNow, durUs := (t - sl.s) / qUs }
    let fl := flags [(7, sl1.cut), (6, !down), (5, decide (v.natAbs < fld c 0x2E 2)), (4, any (·.reverse)), (3, !ok),
      (2, sl1.poseDegraded), (1, any (·.noSpeed)), (0, sl.boundary)]
    let hs := fld c 0x24 2
    let height := if hs = 0xFFFF then 0xFFFF
      else match valueBefore (histAll s hs) (match sl.taps.head? with | some x => x.t1 | none => t) with
        | some x => sat 16 (F64.rint (heightMm s c x.val)).toNat
        | none => 0
    let d := fld c 0x23 1
    let s1 := s.upPas (fun p => { p with slices := sl1 :: older, nextIdx := add32 sl.idx 1 })
    let acc := headerIn s c (match sl.taps.head? with | some x => x.t1 | none => t)
    let s2 := if decide (d ≠ 0) && decide (sl.idx % max 1 d = 0) then
        emit 0x0503 11 unitPass (if sl1.stepped then 0x80 else 0) (if acc = 0 then t else acc) sl.s
          (sliceBody sl1 height fl sl1.durUs) s1
      else s1
    let s3 : State := match sl.change with
      | some (p, st) => complete 0x0508 unitPass p st (accepted sl.idx sl.s) s2
      | none => s2
    let s4 := if sl.boundary then raise 68 0xFFFF 0 s3 else s3
    if sl1.cut then
      let s5 := s4.upPas (fun p => { p with e := t, eTap := n, everCut := true })
      if s4.pas.state = .cutting then s5 else setPass .cutting s5
    else if s4.pas.state = .cutting then
      setPass .runout (s4.upPas (fun p => { p with e := sl.s }))
    else s4

/-- A new Slice opens at the tap instant `t` with number `n` (R118, R140–R142). -/
def openSlice (t n : Nat) (s : State) : State :=
  let p := s.pas
  let c := recBody s 0x0501 0
  let due := match p.change with | some x => decide (x.at_ ≤ t ∧ x.after ≤ t) | none => false
  let chg := if due then p.change else none
  let crop := match chg with | some x => x.crop | none => p.crop
  let isNew := decide (crop ≠ p.crop)
  let sl : Slice := { Slice.fresh p.nextIdx t crop (genAt s t) with
    down0 := p.headerDown, epoch := s.time.epoch, boundary := isNew, change := chg.map (fun x => (x.post, x.stamp))
    secW := sectionWidths c }
  s.upPas (fun p => { p with
    slices := (sl :: p.slices).take 16385, chain := c, crop := crop, sliceNext := nextMul qSlice t
    change := if due then none else p.change
    inFlight := p.inFlight || isNew, oldEndTap := if isNew then n else p.oldEndTap
    hops := if isNew then p.hops.map (fun h => { h with sawCrop := true }) else p.hops })

/-! ## Hops and kernels (R125–R129) -/

/-- Speed of hop `n` at a tap instant (R127): its value in mm/s, SPEED_STALE, and the stamp of the latest value that it
is formed from, 0 for none. -/
def hopSpeed (s : State) (n : Nat) (t : Int) : F64 × Bool × Nat :=
  let sg := hopCfg s n 0x22 2
  let nom := F64.ofNat (hopCfg s n 0x28 2)
  if sg = 0xFFFF then (nom, false, 0)
  else
    let h := histAll s sg
    if (valuesIn h (t - 500 * qMs) t).isEmpty then (nom, true, 0)
    else
      let w := valuesIn h (t - (hopCfg s n 0x2C 2 * qMs : Nat)) t
      let xs := if w.isEmpty then (valueBefore h t).toList else w
      let mean := F64.div (F64.sum (xs.map (fun x => engOf s sg x.val))) (F64.ofNat xs.length)
      (F64.div (F64.mul mean (F64.ofNat (hopCfg s n 0x24 4))) (F64.ofInt 1000), false,
        match xs.getLast? with | some x => x.stamp | none => 0)

/-- First-order lag over the taps (R128). -/
def lagGo (alpha : F64) : F64 → List F64 → List F64
  | _, [] => []
  | y, x :: r =>
    let y := F64.add y (F64.mul alpha (F64.sub x y))
    y :: lagGo alpha y r

/-- Give the difference from 2^30 to the largest weight, the lowest tap on ties (R128). -/
def balance (w : List Nat) : List Nat :=
  let top := w.foldl max 0
  let d : Int := 2 ^ 30 - (w.sum : Nat)
  updFirst (fun x => x == top) (fun x => ((x : Int) + d).toNat) w

/-- The kernel of the Stage after hops with these dead times and lags, in µs (R128, R129). -/
def kernelOf (hops : List (F64 × F64)) : List Nat × F64 × Bool :=
  let dd := hops.foldl (fun a h => F64.add a h.1) F64.zero
  let p := F64.div dd (F64.ofInt 10000)
  let far := F64.le (F64.ofInt 4095) p
  let n := if far then 4095 else (F64.trunc p).toNat
  let f := if far then F64.zero else F64.sub p (F64.ofNat n)
  let x0 := (List.range 4096).map (fun j =>
    if j = n then F64.sub F64.one f else if j = n + 1 then f else F64.zero)
  let x := hops.foldl (fun x h =>
    if h.2.m = 0 then x
    else lagGo (F64.sub F64.one (F64.expNeg (F64.div (F64.ofInt (-10000)) h.2))) F64.zero x) x0
  let mass := F64.sum x
  let w := x.map (fun v => (F64.rint (F64.mul (F64.div v mass) (F64.ofInt 1073741824))).toNat)
  (balance w, dd, F64.lt mass (F64.ofRat 99 100) || decide (n = 4095))

/-- The running values of hop `n` as they stand: the posted ones where a commit or restore has reset them (R135). -/
def running (s : State) (n : Nat) (h : Hop) : F64 × F64 :=
  if h.revert then (F64.ofNat (hopCfg s n 0x30 4), F64.ofNat (hopCfg s n 0x3C 4)) else (h.aUs, h.tauUs)

/-- The running values of hop `n` go to the posted ones where a commit or restore has reset them (R135, R142). -/
def hopPosted (s : State) (n : Nat) (h : Hop) : Hop :=
  if h.revert then
    { h with aUs := (running s n h).1, tauUs := (running s n h).2, revert := false, aAtBound := false, tauAtBound := false }
  else h

/-- The speeds of H1–H7 as signals 2177–2183 (R170), on the scale of 10 000 mm/s. DESIGN CHOICE (log entry 78): they
carry the stamp of the preview signals of the same tap instant, 2 ms after it. -/
def publishSpeeds (t : Nat) (s : State) : State :=
  s.pas.hops.zipIdx.foldl (fun s x => publish (2177 + x.2) (t + 2 * qMs) (word30 (F64.div x.1.v (F64.ofInt 10000))) s) s

/-- Rebuild every kernel at a tap instant (R127–R129): HOP_STALLED and KERNEL_TRUNCATED are raised on
entry. -/
def rebuildKernels (t : Int) (s : State) : State :=
  let count := stageCount s
  let hops := s.pas.hops.zipIdx.map (fun x =>
    let n := x.2 + 1
    let v := hopSpeed s n t
    let stalled := F64.lt v.1 (F64.ofNat (hopCfg s n 0x2A 2))
    ({ hopPosted s n x.1 with v := v.1, stalled := stalled, speedStale := v.2.1, vIn := v.2.2 } : Hop))
  let dl := hops.zipIdx.map (fun x =>
    let n := x.2 + 1
    let veff := F64.max x.1.v (F64.ofNat (hopCfg s n 0x2A 2))
    (F64.add x.1.aUs (F64.div (F64.mul (F64.ofInt 1000000) (F64.ofNat (hopCfg s n 0x2E 2))) veff), x.1.tauUs))
  let ks := (List.range (count - 1)).map (fun i =>
    let k := kernelOf (dl.take (i + 1))
    let hs := hops.take (i + 1)
    ({ w := k.1, deadUs := k.2.1, truncated := k.2.2, stalled := hs.any (·.stalled)
       speedStale := hs.any (·.speedStale) } : Kernel))
  let trunc := (List.range 7).map (fun i => match ks[i]? with | some k => k.truncated | none => false)
  let s1 := s.upPas (fun p => { p with hops := hops, stages := count, kernels := ks, wasTrunc := trunc })
  (List.range 7).foldl (fun (s2 : State) i =>
    let was := nth (Hop.reset 1) s.pas.hops i
    let now := nth (Hop.reset 1) hops i
    let a := if decide (i + 1 < count) && now.stalled && !was.stalled then raise 65 (i + 1) 0 s2 else s2
    if nth false trunc i && !nth false s.pas.wasTrunc i then raise 67 (i + 1) 0 a else a) s1

/-- The tail of a kernel from tap `m` is below 2^20 (R137, R152). -/
def tailBelow (w : List Nat) (m : Nat) : Bool := decide ((w.drop m).sum < 2 ^ 20)

/-- The emptiness test of R137 for crop that ended at a tap number. -/
def emptyTest (p : Passage) (endTap n : Nat) : Bool :=
  let m := n - endTap + 1
  decide (4095 < m) || (match p.kernels.getLast? with | some k => tailBelow k.w m | none => true)

/-! ## Density (R157) -/

/-- The density of a crop in g/m² where none is measured (R157), marked DEFAULT. -/
def densityDefault (s : State) : F64 × Bool × Nat := (F64.ofNat (cropCfg s s.pas.crop 0x2E 2), true, 0)

/-- Density ahead as it enters the queue: g/m², DEFAULT, and the stamp of the signal's value. -/
def densityNow (s : State) (t : Int) : F64 × Bool × Nat :=
  let sg := cfg s 0x0502 80 0x22 2
  let dflt := densityDefault s
  if sg = 0xFFFF then dflt
  else match valueBefore (histAll s sg) t with
    | none => dflt
    | some v =>
      if v.cmp < t - 500 * qMs then dflt
      else (F64.div (F64.mul (engOf s sg v.val) (F64.ofNat (cropCfg s s.pas.crop 0x30 4))) (F64.ofInt 1000), false, v.stamp)

/-- The density at a position (R157): that of the entry with the largest position at or below it. -/
def densityAt (s : State) (x : F64) : F64 × Bool × Nat :=
  let best := s.pas.dens.foldl (fun (m : Option Dens) d =>
    if F64.le d.pos x then
      match m with
      | some y => if F64.lt y.pos d.pos then some d else m
      | none => some d
    else m) none
  match best with
  | some d => (d.rho, d.dflt, d.stamp)
  | none => densityDefault s

/-! ## Attribution (R145–R155) -/

/-- A channel that is enabled and not idle (R146, R147), with its number. -/
def channels (s : State) : List (Nat × List Byte) :=
  ((List.range 16).map (fun i => (i, recBody s 0x0502 (64 + i)))).filter (fun c =>
    decide (fld c.2 0x21 1 ≠ 0) && decide (fld c.2 0x22 1 < stageCount s))

/-- The tap value of a channel for [a, b) (R146, R151). -/
structure TapVal where
  /-- One value, or eight class fractions for TYPE 4; none for a QUALITY interval without a value. -/
  v : Option (List F64)
  stale : Bool
  stamp : Nat

/-- Integral over [a, b) of a signal held from its stamps, in engineering units × s (R118, R146). -/
def heldIntegral (s : State) (sg : Nat) (l : List Sample) (a b : Int) : F64 :=
  let pts := (valueBefore l a).toList.map (fun x => (a, x.val)) ++ (valuesIn l a b).map (fun x => (x.cmp, x.val))
  let ends := (pts.drop 1).map (·.1) ++ [b]
  F64.sum ((pts.zip ends).map (fun x => F64.mul (engOf s sg x.1.2) (secs (x.2 - x.1.1))))

/-- The tap value of a channel (R146, R151). -/
def tapValue (s : State) (c : List Byte) (a b : Int) : TapVal :=
  let ty := fld c 0x21 1
  let src := fld c 0x24 2
  let fac := F64.ofNat (fld c 0x28 4)
  let age := (fld c 0x2C 2 * qMs : Nat)
  if ty = 4 then
    let fs := s.pas.frames.filter (fun f => f.pipe == src && decide (f.cmp < b))
    let stale := match fs.head? with | some f => decide (f.cmp < b - age) | none => true
    let inW := fs.filter (fun f => decide (a ≤ f.cmp))
    let mean := (List.range 8).map (fun k =>
      F64.div (F64.sum (inW.map (fun f => F64.ofNat (nth 0 f.fracs k)))) (F64.ofNat inW.length))
    let stamp := match fs.head? with | some f => f.stamp | none => 0
    if stale then ⟨some (List.replicate 8 F64.zero), true, stamp⟩
    else if inW.isEmpty then ⟨none, false, stamp⟩
    else ⟨some mean, false, stamp⟩
  else
    let l := histAll s src
    let last := valueBefore l b
    let stale := match last with | some x => decide (x.cmp < b - age) | none => true
    let stamp := match last with | some x => x.stamp | none => 0
    let v := match ty with
      | 1 => F64.max (F64.mul (heldIntegral s src l a b) fac) F64.zero
      | 2 => F64.div (F64.mul (F64.div (heldIntegral s src l a b) (secs (b - a))) fac) (F64.ofInt 1000000)
      | _ =>
        let n := match last, valueBefore l a with
          | some x, some y => ((x.val - y.val) % 2 ^ 32).toNat
          | _, _ => 0
        F64.mul (F64.ofNat n) fac
    ⟨some [if stale then F64.zero else v], stale, stamp⟩

/-- Taps of the timeline, newest first, with their Slice's index and whether it has settled. -/
def tapsFlat (p : Passage) : List (Nat × Bool × Tap) :=
  p.slices.flatMap (fun sl => sl.taps.map (fun x => (sl.idx, sl.settled, x)))

/-- The weights g[j] of R149 that are not 0, with their Slices, in ascending j. -/
def weights (p : Passage) (w : List Nat) : List (Nat × F64) :=
  ((tapsFlat p).zip w).filterMap (fun x =>
    if x.1.2.1 || x.2 == 0 || decide (x.1.2.2.a.m = 0) then none
    else some (x.1.1, F64.mul (F64.ofNat x.2) x.1.2.2.a))

/-- A share of an extensive value is added (R149, R150). -/
def Acc.add (a : Acc) (x : F64) : Acc := { a with sum := F64.add a.sum x }

/-- A weighted value is added (R149). -/
def Acc.take (a : Acc) (g v : F64) : Acc :=
  let om := F64.div g (F64.ofInt 1073741824)
  { a with wsum := F64.add a.wsum om, vsum := F64.add a.vsum (F64.mul om v) }

/-- Change what a channel has gathered under a TYPE and class, by ascending channel and class. -/
def putAcc (ch ty cls : Nat) (f : Acc → Acc) (l : List Acc) : List Acc :=
  let same := fun (a : Acc) => a.ch == ch && a.ty == ty && a.cls == cls
  if l.any same then updFirst same f l
  else insertSorted (fun a b => decide (a.ch < b.ch) || (a.ch == b.ch && decide (a.cls ≤ b.cls)))
    (f ⟨ch, ty, cls, F64.zero, F64.zero, F64.zero⟩) l

/-- One tap value of channel `ch` is spread over a Slice, share by share (R149–R151): `gs` are the Slice's weights in
the order of R149, `map` the classes of a QUALITY channel. -/
def Slice.share (s : State) (ch ty map : Nat) (k : Kernel) (tv : TapVal) (vs gs : List F64) (wAll : F64) (sl : Slice) :
    Slice :=
  let v := vs.headD F64.zero
  let conv := fun (fac : Nat) (a : Acc) => gs.foldl (fun a g => a.add
    (F64.div (F64.mul (F64.mul v (F64.div g wAll)) (F64.ofNat fac)) (F64.ofInt 1000000))) a
  let sl1 : Slice := match ty with
    | 1 => { sl with accs := putAcc ch 1 0 (conv (cropCfg s sl.crop 0x24 4)) sl.accs }
    | 3 => { sl with accs := putAcc ch 3 0 (conv (cropCfg s sl.crop 0x28 4)) sl.accs }
    | 2 =>
      let off := F64.ofInt (cfgS s 0x0502 sl.crop 0x2C 2)
      { sl with accs := putAcc ch 2 0 (fun a => gs.foldl (fun a g => a.take g (F64.add v off)) a) sl.accs }
    | _ => { sl with accs := (List.range 8).foldl (fun l c =>
        if map.testBit c then putAcc ch 4 c (fun a => gs.foldl (fun a g => a.take g (nth F64.zero vs c)) a) l else l) sl.accs }
  { sl1 with
    samples := sl.samples + 1, stalled := sl.stalled || k.stalled, truncated := sl.truncated || k.truncated
    speedStale := sl.speedStale || k.speedStale, stale := sl.stale || tv.stale
    genMixed := sl.genMixed || (decide (ty ≠ 4) && decide ((curCat s).gen ≠ sl.gen)), lastIn := max sl.lastIn tv.stamp
    stepped := sl.stepped || (match s.pas.stepTap with
      | some n => (match sl.taps.getLast? with | some x => decide (x.num < n) | none => false)
      | none => false) }

/-- An orphan tap value (R154): it opens the accumulation, and counts in it. -/
def orphanTake (t : Nat) (ty : Nat) (tv : TapVal) (v : F64) (s : State) : State :=
  let p := s.pas
  let pose := headerPose p.chain s.fus.outs t
  let pos := match pose with
    | some x => if x.2.2.2.validPose then (x.1, x.2.1) else (-(2 ^ 31), -(2 ^ 31))
    | none => (-(2 ^ 31), -(2 ^ 31))
  let gen := (curCat s).gen
  let o : Orphan := match p.orphan with
    | some o => o
    | none => { openAt := t, openEl := s.now.el, lat := pos.1, lon := pos.2, gen := gen, stale := false
                genMixed := false, gotMass := false, mass := F64.zero, loss := F64.zero, samples := 0, lastIn := 0 }
  let conv := fun (off : Nat) => F64.div (F64.mul v (F64.ofNat (cropCfg s p.crop off 4))) (F64.ofInt 1000000)
  let o1 : Orphan := { o with
    samples := o.samples + 1, stale := o.stale || tv.stale, lastIn := max o.lastIn tv.stamp
    genMixed := o.genMixed || (decide (ty = 1 ∨ ty = 3) && decide (gen ≠ o.gen))
    gotMass := o.gotMass || decide (ty = 1)
    mass := if ty = 1 then F64.add o.mass (conv 0x24) else o.mass
    loss := if ty = 3 then F64.add o.loss (conv 0x28) else o.loss }
  s.upPas (fun p => { p with orphan := some o1 })

/-- Attribute one channel's tap value for [a, b) with the kernels built at its start (R149–R151). -/
def attributeTap (kernels : List Kernel) (t : Nat) (a b : Int) (ch : Nat) (c : List Byte) (s : State) : State :=
  let ty := fld c 0x21 1
  let tv := tapValue s c a b
  match tv.v, kernels[fld c 0x22 1 - 1]? with
  | some vs, some k =>
    let gs := weights s.pas k.w
    let wAll := F64.sum (gs.map (·.2))
    if wAll.m = 0 then orphanTake t ty tv (vs.headD F64.zero) s
    else
      s.upPas (fun p => { p with slices := p.slices.map (fun sl =>
        let mine := (gs.filter (fun g => g.1 == sl.idx)).map (·.2)
        if mine.isEmpty then sl else sl.share s ch ty (fld c 0x26 1) k tv vs mine wAll) })
  | _, _ => s

/-- What KD_ATTRIBUTED reports of a Slice or of the orphan accumulation (R153), as the map engine takes
it (R250). -/
structure AttrRec where
  idx : Nat
  crop : Nat
  fl : Nat
  wet : Nat
  loss : Nat
  moist : Nat
  qValid : Nat
  quality : List Nat
  orphan : Bool
  stepped : Bool
  speed : Int
  slice : Option Slice

/-- µg to mg, rounded and saturating (R153). -/
def mgOf (x : F64) : Nat := sat 32 (F64.rint (F64.div x (F64.ofInt 1000))).toNat

/-- What the channels of a TYPE have given a Slice: the shares of extensive channels add (R146). -/
def Slice.total (sl : Slice) (ty : Nat) : F64 := F64.sum ((sl.accs.filter (fun a => a.ty == ty)).map (·.sum))

/-- The intensive channels of a TYPE form one weighted mean (R146), here rounded; none without weight. -/
def Slice.mean (sl : Slice) (ty cls : Nat) : Option Nat :=
  let l := sl.accs.filter (fun a => a.ty == ty && a.cls == cls)
  let w := F64.sum (l.map (·.wsum))
  if w.m = 0 then none else some (F64.rint (F64.div (F64.sum (l.map (·.vsum))) w)).toNat

/-- The record of a settled Slice (R152, R153). -/
def sliceAttr (massOn forced : Bool) (sl : Slice) : AttrRec :=
  { idx := sl.idx, crop := sl.crop
    fl := flags [(7, sl.genMixed), (6, sl.stalled), (5, sl.truncated), (4, sl.stale), (3, forced),
      (1, massOn && !sl.accs.any (fun a => a.ty == 1)), (0, sl.speedStale)]
    wet := mgOf (sl.total 1), loss := mgOf (sl.total 3)
    moist := match sl.mean 2 0 with | some m => min m 0xFFFE | none => 0xFFFF
    qValid := flags ((List.range 8).map (fun c => (c, (sl.mean 4 c).isSome)))
    quality := (List.range 8).map (fun c => sat 16 ((sl.mean 4 c).getD 0))
    orphan := false, stepped := sl.stepped, speed := sl.speed, slice := some sl }

/-- Body of KD_ATTRIBUTED (R153). -/
def attrBody (r : AttrRec) (samples area : Nat) (lat lon : Int) (heading sections width : Nat) (t : Nat) : List Byte :=
  putBytes (mkBody 64 [(0x20, 4, r.idx), (0x24, 1, r.crop), (0x25, 1, r.fl), (0x26, 2, sat 16 samples),
    (0x28, 4, sat 32 area), (0x2C, 4, r.wet), (0x30, 2, r.moist), (0x32, 1, r.qValid), (0x34, 4, r.loss),
    (0x48, 4, sgn 4 lat), (0x4C, 4, sgn 4 lon), (0x50, 2, heading), (0x52, 2, sections), (0x54, 2, sat 16 width),
    (0x56, 2, sgn 2 r.speed), (0x58, 8, t)]) 0x38 (r.quality.flatMap (leBytes 2))

/-- Deliver the record of a Slice. -/
def deliverAttr (t : Nat) (part : Bool) (r : AttrRec) (s : State) : State :=
  match r.slice with
  | none => s
  | some sl =>
    emitFull 0x0504 11 unitPass (flags [(7, r.stepped), (3, part)]) none sl.gen (if sl.lastIn = 0 then t else sl.lastIn) sl.s
      (attrBody r sl.samples sl.area sl.lat sl.lon sl.heading sl.sections sl.width t) none s

/-- A MASS_FLOW channel is non-idle (R153). -/
def massOn (s : State) : Bool := (channels s).any (fun c => decide (fld c.2 0x21 1 = 1))

/-- Settle Slices at the tap instant with number `n` (R152): the records in ascending SLICE_INDEX. -/
def settle (t n : Nat) (s : State) : State × List AttrRec :=
  let cs := channels s
  let k := if cs.isEmpty then stageCount s - 1 else (cs.map (fun c => fld c.2 0x22 1)).foldl max 0
  let w := match s.pas.kernels[k - 1]? with | some x => x.w | none => []
  let due := fun (sl : Slice) => sl.finalised && !sl.settled && tailBelow w (n - sl.endTap + 1)
  let recs := (s.pas.slices.reverse.filter (fun sl => due sl && sl.cut)).map (fun sl =>
    sliceAttr (massOn s) (decide (4095 < n - sl.endTap + 1)) sl)
  let s1 := s.upPas (fun p => { p with slices := p.slices.map (fun sl =>
    if due sl then { sl with settled := true } else sl) })
  (recs.foldl (fun s r => deliverAttr t false r s) s1, recs)

/-- Close the orphan accumulation (R154). -/
def closeOrphan (t : Nat) (part : Bool) (s : State) : State × List AttrRec :=
  match s.pas.orphan with
  | none => (s, [])
  | some o =>
    let stepped := match s.pas.stepTap with
      | some n => decide (s.pas.tapNum < n + 4096)
      | none => false
    let r : AttrRec :=
      { idx := 0xFFFFFFFF, crop := s.pas.crop
        fl := flags [(7, o.genMixed), (4, o.stale), (2, true), (1, massOn s && !o.gotMass)]
        wet := mgOf o.mass, loss := mgOf o.loss, moist := 0xFFFF, qValid := 0, quality := List.replicate 8 0
        orphan := true, stepped := stepped, speed := 0, slice := none }
    let acc := if o.lastIn = 0 then t else o.lastIn
    let s1 := emitFull 0x0504 11 unitPass (flags [(7, stepped), (3, part)]) none (genAt s o.openAt) acc o.openAt
      (attrBody r o.samples 0 o.lat o.lon 0 0 0 t) none (s.upPas (fun p => { p with orphan := none }))
    (if 1000000 ≤ r.wet + r.loss then raise 69 0xFFFF 0 s1 else s1, [r])

/-! ## Preview (R158–R160) -/

/-- What the preview of a Stage gives (R158): P and PAST over the horizon, whether a DEFAULT density was used, and the
latest stamp of the densities used. -/
structure PreviewOut where
  vals : List (F64 × F64)
  dflt : Bool
  stamp : Nat

/-- A kernel has a weight that is not 0 among the taps [lo, hi). -/
def weighs (w : List Nat) (lo hi : Nat) : Bool := ((w.drop lo).take (hi - lo)).any (· != 0)

/-- The inflow of a Stage over the horizon (R158): crop already cut, and crop still ahead where the header cuts. -/
def previewOf (s : State) (k : Kernel) (cut : Bool) (w : Nat) (v : F64) (t : Int) (steps : Nat) : PreviewOut :=
  let million := F64.ofInt 1000000
  let taps := (tapsFlat s.pas).take 4096
  let past := taps.map (fun x => F64.div (F64.mul x.2.2.a x.2.2.rho) million)
  let vp := F64.max v F64.zero
  let base := F64.div (F64.mul (F64.mul (F64.ofNat w) vp) (F64.ofRat 1 100)) million
  let x := odoTo s t
  let fut := (List.range steps).map (fun (i : Nat) =>
    if cut then
      let d := densityAt s (F64.add x (F64.mul vp (F64.add (F64.ofRat (i : Nat) 100) (F64.ofRat 5 1000))))
      (F64.mul base d.1, d.2)
    else (F64.zero, false, 0))
  let unit := F64.mul (F64.ofInt 1073741824) (F64.ofRat 1 100)
  let one := fun (h : Nat) =>
    let qs := ((fut.take (h + 1)).map (fun q => (q.1, false))).reverse ++ past.map (fun q => (q, true))
    let r := (k.w.zip qs).foldl (fun (acc : F64 × F64) x =>
      let y := F64.mul (F64.ofNat x.1) x.2.1
      (F64.add acc.1 y, if x.2.2 then F64.add acc.2 y else acc.2)) (F64.zero, F64.zero)
    (F64.div r.1 unit, if F64.lt F64.zero r.1 then F64.div r.2 r.1 else F64.one)
  -- the step h takes the density i steps ahead by w[h − i], and that of the tap i back by w[h + 1 + i]
  let ahead := (fut.zipIdx.filter (fun y => weighs k.w 0 (steps - y.2))).map (·.1.2)
  let back := ((taps.zipIdx.filter (fun y => decide (y.1.2.2.a.m ≠ 0) && weighs k.w (y.2 + 1) (y.2 + 1 + steps))).map
    (fun y => (y.1.2.2.rhoDefault, y.1.2.2.rhoIn)))
  let used := ahead ++ back
  { vals := (List.range steps).map one, dflt := used.any (·.1), stamp := used.foldl (fun m y => max m y.2) 0 }

/-- Preview of every Stage of STAGE_MASK at the tap instant `t` (R158–R160): signals with the stamp
t + 2 ms, and KD_PREVIEW. -/
def preview (t n : Nat) (last : Seg) (v : F64) (s : State) : State :=
  let r := recBody s 0x0502 80
  let steps := fld r 0x28 2
  let scale := fld r 0x2C 4
  let dms := fld r 0x2A 2
  (List.range 8).foldl (fun (s : State) k =>
    if !(fld r 0x21 1).testBit k || decide (k = 0) || decide (stageCount s ≤ k) then s
    else match s.pas.kernels[k - 1]? with
      | none => s
      | some ker =>
        let x := previewOf s ker last.cut last.width v t steps
        let at_ := fun (h : Nat) => nth (F64.zero, F64.one) x.vals h
        let s1 := (List.range 8).foldl (fun (s : State) l =>
          let lead := fld r (0x30 + 2 * l) 2
          if lead = 0xFFFF then s
          else publish (3840 + 8 * k + l) (t + 2 * qMs) (word30 (F64.div (at_ (lead / 10)).1 (F64.ofNat scale))) s) s
        if dms = 0 ∨ t % (max 1 dms * qMs) ≠ 0 then s1
        else
          let lead0 := fld r 0x30 2
          let pf := if lead0 = 0xFFFF then 65535
            else (F64.rint (F64.mul (at_ (lead0 / 10)).2 (F64.ofInt 65535))).toNat
          let vals := x.vals.map (fun y => sat 16 (F64.rint (F64.div (F64.mul y.1 (F64.ofInt 65535)) (F64.ofNat scale))).toNat)
          let reach := (ker.w.zipIdx.filter (fun y => decide (y.1 ≠ 0))).foldl (fun m y => max m y.2) 0
          let fl := flags [(7, x.dflt), (6, decide (n < s.pas.firstTap + reach)), (5, ker.stalled), (4, ker.truncated), (3, !last.cut)]
          let stepped := match s.pas.stepTap with | some m => decide (n < m + 4096) | none => false
          let acc := (s.pas.hops.take k).foldl (fun m h => max m h.vIn) (max s.pas.lastIn x.stamp)
          emit 0x0507 12 unitPass (if stepped then 0x80 else 0) (if acc = 0 then t else acc) t
            (putBytes (mkBody (16 + 2 * steps) [(0x20, 1, k), (0x21, 1, fl), (0x22, 2, steps), (0x24, 4, scale),
              (0x28, 2, pf)]) 0x30 (vals.flatMap (leBytes 2))) s1) s

end Sys2Proof.Machine
end

