-- ==== Sys2Proof/Machine/MapOps.lean ====
section
/-!
DEFINITION. The Yield Map Engine's parts: the grid and the footprint (R247–R252), placing (R253–R257),
cache and archive (R258–R261), field commands, tiles and summaries (R262–R267).
-/
namespace Sys2Proof.Machine

/-! ## Cache and archive -/

/-- Archived tiles in all (R259). -/
def MapU.stored (m : MapU) : Nat := (m.archive.map (fun a => a.tiles.length)).sum

/-- A tile is at (tx, ty). -/
def MapTile.isAt (t : MapTile) (x : Int × Int) : Bool := t.tx == x.1 && t.ty == x.2

/-- The archived field of an identifier. -/
def MapU.arch (m : MapU) (id : Nat) : Option ArchField := m.archive.find? (fun a => a.geom.id == id)

/-- Write a tile of the open field to the archive; none where there is no free tile (R259, R261). -/
def MapU.write (m : MapU) (t : MapTile) : Option MapU :=
  match m.field with
  | none => none
  | some f =>
    let old := match m.arch f.geom.id with | some a => a.tiles | none => []
    let has := old.any (fun x => x.isAt (t.tx, t.ty))
    if !has && decide (22865 ≤ m.stored) then none
    else
      let t1 : MapTile := { t with dirty := false, writes := satAdd 32 t.writes 1, crcOk := true }
      let tiles := fun (l : List MapTile) =>
        if has then l.map (fun x => if x.isAt (t.tx, t.ty) then t1 else x) else l ++ [t1]
      let up := fun (a : ArchField) => { a with sums := f.sums, tiles := tiles a.tiles }
      some { m with archive := m.archive.map (fun a => if a.geom.id = f.geom.id then up a else a)
                    cache := m.cache.map (fun x => if x.isAt (t.tx, t.ty) then t1 else x) }

/-- A cached tile cannot leave: it is dirty and cannot be written (R261). -/
def MapU.stuck (m : MapU) (t : MapTile) : Bool := t.dirty && (m.write t).isNone

/-- The least recently touched tile that can leave goes (R258), none of the tiles `keep` that the record itself needs;
`full` once one could not (R261). -/
def MapU.evict (m : MapU) (keep : List (Int × Int)) : Option MapU :=
  let l := m.cache.reverse.filter (fun t => !keep.any t.isAt)
  let m1 := { m with full := m.full || l.head?.any m.stuck }
  l.findSome? (fun t =>
    let drop := fun (m : MapU) => { m with cache := m.cache.filter (fun x => !x.isAt (t.tx, t.ty)) }
    if t.dirty then (m1.write t).map drop else some (drop m1))

/-- The zero tile at a place (R249). -/
def MapTile.zero (x : Int × Int) : MapTile := ⟨x.1, x.2, [], 0, 0, false, true⟩

/-- What a stored unit reads as (R266): a zero tile where its CRC fails. -/
def MapTile.read (t : MapTile) : MapTile := if t.crcOk then t else MapTile.zero (t.tx, t.ty)

/-- Units of the archive go bad (R266). -/
def MapU.corrupt (bad : List MapUnit) (m : MapU) : MapU :=
  { m with archive := m.archive.map (fun a => { a with tiles := a.tiles.map (fun t =>
      if bad.contains ⟨a.geom.id, t.tx, t.ty⟩ then { t with crcOk := false } else t) }) }

/-- Stored tile of the open field. -/
def MapU.storedTile (m : MapU) (x : Int × Int) : Option MapTile :=
  m.field.bind (fun f => (m.arch f.geom.id).bind (fun a => a.tiles.find? (·.isAt x)))

/-- Bring a tile of the open field into the cache, touched (R258): from the archive if it is stored there,
zero otherwise. Answers none where it cannot be brought in, and whether its unit's CRC failed (R266). -/
def MapU.bring (m : MapU) (keep : List (Int × Int)) (x : Int × Int) : Option (MapU × Bool) :=
  match m.cache.find? (·.isAt x) with
  | some t => some ({ m with cache := t :: m.cache.filter (fun y => !y.isAt x) }, false)
  | none =>
    let room := if m.cache.length < 256 then some m else m.evict keep
    room.map (fun m =>
      let t := (m.storedTile x).getD (MapTile.zero x)
      ({ m with cache := t.read :: m.cache }, !t.crcOk))

/-- Write every dirty tile (R260); answers the tiles written and how many could not be. -/
def MapU.flush (m : MapU) : MapU × List MapTile × Nat :=
  let r := (m.cache.filter (·.dirty)).foldl (fun (acc : MapU × List MapTile × Nat) t =>
    match acc.1.write t with
    | some m => (m, acc.2.1 ++ [{ t with dirty := false, writes := satAdd 32 t.writes 1 }], acc.2.2)
    | none => (acc.1, acc.2.1, acc.2.2 + 1)) (m, [], 0)
  let sync := match r.1.field with
    | some f => r.1.archive.map (fun a => if a.geom.id = f.geom.id then { a with sums := f.sums } else a)
    | none => r.1.archive
  ({ r.1 with archive := sync }, r.2)

/-- A flush with its event: MAP_ARCHIVE_FULL once for each such condition (R261). -/
def mapFlush (s : State) : State × List MapTile × Nat :=
  let r := s.map.flush
  let full := decide (r.2.2 ≠ 0)
  let s1 := s.upMap (fun _ => { r.1 with full := full })
  (if full && !s.map.full then raise 83 0xFFFF 0 s1 else s1, r.2)

/-! ## Records on the ring -/

/-- The 64 bytes of a cell (R249). -/
def MapCell.bytes (c : MapCell) : List Byte :=
  leBytes 4 c.wet ++ leBytes 4 c.loss ++ leBytes 8 c.moist ++ leBytes 4 c.base ++ leBytes 4 c.area
    ++ leBytes 2 c.speed ++ leBytes 2 c.samples ++ leBytes 4 c.qual ++ c.frac.flatMap (leBytes 2)
    ++ leBytes 8 c.cov ++ leBytes 1 c.crop ++ leBytes 1 c.fl ++ List.replicate 6 0

/-- The cells of a tile from index `i`, `n` of them, in index order. -/
def tileBytes : (n i : Nat) → List (Nat × MapCell) → List Byte
  | 0, _, _ => []
  | n + 1, i, [] => List.replicate 64 0 ++ tileBytes n (i + 1) []
  | n + 1, i, (j, c) :: r =>
    if i = j then c.bytes ++ tileBytes n (i + 1) r
    else List.replicate 64 0 ++ tileBytes n (i + 1) ((j, c) :: r)

/-- Deliver a tile (R266). -/
def deliverTile (g : MapGeom) (reason t : Nat) (x : MapTile) (s : State) : State :=
  emitFull 0x0803 15 0x0C 0x20 none (genAt s t) t t
    (mkBody 32 [(0x21, 1, reason), (0x22, 1, sgn 1 x.tx), (0x23, 1, sgn 1 x.ty), (0x24, 4, g.id), (0x28, 2, g.cell),
      (0x2C, 4, x.cells.length), (0x30, 8, x.lastUpdate), (0x38, 4, x.writes)])
    (some (tileBytes 65536 0 x.cells)) s

/-- Touched tiles of a field (R265): from the cache for the open field, and from the archive, by TX and
then TY (log entry 50). A tile that has a stored unit has been touched. -/
def MapU.touched (m : MapU) (id : Nat) : List MapTile :=
  let arch := match m.arch id with | some a => a.tiles | none => []
  let open_ := match m.field with | some f => f.geom.id == id | none => false
  let cached := if open_ then m.cache.filter (fun t => !t.cells.isEmpty || arch.any (·.isAt (t.tx, t.ty))) else []
  let all := cached ++ arch.filter (fun t => !cached.any (fun x => x.isAt (t.tx, t.ty)))
  sortBy (fun a b => decide (a.tx < b.tx) || (decide (a.tx = b.tx) && decide (a.ty ≤ b.ty))) all

/-- Deliver tiles (R263, R265, R266): a unit whose CRC fails raises MAP_UNPLACED and is delivered as it reads. -/
def deliverTiles (g : MapGeom) (reason t : Nat) (ts : List MapTile) (s : State) : State :=
  ts.foldl (fun s x =>
    let s1 := if x.crcOk then s else raise 82 0xFFFF 0 s
    deliverTile g reason t x.read s1) s

/-- A sum as 8 bytes. -/
def sum8 (x : F64) : Nat := sat 64 (F64.rint x).toNat

/-- Body of the summary of a field (R267). -/
def summaryBody (m : MapU) (g : MapGeom) (x : MapSums) (isOpen lossy : Bool) : List Byte :=
  let ts := m.touched g.id
  let mixed := ts.any (fun t => t.cells.any (fun c => c.2.fl.testBit 7))
  mkBody 128 [(0x20, 1, 1), (0x21, 1, flags [(7, isOpen), (6, lossy), (5, isOpen && m.full), (4, mixed)]),
    (0x22, 2, g.cell), (0x24, 4, g.id), (0x28, 4, sgn 4 g.lat), (0x2C, 4, sgn 4 g.lon), (0x30, 4, sgn 4 g.h),
    (0x34, 4, ts.length), (0x38, 2, if isOpen then m.cache.length else 0),
    (0x3A, 2, if isOpen then (m.cache.filter (·.dirty)).length else 0), (0x3C, 4, 22865 - m.stored),
    (0x40, 8, sum8 x.wet), (0x48, 8, sum8 x.loss), (0x50, 8, sum8 x.area), (0x58, 8, sum8 x.moistWet),
    (0x60, 8, sum8 x.dry), (0x68, 8, sum8 x.overlap), (0x70, 8, sum8 x.orphan), (0x78, 8, sum8 x.unplaced),
    (0x80, 8, sum8 x.offField), (0x88, 8, sum8 m.noField), (0x90, 4, x.records)]

/-- Deliver the summary of the open field (R267). -/
def openSummary (t : Nat) (s : State) : State :=
  match s.map.field with
  | none => s
  | some f => emit 0x0803 15 0x0C 0 t t (summaryBody s.map f.geom f.sums true f.lossy) s

/-! ## Placing -/

/-- Change the sums of the open field. -/
def upSums (f : MapSums → MapSums) (s : State) : State :=
  s.upMap (fun m => { m with field := m.field.map (fun x => { x with sums := f x.sums }) })

/-- Wet mass that is not placed (R254, R256): 1 kg or more raises MAP_UNPLACED. -/
def mapUnplaced (wet : F64) (s : State) : State :=
  let s1 := upSums (fun x => { x with unplaced := F64.add x.unplaced wet }) s
  if F64.le (F64.ofInt 1000000) wet then raise 82 0xFFFF 0 s1 else s1

/-- Release the carry as unplaced (R254). -/
def releaseCarry (s : State) : State :=
  match s.map.carry with
  | none => s
  | some c => mapUnplaced c.wet (s.upMap (fun m => { m with carry := none }))

/-- A point in the field's plane, mm. -/
abbrev Pt := F64 × F64

/-- `p + a·u`. -/
def Pt.along (p : Pt) (a : F64) (u : Pt) : Pt := (F64.add p.1 (F64.mul a u.1), F64.add p.2 (F64.mul a u.2))

/-- The four corners of each contributing section (R251): P_s + y0·r_s, P_s + y1·r_s, P_e + y1·r_e,
P_e + y0·r_e. -/
def quads (g : MapGeom) (sl : Slice) (next : Option Slice) : List (Pt × Pt × Pt × Pt) :=
  let at_ := fun (lat lon : Int) => enOf 10000000 lat lon g.h g.lat g.lon g.h
  let dir := fun (hd : Nat) => let th := turnRad hd 16; (F64.sin th, F64.cos th)
  let right := fun (f : Pt) => ((f.2, F64.neg f.1) : Pt)
  let ps := at_ sl.lat sl.lon
  let fs := dir sl.heading
  let pe : Pt × Pt := match next with
    | some n => (at_ n.lat n.lon, dir n.heading)
    | none =>
      let d := F64.div (F64.mul (F64.ofInt (max sl.speed 0)) (F64.ofNat sl.durUs)) (F64.ofInt 1000000)
      (Pt.along ps d fs, fs)
  let total := sl.secW.sum
  (List.range sl.secW.length).filterMap (fun i =>
    if sl.sections.testBit i then
      let before := (sl.secW.take i).sum
      let y0 := F64.ofRat (2 * (before : Int) - (total : Nat)) 2
      let y1 := F64.add y0 (F64.ofNat (nth 0 sl.secW i))
      let rs := right fs
      let re := right pe.2
      some (Pt.along ps y0 rs, Pt.along ps y1 rs, Pt.along pe.1 y1 re, Pt.along pe.1 y0 re)
    else none)

/-- Edge function (R252). -/
def edgeFn (a b p : Pt) : F64 :=
  F64.sub (F64.mul (F64.sub b.1 a.1) (F64.sub p.2 a.2)) (F64.mul (F64.sub b.2 a.2) (F64.sub p.1 a.1))

/-- A centre lies in a triangle (R252): with its own orientation; on an edge, inside when the outward
normal points west, or neither east nor west and south. -/
def inTriangle (a b c p : Pt) : Bool :=
  let area := edgeFn a b c
  if area.m = 0 then false
  else
    let ccw := decide (0 < area.m)
    let side := fun (u v : Pt) =>
      let e := edgeFn u v p
      let e := if ccw then e else F64.neg e
      if e.m = 0 then
        let ne := if ccw then F64.sub v.2 u.2 else F64.sub u.2 v.2
        let nn := if ccw then F64.sub u.1 v.1 else F64.sub v.1 u.1
        decide (ne.m < 0) || (decide (ne.m = 0) && decide (nn.m < 0))
      else decide (0 < e.m)
    side a b && side b c && side c a

/-- A centre lies in a quadrilateral (R252). -/
def inQuad (q : Pt × Pt × Pt × Pt) (p : Pt) : Bool :=
  inTriangle q.1 q.2.1 q.2.2.1 p || inTriangle q.1 q.2.2.1 q.2.2.2 p

/-- The sub-cells of a footprint, by their column and row counted from the origin (R248, R251). -/
def footprint (cell : Nat) (qs : List (Pt × Pt × Pt × Pt)) : List (Int × Int) :=
  let pts := qs.flatMap (fun q => [q.1, q.2.1, q.2.2.1, q.2.2.2])
  match pts with
  | [] => []
  | p :: _ =>
    let e0 := pts.foldl (fun m x => F64.min m x.1) p.1
    let e1 := pts.foldl (fun m x => F64.max m x.1) p.1
    let n0 := pts.foldl (fun m x => F64.min m x.2) p.2
    let n1 := pts.foldl (fun m x => F64.max m x.2) p.2
    let sub := fun (x : F64) => F64.floor (F64.div (F64.mul x (F64.ofInt 8)) (F64.ofNat cell))
    let centre := fun (i : Int) => F64.div (F64.mul (F64.add (F64.ofInt i) (F64.ofRat 1 2)) (F64.ofNat cell)) (F64.ofInt 8)
    let x0 := sub e0 - 1
    let y0 := sub n0 - 1
    (List.range (sub n1 + 2 - y0).toNat).flatMap (fun j =>
      (List.range (sub e1 + 2 - x0).toNat).filterMap (fun i =>
        let gx := x0 + (i : Nat)
        let gy := y0 + (j : Nat)
        if qs.any (fun q => inQuad q (centre gx, centre gy)) then some (gx, gy) else none))

/-- Tile, cell index and coverage bit of a sub-cell (R248). -/
def subCell (x : Int × Int) : (Int × Int) × Nat × Nat :=
  let i := x.1 / 8
  let j := x.2 / 8
  ((i / 256, j / 256), (256 * (j % 256) + i % 256).toNat, (8 * (x.2 % 8) + x.1 % 8).toNat)

/-- A cell that has received nothing. -/
def MapCell.empty : MapCell := ⟨0, 0, 0, 0, 0, 0, 0, 0, List.replicate 8 0, 0, 0, 0⟩

/-- Cell of a cached tile. -/
def MapU.cell (m : MapU) (tile : Int × Int) (i : Nat) : MapCell :=
  match m.cache.find? (·.isAt tile) with
  | some t => ((t.cells.find? (fun c => c.1 == i)).map (·.2)).getD MapCell.empty
  | none => MapCell.empty

/-- Put a cell. -/
def MapTile.put (t : MapTile) (i : Nat) (c : MapCell) : MapTile :=
  if t.cells.any (fun x => x.1 == i) then { t with cells := t.cells.map (fun x => if x.1 == i then (i, c) else x) }
  else { t with cells := insertSorted (fun a b => decide (a.1 ≤ b.1)) (i, c) t.cells }

/-- Number of set bits of a coverage word. -/
def covCount (n : Nat) : Nat := ((List.range 64).filter (fun i => n.testBit i)).length

/-- rnd of R255, saturating. -/
def rndSat (w : Nat) (x : F64) : Nat := sat w (F64.rint x).toNat

/-- A placed group (R255). -/
structure Group5 where
  wet : F64
  loss : F64
  mb : F64
  mw : F64
  qb : F64
  qm : List F64
  nrec : Nat
  fl : Nat

/-- Place a group on one cell, which gets the sub-cells `bits`, `f` its share (R255). -/
def MapCell.place (c : MapCell) (g : Group5) (cellMm crop : Nat) (spd : Int) (f : F64) (bits : Nat) : MapCell :=
  let part := fun (x : F64) => F64.rint (F64.div (F64.mul x f) (F64.ofInt 10))
  let add := fun (w old : Nat) (x : F64) => sat w ((old : Int) + part x).toNat
  let n := covCount bits
  let pc := covCount c.cov
  let dq := part g.qb
  let mix := fun (i : Nat) =>
    rndSat 16 (F64.div
      (F64.add (F64.mul (F64.ofNat (nth 0 c.frac i)) (F64.ofNat c.qual)) (F64.mul (F64.div (nth F64.zero g.qm i) g.qb) (F64.ofInt dq)))
      (F64.add (F64.ofNat c.qual) (F64.ofInt dq)))
  let cov := c.cov ||| bits
  let side := F64.ofRat cellMm 8
  let mixed := decide (c.cov ≠ 0) && decide (c.crop ≠ crop)
  { wet := add 32 c.wet g.wet, loss := add 32 c.loss g.loss, base := add 32 c.base g.mb, moist := add 64 c.moist g.mw
    frac := if 0 < dq then (List.range 8).map mix else c.frac
    qual := if 0 < dq then sat 32 (c.qual + dq.toNat) else c.qual
    speed := rndSat 16 (F64.div (F64.add (F64.mul (F64.ofNat c.speed) (F64.ofNat pc)) (F64.mul (F64.ofInt spd) (F64.ofNat n)))
      (F64.ofNat (pc + n)))
    cov := cov, area := rndSat 32 (F64.mul (F64.mul (F64.ofNat (covCount cov)) side) side)
    samples := satAdd 16 c.samples g.nrec, crop := crop, fl := c.fl ||| g.fl ||| bit 7 mixed }

/-- FLAGS that a record gives its cells (R249, R255), but CARRIED and CROP_MIXED. -/
def cellFlags (r : AttrRec) (sl : Slice) : Nat :=
  flags [(6, sl.poseDegraded), (5, r.fl.testBit 6 || r.fl.testBit 5 || r.fl.testBit 0), (4, r.fl.testBit 4),
    (3, r.fl.testBit 3), (2, r.stepped), (0, r.fl.testBit 1)]

/-- The sums of a record alone (R255). -/
def recGroup (mask : Nat) (r : AttrRec) (fl : Nat) : Group5 :=
  let w := F64.ofNat r.wet
  let hasM := decide (r.moist ≠ 0xFFFF)
  let hasQ := decide (mask ≠ 0) && decide (r.qValid = mask)
  let pick := fun (b : Bool) (x : F64) => if b then x else F64.zero
  { wet := w, loss := F64.ofNat r.loss, mb := pick hasM w, mw := pick hasM (F64.mul w (F64.ofNat r.moist))
    qb := pick hasQ w, qm := r.quality.map (fun q => pick hasQ (F64.mul w (F64.ofNat q))), nrec := 1, fl := fl }

/-- A record joined with the carry. -/
def Group5.withCarry (g : Group5) : Option Carry → Group5
  | none => g
  | some c => { wet := F64.add c.wet g.wet, loss := F64.add c.loss g.loss, mb := F64.add c.mb g.mb, mw := F64.add c.mw g.mw
                qb := F64.add c.qb g.qb, qm := (c.qm.zip g.qm).map (fun x => F64.add x.1 x.2), nrec := c.nrec + g.nrec
                fl := c.fl ||| g.fl ||| 2 }

/-- A record joins the carry; at CARRY_MAX_SLICES records the carry is released (R253, R254). -/
def joinCarry (idx epoch : Nat) (g : Group5) (s : State) : State :=
  let x := g.withCarry s.map.carry
  let c : Carry := ⟨x.wet, x.loss, x.mb, x.mw, x.qb, x.qm, x.nrec, idx, epoch, x.fl &&& 0xFD⟩
  let s1 := s.upMap (fun m => { m with carry := some c })
  if fld s.map.recd 0x26 2 ≤ x.nrec then releaseCarry s1 else s1

/-- DRY_MG of a placed group (R257, R267). With no moisture in the group the result is undefined: a free
value. -/
def groupDry (s : State) (g : Group5) (k : F64) (crop : Nat) : F64 × Bool :=
  if g.mb.m = 0 then (F64.ofNat (freeNat 64 s), true)
  else
    let m := F64.div g.mw g.mb
    let full := F64.ofInt 10000
    if F64.le full m then (F64.zero, false)
    else
      let std := F64.ofNat (cropCfg s crop 0x22 2)
      (F64.div (F64.mul (F64.mul g.wet k) (F64.sub full m)) (F64.sub full std), false)

/-- Place a group on its new sub-cells (R253, R255). -/
def placeGroup (t : Nat) (r : AttrRec) (geom : MapGeom) (g : Group5) (nF : Nat) (nw : List (Int × Int)) (s : State) : State :=
  let mode := fld s.map.recd 0x20 1
  let cnt := nw.length
  let k := if mode = 0 then F64.div (F64.ofNat cnt) (F64.ofNat nF) else F64.one
  let subs := nw.map subCell
  let keys := (subs.map (fun x => (x.1, x.2.1))).eraseDups
  let s1 := keys.foldl (fun (s : State) key =>
    let mine := subs.filter (fun x => x.1 == key.1 && x.2.1 == key.2)
    let bits := mine.foldl (fun b x => b ||| 2 ^ x.2.2) 0
    let f := F64.div (F64.mul k (F64.ofNat mine.length)) (F64.ofNat cnt)
    let c := (s.map.cell key.1 key.2).place g geom.cell r.crop (max r.speed 0) f bits
    s.upMap (fun m => { m with cache := m.cache.map (fun x =>
      if x.isAt key.1 then { x.put key.2 c with dirty := true, lastUpdate := t } else x) })) s
  let d := groupDry s g k r.crop
  let s2 := if d.2 then drawn s1 else s1
  let sub := F64.ofRat geom.cell 8
  upSums (fun x => { x with
    wet := F64.add x.wet (F64.mul g.wet k), loss := F64.add x.loss (F64.mul g.loss k)
    area := F64.add x.area (F64.mul (F64.mul (F64.ofNat cnt) sub) sub)
    moistWet := F64.add x.moistWet (F64.mul g.mb k), dry := F64.add x.dry d.1
    overlap := if mode = 0 then F64.add x.overlap (F64.mul g.wet (F64.sub F64.one k)) else x.overlap })
    (s2.upMap (fun m => { m with carry := none }))

/-- MAP_ARCHIVE_FULL, where a tile could not be written that could before (R261). -/
def fullNoted (was : Bool) (s : State) : State := if s.map.full && !was then raise 83 0xFFFF 0 s else s

/-- Bring the tiles of a footprint in, one after the other (R258): whether every one came, and how many units' CRC
failed. What was done before one could not come stays done. -/
def bringAll (keep : List (Int × Int)) (m : MapU) : List (Int × Int) → MapU × Bool × Nat
  | [] => (m, true, 0)
  | x :: r =>
    match m.bring keep x with
    | none => (m, false, 0)
    | some y => let z := bringAll keep y.1 r; (z.1, z.2.1, z.2.2 + if y.2 then 1 else 0)

/-- MAP_UNPLACED for each unit whose CRC failed (R266). -/
def badUnits : (n : Nat) → State → State
  | 0, s => s
  | n + 1, s => badUnits n (raise 82 0xFFFF 0 s)

/-- A record that does not go on with the carry releases it (R254): its SLICE_INDEX is not the next, or its Slice began on
the other side of a Field Time step. -/
def breakCarry (r : AttrRec) (s : State) : State :=
  match s.map.carry with
  | none => s
  | some c =>
    let other := match r.slice with | some sl => decide (sl.epoch ≠ c.epoch) | none => false
    if decide (add32 c.lastIdx 1 ≠ r.idx) || other then releaseCarry s else s

/-- A record and the carry off the field extent (R256): MAP_OFF_FIELD at most once per 10 s. -/
def mapOffField (wet : F64) (s : State) : State :=
  let c := match s.map.carry with | some c => c.wet | none => F64.zero
  let s1 := upSums (fun x => { x with offField := F64.add x.offField (F64.add wet c) })
    (s.upMap (fun m => { m with carry := none }))
  let due := match s1.map.offFieldEl with | some e => decide (e + 10 * qSec ≤ s1.now.el) | none => true
  if due then raise 81 0xFFFF 0 (s1.upMap (fun m => { m with offFieldEl := some s1.now.el })) else s1

/-- A record with a footprint within the extent, whose tiles are brought in (R253, R255, R256). -/
def mapPlace (t : Nat) (r : AttrRec) (sl : Slice) (geom : MapGeom) (fp : List (Int × Int)) (s : State) : State :=
  let wet := F64.ofNat r.wet
  let tiles := (fp.map (fun x => (subCell x).1)).eraseDups
  let y := bringAll tiles s.map tiles
  let m1 := if y.2.1 then y.1 else { y.1 with full := true }
  let s1 := badUnits y.2.2 (fullNoted s.map.full (s.upMap (fun _ => m1)))
  if !y.2.1 then mapUnplaced wet s1
  else
    let nw := fp.filter (fun x =>
      let c := subCell x
      !(s1.map.cell c.1 c.2.1).cov.testBit c.2.2)
    let g := recGroup (fld s1.map.recd 0x22 1) r (cellFlags r sl)
    if fp.isEmpty then joinCarry r.idx sl.epoch g s1
    else if nw.isEmpty then
      if fld s1.map.recd 0x20 1 = 0 then upSums (fun x => { x with overlap := F64.add x.overlap wet }) s1
      else joinCarry r.idx sl.epoch g s1
    else placeGroup t r geom (g.withCarry s1.map.carry) fp.length nw s1

/-- Apply a record of the passage engine (R250–R256). -/
def mapRecord (t : Nat) (r : AttrRec) (s : State) : State :=
  let wet := F64.ofNat r.wet
  match s.map.field with
  | none => s.upMap (fun m => { m with noField := F64.add m.noField wet })
  | some f =>
    let s1 := breakCarry r (upSums (fun x => { x with records := add32 x.records 1 }) s)
    match r.slice with
    | none => upSums (fun x => { x with orphan := F64.add x.orphan wet }) s1
    | some sl =>
      if sl.noPose then mapUnplaced wet s1
      else
        let next := s1.pas.slices.find? (fun x => decide (x.idx = add32 r.idx 1) && !x.noPose)
        let qs := quads f.geom sl next
        let ext := F64.ofInt (32768 * (f.geom.cell : Nat))
        let inside := fun (x : F64) => F64.le (F64.neg ext) x && F64.lt x ext
        let corners := qs.flatMap (fun q => [q.1, q.2.1, q.2.2.1, q.2.2.2])
        if corners.any (fun p => !(inside p.1 && inside p.2)) then mapOffField wet s1
        else mapPlace t r sl f.geom (footprint f.geom.cell qs) s1

/-! ## Field commands and requests -/

/-- The geometry that a command carries (R262). -/
def geomOf (b : List Byte) : MapGeom :=
  ⟨fld b 0x24 4, fldS b 0x28 4, fldS b 0x2C 4, fldS b 0x30 4, fld b 0x22 2⟩

/-- Complete a map command. -/
def mapDone (c : MapCmd) (d : Done) (s : State) : State :=
  complete (if c.request then 0x0804 else 0x0802) 0x0C c.post c.stamp d s

/-- Open a field empty or resume it (R262). -/
def mapOpen (c : MapCmd) (t : Nat) (s : State) : State :=
  let g := geomOf c.post.body
  let start := fun (sums : MapSums) (n : Nat) (s : State) =>
    let has := (s.map.arch g.id).isSome
    let s1 := s.upMap (fun m => { m with
      field := some ⟨g, sums, false⟩, cache := [], carry := none, full := false
      archive := if has then m.archive else m.archive ++ [⟨g, sums, []⟩] })
    mapDone c (accepted n t) (raise 80 0xFFFF 1 s1)
  match s.map.arch g.id with
  | some a => if a.geom = g then start a.sums a.tiles.length s else mapDone c (refusedWith 0x13 0 t) s
  | none =>
    if 256 ≤ s.map.archive.length then mapDone c (refusedWith 0x11 0 t) s else start MapSums.zero 0 s

/-- A close takes effect (R263); its completion waits for the flush. -/
def mapClose (c : MapCmd) (t : Nat) (s : State) : State :=
  match s.map.field with
  | none => mapDone c (refusedWith 0x0802 0 t) s
  | some f =>
    let r := mapFlush (releaseCarry s)
    let s1 := r.1
    let s2 := if (fld s1.map.recd 0x21 1).testBit 1 then
        deliverTiles f.geom 2 t (s1.map.touched f.geom.id) s1 else s1
    let s3 := openSummary t s2
    let s4 := s3.upMap (fun m => { m with
      field := none, cache := [], full := false, closes := m.closes ++ [⟨c.post, c.stamp, t, r.2.2⟩] })
    raise 80 0xFFFF 0 s4

/-- A field command takes effect at the tap instant `t` (R262). -/
def mapField (c : MapCmd) (t : Nat) (s : State) : State :=
  let id := fld c.post.body 0x24 4
  let isOpen := s.map.field.isSome
  let drop := fun (s : State) => s.upMap (fun m => { m with archive := m.archive.filter (fun a => a.geom.id != id) })
  if keyoff s then mapDone c (refusedWith 0x1201 0 t) s
  else match c.what with
  | 0 => if isOpen then mapDone c (refusedWith 0x0801 0 t) s else mapOpen c t s
  | 1 => mapClose c t s
  | 2 =>
    let own := match s.map.field with | some f => f.geom.id == id | none => false
    if own then mapDone c (refusedWith 8 0 t) s
    else if (s.map.arch id).isNone then mapDone c (refusedWith 0x0802 0 t) s
    else mapDone c (accepted 0 t) (drop s)
  | _ =>
    if isOpen then mapDone c (refusedWith 0x0801 0 t) s
    else mapOpen c t (drop s)

/-- A tile request is decided at the tap instant `t` (R265). -/
def mapRequest (c : MapCmd) (t : Nat) (s : State) : State :=
  let b := c.post.body
  let want := fld b 0x24 4
  let m := s.map
  let openId := match m.field with | some f => f.geom.id | none => 0
  let id := if want = 0 then openId else want
  let geom : Option (MapGeom × MapSums × Bool) :=
    match m.field with
    | some f => if f.geom.id = id then some (f.geom, f.sums, true) else (m.arch id).map (fun a => (a.geom, a.sums, false))
    | none => (m.arch id).map (fun a => (a.geom, a.sums, false))
  match geom with
  | none =>
    if want = 0 ∧ c.what = 1 then
      mapDone c (accepted 0 t) (emit 0x0803 15 0x0C 0 t t (mkBody 128 [(0x20, 1, 1), (0x88, 8, sum8 m.noField)]) s)
    else mapDone c (refusedWith 0x0802 0 t) s
  | some g =>
    let tiles := m.touched g.1.id
    let send := fun (ts : List MapTile) => mapDone c (accepted ts.length t) (deliverTiles g.1 0 t ts s)
    match c.what with
    | 0 => send (tiles.filter (·.isAt (fldS b 0x22 1, fldS b 0x23 1)))
    | 1 =>
      let lossy := match m.field with | some f => g.2.2 && f.lossy | none => false
      mapDone c (accepted 0 t) (emit 0x0803 15 0x0C 0 t t (summaryBody m g.1 g.2.1 g.2.2 lossy) s)
    | _ => send tiles

/-- The settings of the Catalogue take effect at a tap instant (R264). -/
def mapSettings (t : Nat) (s : State) : State :=
  let new := recBody s 0x0801 0
  let old := s.map.recd
  if new = old then s
  else
    let moved := fun (off size : Nat) => decide (fld old off size ≠ fld new off size)
    let s1 := if moved 0x20 1 || moved 0x22 1 then releaseCarry s else s
    s1.upMap (fun m => { m with
      recd := new
      flushNext := if moved 0x24 2 then nextMul (fld new 0x24 2 * qSec) t else m.flushNext
      summaryNext := if moved 0x28 2 then nextMul (max 1 (fld new 0x28 2) * qSec) t else m.summaryNext })

/-- The map engine at the tap instant `t` (R250): settings, field commands, the records in their order,
then requests. `bad` are the units that have gone bad since the last one (R266). -/
def mapTap (t : Nat) (bad : List MapUnit) (recs : List AttrRec) (s : State) : State :=
  let s1 := mapSettings t (s.upMap (·.corrupt bad))
  let due := s1.map.cmds.filter (fun c => decide (c.due ≤ t))
  let s2 := s1.upMap (fun m => { m with cmds := m.cmds.filter (fun c => decide (t < c.due)) })
  let s3 := (due.filter (fun c => !c.request)).foldl (fun s c => mapField c t s) s2
  let s4 := recs.foldl (fun s r => mapRecord t r s) s3
  (due.filter (·.request)).foldl (fun s c => mapRequest c t s) s4

/-- The dirty tiles are written in the key-off sequence (R260). -/
def mapKeyoff (s : State) : State := (mapFlush s).1

/-- A power-up, or a lane that starts with nothing (R260): the open field is reopened from the archive;
`lossy` after a supply loss. -/
def mapRestart (lossy : Bool) (s : State) : State :=
  s.upMap (fun m => { m with
    field := m.field.bind (fun f => (m.arch f.geom.id).map (fun a => ⟨a.geom, a.sums, f.lossy || lossy⟩))
    cache := [], carry := none, noField := F64.zero, cmds := [], closes := [], offFieldEl := none, full := false })

end Sys2Proof.Machine
end

