-- ==== Sys2Proof/Machine/ModemOps.lean ====
section
/-!
DEFINITION. Shared operations of the modem port (R401–R416): Folios, parser, watermarks, outbound queue.
-/
namespace Sys2Proof.Machine

/-! ## Settings and status -/

/-- The modem record in the Catalogue. -/
def modemRec (s : State) : List Byte := recBody s 0x0E01 0

/-- The port is enabled by the settings in force (R411). -/
def Modem.enabled (m : Modem) : Bool := decide (fld m.recd 0x20 1 = 1)

/-- Bytes in both Folios (R403). -/
def Modem.buffered (m : Modem) : Nat := m.fill + m.drain

/-- Bytes that wait in the outbound Folios (R408). -/
def Modem.queued (m : Modem) : Nat := (m.out.map (fun x => x.wire.length - x.sent)).sum

/-- Body of the port status, FORM 2 of KD_MODEM_RX (R415). -/
def modemStatusBody (m : Modem) : List Byte :=
  mkBody 48 [(0x20, 1, 2), (0x21, 1, flags [(7, m.hold), (6, m.ready), (5, m.ring), (4, m.enabled), (3, m.afterShutdown)]),
    (0x24, 4, m.buffered), (0x28, 4, m.queued), (0x2C, 4, m.rxBytes), (0x30, 4, m.txBytes), (0x34, 4, m.overrun),
    (0x38, 4, m.lineErrors), (0x3C, 4, m.recordErrors), (0x40, 4, m.discarded), (0x44, 2, m.holds),
    (0x46, 2, m.txDuplicate), (0x48, 2, m.txExpired)]

/-- Deliver the port status (R415). -/
def modemStatus (s : State) : State :=
  let t := ceilTo qBeat s.now.ft
  (emit 0x0E03 10 7 0 t t (modemStatusBody s.modem) s).upModem (fun m =>
    { m with afterShutdown := m.afterShutdown && !commanding s })

/-- Set `MDM_HOLD` by the watermarks (R404). -/
def modemHold (s : State) : State :=
  let m := s.modem
  let r := modemRec s
  let want :=
    if !m.enabled || m.shutdown || s.pow.state != .serving || s.pow.sub == .holdup then true
    else if fld r 0x2C 4 ≤ m.buffered then true
    else if m.buffered ≤ fld r 0x28 4 then false
    else m.hold
  if want = m.hold then s
  else modemStatus (s.upModem (fun m => { m with hold := want, holds := if want then satAdd 16 m.holds 1 else m.holds }))

/-! ## Inbound -/

/-- Bytes leave the Folios, oldest first; an empty draining Folio changes roles with a filling one that
holds something (R403). -/
def Modem.leave (m : Modem) (n : Nat) : Modem :=
  let a := m.drain - n
  let rest := n - m.drain
  if a = 0 then { m with drain := m.fill - rest, fill := 0 } else { m with drain := a }

/-- The first of its kind after 1 s without one. -/
def firstIn1s (last : Option Nat) (el : Nat) : Bool :=
  match last with | none => true | some t => decide (t + qSec ≤ el)

/-- What the parser makes of the bytes that are not in a record yet (R406, R407). -/
inductive Parsed where
  | more
  | junk
  | bad
  | good (len : Nat)
  deriving DecidableEq, Repr

/-- Look at the front of the stream in format STREAM (R406). -/
def parseFront (stream : Nat) (b : List Byte) : Parsed :=
  if stream = 0 then
    if b.head? ≠ some 0xD3 then .junk
    else if 2 ≤ b.length ∧ 4 ≤ (nth 0 b 1).toNat then .bad
    else if b.length < 3 then .more
    else
      let n := rtcmLen b + 6
      if b.length < n then .more else if rtcmOk (b.take n) then .good n else .bad
  else
    if b.head? ≠ some 0xA5 then .junk
    else if b.length < 2 then .more
    else if nth 0 b 1 ≠ 0x5A then .junk
    else if b.length < 34 then .more
    else
      let len := leNat (slice b 6 2)
      if 3968 < len then .bad
      else if b.length < len + 38 then .more
      else if crc32c (slice b 2 (32 + len)) = leNat (slice b (34 + len) 4) ∧ leNat (slice b 2 2) ≠ 0 then .good (len + 38)
      else .bad

/-- Parse what has arrived (R407). Answers whether a record failed its check. -/
def Modem.parse : (fuel : Nat) → Modem → Bool → Modem × Bool
  | 0, m, e => (m, e)
  | f + 1, m, e =>
    match m.part with
    | [] => (m, e)
    | x :: r =>
      match parseFront (fld m.recd 0x21 1) (m.part.map (·.b)) with
      | .more => (m, e)
      | .good n =>
        let bs := m.part.take n
        let y := (bs.getLast?).getD x
        Modem.parse f { m with part := m.part.drop n, recs := m.recs ++ [⟨fld m.recd 0x21 1 == 0, bs.map (·.b), y.stop, x.start⟩] } e
      | .junk => Modem.parse f ({ m with part := r, discarded := satAdd 32 m.discarded 1, loss := true }.leave 1) e
      | .bad => Modem.parse f ({ m with
          part := r, discarded := satAdd 32 m.discarded 1, recordErrors := satAdd 32 m.recordErrors 1, loss := true }.leave 1) true

/-- Count a framing error or a break (R402). -/
def modemLineError (s : State) : State :=
  let first := firstIn1s s.modem.lastLine s.now.el
  let s1 := s.upModem (fun m => { m with lineErrors := satAdd 32 m.lineErrors 1, lastLine := some s.now.el })
  if first then raise 111 0xFFFF 0 s1 else s1

/-- The port receives (R404, R411, R412). -/
def modemListens (s : State) : Bool :=
  s.modem.enabled && !s.modem.shutdown && s.pow.state == .serving

/-- Body of KD_MODEM_RX in FORM 0 and 1 (R415). -/
def modemRxBody (rtcm after routed : Bool) (count : Nat) (data : List Byte) : List Byte :=
  mkBody 16 [(0x20, 1, if rtcm then 0 else 1), (0x21, 1, flags [(7, after), (6, routed)]),
    (0x22, 2, data.length), (0x24, 4, count)] ++ data

/-- Pass a record on: route and deliver it (R405–R407). -/
def modemPass (x : MRec) (s : State) : State :=
  let m := s.modem
  let n := x.bytes.length
  let count := satAdd 32 m.rxCount 1
  let s1 := s.upModem (fun m => ({ m with
    recs := m.recs.drop 1, intake := m.intake ++ [n], rxCount := count, loss := false } : Modem).leave n)
  if x.rtcm then
    let s2 := modemRtcm x.bytes x.acc s1
    if (fld m.recd 0x22 1).testBit 2 then
      emit 0x0E03 10 7 0 x.acc x.eff (modemRxBody true m.loss true count x.bytes) s2
    else s2
  else
    let data := slice x.bytes 2 (n - 6)
    let isRtcm := decide (leNat (slice data 0 2) = 0x0A02)
    let frames := if isRtcm then rtcmSplit 65 (data.drop 36) else none
    let ok := match frames with
      | some fs => decide (fs.length = leNat (slice data 32 2)) && decide (1 ≤ fs.length ∧ fs.length ≤ 64)
      | none => false
    let s2 := if ok then ((frames.getD []).foldl (fun s f => if rtcmOk f then modemRtcm f x.acc s else s) s1) else s1
    emit 0x0E03 10 7 0 x.acc x.eff (modemRxBody false m.loss isRtcm count data) s2

/-! ## Outbound -/

/-- Complete the command of an outbound record. -/
def modemDone (x : MTx) (d : Done) (s : State) : State :=
  match x.post with
  | some (p, acc) => complete 0x0E02 7 p acc d s
  | none => s

/-- Of records that leave the queue while others stay, those that complete their command: of two copies of one
record one completes it, and none where the other copy stays (R392, R409). -/
def modemGone (gone stay : List MTx) : List MTx :=
  gone.filter (fun x => x.post.isSome && !stay.any (fun y => y.post == x.post)
    && !(x.copy && gone.any (fun y => y.old && y.post == x.post)))

/-- Wire bytes of a KD_MODEM_TX (R406, R408). -/
def modemWire (b : List Byte) (seq : Nat) : List Byte :=
  let data := (b.drop 16).take (fld b 0x22 2)
  if fld b 0x20 1 = 0 then data
  else
    let env := putAt data 8 (leBytes 4 seq)
    [0xA5, 0x5A] ++ env ++ leBytes 4 (crc32c env)

/-- The Slip of FORMAT 1 fits (R414). -/
def modemEnvelopeOk (b : List Byte) : Bool :=
  let data := (b.drop 16).take (fld b 0x22 2)
  decide (32 ≤ data.length) && decide (leNat (slice data 4 2) + 32 = data.length) && decide (leNat (slice data 0 2) ≠ 0)

/-- Decide a KD_MODEM_TX now (R408, R409). -/
def modemDecide (h : MHost) (s : State) : State :=
  let b := h.post.body
  let m := s.modem
  let env := decide (fld b 0x20 1 = 1)
  let no := fun r => complete 0x0E02 7 h.post h.acc (refusedWith r 0 (beatAt s.now.ft)) s
  if !m.enabled then no 0x0E01
  else if env && !modemEnvelopeOk b then no 0x0E02
  else
    let w := modemWire b m.txSeq
    if pathDead .modem s then no 8
    else if 131072 < m.queued + w.length then no 0x11
    else
      let life := fld b 0x24 2
      let e : MTx := ⟨w, 0, some (h.post, h.acc), s.now.el, if life = 0 then none else some (s.now.el + life * qMs), false, false⟩
      provePath .modem ((issue (.modem w) s).upModem (fun m => { m with
        out := m.out ++ [e], txSeq := if env then add32 m.txSeq 1 else m.txSeq
        waitEl := if m.out.isEmpty then s.now.el else m.waitEl
        stalled := m.stalled && !m.out.isEmpty }))

/-- The KD_MODEM_TX that waited for the beat boundary `b` (R408); it waits on while no lane commands (R56). -/
def modemBeat (b : Nat) (s : State) : State :=
  if !commanding s then s
  else
  let due := s.modem.host.filter (fun h => decide (h.start ≤ b))
  due.foldl (fun s h => modemDecide h s)
    (s.upModem (fun m => { m with host := m.host.filter (fun h => !decide (h.start ≤ b)) }))

/-- A record may be on the line: the port sends, in a shut-down only the record in transmission (R411, R412). -/
def modemSends (s : State) : Bool :=
  match s.modem.out with
  | [] => false
  | x :: _ => s.modem.enabled && !(s.modem.shutdown && decide (x.sent = 0)) && s.pow.state == .serving

/-! ## Changes (R411) -/

/-- A shut-down ends: the settings of the Catalogue take effect, but in the key-off sequence the port stays
disabled (R473). Where ENABLE becomes 0 the queued records complete with MODEM_OFF. -/
def modemShutdownEnd (late : Bool) (s : State) : State :=
  let recd := if keyoff s then putBytes (modemRec s) 0x20 [0] else modemRec s
  -- a changed polarity reads the level at MDM_READY the other way
  let turn := (fld s.modem.recd 0x22 1).testBit 1 != (fld recd 0x22 1).testBit 1
  let s1 := s.upModem (fun m => { m with recd := recd, shutdown := false, ready := m.ready != turn })
  let gone := if s1.modem.enabled then [] else modemGone s1.modem.out []
  let s2 := gone.foldl (fun s x => modemDone x (refusedWith 0x0E01 0 (beatAt s.now.ft)) s)
    (s1.upModem (fun m => if m.enabled then m else { m with out := [] }))
  let s3 := s2.upModem (fun m => { m with
    afterShutdown := late && m.enabled
    -- MDM_HOLD releases unless buffered is above LOW_WM
    hold := !m.enabled || decide (fld (modemRec s) 0x28 4 < m.buffered) })
  modemStatus s3

/-- Fields whose change shuts the port down: ENABLE, STREAM, the polarity flags and BAUD. -/
def modemChanged (a b : List Byte) : Bool :=
  decide (fieldBytes a 0x20 2 ≠ fieldBytes b 0x20 2) || decide (fld a 0x22 1 % 4 ≠ fld b 0x22 1 % 4)
    || decide (fieldBytes a 0x24 4 ≠ fieldBytes b 0x24 4)

/-- A record has begun transmission. -/
def Modem.begun (m : Modem) : Bool := match m.out with | x :: _ => decide (0 < x.sent) | [] => false

/-- A shut-down of the port begins (R411): it ends with the record in transmission, or at once. -/
def modemShut (s : State) : State :=
  let m := s.modem
  let n := m.part.length
  let s1 := s.upModem (fun m => ({ m with
    part := [], discarded := satAdd 32 m.discarded n, loss := m.loss || decide (0 < n)
    holds := if m.hold then m.holds else satAdd 16 m.holds 1, hold := true, shutdown := true } : Modem).leave n)
  if !m.begun then modemShutdownEnd false s1 else if m.hold then s1 else modemStatus s1

/-- The modem record at a commit boundary (R411). -/
def modemCommit (s : State) : State :=
  let new := modemRec s
  let m := s.modem
  if m.shutdown then s
  else if !modemChanged m.recd new then modemHold (s.upModem (fun m => { m with recd := new }))
  else modemShut s

/-! ## Takeover (R55, R410) -/

/-- At kS the old lane's records stay, and the new lane queues its own copy of those of the last 10 ms. -/
def modemTakeover (s : State) : State :=
  s.upModem (fun m =>
    let copies := (m.out.filter (fun x => !x.old && decide (s.now.el ≤ x.inEl + 10 * qMs))).map
      (fun x => { x with sent := 0, copy := true })
    { m with out := m.out.map (fun x => { x with old := true }) ++ copies
             txDuplicate := satAdd 16 m.txDuplicate copies.length })

/-- At the end of the overlap window the old lane's records not begun are discarded; answers how many. -/
def modemOverlapEnd (s : State) : State × Nat :=
  let gone := fun (x : MTx) => x.old && decide (x.sent = 0)
  (s.upModem (fun m => { m with out := m.out.filter (fun x => !gone x) }), (s.modem.out.filter gone).length)

/-- The port leaves Serving (R404, R412): nothing is received or sent. -/
def modemStop (s : State) : State :=
  s.upModem (fun m => { m with
    holds := if m.hold then m.holds else satAdd 16 m.holds 1
    hold := true, fill := 0, drain := 0, part := [], recs := [], intake := [], out := [], host := [], shutdown := false })

end Sys2Proof.Machine
end

