-- ==== Sys2Proof/Machine/Estimate.lean ====
section
/-!
DEFINITION. Self-estimation of a hop (R131–R136): what its correlator finds in a window, and what the
window's end does.
-/
namespace Sys2Proof.Machine

/-- The measurements of a window (R131, R132). -/
structure Corr where
  excited : Bool
  lLo : Nat
  lHi : Nat
  peak : Nat
  rho : F64
  rho2 : F64
  conf : F64
  /-- L* + δ. -/
  lag : F64
  aMeas : F64
  tau : Option Nat

/-- Clip to 0–1. -/
def clip01 (x : F64) : F64 := F64.clamp F64.zero F64.one x

/-- The correlator at a window end (R131, R132): `u` and `y` stand newest first, `n` are the window's taps. -/
def correlate (u y : List Int) (n : Nat) (excMin bMm aMin aMax : Nat) (vWin : F64) : Corr :=
  let nf := F64.ofNat n
  let norm := fun (x : Int) => F64.ofRat x 1073741824
  let uf := u.map norm
  let yw := ((y.take n).map norm).reverse
  let uw := (uf.take n).reverse
  let mean := fun (l : List F64) => F64.div (F64.sum l) nf
  let ub := mean uw
  let yb := mean yw
  let sq := fun (l : List F64) (m : F64) => F64.sum (l.map (fun x => F64.mul (F64.sub x m) (F64.sub x m)))
  let su := sq uw ub
  let sy := sq yw yb
  let root := F64.sqrt (F64.mul su sy)
  let rho := fun (l : Nat) =>
    let us := ((uf.drop l).take n).reverse
    F64.div (F64.sum ((us.zip yw).map (fun x => F64.mul (F64.sub x.1 ub) (F64.sub x.2 yb)))) root
  let rhos := (List.range 2048).map rho
  let at_ := fun (l : Nat) => nth F64.zero rhos l
  let trans := F64.div (F64.mul (F64.ofInt 1000000) (F64.ofNat bMm)) vWin
  let bound := fun (a : Nat) => F64.div (F64.add (F64.ofNat a) trans) (F64.ofInt 10000)
  let clipL := fun (x : Int) => (clampI 0 2047 x).toNat
  let lLo := clipL (F64.floor (bound aMin))
  let lHi := clipL (-(F64.floor (F64.neg (bound aMax))))
  let range := (List.range (lHi + 1)).drop lLo
  let best := fun (ls : List Nat) => ls.foldl (fun (m : Option Nat) l =>
    match m with | some k => if F64.lt (at_ k) (at_ l) then some l else m | none => some l) none
  let peak := (best range).getD lLo
  let rho2 := match best (range.filter (fun l => decide (50 ≤ ((l : Int) - peak).natAbs))) with
    | some l => at_ l | none => F64.zero
  let r := at_ peak
  let conf := clip01 (F64.sub r (F64.max rho2 F64.zero))
  let delta := if peak = 0 ∨ peak = 2047 then F64.zero
    else
      let a := at_ (peak - 1)
      let c := at_ (peak + 1)
      let half := F64.ofRat 1 2
      F64.clamp (F64.neg half) half (F64.div (F64.mul half (F64.sub a c)) (F64.add (F64.sub a (F64.mul (F64.ofInt 2) r)) c))
  let lag := F64.add (F64.ofNat peak) delta
  let limit := F64.mul r (F64.expNeg (F64.ofInt (-1)))
  let ne := ((List.range 2048).drop 1).find? (fun k => decide (peak + k ≤ 2047) && F64.lt (at_ (peak + k)) limit)
  let exc := F64.ofRat excMin 65535
  let dev := fun (x : F64) => F64.sqrt (F64.div x nf)
  { excited := !(F64.lt (dev su) exc || F64.lt (dev sy) exc), lLo := lLo, lHi := lHi, peak := peak, rho := r
    rho2 := rho2, conf := conf, lag := lag, aMeas := F64.sub (F64.mul lag (F64.ofInt 10000)) trans
    tau := ne.map (fun k => k * 10000) }

/-- Why a window is invalid (R133, R136): the lowest code that applies, 0 for none. -/
def invalidCause (h : Hop) : Nat :=
  if h.sawStalled then 1
  else if 5 * h.cutTaps < 4 * h.taps then 2
  else if h.sawCrop then 3
  else if h.sawStep then 4
  else if h.u.length < h.taps + 2047 then 5
  else if h.sawSettings then 6
  else if h.sawStale then 7 else 0

/-- One running value of R134: the new value, clamped to a bound, clamped to the rate step. -/
def stepTo (now target lo hi step : F64) : F64 × Bool × Bool :=
  let tgt := F64.clamp lo hi target
  let d := F64.sub tgt now
  let c := F64.clamp (F64.neg step) step d
  (F64.add now c, tgt != target, c != d)

/-- A new window begins at `t`. -/
def Hop.window (h : Hop) (t next : Nat) : Hop :=
  { h with vWin := [], taps := 0, cutTaps := 0, sawStalled := false, sawStale := false, sawCrop := false
           sawSettings := false, sawStep := false, lastIn := 0, winStart := t, winNext := next
           u := h.u.take 2047, y := [] }

/-- The estimation window of hop `n` (1–7) ends at `t` (R132–R136). -/
def estClose (n t next : Nat) (s : State) : State :=
  let h := nth (Hop.reset n) s.pas.hops (n - 1)
  let mode := hopCfg s n 0x21 1
  let newWin := fun (s : State) => s.upPas (fun p => { p with hops := upd p.hops (n - 1) (fun h => h.window t next) })
  if mode = 0 then newWin s
  else
    let f := fun (off size : Nat) => hopCfg s n off size
    let vWin := F64.div (F64.sum h.vWin.reverse) (F64.ofNat h.vWin.length)
    let cause := invalidCause h
    let c := correlate h.u h.y h.taps (f 0x58 2) (f 0x2E 2) (f 0x34 4) (f 0x38 4) vWin
    let live := decide (cause = 0) && c.excited
    let edge := live && (decide (c.peak = c.lLo) || decide (c.peak = c.lHi))
    let low := F64.lt c.conf (F64.ofRat (f 0x4C 2) 65535) || edge || decide (c.lHi < c.lLo + 2)
    let result := if cause ≠ 0 then 4 else if !c.excited then 3 else if low then 2 else if mode = 1 then 1 else 0
    let win := F64.ofNat (f 0x4E 2)
    let a := stepTo h.aUs c.aMeas (F64.ofNat (f 0x34 4)) (F64.ofNat (f 0x38 4)) (F64.mul (F64.ofNat (f 0x50 4)) win)
    let tau := match c.tau with
      | some x => stepTo h.tauUs (F64.ofNat x) (F64.ofNat (f 0x40 4)) (F64.ofNat (f 0x44 4)) (F64.mul (F64.ofNat (f 0x54 4)) win)
      | none => (h.tauUs, false, false)
    let done := decide (result ≤ 1)
    let q14 := fun (x : F64) => clampI (-32768) 32767 (F64.rint (F64.mul x (F64.ofInt 16384)))
    let pos := fun (x : F64) => sat 32 (F64.rint x).toNat
    let fl := flags [(7, done && a.2.1), (6, done && tau.2.1), (5, done && a.2.2), (4, done && tau.2.2),
      (3, live && c.tau.isNone), (2, edge)]
    let body := mkBody 64 [(0x20, 1, n), (0x21, 1, result), (0x22, 1, fl), (0x23, 1, mode),
      (0x24, 4, if live then pos (F64.mul c.lag (F64.ofInt 10000)) else 0),
      (0x28, 2, if live then sgn 2 (q14 c.rho) else 0), (0x2A, 2, if live then sgn 2 (q14 c.rho2) else 0),
      (0x2C, 2, if live then (F64.rint (F64.mul c.conf (F64.ofInt 65535))).toNat else 0),
      (0x2E, 2, sat 16 (F64.rint vWin).toNat),
      (0x30, 4, if live then sgn 4 (clampI (-(2 ^ 31)) (2 ^ 31 - 1) (F64.rint c.aMeas)) else 0),
      (0x34, 4, pos (if done then a.1 else h.aUs)), (0x38, 4, if live then c.tau.getD 0 else 0),
      (0x3C, 4, pos (if done then tau.1 else h.tauUs)), (0x40, 8, h.winStart), (0x48, 2, sat 16 h.taps), (0x4A, 1, cause)]
    let s1 := emit 0x0505 11 unitPass (if h.sawStep then 0x80 else 0) (if h.lastIn = 0 then t else h.lastIn) t body s
    let conf8 := if live then (F64.rint (F64.mul c.conf (F64.ofInt 255))).toNat else 0
    let s2 := s1.upPas (fun p => { p with hops := upd p.hops (n - 1) (fun h => { h with lastConf := conf8 }) })
    let s3 := if result ≠ 0 then s2
      else
        let s3 := s2.upPas (fun p => { p with hops := upd p.hops (n - 1) (fun h => { h with
          aUs := a.1, tauUs := tau.1, aAtBound := a.2.1, tauAtBound := tau.2.1 }) })
        if a.2.1 || tau.2.1 then raiseX 66 n 0 0 (body.take 16) s3.now.ft s3.now.ft s3 else s3
    newWin s3

/-- What the correlators take at the tap instant `t` (R131–R133), after the hop speeds of `t`. -/
def hopTap (t : Int) (s : State) : State :=
  let latest := fun (sg : Nat) =>
    if sg = 0xFFFF then (0, 0) else match valueBefore (histAll s sg) t with | some v => (v.val, v.stamp) | none => (0, 0)
  let cutting := decide (s.pas.state = .cutting)
  s.upPas (fun p => { p with hops := p.hops.zipIdx.map (fun x =>
    let n := x.2 + 1
    let h := x.1
    let u := latest (hopCfg s n 0x48 2)
    let y := latest (hopCfg s n 0x4A 2)
    { h with
      u := (u.1 :: h.u).take 32048, y := y.1 :: h.y, lastIn := max h.lastIn (max h.vIn (max u.2 y.2))
      vWin := h.v :: h.vWin, taps := h.taps + 1, cutTaps := h.cutTaps + (if cutting then 1 else 0)
      sawStalled := h.sawStalled || h.stalled, sawStale := h.sawStale || h.speedStale }) })

end Sys2Proof.Machine
end

