-- ==== Sys2Proof/Machine/Passage.lean ====
section
/-!
DEFINITION. The commands of the Crop Passage Engine (R118–R165), and what commits, key-off and power-up do
to it.
-/
namespace Sys2Proof.Machine

/-- A Field Time step is fixed for the instant `t` (R26). -/
def stepsAt (s : State) (t : Nat) : Bool :=
  match s.time.fixedStep with | some x => decide (x.2 = t) | none => false

/-- The tap interval that ends at `t` is recorded with the open Slice (R145, step 3 of R148): its values are
those of the header and speed in it. Answers what the interval gave. -/
def recordTap (t n : Nat) (s : State) : State × TapCalc :=
  let p := s.pas
  let k := tapCalc s p.chain p.headerDown p.tapAt t
  let d := densityAt s (odoTo s (min t (p.tapAt + qTap / 2)))
  let x : Tap := ⟨n - 1, p.tapAt, t, k.a, d.1, d.2.1, d.2.2⟩
  let s1 := odoSettle t (s.upPas (fun p => { p with headerDown := k.down, lastIn := headerIn s p.chain t }))
  match p.slices with
  | sl :: _ => (if sl.finalised then s1 else upHead (fun sl => { sl with taps := x :: sl.taps }) s1, k)
  | [] => (s1, k)

/-- The density queue at the tap instant `t` (R157). -/
def densityTap (t : Nat) (v : F64) (s : State) : State :=
  let stop := F64.neg (F64.ofNat (fld s.pas.chain 0x2E 2))
  let d := densityNow s t
  let x : Dens := ⟨F64.add (odoTo s t) (F64.ofNat (cfg s 0x0502 80 0x24 4)), d.1, d.2.1, d.2.2⟩
  s.upPas (fun p => { p with dens := if F64.le v stop then [] else (x :: p.dens).take 1024 })

/-- Step 1: the Slice that ends at the tap instant (R126, R127). -/
def tapSlice (t n : Nat) (s : State) : State :=
  if s.pas.sliceNext ≤ t then
    let x := match s.pas.slices with
      | sl :: _ => if sl.finalised then s else finaliseSlice t n (stepsAt s t) s
      | [] => s
    openSlice t n x
  else s

/-- The emptiness tests of R137 and R141. -/
def tapEmpty (n : Nat) (s : State) : State :=
  let s1 := if s.pas.state = .runout && emptyTest s.pas s.pas.eTap n then setPass .empty s else s
  if s1.pas.inFlight && emptyTest s1.pas s1.pas.oldEndTap n then
    s1.upPas (fun p => { p with inFlight := false }) else s1

/-- Settlement, with the orphan accumulation that this tap closes (R128, R154): its records beside the
state. -/
def tapSettle (st0 : PassState) (t n : Nat) (s : State) : State × List AttrRec :=
  let s1 := settle t n (s.upPas (fun p => { p with tapNum := n }))
  let left := decide (st0 = .empty) && decide (s1.1.pas.state ≠ .empty)
  let old10 := match s1.1.pas.orphan with | some o => decide (o.openEl + 10 * qSec ≤ s1.1.now.el) | none => false
  let s2 := if left || old10 then closeOrphan t false s1.1 else (s1.1, [])
  (s2.1, s1.2 ++ s2.2)

/-- KD_PASSAGE_STATUS of what this tap instant has changed: the Slice that ended has taken the state from `st0` to
`st1`, and the test for emptiness on to the present one (R137, R144). -/
def passNoted (st0 st1 : PassState) (t : Nat) (s : State) : State :=
  let s1 := if st1 = st0 then s else passStatus st1 t s
  if s1.pas.state = st1 then s1 else passStatus s1.pas.state t s1

/-- What the chain does at tap instant `t`, its `n`-th, in the order of R126. -/
def tapWork (bad : List MapUnit) (t n : Nat) (s : State) : State :=
  let r := recordTap t n s
  let s1 := tapSlice t n r.1
  -- 2: kernels, those of the tap before kept
  let s2 := publishSpeeds t (tapEmpty n (hopTap t (rebuildKernels t s1)))
  -- 4, 5: the density queue, attribution
  let s3 := densityTap t r.2.vEnd s2
  let s4 := if n = 1 then s3
    else (channels s3).foldl (fun x c => attributeTap s1.pas.kernels t s.pas.tapAt t c.1 c.2 x) s3
  -- 6, 7: settlement, the orphan accumulation
  let s5 := tapSettle s.pas.state t n s4
  -- 8: preview
  let s6 := preview t n r.2.last r.2.vEnd s5.1
  -- each change of the passage state has its record (R144)
  let s7 := passNoted s.pas.state s1.pas.state t s6
  (mapTap t bad s5.2 s7).upPas (fun p => { p with
    frames := p.frames.filter (fun f => decide ((t : Int) - 6 * qSec ≤ f.cmp)) })

/-- TAP_INSTANT (R148, R250). `bad` are the units of the map archive that have gone bad since the last one
(R266). -/
def execTapInstant (bad : List MapUnit) (s : State) : Host.Outcome State Fault Refusal :=
  let t := s.pas.tapNext
  let n := s.pas.tapNum + 1
  let s0 := reach t s
  let s1 := if commanding s0 then tapWork bad t n s0 else s0
  .next (s1.upPas (fun p => { p with tapAt := t, tapNext := nextMul qTap t }))

/-- ORPHAN_TIMEOUT (R154): 10 s after the accumulation opened. Its record goes to the map engine. -/
def execOrphanTimeout (s : State) : Host.Outcome State Fault Refusal :=
  match s.pas.orphan with
  | none => .next s
  | some o =>
    let s1 := reachEl (o.openEl + 10 * qSec) s
    let r := closeOrphan s1.now.ft false s1
    .next (r.2.foldl (fun s x => mapRecord s1.now.ft x s) r.1)

/-- EST_WINDOW_END (R131–R136): the estimation window of hop `n` + 1 ends. -/
def execEstWindowEnd (n : Fin 7) (s : State) : Host.Outcome State Fault Refusal :=
  let k := n.val + 1
  let h := nth (Hop.reset k) s.pas.hops n
  let t := h.winNext
  .next (estClose k t (nextMul (max 1 (hopCfg s k 0x4E 2) * qSec) t) (reach t s))

/-- Layout of KD_CROP_CHANGE (R140). -/
def scCropChange : RecSchema :=
  { lens := [32], flds := [fu 0x20 1 0 63 0, fu 0x28 8 0 (2 ^ 64 - 1) 0], rel := fun _ => [] }

/-- KD_CROP_CHANGE (R140). -/
def execKdCropChange (dt : Nat) (p : Post) (s : State) : Host.Outcome State Fault Refusal :=
  .next (command dt 0x0508 unitPass p scCropChange false decideAt (fun u s =>
    let at_ := fld p.body 0x28 8
    if u.cmp + 60 * qSec < at_ then u.refuse 7 0x28 s
    else
      let s1 : State := match s.pas.change with
        | some c => complete 0x0508 unitPass c.post c.stamp ⟨3, 0, 0, p.corr, 0, u.bound⟩ s
        | none => s
      s1.upPas (fun q => { q with change := some ⟨fld p.body 0x20 1, at_, u.cmp + 2 * qMs, p, u.acc⟩ })) s)

/-- PASSAGE_STATUS_PERIOD (R144). -/
def execPassageStatusPeriod (s : State) : Host.Outcome State Fault Refusal :=
  let t := s.pas.statusNext
  let s1 := (reach t s).upPas (fun p => { p with statusNext := nextPeriod t (chainCfg s 0x38 2) })
  .next (passStatus s1.pas.state (max 0 s1.pas.tapAt).toNat s1)

/-! ## Commits, key-off, power-up -/

/-- What a change of hop `n`'s record from `old` does: the open window is spoilt (R133), and a new EST_WINDOW_S lays the
grid of the windows anew (R131). -/
def hopChanged (old : List Byte) (s : State) (n : Nat) (h : Hop) : Hop :=
  let w := hopCfg s n 0x4E 2
  if old = recBody s 0x0501 n then h
  else
    { h with sawSettings := true, winNext := if fld old 0x4E 2 = w then h.winNext else nextMul (max 1 w * qSec) s.now.ft }

/-- A commit that carries the records of these hops, or every hop in FULL mode (R133, R135); `old` was in force. -/
def passCommit (old : Nat → Nat → List Byte) (hops : List Nat) (full : Bool) (s : State) : State :=
  s.upPas (fun p => { p with
    statusNext := nextPeriod s.now.ft (chainCfg s 0x38 2)
    hops := p.hops.zipIdx.map (fun x =>
      let n := x.2 + 1
      let h := hopChanged (old 0x0501 n) s n x.1
      { h with revert := h.revert || full || hops.contains n }) })

/-- An accepted restore returns every hop to the posted values (R165). -/
def passRestore (s : State) : State :=
  s.upPas (fun p => { p with hops := p.hops.map (fun h => { h with revert := true }) })

/-- The running values as they travel over a key-off (R135). -/
def savedRunning (s : State) : List (F64 × F64) := s.pas.hops.zipIdx.map (fun x => running s (x.2 + 1) x.1)

/-- The key-off flush (R155) and what is saved (R135, R141). -/
def passKeyoff (s : State) : State :=
  let t := s.now.ft
  let due := (s.pas.slices.reverse.filter (fun sl => sl.finalised && !sl.settled && sl.cut)).map
    (sliceAttr (massOn s) false)
  let s1 := due.foldl (fun s r => deliverAttr t true r s) s
  let o := closeOrphan t true s1
  let s2 := (due ++ o.2).foldl (fun s r => mapRecord t r s) o.1
  s2.upPas (fun p => { p with
    slices := p.slices.map (fun sl => { sl with settled := true })
    savedHops := savedRunning s2, savedGen := (curCat s).gen, savedCrop := p.crop })

/-- The engine begins with nothing (R119, R135, R137, R141): the running values and the crop saved at
key-off return where the generation is the one of then; the grids are laid from the present instant. -/
def passStart (s : State) : State :=
  let p := s.pas
  let t := s.now.ft
  let keep := decide (p.savedGen = (curCat s).gen) && decide (p.savedHops.length = 7)
  s.upPas (fun p => { Passage.reset with
    tapAt := t, odoAt := t, stages := stageCount s, tapNext := nextMul qTap t, sliceNext := nextMul qSlice t, chain := recBody s 0x0501 0
    statusNext := nextPeriod t (chainCfg s 0x38 2), crop := p.savedCrop
    savedHops := p.savedHops, savedGen := p.savedGen, savedCrop := p.savedCrop
    hops := Passage.reset.hops.zipIdx.map (fun x =>
      let n := x.2 + 1
      let h : Hop := { hopPosted s n { x.1 with revert := true } with winStart := t, winNext := nextMul (max 1 (hopCfg s n 0x4E 2) * qSec) t }
      if keep then
        let v := nth (F64.zero, F64.zero) p.savedHops x.2
        { h with aUs := v.1, tauUs := v.2 }
      else h) })

/-- The open orphan accumulation closes at the step instant `t`, with STEPPED (R30, R154). -/
def stepOrphan (t : Nat) (s : State) : State :=
  let r := closeOrphan t false (s.upPas (fun p => { p with stepTap := some p.tapNum }))
  r.2.foldl (fun s x => mapRecord t x s) r.1

/-- A Field Time step of `d` q at the instant `t` of the old count (R28–R30, R130, R133): grids, stamps and
the open Slice go on in the new count; the estimation windows and the orphan accumulation close. -/
def passStep (d : Int) (t : Nat) (s : State) : State :=
  let new := ((t : Int) + d).toNat
  let gridAt := fun (p : Nat) => ceilTo p (new + p / 2)
  let s1 := s.upPas (fun p => { p with hops := p.hops.map (fun h => { h with sawStep := true }) })
  let s2 := (List.range 7).foldl (fun (s : State) i =>
    estClose (i + 1) t (gridAt (max 1 (hopCfg s (i + 1) 0x4E 2) * qSec)) s) s1
  (stepOrphan t s2).upPas (fun p => { p with
    tapAt := new, tapNext := gridAt qTap, sliceNext := gridAt qSlice
    statusNext := gridAt (max 1 (chainCfg s 0x38 2) * qMs)
    frames := p.frames.map (fun f => { f with cmp := f.cmp + d })
    change := p.change.map (fun c => { c with after := ((c.after : Int) + d).toNat })
    odoAt := p.odoAt + d
    hops := p.hops.map (fun h => { h with winStart := new })
    slices := match p.slices with
      | sl :: r => (if sl.finalised then sl else { sl with s := new, taps := sl.taps.map (fun x => { x with t0 := x.t0 + d, t1 := x.t1 + d }) }) :: r
      | [] => [] })

end Sys2Proof.Machine
end

