-- ==== Sys2Proof/Machine/Margin.lean ====
section
/-!
DEFINITION. The margin plan (R484–R494): forming it, applying its steps, and the flash refresh.
-/
namespace Sys2Proof.Machine

/-- Domains fed by a rail, in the order of SLACK of R494 (R485). -/
def railDomains (r : Nat) : List Nat :=
  match r with
  | 0 => [0] | 1 => [1] | 2 => [2, 3] | _ => [4, 5, 6, 7]

/-- Index in STEP of R494 of a domain that may step down (R485). -/
def stepIdx (d : Nat) : Option Nat :=
  match d with
  | 0 => some 1 | 1 => some 2 | 2 => some 3 | 3 => some 0 | _ => none

/-- Domain number of R477 of an index in STEP. -/
def domainNo (i : Nat) : Nat := nth 0 [6, 7, 8, 9] i

/-- What the plan decides while it goes through the rails (R488). -/
structure PlanAcc where
  trim : List Nat
  step : List Nat
  slack : List Int
  shortMax : List Bool
  ladderEnd : Bool
  /-- Rails that reach 60 mV by this plan. -/
  maxed : List Nat
  /-- Rails of the domains that stay short under LADDER_END. -/
  ended : List Nat
  /-- Steps decided: index in STEP and the new step. -/
  steps : List (Nat × Nat)

/-- Trim of one rail (R488): the shortfall over the gain per 5 mV, rounded up; no gain takes all of the
trim (log entry 51). -/
def planTrim (gain : List Nat) (r : Nat) (a : PlanAcc) : PlanAcc :=
  let short := ((railDomains r).map (fun d => 1000 - nth 0 a.slack d)).foldl max (-(2 ^ 31))
  let was := nth 0 a.trim r
  if 0 < short ∧ was < 60 then
    let g := nth 0 gain r
    let n := if g = 0 then 12 else (short.toNat + g - 1) / g
    let now := min (was + 5 * n) 60
    { a with
      trim := a.trim.set r now
      slack := (railDomains r).foldl (fun l d => upd l d (· + ((g * ((now - was) / 5) : Nat) : Int))) a.slack
      maxed := if now = 60 then a.maxed ++ [r] else a.maxed }
  else a

/-- Step of one domain that is short at maximum trim (R488). -/
def planStep (wasShort : List Bool) (r : Nat) (a : PlanAcc) (d : Nat) : PlanAcc :=
  if 1000 ≤ nth 0 a.slack d ∨ nth 0 a.trim r < 60 then a
  else
    let a1 := { a with shortMax := a.shortMax.set d true }
    match stepIdx d with
    | some i =>
      let k := nth 0 a.step i
      if k < 2 then
        if nth false wasShort d then { a1 with step := a.step.set i (k + 1), steps := a.steps ++ [(i, k + 1)] }
        else a1
      else { a1 with ladderEnd := true, ended := a.ended ++ [r] }
    | none => { a1 with ladderEnd := true, ended := a.ended ++ [r] }

/-- Rails and steps of a plan (R488). -/
def planRails (p : PlanMeas) (m : Margin) : PlanAcc :=
  (List.range 4).foldl (fun a r =>
    (railDomains r).foldl (planStep m.shortMax r) (planTrim p.gain r a))
    ⟨m.trim, m.step, p.slack, List.replicate 8 false, false, [], [], []⟩

/-- Refresh window that a retention allows (R490). -/
def dramWindowMs (retention : Nat) : Nat := max 8 (min 32 (retention / 4))

/-- Flash refresh period in days (R490). -/
def flashDays (peMax : Nat) : Nat := if peMax ≤ 900 then 365 else if peMax ≤ 2100 then 90 else 30

/-- Predicted hold-up time in ms from C in µF and ESR in mΩ (R491), rounded down (log entry 52). -/
def holdupTime (uf esr : Nat) : Nat :=
  -- voltages in half a mV
  let vMin := 24000 + 13 * esr
  uf * (68000 ^ 2 - vMin ^ 2) / 624000000000

/-- Checkpoint content of R492. -/
def holdupLevel (ms : Nat) : Nat := if 120 ≤ ms then 0 else if 100 ≤ ms then 1 else 2

/-- Return deadline in ms after F (R492). -/
def returnDeadlineMs (level ms : Nat) : Nat :=
  match level with
  | 0 => 100
  | 1 => ms - 20
  | _ => max (ms - 20) 20

/-- The hours of a limit that no trend reaches. -/
def neverHours : Nat := 0xFFFFFFFF

/-- Serving hours until a quantity reaches its limit (R493), from its (hour, value) points, newest first:
on their line where they lie on one, rounded down; else the fit that the spec leaves open (log entry
53). -/
def hoursTo (pts : List (Nat × Int)) (limit : Int) : Nat :=
  match pts, pts.getLast? with
  | (h1, v1) :: _, some (h0, v0) =>
    let dh : Int := (h1 : Int) - h0
    let dv := v1 - v0
    if v1 = limit then 0
    else if pts.all (fun x => decide ((x.2 - v0) * dh = dv * ((x.1 : Int) - h0))) then
      let gap := limit - v1
      if dv = 0 ∨ decide (0 < dv) ≠ decide (0 < gap) then neverHours
      else min neverHours (gap.natAbs * dh.natAbs / dv.natAbs)
    else (Config.lifeFit pts limit).toNat
  | _, _ => neverHours

/-- A past plan as R493 needs it. -/
abbrev PastPlan := Nat × List Nat × List Nat × List Nat × Nat × Nat

/-- Values of past plans as points. -/
def pointsOf (h : List PastPlan) (f : PastPlan → Nat) : List (Nat × Int) := h.map (fun x => (x.1, (f x : Int)))

/-- A rail has reached the end of its trim with all its domains at step 2 (R493). -/
def railEnded (trim step : List Nat) (r : Nat) : Bool :=
  nth 0 trim r == 60 && (r == 3 || (railDomains r).all (fun d =>
    match stepIdx d with | some i => nth 0 step i == 2 | none => true))

/-- Hours until a rail reaches its end: that of its trim, and of the steps of its domains (R493). -/
def railHours (h : List PastPlan) (r : Nat) : Nat :=
  let t := hoursTo (pointsOf h (fun x => nth 0 x.2.1 r)) 60
  if r = 3 then t
  else (railDomains r).foldl (fun a d =>
    match stepIdx d with
    | some i => max a (hoursTo (pointsOf h (fun x => nth 0 x.2.2.1 i)) 2)
    | none => a) t

/-- LIFE_HOURS and LIMITING (R493). -/
def lifeOf (h : List PastPlan) : Nat × Nat :=
  match h, h.getLast? with
  | x :: _, some o =>
    if x.1 - o.1 < 100 then (neverHours, 0)
    else
      let h1 := if (List.range 4).any (railEnded x.2.1 x.2.2.1) then 0
        else ((List.range 4).map (railHours h)).foldl min neverHours
      let h2 := if x.2.2.2.1.any (· ≤ 8) then 0
        else ((List.range 2).map (fun i => hoursTo (pointsOf h (fun y => nth 0 y.2.2.2.1 i)) 8)).foldl min neverHours
      let h3 := if 3000 ≤ x.2.2.2.2.1 then 0 else hoursTo (pointsOf h (fun y => y.2.2.2.2.1)) 3000
      let h4 := if x.2.2.2.2.2 ≤ 100 then 0 else hoursTo (pointsOf h (fun y => y.2.2.2.2.2)) 100
      [(h1, 1), (h2, 2), (h3, 3), (h4, 4)].foldl (fun b c => if c.1 < b.1 then c else b) (neverHours, 0)
  | _, _ => (neverHours, 0)

/-- Elapsed quanta in Serving since manufacture (R480). -/
def servingQuanta (s : State) : Nat :=
  s.pow.servingQ + (if s.pow.state = .serving then s.now.el - s.pow.servingAt else 0)

/-- Body of KD_LIFE_MARGIN (R494) of the plan in `m`. -/
def lifeBody (cause hours flagBits : Nat) (m : Margin) : List Byte :=
  let arr := fun (off size : Nat) (l : List Nat) => l.zipIdx.map (fun x => (off + size * x.2, size, x.1))
  mkBody 112 ([(0x20, 4, sat 32 m.seq), (0x24, 1, cause), (0x25, 1, flagBits), (0x26, 1, m.level),
      (0x27, 1, m.limiting), (0x28, 4, m.lifeHours), (0x2C, 4, sat 32 hours)]
    ++ arr 0x30 1 m.trim ++ arr 0x34 1 m.step ++ arr 0x38 2 (m.slack.map (sgn 2))
    ++ arr 0x48 2 m.dramWindow ++ arr 0x4C 2 (m.dramRetention.map (sat 16))
    ++ [(0x50, 4, sat 32 m.peMax), (0x54, 4, sat 32 m.peMean), (0x58, 2, m.refreshDays),
      (0x5A, 2, sat 16 m.sparePermille), (0x5C, 4, sat 32 m.holdupUf), (0x60, 2, sat 16 m.esrMohm),
      (0x62, 2, sat 16 m.holdupMs), (0x64, 4, sgn 4 m.ageingPpt), (0x68, 2, sat 16 m.rateUse)]
    ++ arr 0x6C 1 (m.fetRise.map (sat 8)))

/-- Deliver KD_LIFE_MARGIN and raise MARGIN_PLAN (R494). -/
def deliverPlan (body : List Byte) (eff : Nat) (s : State) : State :=
  raise 124 0xFFFF 0 (emit 0x1301 2 0x12 0 eff eff body s)

/-- Form a margin plan from what the monitors show (R487–R493). CAUSE 0 is the power-up plan, delivered at
the first beat of Active (R494). -/
def formPlan (cause : Nat) (p : PlanMeas) (s : State) : State :=
  let m := s.mar
  let a := planRails p m
  let win := p.retention.map dramWindowMs
  let days := flashDays p.peMax
  let hours := servingQuanta s / (3600 * qSec)
  let level := holdupLevel m.holdupMs
  let past : PastPlan := (hours, a.trim, a.step, win, p.peMean, m.holdupMs)
  let hist := (past :: m.hist).filter (fun x => decide (hours ≤ x.1 + 1000))
  let life := lifeOf hist
  let use := (ratePpt s.time.r).natAbs / 100
  let ladder := a.ladderEnd || p.retention.any (fun x => decide (x < 32))
  let m1 : Margin := { m with
    seq := m.seq + 1, trim := a.trim, step := a.step, slack := p.slack, shortMax := a.shortMax
    ladderEnd := ladder, dramWindow := win, dramRetention := p.retention, peMax := p.peMax
    peMean := p.peMean, refreshDays := days, sparePermille := p.spare, level := level
    ageingPpt := (Config.ageingFit m.rateDays).toInt, rateUse := use, fetRise := p.fetRise, hist := hist
    lifeHours := life.1, limiting := life.2, pendingSteps := m.pendingSteps ++ a.steps
    planAt := s.now.el, planDue := false }
  let fl := flags [(7, a.trim != m.trim), (6, a.step != m.step), (5, ladder),
    (4, decide (m.holdupMs < 120)), (3, win != m.dramWindow), (2, days != m.refreshDays),
    (1, p.fetRise.any (50 ≤ ·)), (0, decide (800 ≤ use))]
  let body := lifeBody cause hours fl m1
  let s1 := s.upMar (fun _ => { m1 with
    undelivered := if cause = 0 then some (body, s.now.ft) else m1.undelivered })
  let s2 := a.maxed.foldl (fun s r => raise 125 r 0 s) s1
  let s3 := a.ended.foldl (fun s r => raiseX 125 r 1 3 [] s.now.ft s.now.ft s) s2
  let s4 := if m.level < level then
      raiseX 127 0xFFFF level (if level = 2 then 3 else 0) [] s.now.ft s.now.ft s3
    else s3
  if cause = 0 then s4 else deliverPlan body s.now.ft s4

/-- The power-up plan is delivered at the first beat of Active (R494). -/
def deliverHeldPlan (s : State) : State :=
  match s.mar.undelivered with
  | some (body, eff) => deliverPlan body eff (s.upMar (fun m => { m with undelivered := none }))
  | none => s

/-- The lane whose domain an index in STEP names (R486). -/
def stepLane (i : Nat) : Option (Fin 2) := if i = 1 then some 0 else if i = 2 then some 1 else none

/-- A step of a lane's domain waits while the lane is Off or Booting (R489). -/
def stepWaits (s : State) (i : Nat) : Bool :=
  match stepLane i with
  | some l =>
    let st := (s.lanes.lane l).state
    st == .off || st == .booting
  | none => false

/-- Steps take effect: MARGIN_FREQ_STEP is raised for each (R489). -/
def applySteps (p : Nat × Nat → Bool) (s : State) : State :=
  let now := s.mar.pendingSteps.filter p
  now.foldl (fun s x => raise 126 (domainNo x.1) x.2 s)
    (s.upMar (fun m => { m with pendingSteps := m.pendingSteps.filter (fun x => !p x) }))

/-- MARGIN_PLAN (R487): 60 min of elapsed time in Serving since the last plan. In KEYOFF and HOLDUP the
plan waits for the return to RUN. -/
def execMarginPlan (p : PlanMeas) (s : State) : Host.Outcome State Fault Refusal :=
  if s.pow.state ≠ .serving then .next s
  else
    let s1 := reachEl (s.mar.planAt + 3600 * qSec) s
    if s1.pow.sub = .run then .next (formPlan 1 p s1)
    else .next (s1.upMar (fun m => { m with planDue := true }))

/-- MARGIN_STEP_APPLY (R489): the first beat boundary after the plan. -/
def execMarginStepApply (s : State) : Host.Outcome State Fault Refusal :=
  if s.mar.pendingSteps.all (fun x => stepWaits s x.1) then .next s
  else
    let s1 := reach (nextMul qBeat s.now.ft) s
    .next (applySteps (fun x => !stepWaits s x.1) s1)

/-- FLASH_REFRESH_DUE (R490): data older than the refresh period is rewritten. -/
def execFlashRefreshDue (s : State) : Host.Outcome State Fault Refusal :=
  if s.pow.state ≠ .serving then .next s
  else
    let s1 := reachEl (s.mar.refreshedAt + s.mar.refreshDays * 86400 * qSec) s
    .next (s1.upMar (fun m => { m with refreshedAt := s1.now.el }))

end Sys2Proof.Machine
end

