-- ==== Sys2Proof/Machine/PlatformOps.lean ====
section
/-!
DEFINITION. Shared operations on image slots (R448–R463) and on power (R468–R480): slot changes with
their records, the slot of a unit's next start, KD_POWER_STATUS.
-/
namespace Sys2Proof.Machine

/-! ## Image slots -/

/-- Slot `n` of R448. -/
def slotAt (s : State) (n : Nat) : Slot := nth ⟨.empty, ⟨0, 0, 0, 0, 0, 0, 0, 0, []⟩⟩ s.img.slots n

/-- The two slots of a unit: 0 Recto, 1 Verso, 2 Curator, 3 Front-end (R448, R454). -/
def unitSlots (u : Nat) : List Nat := [2 * u, 2 * u + 1]

/-- The slot of a unit that is in a state. -/
def slotIn (s : State) (u : Nat) (st : SlotState) : Option Nat :=
  (unitSlots u).find? (fun n => (slotAt s n).state == st)

/-- The slot that a unit's next start is from (R449). -/
def nextSlot (s : State) (u : Nat) : Option Nat :=
  match slotIn s u .try_ with
  | some n => some n
  | none => slotIn s u .confirmed

/-- The slot that a unit runs from, while it runs. -/
def runningSlot (s : State) (u : Nat) : Option Nat :=
  match u with
  | 0 => if s.lanes.recto.state = .off then none else some s.lanes.recto.slot
  | 1 => if s.lanes.verso.state = .off then none else some s.lanes.verso.slot
  | 2 => if awake s then some s.img.curSlot else none
  | _ => if awake s then some s.img.feSlot else none

/-- STATE of R448. -/
def SlotState.code : SlotState → Nat
  | .empty => 0 | .writing => 1 | .stored => 2 | .try_ => 3 | .confirmed => 4 | .failed => 5

/-- The 16 bytes of a slot in KD_IMAGE_STATUS (R463). -/
def slotBytes (s : State) (n : Nat) : List Byte :=
  let x := slotAt s n
  let u := n / 2
  leBytes 1 x.state.code
    ++ leBytes 1 (flags [(7, runningSlot s u == some n), (6, nextSlot s u == some n)])
    ++ leBytes 1 x.hdr.major ++ leBytes 1 x.hdr.minor ++ leBytes 2 x.hdr.patch ++ leBytes 2 x.hdr.format
    ++ leBytes 4 x.hdr.bodyLen ++ leBytes 1 x.hdr.keyIndex ++ leBytes 3 0

/-- A version number laid out as FLOOR of R452: major, minor, patch. -/
def floorBytes (v : Nat) : List Byte :=
  leBytes 1 (v / 2 ^ 24) ++ leBytes 1 (v / 2 ^ 16) ++ leBytes 2 v

/-- Deliver KD_IMAGE_STATUS (R463). -/
def imageStatus (cause : Nat) (s : State) : State :=
  let b := (mkBody 144 [(0x20, 1, cause)])
  let b := putBytes b 0x24 (s.img.floors.flatMap floorBytes)
  let b := putBytes b 0x30 ((List.range 8).flatMap (slotBytes s))
  emit 0x1104 17 0x10 0 s.now.ft s.now.ft b s

/-- A slot changes its state, and its header where a store gives one (R448). -/
def putSlot (n : Nat) (st : SlotState) (s : State) : State :=
  s.upImg (fun i => { i with slots := upd i.slots n (fun x => { x with state := st }) })

/-- A slot changes its state and KD_IMAGE_STATUS is delivered (R463). -/
def setSlot (n : Nat) (st : SlotState) (s : State) : State := imageStatus 1 (putSlot n st s)

/-- VERSION of a header as one number (R452). -/
def ImageHdr.version (h : ImageHdr) : Nat := h.major * 2 ^ 24 + h.minor * 2 ^ 16 + h.patch

/-- A TRY image becomes CONFIRMED (R449): the slot confirmed before becomes STORED, and the floor of the
kind rises. -/
def confirmSlot (n : Nat) (s : State) : State :=
  let h := (slotAt s n).hdr
  let s1 := match slotIn s (n / 2) .confirmed with
    | some o => putSlot o .stored s
    | none => s
  let s2 := setSlot n .confirmed s1
  let was := nth 0 s.img.floors (h.kind - 1)
  if was < h.floor then
    imageStatus 2 (s2.upImg (fun i => { i with floors := i.floors.set (h.kind - 1) h.floor }))
  else s2

/-! ## Power -/

/-- Domains of R477 that run, bit n − 1 for domain n. -/
def clocksOf (s : State) : Nat :=
  let rec_ := decide (s.lanes.recto.state ≠ .off)
  let ver := decide (s.lanes.verso.state ≠ .off)
  let full := s.pow.state == .serving
  let keep := awake s
  flags [(0, s.pow.state != .unpowered), (1, keep), (2, keep), (3, keep),
    (4, full && (List.range 8).any (fun n => portCfg s n 0x22 1 == 1)),
    (5, full && (List.range 6).any (fun p => (pipeOf s p).st != .off)),
    (6, rec_), (7, ver), (8, full), (9, rec_ || ver),
    (10, full && s.hub.link.up && !s.hub.link.l1), (11, keep), (12, full), (13, keep)]

/-- SUBSTATE of R480. -/
def SubState.code : SubState → Nat
  | .run => 0 | .keyoff => 1 | .holdup => 2

/-- Body of KD_POWER_STATUS (R480). -/
def powerBody (s : State) : List Byte :=
  let p := s.pow
  mkBody 64 ([(0x20, 1, p.sub.code), (0x21, 1, p.wakeSource),
      (0x22, 1, flags [(7, p.ign), (6, p.afterShutdown), (5, p.warm), (4, p.keyoffIncomplete),
        (3, p.undervolt), (2, p.overvolt), (1, p.supplyReturned)]),
      (0x24, 2, sat 16 p.vbatMv)]
    ++ p.vsMv.zipIdx.map (fun x => (0x26 + 2 * x.2, 2, x.1))
    ++ [(0x32, 1, sgn 1 p.plateC), (0x34, 4, sat 32 p.logicMw), (0x38, 2, clocksOf s),
      (0x3C, 4, sat 32 p.powerUps), (0x40, 4, sat 32 (servingQuanta s / qSec)), (0x44, 2, p.startMs),
      (0x48, 4, sat 32 p.lastKeyoffMs)])

/-- Deliver KD_POWER_STATUS for the beat boundary `b` (R480); AFTER_SHUTDOWN stands in the first record that is
delivered (R474). -/
def powerStatus (b : Nat) (s : State) : State :=
  (emit 0x1202 2 0x11 0 b b (powerBody s) s).upPow (fun p =>
    { p with afterShutdown := p.afterShutdown && !commanding s })

end Sys2Proof.Machine
end

