-- ==== Sys2Proof/Machine/LaneOps.lean ====
section
/-!
DEFINITION. Shared operations on the lanes and the Curator (R42–R66, R449–R451): lane states, release,
start, first beat of the Active lane, failure, switch orders, rebuild attempts.
-/
namespace Sys2Proof.Machine

/-- Lane `i`. -/
def laneOf (s : State) (i : Fin 2) : Lane := s.lanes.lane i

/-- Change lane `i`. -/
def upLane (i : Fin 2) (f : Lane → Lane) (s : State) : State := s.upLanes (fun l => l.upLane i f)

/-- State code of R66. -/
def LaneState.code : LaneState → Nat
  | .off => 0 | .booting => 1 | .rebuilding => 2 | .standby => 3 | .active => 4 | .shadow => 5

/-- Versions are equal (R52): major, minor, patch and settings format. -/
def equalVersions (s : State) : Bool := s.lanes.recto.ver == s.lanes.verso.ver

/-- The lane that is Active (R52). -/
def activeLane (s : State) : Option (Fin 2) :=
  if s.lanes.recto.state = .active then some 0
  else if s.lanes.verso.state = .active then some 1 else none

/-- LANE_STATE but CURATOR_RUNNING, in the Curator's view (R516). -/
def laneView (l : Lanes) : Nat :=
  l.mismatch % 256 * 2 ^ 24
    + flags [(19, l.overlap.isSome), (18, l.selfcheck), (17, l.suspended)] + l.verso.state.code * 2 ^ 8 + l.recto.state.code

/-- The Curator goes silent: LANE_STATE holds what it showed last (R516). -/
def Lanes.goSilent (l : Lanes) : Lanes :=
  { l with silent := true, shown := if l.silent then l.shown else laneView l }

/-- Body of KD_LANE_STATUS (R66) for the beat boundary `b`. -/
def laneStatusBody (b : Nat) (s : State) : List Byte :=
  let l := s.lanes
  mkBody 32 [(0x20, 1, l.recto.state.code), (0x21, 1, l.verso.state.code),
    (0x22, 1, flags [(7, l.restarted), (6, l.suspended), (5, l.selfcheck), (4, l.overlap.isSome)]),
    (0x23, 1, l.mismatch), (0x24, 4, l.agree), (0x28, 4, b / qBeat % 2 ^ 32), (0x2C, 4, l.absentTotal),
    (0x30, 4, l.mismatchTotal), (0x34, 4, l.lastSwitch % 2 ^ 32), (0x38, 2, l.takeovers),
    (0x3A, 2, l.discarded), (0x3C, 1, max l.recto.attempt l.verso.attempt)]

/-- Deliver KD_LANE_STATUS for the beat boundary `b` (R66). DESIGN CHOICE: CURATOR_RESTARTED, of which R66 gives no
end, is reported once (log entry 55). -/
def laneStatusAt (b : Nat) (s : State) : State :=
  if commanding s then
    (emit 0x0202 2 0x0D 0 b b (laneStatusBody b s) s).upLanes (fun l => { l with restarted := false })
  else s

/-- Deliver KD_LANE_STATUS at a change (R66). -/
def laneStatus (s : State) : State := laneStatusAt (beatAt s.now.ft) s

/-- A lane changes its state: LANE_STATE with CODE the new state (R52). -/
def laneTo (i : Fin 2) (st : LaneState) (s : State) : State :=
  if (laneOf s i).state = st then s
  else raise 8 0xFFFF st.code (upLane i (fun l => { l with state := st }) s)

/-- Unit number of a lane in R448 and R454. -/
def laneUnit (i : Fin 2) : Nat := i.val

/-- The lane sends signatures (R47, R60): it has joined the live stream. -/
def signing (s : State) (i : Fin 2) : Bool :=
  let l := laneOf s i
  l.state == .active || l.state == .standby
    || ((l.state == .rebuilding || l.state == .shadow) && l.phase == .live)

/-! ## Release, rebuild -/

/-- What a lane forgets at its release into Booting. -/
def Lane.release (l : Lane) (slot el : Nat) (stored : Bool) : Lane :=
  { l with started := false, hbBeat := none, hbAt := el, hbBeats := 0, bootAt := el
           inReset := !l.rails.isEmpty, sigs := [], attempt := 0, phase := if stored then .live else .none
           journal := none, ckpt := none, own := none, hbSent := 0
           agreeRun := 0, verdict := none, statusAt := el, linkLost := false, slot := slot, loaded := false }

/-- Release a lane into Booting from the slot of R449; `stored` at a power-up, where it starts from the same
state as the other lane (R53). A lane without an image to start from stays Off. Steps of its domain take
effect (R489). -/
def releaseLane (i : Fin 2) (stored : Bool) (s : State) : State :=
  match nextSlot s (laneUnit i) with
  | none => laneTo i .off s
  | some n =>
    applySteps (fun x => stepLane x.1 == some i)
      (laneTo i .booting (upLane i (fun l => l.release n s.now.el stored) s))

/-- A lane sets out for the live stream (R60): its journal begins at its first beat; `live` where it needs no
checkpoint (R53, R62). -/
def Lane.setOut (l : Lane) (attempt : Nat) (live : Bool) (s : State) : Lane :=
  { l with
    attempt := attempt, phase := if live then .live else .none, agreeRun := 0, b0 := s.now.el, sigs := []
    journal := if live then none else some (beatAt s.now.ft), ckpt := none, own := none }

/-- A lane starts to rebuild (R52, R60). -/
def enterRebuild (i : Fin 2) (live : Bool) (s : State) : State :=
  laneTo i .rebuilding (upLane i (fun l => l.setOut 1 live s) s)

/-- A Shadow lane takes a checkpoint when major version and settings format are the same, and starts from
its defaults and the live stream otherwise (R62). -/
def enterShadow (i : Fin 2) (s : State) : State :=
  let a := s.lanes.recto.ver
  let b := s.lanes.verso.ver
  let ckpt := decide (a.major = b.major) && decide (a.format = b.format) && (laneOf s i).phase != .live
  laneTo i .shadow (upLane i (fun l => l.setOut l.attempt (!ckpt) s) s)

/-- A rebuild attempt fails (R61): a new checkpoint, or Off at the third. -/
def rebuildFails (i : Fin 2) (s : State) : State :=
  let s1 := s.upLanes (fun l => { l with mismatch := 0 })
  if (laneOf s i).attempt < 3 then
    upLane i (fun l => l.setOut (l.attempt + 1) false s) s1
  else laneStatus (raise 15 0xFFFF 0 (laneTo i .off s1))

/-! ## The first beat of the Active lane -/

/-- A loop slot at power-up: its records from the Catalogue, its grid from the instant `t` (R166, R190). -/
def slotStart (s : State) (t n : Nat) : Loop :=
  let r := Loop.reset n
  let sup := recBody s 0x0601 (128 + n)
  match (curCat s).find 0x0601 n with
  | none => { r with sup := sup }
  | some b => { r with law := some b, sup := sup, next := boundaryAt b t, sp := fldS b 0x6C 4 }

/-- The Control Engine at power-up. -/
def ctlStart (t : Nat) (s : State) : State :=
  s.upCtl (fun _ => ⟨(List.range 128).map (slotStart s t),
    (List.range 16).map (fun g => { Group.reset g with recd := recBody s 0x0602 g })⟩)

/-- The loops of START_LOOPS that have a law record with an input enter Starting at their first sample
boundary (R476). -/
def startLoops (s : State) : State :=
  let mask := cfg s 0x1201 0 0x30 16
  (List.range 128).foldl (fun s n =>
    match (lp s n).law with
    | some b =>
      if mask.testBit n && decide (fld b 0x2A 2 ≠ 0xFFFF) then
        enterStarting n s
      else s
    | none => s) s

/-- The engines of a lane that starts from the stored state (R44, R119, R260): the timeline is empty, the
map cache is empty. -/
def enginesStart (lossy : Bool) (s : State) : State := mapRestart lossy (passStart s)

/-- The units that the commanding lane takes up at the first beat (R375, R382, R393, R404): enabled CAN
controllers integrate, CAN_WAKE is raised for the one that woke the module, `MDM_HOLD` releases where the
port is enabled. -/
def unitsFirst (s : State) : State :=
  let s1 := (List.range 6).foldl (fun (s : State) c =>
    let s1 := if (cctl s c).wakeSource then canRaise 109 c 0 s else s
    if fld (canRec s c) 0x21 1 = 1 then canSetState c .integrating s1 else s1) s
  modemHold (s1.upModem (fun m => { m with recd := modemRec s1 }))

/-- The first beat of the Active lane after a start, at the boundary `b` (R463, R475, R476, R480, R494). -/
def firstBeat (b : Nat) (s : State) : State :=
  let s1 := s.upPow (fun p => { p with firstBeat := true, startMs := sat 16 ((s.now.el - p.wakeAt) / qMs) })
  deliverHeldPlan (imageStatus 0 (powerStatus b (startLoops (ctlStart b (enginesStart false (unitsFirst s1))))))

/-- A lane becomes Active after a failure that left no lane (R53): its loops enter Starting with the
initialisation of R212; the engines start from the stored state. -/
def restartBeat (b : Nat) (s : State) : State :=
  (List.range 128).foldl (fun s n =>
    let l := lp s n
    match l.law with
    | some _ => if l.state = .off then s else enterStarting n (releaseAction n b s)
    | none => s) (enginesStart true s)

/-- A lane becomes Active where none is (R53). The other lane rebuilds, with a checkpoint unless both
started from the same stored state, or is Shadow when the versions differ (R52, R451). -/
def becomeActive (i : Fin 2) (s : State) : State :=
  let o := other i
  let b := beatAt s.now.ft
  let powerUp := !s.pow.firstBeat
  let s1 := laneTo i .active ((reach b s).upLanes (fun l =>
    { (l.upLane i (fun x => { x with phase := .live })) with selector := some i, startW := none, preferOver := false }))
  let x := laneOf s1 o
  let s2 := match x.state with
    | .booting =>
      if !x.started then s1
      else if equalVersions s1 then enterRebuild o (x.phase == .live) s1 else enterShadow o s1
    | .shadow => if equalVersions s1 then enterRebuild o false s1 else s1
    | .rebuilding => if equalVersions s1 then enterRebuild o false s1 else enterShadow o s1
    | _ => s1
  let s3 := laneStatusAt b s2
  if powerUp then firstBeat b s3 else restartBeat b s3

/-! ## Start of a lane -/

/-- The lane that is preferred at power-up (R53, R451): where exactly one of the two starts from a CONFIRMED
slot that one, else the one that PREFERRED_LANE names. -/
def preferredLane (s : State) : Fin 2 :=
  let c := fun (i : Fin 2) => (slotAt s (laneOf s i).slot).state == .confirmed
  if c 0 && !c 1 then 0
  else if c 1 && !c 0 then 1
  else if cfg s 0x0201 0 0x20 1 = 0 then 0 else 1

/-- Once both lanes run one settings format, the Catalogue of any other format is erased (R458). -/
def dropFormats (s : State) : State :=
  let a := s.lanes.recto
  let b := s.lanes.verso
  if a.started ∧ b.started ∧ a.ver.format = b.ver.format then
    s.upCat (fun c => { c with cats := c.cats.filter (fun x => x.format == a.ver.format)
                               flash := c.flash.filter (fun x => x.format == a.ver.format) })
  else s

/-- What the start of a lane reports: UPDATE_STARTED where it runs from another slot than before (R456),
UPDATE_SETTINGS_DEFAULT where no Catalogue is held in its format (R458). -/
def startReports (i : Fin 2) (was : Nat) (s : State) : State :=
  let l := laneOf s i
  let s1 := if l.slot = was then s else raise 121 l.slot 0 s
  if s1.cat.cats.any (fun c => c.format == l.ver.format) then s1
  else raise 122 l.slot l.ver.format s1

/-- A lane has started (R52, R53, R539): its first valid heartbeat has come. -/
def laneStarts (i : Fin 2) (v : Version) (s : State) : State :=
  let o := other i
  let was := (laneOf s i).prevSlot
  let s1 := upLane i (fun l => { l with started := true, ver := v, prevSlot := l.slot }) s
  let s2 :=
    if (laneOf s1 o).state = .active then
      laneStatus (if equalVersions s1 then enterRebuild i ((laneOf s1 i).phase == .live) s1 else enterShadow i s1)
    else if s1.lanes.startW.isSome then
      if preferredLane s1 = i ∨ s1.lanes.preferOver then becomeActive i s1 else s1
    else becomeActive i s1
  startReports i was (dropFormats s2)

/-- A lane's start fails (R450): Off; a TRY slot becomes FAILED and the lane starts again from its
CONFIRMED slot. -/
def startFails (i : Fin 2) (s : State) : State :=
  let n := (laneOf s i).slot
  let s1 := laneTo i .off s
  let s2 :=
    if (slotAt s n).state = .try_ then releaseLane i false (setSlot n .failed s1) else s1
  laneStatus s2

/-! ## Switches of the commanding lane -/

/-- Order the other lane to command (R54 step 2, R59, R63). -/
def orderSwitch (why : SwitchWhy) (dest : Fin 2) (post : Option (Post × Nat)) (s : State) : State :=
  s.upLanes (fun l => { l with switch := some ⟨why, dest, post, none⟩ })

/-- Reset a lane into Booting at once (R52). -/
def resetLane (i : Fin 2) (s : State) : State := releaseLane i false s

/-- What the Active lane holds as its complete state (R60). -/
def enginesOf (s : State) : Engines := ⟨s.cat, s.sig, s.ctl, s.pas, s.pos, s.fus, s.map⟩

/-- A signal of the input stream: field inputs, valves, CAN, cameras (R170); the others are produced in a lane. -/
def streamSignal (n : Nat) : Bool := decide (n < 2048) || (decide (2112 ≤ n) && decide (n < 2176))

/-- A promoted Shadow lane goes on from what it has computed itself (R62, R63): free values (log entry 76), in the 128
slots and 16 groups that every version has; what the stream brings it has in common with the other lane (R43). -/
def takeShadow (s : State) : State :=
  let e := Config.shadowEngines s.now.free
  let s1 := s.upCtl (fun _ =>
    ⟨(List.range 128).map (fun n => nth default e.ctl.loops n), (List.range 16).map (fun n => nth default e.ctl.groups n)⟩)
  let s2 := s1.upSig (fun g => { g with
    tab := g.tab.filter (fun x => streamSignal x.num) ++ e.sig.tab.filter (fun x => !streamSignal x.num) })
  let s3 := ((s2.upPas (fun _ => e.pas)).upPos (fun _ => e.pos)).upFus (fun _ => e.fus)
  drawn (s3.upMap (fun _ => e.map))

/-- No lane commands (R56): LANE_NONE at severity 3, raised by the Curator (R432). -/
def noLane (i : Fin 2) (lost : Bool) (s : State) : State :=
  let s1 := resetLane i (s.upLanes (fun l => { l with selector := none, switch := none }))
  let s2 := if lost then raise 9 0xFFFF 0 s1 else s1
  raiseX 14 0xFFFF 0 3 [] s.now.ft s.now.ft s2

/-- A host command that ordered a switch ends without it. -/
def refuseSwitch (w : Switch) (s : State) : State :=
  match w.post with
  | some (p, acc) =>
    complete (if w.why = .promote then 0x0204 else 0x0203) 0x0D p acc (refusedWith 8 0 (beatAt s.now.ft)) s
  | none => s

/-- The ordered lane of a switch has failed before kS (R54, R56, R65): the host command that ordered the switch ends,
and where it was a takeover no lane is left to command. -/
def switchFails (w : Switch) (s : State) : State :=
  let s1 := refuseSwitch w (s.upLanes (fun l => { l with switch := none }))
  match w.why, activeLane s1 with
  | .failure, some a => noLane a false s1
  | _, _ => s1

/-- The other lane may take over from lane `i` (R54): it is Standby-ready, as far as the Curator knows (R51). -/
def mayTakeOver (s : State) (i : Fin 2) : Bool := (laneOf s (other i)).state == .standby && (laneOf s (other i)).known

/-- The Curator recognises the failure of a lane (R48, R49, R52, R54, R56). `lost` after a heartbeat
timeout. -/
def laneFails (i : Fin 2) (lost : Bool) (s : State) : State :=
  let noted := fun (s : State) => if lost then raise 9 0xFFFF 0 s else s
  if (laneOf s i).state ≠ .active then
    let s1 := laneStatus (resetLane i (noted s))
    match s.lanes.switch with
    | some w => if w.dest = i then switchFails w s1 else s1
    | none => s1
  else
    match s.lanes.switch with
    | some w =>
      -- a switch away from the lane is under way already: it becomes the takeover, where that lane is eligible
      if w.dest = other i ∧ mayTakeOver s i then
        (noted s).upLanes (fun l => { l with switch := some { w with why := .failure } })
      else noLane i lost (refuseSwitch w s)
    | none =>
      if mayTakeOver s i then orderSwitch .failure (other i) none (noted s) else noLane i lost s

/-- The verdicts of the self-check are applied (R49); a lane that has not reported counts as failing. -/
def applyVerdicts (s : State) : State :=
  match s.lanes.selector with
  | none => s.upLanes (fun l => { l with suspended := false, selfcheck := false, mismatch := 0 })
  | some c =>
    let o := other c
    let pc := (laneOf s c).verdict.getD false
    let po := (laneOf s o).verdict.getD false
    let s1 := s.upLanes (fun l => { l with suspended := false, selfcheck := false, mismatch := 0 })
    let s2 := raiseX 11 0xFFFF 0 (if !pc && !po then 3 else 0) [] s.now.ft s.now.ft s1
    if pc && po then
      if (laneOf s o).state = .standby then laneStatus (enterRebuild o false s2) else s2
    else if !pc && po then laneFails c false s2
    else if (laneOf s o).state = .off then s2
    else laneFails o false s2

end Sys2Proof.Machine
end

