-- ==== Sys2Proof/Machine/Images.lean ====
section
/-!
DEFINITION. The commands of the image slots (R448–R463).
-/
namespace Sys2Proof.Machine

/-- Layout of KD_IMAGE_LOAD with ACTION STORE (R454): the header is checked in the order of R455. -/
def scImageStore : RecSchema :=
  ⟨[272], [fu 0x20 1 0 2 0, fu 0x21 1 0 3 0] ++ frep 256 0x30 1 (fun _ o => fu o 1 0 255 0), fun _ => []⟩

/-- Layout of KD_IMAGE_LOAD with ACTION RESTART or SELECT (R454); RESTART takes a lane (R456). -/
def scImageAct (units : Nat) : RecSchema :=
  ⟨[16], [fu 0x20 1 0 2 0, fu 0x21 1 0 (units - 1 : Nat) 0], fun _ => []⟩

/-- A field of an image header: `h` holds its 256 bytes (R452). -/
def hd (h : List Byte) (off n : Nat) : Nat := leNat (slice h off n)

/-- The header fields that a slot keeps (R452). -/
def headerOf (h : List Byte) : ImageHdr :=
  { kind := hd h 0x08 1, keyIndex := hd h 0x09 1, major := hd h 0x0C 1, minor := hd h 0x0D 1
    patch := hd h 0x0E 2, format := hd h 0x10 2
    floor := hd h 0x14 1 * 2 ^ 24 + hd h 0x15 1 * 2 ^ 16 + hd h 0x16 2
    bodyLen := hd h 0x18 4, sha := slice h 0x20 32 }

/-- HEADER_VERSION, the reserved fields and the ranges of R452 hold. -/
def headerRanges (h : List Byte) : Bool :=
  let x := headerOf h
  let most := match x.kind with | 1 => 268435456 | 2 => 1048576 | _ => 33554432
  decide (hd h 0x04 2 = 1) && decide (x.keyIndex ≤ 3)
    && decide (hd h 0x0A 2 = 0) && decide (hd h 0x12 2 = 0) && decide (hd h 0x1C 4 = 0)
    && (slice h 0x40 128).all (· == 0)
    && (if x.kind = 1 then decide (x.format ≠ 0) else decide (x.format = 0))
    && decide (x.floor ≤ x.version)
    && decide (x.bodyLen % 64 = 0) && decide (64 ≤ x.bodyLen) && decide (x.bodyLen ≤ most)

/-- KIND that a UNIT takes (R452, R455). -/
def kindOfUnit (u : Nat) : Nat := match u with | 0 => 1 | 1 => 1 | 2 => 2 | _ => 3

/-- The first check of a header that fails (R455), with the reasons of R464. An unknown KIND is IMG_KIND, so
it takes no part in the ranges. -/
def headerBad (s : State) (u : Nat) (h : List Byte) : Option Nat :=
  let x := headerOf h
  if slice h 0 4 ≠ [0x4C, 0x48, 0x49, 0x4D] then some 0x1101
  else if !headerRanges h then some 0x1102
  else if hd h 0x06 2 ≠ 0x9640 then some 0x1103
  else if x.kind ≠ kindOfUnit u then some 0x1104
  else if x.version < nth 0 s.img.floors (x.kind - 1) then some 0x1105
  else if !Config.ed25519Valid x.keyIndex h then some 0x1106
  else none

/-- The slot of a unit that a store writes (R455): the one that the unit does not run from. A unit that does
not run keeps the slot of its next start; the Curator and the Front-end Section run from one always. -/
def storeSlot (s : State) (u : Nat) : Nat :=
  let run := match u with
    | 0 => s.lanes.recto.slot | 1 => s.lanes.verso.slot | 2 => s.img.curSlot | _ => s.img.feSlot
  if run = 2 * u then 2 * u + 1 else 2 * u

/-- The unit runs from a TRY slot that is not yet CONFIRMED (R455). -/
def runsTry (s : State) (u : Nat) : Bool :=
  match runningSlot s u with
  | some n => (slotAt s n).state == .try_
  | none => false

/-- A segment record passes the checks of R106, with the SEQUENCE that its place gives it. -/
def segmentSound (p : Post) (i : Nat) (g : Segment) : Bool :=
  (checkBody (some scBufptr) 0x20 0 false (add32 p.seq (i + 1)) g.post).isNone

/-- The chain of body segments is right: each record sound, numbered in order with the command's correlation tag and
fetched whole, their lengths in sum BODY_LENGTH (R82, R455). -/
def segsOk (p : Post) (len : Nat) (segs : List Segment) : Bool :=
  segs.zipIdx.all (fun x =>
    let b := x.1.post.body
    x.1.crcOk && segmentSound p x.2 x.1 && x.1.post.ring == p.ring && x.1.post.corr == p.corr
      && decide (fld b 0x34 1 = 0) && decide (fld b 0x2C 2 = x.2) && decide (fld b 0x2E 2 = segs.length))
    && (segs.map (fun g => fld g.post.body 0x28 4)).sum == len

/-- Carry out an image command that has its turn (R454–R457); decided at `b`. -/
def imageCarry (c : ImgCmd) (b : Nat) (s : State) : State :=
  let p := c.post
  let u := fld p.body 0x21 1
  let done := fun (d : Done) (s : State) => complete 0x1101 0x10 p c.stamp d s
  if c.action = 1 then
    let i : Fin 2 := if u = 0 then 0 else 1
    if (laneOf s i).state = .active then done (refusedWith 8 0 b) s
    else done (accepted 0 b) (laneStatus (resetLane i s))
  else if c.action = 2 then
    match slotIn s u .stored with
    | none => done (refusedWith 8 0 b) s
    | some n =>
      let h := (slotAt s n).hdr
      if h.version < nth 0 s.img.floors (h.kind - 1) then done (refusedWith 0x1105 0 b) s
      else
        let s1 := match slotIn s u .try_ with | some o => putSlot o .stored s | none => s
        done (accepted n b) (setSlot n .try_ s1)
  else
    let n := storeSlot s u
    let h := fieldBytes p.body 0x30 256
    if runsTry s u then done (refusedWith 8 0 b) s
    else
      match headerBad s u h with
      | some r => done (refusedWith r 0 b) (raise 118 n r s)
      | none =>
        let s1 := imageStatus 1 (s.upImg (fun i => { i with
          slots := i.slots.set n ⟨.writing, headerOf h⟩, store := some (n, p, c.stamp) }))
        if segsOk p (headerOf h).bodyLen c.segs then s1
        else done (refusedWith 0x0A 0 b) (setSlot n .empty (s1.upImg (fun i => { i with store := none })))

/-- The image commands that wait are carried out while none runs, in stream order (R454). -/
def imageNext : (fuel : Nat) → State → State
  | 0, s => s
  | k + 1, s =>
    match s.img.store, s.img.waiting with
    | none, c :: r => imageNext k (imageCarry c (beatAt s.now.ft) (s.upImg (fun i => { i with waiting := r })))
    | _, _ => s

/-- An image command comes up: it waits while another one runs. -/
def imageQueue (c : ImgCmd) (s : State) : State :=
  let s1 := s.upImg (fun i => { i with waiting := i.waiting ++ [c] })
  imageNext s1.img.waiting.length s1

/-- The segment records of a command are taken from the input stream, read or skipped, and count in the SEQUENCE of its
ring (R89, R103, R455). -/
def passSegments (p : Post) (segs : List Segment) (s : State) : State :=
  segs.foldl (fun s g => takeStamp { g.post with ring := p.ring } s) s

/-- IMAGE_STORE (R454, R455): KD_IMAGE_LOAD with ACTION STORE and its segments. FLAGS bit 5 BULK marks it. -/
def execImageStore (dt : Nat) (p : Post) (segs : List Segment) (s : State) :
    Host.Outcome State Fault Refusal :=
  .next <| passSegments p segs <| (command dt 0x1101 0x10 { p with flags := if p.flags.testBit 5 then p.flags - 32 else p.flags + 2 }
    scImageStore true decideAt (fun u s => imageQueue ⟨0, u.acc, { u.post with flags := p.flags % 2 }, segs⟩ s) s)

/-- IMAGE_SELECT (R457): KD_IMAGE_LOAD with ACTION SELECT. -/
def execImageSelect (dt : Nat) (p : Post) (s : State) : Host.Outcome State Fault Refusal :=
  .next (command dt 0x1101 0x10 p (scImageAct 4) true decideAt
    (fun u s => imageQueue ⟨2, u.acc, p, []⟩ s) s)

/-- IMAGE_RESTART (R456): KD_IMAGE_LOAD with ACTION RESTART, carried out at the first beat boundary at or
after its stamp + 2 ms, or when its turn comes after that (R454). -/
def execImageRestart (dt : Nat) (p : Post) (s : State) : Host.Outcome State Fault Refusal :=
  .next (command dt 0x1101 0x10 p (scImageAct 2) true (fun acc => beatAt (acc + 2 * qMs))
    (fun u s => imageQueue ⟨1, u.acc, p, []⟩ s) s)

/-- IMAGE_BODY_WRITTEN (R455): the last segment is written; `sha` is the SHA-256 of the body written. -/
def execImageBodyWritten (dt : Nat) (sha : List Byte) (s : State) : Host.Outcome State Fault Refusal :=
  let s1 := tick dt s
  match s1.img.store with
  | none => .next s1
  | some (n, p, acc) =>
    let b := s1.now.ft
    let s2 := s1.upImg (fun i => { i with store := none })
    let s3 :=
      if sha = (slotAt s2 n).hdr.sha then
        let s3 := match slotIn s2 (n / 2) .try_ with | some o => putSlot o .stored s2 | none => s2
        complete 0x1101 0x10 p acc (accepted n b) (raise 120 n 0 (setSlot n .try_ s3))
      else
        complete 0x1101 0x10 p acc (refusedWith 0x1107 0 (beatAt b)) (raise 119 n 0x1107 (setSlot n .empty s2))
    .next (imageNext s3.img.waiting.length s3)

/-- IMAGE_CONFIRM_LANE (R449): 2 000 beats of valid heartbeats, and lane `i` is not Shadow. -/
def execImageConfirmLane (i : Fin 2) (s : State) : Host.Outcome State Fault Refusal :=
  let l := laneOf s i
  if (slotAt s l.slot).state = .try_ ∧ l.started ∧ l.state ≠ .off ∧ l.state ≠ .shadow ∧ 2000 ≤ l.hbBeats then
    .next (confirmSlot l.slot s)
  else .next s

/-- IMAGE_CONFIRM_TIMER (R449): 60 s of Serving without a reset of the Curator (`fe` false) or of the
Front-end Section (`fe` true). -/
def execImageConfirmTimer (fe : Bool) (s : State) : Host.Outcome State Fault Refusal :=
  let n := if fe then s.img.feSlot else s.img.curSlot
  if s.pow.state = .serving ∧ (slotAt s n).state = .try_ then
    .next (confirmSlot n (reachEl ((if fe then s.img.feSince else s.img.curSince) + 60 * qSec) s))
  else .next s

/-- CURATOR_START_FALLBACK (R450): the Curator failed three times within 1 s of power-up, or the Front-end
microcode failed its hash (`fe`): it starts from its CONFIRMED slot, and the TRY slot becomes FAILED. -/
def execCuratorStartFallback (dt : Nat) (fe : Bool) (s : State) : Host.Outcome State Fault Refusal :=
  let s1 := tick dt s
  let u := if fe then 3 else 2
  match slotIn s1 u .try_, slotIn s1 u .confirmed with
  | some n, some c =>
    let run := if fe then s1.img.feSlot else s1.img.curSlot
    if run = n ∧ awake s1 then
      let s2 := s1.upImg (fun i => if fe then { i with feSlot := c, feSince := s1.now.el }
        else { i with curSlot := c, curSince := s1.now.el })
      .next (setSlot n .failed s2)
    else .next s1
  | _, _ => .next s1

end Sys2Proof.Machine
end

