-- ==== Sys2Proof/Machine/CommitChecks.lean ====
section
/-!
DEFINITION. The checks that a KD_CAT_COMMIT makes against the Catalogue as it would stand (R142, R182,
R194, R197, R201, R216, R231, R331, R339, R340, R379, R384, R386, R546).
-/
namespace Sys2Proof.Machine

/-- A record of the Catalogue by name: kind and key. -/
abbrev RecName := Nat × Nat

/-- A breach: its reason and the records concerned (R546). -/
structure Breach where
  reason : Nat
  recs : List RecName

/-- Body of a record in a Catalogue, explicit or of defaults (R113). -/
def Catalog.body (c : Catalog) (kind key : Nat) : List Byte := (c.find kind key).getD (defaultBody kind key)

/-- The explicit records of a kind: key and body. -/
def Catalog.ofKind (c : Catalog) (kind : Nat) : List (Nat × List Byte) :=
  (c.recs.filter (fun r => r.kind == kind)).map (fun r => (r.key, r.body))

/-- The law records (R190). -/
def Catalog.laws (c : Catalog) : List (Nat × List Byte) :=
  (c.ofKind 0x0601).filter (fun x => decide (x.1 < 128))

/-- MEMBERS of each explicit group record (R204). -/
def Catalog.groupMasks (c : Catalog) : List (Nat × Nat) :=
  (c.ofKind 0x0602).map (fun x => (x.1, fld x.2 0x28 16))

/-- Both loops are members of one group (R197). -/
def sameGroup (c : Catalog) (n m : Nat) : Bool :=
  c.groupMasks.any (fun g => g.2.testBit n && g.2.testBit m)

/-- The destination that a law record names: the two valve types name one channel (R181, R182). -/
def destOf (b : List Byte) : Option (Nat × Nat) :=
  match fld b 0x27 1 with
  | 0 => none
  | 2 => some (1, fld b 0x28 2)
  | t => some (t, fld b 0x28 2)

/-- DEST_TAKEN (R182, R197). -/
def destBreaches (c : Catalog) : List Breach :=
  c.laws.flatMap (fun x => c.laws.filterMap (fun y =>
    if x.1 < y.1 ∧ destOf x.2 = destOf y.2 ∧ (destOf x.2).isSome ∧ !sameGroup c x.1 y.1 then
      some ⟨0x0601, [(0x0601, x.1), (0x0601, y.1)]⟩
    else none))

/-- The loop that a law record cascades to (R181). -/
def cascadeOf (c : Catalog) (n : Nat) : Option Nat :=
  match c.find 0x0601 n with
  | some b => if fld b 0x27 1 = 5 then some (fld b 0x28 2) else none
  | none => none

/-- The loops that cascade links reach from `n`, up to its return to `n`. -/
def cascadeRun (c : Catalog) (n : Nat) : (fuel : Nat) → (at_ : Nat) → Option (List Nat)
  | 0, _ => none
  | k + 1, a =>
    match cascadeOf c a with
    | none => none
    | some m => if m = n then some [a] else (cascadeRun c n k m).map (a :: ·)

/-- CASCADE_CYCLE (R182): each cycle once, by its lowest loop. -/
def cycleBreaches (c : Catalog) : List Breach :=
  c.laws.filterMap (fun x =>
    match cascadeRun c x.1 128 x.1 with
    | some l => if l.all (fun m => decide (x.1 ≤ m)) then some ⟨0x0602, l.map (fun m => (0x0601, m))⟩ else none
    | none => none)

/-- A signal number that R170 reserves, or whose class is always COUNT. -/
def sigUnread (n : Nat) : Bool :=
  (decide (64 ≤ n) && decide (n ≤ 79)) || (decide (160 ≤ n) && decide (n ≤ 255))
    || (decide (1792 ≤ n) && decide (n ≤ 2047)) || (decide (2064 ≤ n) && decide (n ≤ 2111)) || decide (n = 2176)
    || (decide (2184 ≤ n) && decide (n ≤ 3071)) || (decide (3344 ≤ n) && decide (n ≤ 3839))
    || (decide (3904 ≤ n) && decide (n ≤ 4095))

/-- The signals of the receive objects with their class: object key, signal, COUNT (R386). -/
def Catalog.canSignals (c : Catalog) : List (Nat × Nat × Bool) :=
  ((c.ofKind 0x0D02).filter (fun x => decide (x.1 < 3072))).flatMap (fun x =>
    (List.range 4).filterMap (fun i =>
      let g := fld x.2 (0x28 + 16 * i) 2
      if g = 0xFFFF then none else some (x.1, g, (fld x.2 (0x2D + 16 * i) 1).testBit 2)))

/-- SIGNAL_CLASS (R194, R546). -/
def classBreaches (c : Catalog) : List Breach :=
  c.laws.flatMap (fun x => [0x2A, 0x2C, 0x2E].flatMap (fun o =>
    let g := fld x.2 o 2
    if 0xFFFE ≤ g then []
    else if sigUnread g then [⟨0x0603, [(0x0601, x.1)]⟩]
    else (c.canSignals.filter (fun y => y.2.1 == g && y.2.2)).map
      (fun y => ⟨0x0603, [(0x0601, x.1), (0x0D02, y.1)]⟩)))

/-- SP_OWNER of a loop, at its default without a law record. -/
def ownerOf (c : Catalog) (n : Nat) : Nat :=
  match c.find 0x0601 n with | some b => fld b 0x68 2 | none => 1

/-- OWNER_CONFLICT (R182, R194). -/
def ownerBreaches (c : Catalog) : List Breach :=
  c.laws.flatMap (fun x =>
    let o := fld x.2 0x68 2
    let a : List Breach :=
      if 0x1000 ≤ o ∧ o ≤ 0x107F ∧ cascadeOf c (o - 0x1000) ≠ some x.1 then
        [⟨0x0604, [(0x0601, x.1), (0x0601, o - 0x1000)]⟩] else []
    let b : List Breach := match cascadeOf c x.1 with
      | some m => if ownerOf c m = 0x1000 + x.1 then [] else [⟨0x0604, [(0x0601, x.1), (0x0601, m)]⟩]
      | none => []
    a ++ b)

/-- GROUP_OVERLAP (R197). -/
def overlapBreaches (c : Catalog) : List Breach :=
  c.groupMasks.flatMap (fun x => c.groupMasks.filterMap (fun y =>
    if x.1 < y.1 ∧ x.2 &&& y.2 ≠ 0 then some ⟨0x0605, [(0x0602, x.1), (0x0602, y.1)]⟩ else none))

/-- GROUP_MISMATCH (R197): two members with law records differ. -/
def mismatchBreaches (c : Catalog) : List Breach :=
  let same := fun (a b : List Byte) =>
    fieldBytes a 0x22 4 == fieldBytes b 0x22 4 && fieldBytes a 0x27 3 == fieldBytes b 0x27 3
      && fieldBytes a 0x78 4 == fieldBytes b 0x78 4
  c.groupMasks.flatMap (fun g =>
    let ms := c.laws.filter (fun x => g.2.testBit x.1)
    ms.flatMap (fun x => ms.filterMap (fun y =>
      if x.1 < y.1 ∧ !same x.2 y.2 then some ⟨0x0606, [(0x0602, g.1), (0x0601, x.1), (0x0601, y.1)]⟩ else none)))

/-- LEADLAG_SINGULAR (R201). -/
def leadLagBreaches (c : Catalog) : List Breach :=
  c.laws.filterMap (fun x =>
    if fldS x.2 0x48 4 = 0 ∨ fldS x.2 0x48 4 + fldS x.2 0x4C 4 = 0 then some ⟨0x0607, [(0x0601, x.1)]⟩ else none)

/-- PAIRED_CHANNEL (R231): a loop names the odd member of a pair in force (`inForce`) or in PAIR_MASK. -/
def pairBreaches (inForce : Nat) (c : Catalog) : List Breach :=
  let mask := inForce ||| fld (c.body 0x0701 24) 0x22 2
  c.laws.filterMap (fun x =>
    match destOf x.2 with
    | some (1, n) => if n % 2 = 1 ∧ mask.testBit (n / 2) then some ⟨0x0703, [(0x0601, x.1)]⟩ else none
    | _ => none)

/-- Pipeline numbers with explicit pipeline records, and their records. -/
def Catalog.pipeRecs (c : Catalog) : List (Nat × List Byte) :=
  (c.ofKind 0x0B01).filterMap (fun x =>
    if 64 ≤ x.1 ∧ x.1 < 256 ∧ (x.1 - 64) % 32 = 0 then some ((x.1 - 64) / 32, x.2) else none)

/-- BINDING_TAKEN (R331), among the pipelines whose record has been posted (log entry 58). -/
def bindingBreaches (c : Catalog) : List Breach :=
  c.pipeRecs.flatMap (fun x => c.pipeRecs.filterMap (fun y =>
    if x.1 < y.1 ∧ fieldBytes x.2 0x22 2 = fieldBytes y.2 0x22 2 then some ⟨0x0B01, []⟩ else none))

/-- Bytes of one stored line of a pipeline (R339): the packed payload, padded to 64. -/
def storeLine (b : List Byte) : Nat :=
  let bits := match fld b 0x24 1 with | 0x2B => 10 | 0x2C => 12 | 0x2D => 14 | _ => 16
  ceilTo 64 ((fld b 0x28 2 * bits + 7) / 8)

/-- STORE_FULL (R339); `on` are the pipelines that are enabled. -/
def storeBreaches (on : List Nat) (c : Catalog) : List Breach :=
  let recs := (List.range 6).map (fun p => c.body 0x0B01 (64 + 32 * p))
  let mib := fun (b : List Byte) => fld b 0x44 2
  let few := fun (b : List Byte) =>
    decide (mib b * 2 ^ 20 < 3 * (fld b 0x2C 1 + fld b 0x2A 2 * fld b 0x25 1) * storeLine b)
  if 4096 < (recs.map mib).sum ∨ on.any (fun p => few (nth [] recs p)) then [⟨0x0B02, []⟩] else []

/-- STREAM_BUDGET (R340), exactly. -/
def streamBreaches (c : Catalog) : List Breach :=
  let recs := (c.pipeRecs.map (·.2)).filter (fun b => decide (fld b 0x40 1 ≠ 0))
  let all := recs.foldl (fun a b => a * fld b 0x40 1) 1
  let sum := (recs.map (fun b =>
    let k := max 1 (fld b 0x41 1)
    (fld b 0x28 2 / k) * (fld b 0x2A 2 / k) * (if fld b 0x42 1 = 0 then 3 else 6) * fld b 0x34 1
      * (all / max 1 (fld b 0x40 1)))).sum
  if 48000000 * all < sum then [⟨0x0B03, []⟩] else []

/-- A posted region of interest that leaves the frame, or whose height is no multiple of 16 with a feature
(R347, R352). -/
def regionBad (c : Catalog) : Bool :=
  (c.ofKind 0x0B01).any (fun x =>
    if 64 ≤ x.1 ∧ x.1 < 256 ∧ (x.1 - 64) % 32 = 3 then
      let p := c.body 0x0B01 (x.1 - 3)
      decide (fld p 0x28 2 < fld x.2 0x28 2) || decide (fld p 0x2A 2 < fld x.2 0x2A 2)
        || (decide (fld x.2 0x23 1 ≠ 0) && decide ((fld x.2 0x2A 2 - fld x.2 0x26 2) % 16 ≠ 0))
    else if 256 ≤ x.1 ∧ fld x.2 0x22 1 < 6 then
      decide (fld (c.body 0x0B01 (64 + 32 * fld x.2 0x22 1)) 0x2A 2 < fld x.2 0x26 2)
    else false)

/-- What refuses a commit with RANGE (R324, R336, R347, R352, R379, R381, R386). -/
def rangeBreaches (c : Catalog) : List Breach :=
  if (c.ofKind 0x0D01).any (fun x => canTimingBad x.2)
      || (c.ofKind 0x0D02).any (fun x => decide (x.1 < 3072) && canCountBad x.2)
      || (c.ofKind 0x0A01).any (fun x => decide (x.1 = 3) && imuFrameBad x.2)
      || (c.ofKind 0x0B01).any (fun x => decide (64 ≤ x.1) && decide (x.1 < 256) && camTableBad x.1 x.2)
      || regionBad c then [⟨7, []⟩] else []

/-- OBJECT_TAKEN (R384): an identifier bound by two enabled objects of one controller. -/
def objectBreaches (c : Catalog) : List Breach :=
  let objs := (c.ofKind 0x0D02).filter (fun x => decide (x.1 < 3072) && (fld x.2 0x22 1).testBit 0)
  let ident := fun (b : List Byte) => ((fld b 0x22 1).testBit 1, fld b 0x24 4)
  objs.flatMap (fun x => objs.filterMap (fun y =>
    if x.1 < y.1 ∧ x.1 / 512 = y.1 / 512 ∧ ident x.2 = ident y.2 then some ⟨0x0D03, []⟩ else none))

/-- SIGNAL_TAKEN (R386): a signal named by two entries. -/
def signalBreaches (c : Catalog) : List Breach :=
  let l := c.canSignals.map (·.2.1)
  if l.length = l.eraseDups.length then [] else [⟨0x0D05, []⟩]

/-- Every breach of a Catalogue as it would stand. -/
def breaches (pairs : Nat) (pipesOn : List Nat) (c : Catalog) : List Breach :=
  rangeBreaches c ++ destBreaches c ++ cycleBreaches c ++ classBreaches c ++ ownerBreaches c
    ++ overlapBreaches c ++ mismatchBreaches c ++ leadLagBreaches c ++ pairBreaches pairs c
    ++ bindingBreaches c ++ storeBreaches pipesOn c ++ streamBreaches c ++ objectBreaches c
    ++ signalBreaches c

/-- Reason and DETAIL32 with which a commit is refused (R546): the lowest code; of its breaches the lowest
of the SEQUENCEs of their later records; that of the commit where no record concerned was posted. The other
reasons carry DETAIL32 0. -/
def refusalOf (posted : RecName → Option Nat) (commitSeq : Nat) (l : List Breach) : Option (Nat × Nat) :=
  match l with
  | [] => none
  | b :: r =>
    let code := r.foldl (fun a x => min a x.reason) b.reason
    if code < 0x0601 ∨ 0x0607 < code then some (code, 0)
    else
      let later := (l.filter (fun x => x.reason == code)).filterMap (fun x =>
        match x.recs.filterMap posted with
        | [] => none
        | q :: qs => some (qs.foldl max q))
      match later with
      | [] => some (code, commitSeq)
      | q :: qs => some (code, qs.foldl min q)

end Sys2Proof.Machine
end

