-- ==== Sys2Proof/Machine/Commit.lean ====
section
/-!
DEFINITION. What a change of the Catalogue does to the units at its boundary (R115, R142 and the rule of
each kind), and the change itself: commit, restore, and the Catalogue of another format.
-/
namespace Sys2Proof.Machine

/-! ## Loops -/

/-- The output of its group that loop `n` carries on, as the last member with a law record (R184, R213): the group, and
the output that waits. -/
def groupOwed (n : Nat) (s : State) : Option (Nat × Owed) :=
  (List.range 16).findSome? (fun g =>
    let gr := nth default s.ctl.groups g
    let ms := membersOf gr.recd
    if ms.contains n && ms.all (fun m => m == n || (lp s m).law.isNone) then gr.due.map (fun o => (g, o)) else none)

/-- The law record of loop `n` is gone (R190, R211): the slot goes Off without a shut-down output, but what it has handed
on still takes effect at the boundary that its grid had next (R213). A disable that waits is accepted, other commands and
orders are refused (R193, R214). -/
def loopDrop (n : Nat) (s : State) : State :=
  let l := lp s n
  let t := s.now.ft
  let go := groupOwed n s
  let owed := (l.due.map (l.owes l.next)).or (go.map (fun x => { x.2 with at_ := l.next }))
  let s0 := match go with | some x => upGroup x.1 (fun gr => { gr with due := none }) s | none => s
  let s1 := if l.state = .off then s0 else goOff n t l.next 0 s0
  let s2 := l.cmds.foldl (fun s c =>
    complete 0x0604 0x0A c.post c.stamp (if c.action = 0 then accepted 0 t else refusedWith 8 0 t) s) s1
  let s3 := l.orders.foldl (fun s o => orderDone o (refusedWith 8 0 t) s) s2
  upLoop n (fun l => { l with law := none, cmds := [], orders := [], due := none, owed := owed }) s3

/-- The law record of loop `n` changes at the boundary `t` (R190, R191): a first record lays the slot's grid; a removed one
takes the slot Off. A changed one is taken at the next boundary of the grid that the slot has. -/
def loopCommit (n : Nat) (s : State) : State :=
  let l := lp s n
  match (curCat s).find 0x0601 n, l.law with
  | none, some _ => loopDrop n s
  | some b, none =>
    upLoop n (fun l => { l with
      law := some b, next := boundaryAt b s.now.ft, last := none, prev := none, stepped := 0, sp := fldS b 0x6C 4
      spCmp := none, spCorr := 0 }) s
  | _, _ => s

/-- A group's record is committed (R203, R204): the evaluations for REPORT_DIV are counted anew. Where no old member stays,
the output that waits is handed on by one of them. -/
def groupCommit (g : Nat) (s : State) : State :=
  let gr := nth default s.ctl.groups g
  let s1 := upGroup g (fun gr => { gr with evals := 0 }) s
  let old := (membersOf gr.recd).filter (fun m => (lp s m).law.isSome)
  let new := membersOf (recBody s 0x0602 g)
  if old.any (fun m => new.contains m) then s1
  else
    match (gr.winner.toList ++ old).find? (fun m => (lp s m).law.isSome), gr.due with
    | some m, some o => upGroup g (fun gr => { gr with due := none }) (upLoop m (fun l => { l with due := some o.val }) s1)
    | _, _ => s1

/-! ## Grids of periods -/

/-- A period field in ms changes: the grid starts anew at the boundary. -/
def relay (old new : List Byte) (off : Nat) (next : Nat) (t : Nat) : Nat :=
  if fld old off 2 = fld new off 2 then next else nextPeriod t (fld new off 2)

/-! ## Before and after the records change -/

/-- Windows and gates that a commit closes, with the settings they ran under (R362, R367); `new` answers the
record to come. -/
def closeWindows (names : List RecName) (new : Nat → Nat → List Byte) (s : State) : State :=
  let t := s.now.ft
  let gates := names.filter (fun x => x.1 == 0x0C01 && decide (x.2 < 16))
  let s1 := gates.foldl (fun s x =>
    let a := recBody s 0x0C01 x.2
    let b := new 0x0C01 x.2
    if fld a 0x24 1 = fld b 0x24 1 ∧ fieldBytes a 0x26 10 = fieldBytes b 0x26 10 then s
    else closeGate x.2 8 (nextMul (max 1 (fld b 0x26 2) * qMs) t) s) s
  if names.any (fun x => x.1 == 0x0C01 && decide (64 ≤ x.2) && decide (x.2 < 80)) && decide (fieldGen s1 0x22 2 ≠ 0) then
    closeAi 8 (nextMul (fieldGen s1 0x22 2 * qMs) t) s1
  else s1

/-- What one changed record does to its unit; `old` was in force before. -/
def recordChanged (old : Nat → Nat → List Byte) (x : RecName) (s : State) : State :=
  let t := s.now.ft
  let a := old x.1 x.2
  let b := recBody s x.1 x.2
  match x.1 with
  | 0x0601 => if x.2 < 128 then loopCommit x.2 s
    else if (lp s (x.2 - 128)).law.isNone then upLoop (x.2 - 128) (fun l => { l with sup := b }) s else s
  | 0x0602 => groupCommit x.2 s
  | 0x0701 =>
    if x.2 = 24 then s.upValve (fun v => { v with
      statusNext := relay a b 0x36 v.statusNext t, testNext := relay a b 0x34 v.testNext t }) else s
  | 0x0B01 =>
    if x.2 < 6 then portCommit x.2 a s
    else if 64 ≤ x.2 ∧ x.2 < 256 ∧ (x.2 - 64) % 32 = 0 then pipeCommit ((x.2 - 64) / 32) a s else s
  | 0x0C01 =>
    if x.2 < 48 then
      if fld a 0x22 2 = fld b 0x22 2 ∧ (fld a 0x21 1).testBit 0 = (fld b 0x21 1).testBit 0 then s
      else s.upField (fun f => { f with di := upd f.di x.2 (fun d => { d with
        acc := if d.level then fld b 0x22 2 else 0, accEl := s.now.el - qUs }) })
    else if x.2 = 128 then
      let s1 := s.upField (fun f => { f with
        winNext := relay a b 0x22 f.winNext t, statusNext := relay a b 0x24 f.statusNext t })
      if fld a 0x21 1 = fld b 0x21 1 then s1 else fieldStatus s1
    else if 96 ≤ x.2 ∧ x.2 < 120 then dqCommit (x.2 - 96) a s
    else s
  | 0x0D01 => canCommit x.2 a (upCtlr x.2 (fun k => { k with statusNext := relay a b 0x32 k.statusNext t }) s)
  | 0x0D02 =>
    if 4096 ≤ x.2 then s.upCan (fun c => { c with
      objs := upd c.objs (x.2 - 4096) (fun o => { o with next := relay a b 0x2E o.next t }) })
    else s
  | 0x0E01 => modemCommit (s.upModem (fun m => { m with statusNext := relay a b 0x30 m.statusNext t }))
  | 0x0F01 => dispCommit (s.upDisp (fun d => { d with statusNext := relay a b 0x34 d.statusNext t }))
  | 0x1001 =>
    -- a window already open keeps running under the new COALESCE_MS (R434)
    s.upHub (fun h => { h with ev := ⟨h.ev.windows.map (fun w =>
      if w.src = x.2 then { w with endAt := w.endAt - fld a 0x24 2 * qMs + fld b 0x24 2 * qMs } else w)⟩ })
  | 0x1201 => s.upPow (fun p => { p with statusNext := relay a b 0x2C p.statusNext t })
  | _ => s

/-- The units follow a change of the Catalogue in force: the named records, the hops whose records were
posted, and whether a FULL commit reverts the others (R135). -/
def unitsFollow (old : Nat → Nat → List Byte) (names : List RecName) (hops : List Nat) (full : Bool)
    (s : State) : State :=
  let s1 := names.foldl (fun s x => recordChanged old x s) s
  if hops.isEmpty && !full then s1 else passCommit old hops full s1

/-! ## The change itself -/

/-- Change the Catalogue of a format, which begins at generation 0 where none is held (R458). -/
def upCatalog (format : Nat) (f : Catalog → Catalog) (s : State) : State :=
  s.upCat (fun c =>
    if c.cats.any (fun x => x.format == format) then
      { c with cats := updFirst (fun x => x.format == format) f c.cats }
    else { c with cats := (c.cats ++ [f ⟨format, [], 0, 0, 0, []⟩]) })

/-- The Catalogue of a format (R458). -/
def catOf (s : State) (format : Nat) : Catalog :=
  (s.cat.cats.find? (fun x => x.format == format)).getD ⟨format, [], 0, 0, 0, []⟩

/-- The Catalogue as a start finds it in flash: what had not taken effect is not there (R115). -/
def Catalog.settled (c : Catalog) : Catalog := { c with latestGen := c.gen }

/-- Put a record in, in the order of kind and key (R113, R117). -/
def putRec (r : SRec) (l : List SRec) : List SRec :=
  if l.any (fun x => x.kind == r.kind && x.key == r.key) then
    updFirst (fun x => x.kind == r.kind && x.key == r.key) (fun _ => r) l
  else insertSorted (fun a b => decide (a.kind < b.kind ∨ (a.kind = b.kind ∧ a.key ≤ b.key))) r l

/-- Records after a commit (R113). -/
def committed (full : Bool) (posted l : List SRec) : List SRec :=
  posted.foldl (fun l r => putRec r l) (if full then [] else l)

/-- Law fields that are loop tuning (R461): offset and size. -/
def tuningFlds : List (Nat × Nat) :=
  [(0x30, 4), (0x34, 4), (0x38, 4), (0x3C, 4), (0x40, 4), (0x44, 4), (0x48, 4), (0x4C, 4), (0x50, 4),
   (0x54, 4), (0x58, 4)]

/-- A law record with its tuning at the defaults of R190. -/
def untuned (r : SRec) : SRec :=
  let d := (scLaw r.key).dflt
  { r with body := tuningFlds.foldl (fun b f => putBytes b f.1 (fieldBytes d f.1 f.2)) r.body }

/-- Optics records of KD_CAMERA_SETTINGS (R352). -/
def isOptics (r : SRec) : Bool :=
  r.kind == 0x0B01 && decide (64 ≤ r.key) && decide (r.key < 256) && decide ((r.key - 64) % 32 = 5)

/-- Records after a restore of factory calibration (R461, R462, R165, R297, R352): user calibration, crop
records, geometry and optics return to their defaults, loop tuning to that of R190. -/
def restored (l : List SRec) : List SRec :=
  (l.filter (fun r => !(r.kind == 0x1102 || (r.kind == 0x0502 && decide (r.key < 64))
      || (r.kind == 0x0A01 && r.key == 1) || isOptics r))).map
    (fun r => if r.kind = 0x0601 ∧ r.key < 128 then untuned r else r)

/-- The generation after another one (R115). -/
def nextGen (g : Nat) : Nat := if g = 0xFFFFFFFE then 1 else g + 1

/-- Records of a scheduled commit or restore on top of others. -/
def Sched.apply (x : Sched) (l : List SRec) : List SRec :=
  if x.restore then restored l else committed x.full x.recs l

/-- The Catalogue of a format with everything that is scheduled for it (R114, R182). -/
def catAhead (s : State) (format : Nat) : Catalog :=
  let c := catOf s format
  { c with recs := (s.cat.sched.filter (fun x => x.format == format)).foldl (fun l x => x.apply l) c.recs }

/-- Names of the records in which two lists of records differ. -/
def changedNames (a b : List SRec) : List RecName :=
  let names := (b.map (fun r => (r.kind, r.key))) ++ ((a.map (fun r => (r.kind, r.key))).filter
    (fun x => !b.any (fun r => r.kind == x.1 && r.key == x.2)))
  names.filter (fun x =>
    (a.find? (fun r => r.kind == x.1 && r.key == x.2)).map (·.body)
      != (b.find? (fun r => r.kind == x.1 && r.key == x.2)).map (·.body))

/-- The generation that a commit or restore brings into force (R115): its own, but that of a later decision at the same
boundary stays (DEDUCED, log entry 77). -/
def Sched.brings (x : Sched) (c : Catalog) : Nat := if c.genEff = x.boundary ∧ c.gen = c.latestGen then c.gen else x.gen

/-- A commit or restore takes effect at its boundary (R115, R462). -/
def applySched (x : Sched) (s : State) : State :=
  let c := catOf s x.format
  let recs := x.apply c.recs
  let names := (changedNames c.recs recs ++ x.recs.map (fun r => (r.kind, r.key))).eraseDups
  let mine := decide (x.format = fmtOf s)
  let new := fun k key => ({ c with recs := recs } : Catalog).body k key
  let s1 := upCatalog x.format (fun c => { c with
    gen := x.brings c, genEff := x.boundary, hist := ((c.gen, x.boundary) :: c.hist).take 16 }) s
  let s2 := if mine then closeWindows names new s1 else s1
  let s3 := upCatalog x.format (fun c => { c with recs := recs }) s2
  if mine then
    let hops := (x.recs.filter (fun r => r.kind == 0x0501 && decide (r.key ≠ 0))).map (·.key)
    let chain := x.recs.any (fun r => r.kind == 0x0501)
    let s4 := unitsFollow (fun k key => c.body k key) names hops (x.full && !x.restore) s3
    let s5 := if chain && hops.isEmpty && !x.full then passCommit (fun k key => c.body k key) [] false s4 else s4
    if x.restore then passRestore s5 else s5
  else s3

/-- Another settings format comes into force with a promotion (R63, R458): the units follow its
Catalogue. -/
def formatChanged (old : Catalog) (s : State) : State :=
  let new := curCat s
  if old.format = new.format then s
  else
    let names := changedNames old.recs new.recs
    unitsFollow (fun k key => old.body k key) names [] true s

end Sys2Proof.Machine
end

