-- ==== Sys2Proof/Machine/Lanes.lean ====
section
/-!
DEFINITION. The commands of the lanes and the Curator (R42–R66, R539, R540).
-/
namespace Sys2Proof.Machine

/-! ## Heartbeats and starts -/

/-- HEARTBEAT (R47, R52, R53, R539): the Curator receives a heartbeat of lane `i`. It is valid when its CRC is
right and its beat number exceeds that of the lane's previous valid one. A lane that is Off or held in reset
sends none; a silent Curator receives none; after its own restart it takes the lane's state from it (R51). Each valid
one stands for ten beats (R47, R63). -/
def execHeartbeat (dt : Nat) (i : Fin 2) (h : Heartbeat) (s : State) : Host.Outcome State Fault Refusal :=
  let s1 := tick dt s
  let l := laneOf s1 i
  let newer := match l.hbBeat with | some b => decide (b < h.beat) | none => true
  if !h.crcOk || !newer || l.state == .off || l.inReset || s1.lanes.silent || s1.pow.state != .serving then .next s1
  else
    let s2 := upLane i (fun l => { l with
      hbBeat := some h.beat, hbAt := s1.now.el, hbBeats := l.hbBeats + 10, hbState := h.state, hbPass := h.verdictPass
      known := true }) s1
    if l.started then .next s2 else .next (laneStarts i ⟨h.major, h.minor, h.patch, h.format⟩ s2)

/-- HEARTBEAT_TIMEOUT (R48): 2.95 ms ± 1.5 % without a valid heartbeat of lane `i`; the Curator's oscillator
decides the instant, from 2.91 ms on. A Booting lane has its own limit (R539). -/
def execHeartbeatTimeout (dt : Nat) (i : Fin 2) (s : State) : Host.Outcome State Fault Refusal :=
  let s1 := tick dt s
  let l := laneOf s1 i
  if s1.lanes.silent || l.state == .off || l.state == .booting || decide (s1.now.el < l.hbAt + 2910 * qUs) then .next s1
  else .next (laneFails i true s1)

/-- PREFERRED_LANE_TIMEOUT (R53): 3.5 s after W no preferred lane has started; the lane that has becomes
Active, or the first to start. -/
def execPreferredLaneTimeout (s : State) : Host.Outcome State Fault Refusal :=
  match s.lanes.startW with
  | none => .next s
  | some w =>
    let s1 := (reachEl (w + 3500 * qMs) s).upLanes (fun l => { l with preferOver := true })
    let up := fun (i : Fin 2) => (laneOf s1 i).started && (laneOf s1 i).state == .booting
    if up 0 then .next (becomeActive 0 s1)
    else if up 1 then .next (becomeActive 1 s1)
    else .next s1

/-- LANE_START_TIMEOUT (R450, R539): no valid heartbeat 3.5 s after the release of lane `i` into Booting. -/
def execLaneStartTimeout (i : Fin 2) (s : State) : Host.Outcome State Fault Refusal :=
  let l := laneOf s i
  if l.state ≠ .booting ∨ l.started ∨ l.inReset then .next s
  else .next (startFails i (reachEl (l.bootAt + 3500 * qMs) s))

/-- LANE_IMAGE_LOADED (R450): lane `i` has loaded its image; `ok` says that the body hash is right. -/
def execLaneImageLoaded (dt : Nat) (i : Fin 2) (ok : Bool) (s : State) : Host.Outcome State Fault Refusal :=
  let s1 := tick dt s
  let l := laneOf s1 i
  if l.state ≠ .booting ∨ l.started ∨ l.inReset then .next s1
  else if ok then .next (upLane i (fun l => { l with loaded := true }) s1)
  else .next (startFails i s1)

/-! ## Signatures and self-check -/

/-- One beat is absent (R46). -/
def absentBeats (n : Nat) (s : State) : State :=
  s.upLanes (fun l => { l with absentTotal := satAdd 32 l.absentTotal n })

/-- Both signatures of a beat are present and equal (R46, R61). -/
def agreeBeat (s : State) : State :=
  s.upLanes (fun l => { l with
    mismatch := 0, agree := satAdd 32 l.agree 1
    recto := { l.recto with agreeRun := l.recto.agreeRun + 1 }
    verso := { l.verso with agreeRun := l.verso.agreeRun + 1 } })

/-- Both are present and differ (R46). At 8 comparison is suspended and both lanes run the self-check (R49); the attempt
of a rebuilding lane fails besides (R61), and one that this leaves Off has no check to run. With a Shadow lane the
counts are all that changes (R62). -/
def mismatchBeat (s : State) : State :=
  let shadow := s.lanes.recto.state == .shadow || s.lanes.verso.state == .shadow
  let n := min 8 (s.lanes.mismatch + 1)
  let s1 := s.upLanes (fun l => { l with
    mismatch := n, agree := 0, mismatchTotal := satAdd 32 l.mismatchTotal 1
    recto := { l.recto with agreeRun := 0 }, verso := { l.verso with agreeRun := 0 } })
  if shadow then raise 17 0xFFFF 0 s1
  else if n < 8 then s1
  else
    let s2 := raise 10 0xFFFF 0 s1
    let s3 := if s2.lanes.recto.state = .rebuilding then rebuildFails 0 s2
      else if s2.lanes.verso.state = .rebuilding then rebuildFails 1 s2 else s2
    if s3.lanes.recto.state = .off ∨ s3.lanes.verso.state = .off then s3
    else s3.upLanes (fun l => { l with
      mismatch := 8, suspended := true, selfcheck := true, selfcheckAt := s.now.el
      recto := { l.recto with verdict := none }, verso := { l.verso with verdict := none } })

/-- Beat number `a` comes before `b`, both the low 32 bits of the beat count (R46). -/
def beatBefore (a b : Nat) : Bool :=
  let d := (b % 2 ^ 32 + 2 ^ 32 - a % 2 ^ 32) % 2 ^ 32
  decide (0 < d) && decide (d < 2 ^ 31)

/-- The Curator keeps a signature until its pair comes (R46), or that the message of its beat failed. DESIGN CHOICE (log
entry 73): a seventeenth displaces the oldest, and its beat is not counted. -/
def Lane.hold (l : Lane) (k : Nat) (sig : Option Nat) : Lane :=
  { l with sigs := (l.sigs ++ [(k, sig)]).drop (if l.sigs.length < 16 then 0 else 1) }

/-- SIGNATURE (R46): the Curator receives the signature message of lane `i` for beat `k`. A message that fails its CRC
makes its beat absent; so does, for the other lane's older signatures, the arrival of a later one. Nothing is counted
while comparison is suspended (R49) or the Curator is silent (R51). -/
def execSignature (dt : Nat) (i : Fin 2) (k sig : Nat) (crcOk : Bool) (s : State) :
    Host.Outcome State Fault Refusal :=
  let s1 := tick dt s
  let o := other i
  let k := k % 2 ^ 32
  if !signing s1 i || !signing s1 o || s1.lanes.suspended || s1.lanes.silent then .next s1
  else
    let theirs := (laneOf s1 o).sigs
    let older := fun (x : Nat × Option Nat) => crcOk && beatBefore x.1 k
    let s2 := absentBeats (theirs.filter (fun x => older x && x.2.isSome)).length
      (upLane o (fun l => { l with sigs := l.sigs.filter (fun x => !older x && x.1 != k) }) s1)
    match theirs.find? (fun x => x.1 == k) with
    | some (_, some v) =>
      .next (if !crcOk then absentBeats 1 s2 else if v = sig then agreeBeat s2 else mismatchBeat s2)
    | some (_, none) => .next s2
    | none =>
      if crcOk then .next (upLane i (fun l => l.hold k (some sig)) s2)
      else .next (upLane i (fun l => l.hold k none) (absentBeats 1 s2))

/-- SELFCHECK_VERDICT (R49): lane `i` reports; the second verdict applies the table. -/
def execSelfcheckVerdict (dt : Nat) (i : Fin 2) (pass : Bool) (s : State) :
    Host.Outcome State Fault Refusal :=
  let s1 := tick dt s
  if !s1.lanes.selfcheck then .next s1
  else
    let s2 := upLane i (fun l => { l with verdict := some (l.verdict.getD pass) }) s1
    if (laneOf s2 (other i)).verdict.isSome then .next (applyVerdicts s2) else .next s2

/-- SELFCHECK_TIMEOUT (R49): 2.0 ms after the order. -/
def execSelfcheckTimeout (s : State) : Host.Outcome State Fault Refusal :=
  if !s.lanes.selfcheck then .next s
  else .next (applyVerdicts (reachEl (s.lanes.selfcheckAt + 2 * qMs) s))

/-! ## The Curator -/

/-- CURATOR_WATCHDOG (R51): the Curator is reset after 5 ms without progress. It comes back with all counts
at 0, and an ordered switch is forgotten; until its next status message it is silent. -/
def execCuratorWatchdog (dt : Nat) (s : State) : Host.Outcome State Fault Refusal :=
  let s1 := tick dt s
  if !awake s1 then .next s1
  else
    let s2 := match s1.lanes.switch with | some w => refuseSwitch w s1 | none => s1
    let s3 := s2.upLanes (fun l => { l.goSilent with
      restarted := true, mismatch := 0, agree := 0, suspended := false, selfcheck := false
      switch := none
      recto := { l.recto with sigs := [], hbBeat := none, hbAt := s1.now.el, agreeRun := 0, known := false }
      verso := { l.verso with sigs := [], hbBeat := none, hbAt := s1.now.el, agreeRun := 0, known := false } })
    .next (raise 18 0xFFFF 0 s3)

/-- CURATOR_STATUS (R51): lane `i` receives the Curator's 1 ms status message. -/
def execCuratorStatus (dt : Nat) (i : Fin 2) (s : State) : Host.Outcome State Fault Refusal :=
  let s1 := tick dt s
  .next ((upLane i (fun l => { l with statusAt := s1.now.el, linkLost := false }) s1).upLanes
    (fun l => { l with
      silent := false
      recto := { l.recto with hbAt := if l.silent then s1.now.el else l.recto.hbAt }
      verso := { l.verso with hbAt := if l.silent then s1.now.el else l.verso.hbAt } }))

/-- CURATOR_LINK_TIMEOUT (R51): lane `i` has seen no status message for 3 ms. Both lanes raise alike; the
commanding lane's raising counts (R432). -/
def execCuratorLinkTimeout (i : Fin 2) (s : State) : Host.Outcome State Fault Refusal :=
  let l := laneOf s i
  if !l.started || l.linkLost then .next s
  else
    let s1 := upLane i (fun l => { l with linkLost := true }) (reachEl (l.statusAt + 3 * qMs) s)
    .next (if s1.lanes.selector = some i then raise 19 0xFFFF 0 s1 else s1)

/-! ## Takeover, swap, promotion -/

/-- TAKEOVER_ACK (R54): lane `i` acknowledges and names kS, the first beat boundary at least 100 µs later. -/
def execTakeoverAck (dt : Nat) (i : Fin 2) (s : State) : Host.Outcome State Fault Refusal :=
  let s1 := tick dt s
  match s1.lanes.switch with
  | some w =>
    if w.dest = i ∧ w.kS = none ∧ s1.lanes.silent = false then
      .next (s1.upLanes (fun l => { l with switch := some { w with kS := some (beatAt (s1.now.ft + 100 * qUs)) } }))
    else .next s1
  | none => .next s1

/-- What the new lane does at kS·T (R54 step 4, R55, R57, R59, R63). -/
def switchTo (w : Switch) (kS : Nat) (old : Option (Fin 2)) (s : State) : State :=
  let fail := w.why == .failure
  let cat := curCat s
  let s := if w.why == .promote then takeShadow s else s
  let s1 := laneTo w.dest .active ((upLane w.dest (fun l => { l with phase := .live, attempt := 0 }) s).upLanes (fun l => { l with
    selector := some w.dest, switch := none, lastSwitch := kS / qBeat, takeovers := satAdd 16 l.takeovers 1
    unproven := [.valve, .dq, .can, .modem], tried := [], deadPaths := []
    overlap := if fail then old.map (fun o => (kS + 10 * qMs, o)) else none }))
  let s2 := match old with
    | none => s1
    | some o =>
      if fail then laneTo o .booting (upLane o (fun l => { l.release l.slot s.now.el false with inReset := true }) s1)
      else if w.why == .swap then laneTo o .standby s1
      else laneTo o .shadow s1
  let s3 := if fail then modemTakeover (canTakeover (markTakeover s2))
    else raiseX 13 0xFFFF 0 0 [] s2.now.ft kS s2
  let s4 := laneStatusAt kS (formatChanged cat s3)
  match w.post with
  | some (p, acc) =>
    complete (if w.why == .promote then 0x0204 else 0x0203) 0x0D p acc (accepted 0 kS) s4
  | none => s4

/-- SWITCH_BEAT (R54, R59, R63): Field Time reaches kS·T. A lane that is no longer eligible does not
command: a takeover then leaves no lane (R56), a swap or promotion is refused (log entry 57). While the Curator is
silent the selector holds its last choice (R51). -/
def execSwitchBeat (s : State) : Host.Outcome State Fault Refusal :=
  match s.lanes.switch with
  | some ⟨why, dest, post, some kS⟩ =>
    let s1 := reach kS s
    if s1.lanes.silent then .next s1
    else
    let old := activeLane s1
    let st := (laneOf s1 dest).state
    if st = .standby ∨ (st = .shadow ∧ post.isSome ∧ why = .promote) then
      .next (switchTo ⟨why, dest, post, some kS⟩ kS old s1)
    else .next (switchFails ⟨why, dest, post, some kS⟩ s1)
  | _ => .next s

/-- OVERLAP_WINDOW_END (R54 step 6, R55): old-lane transmit entries are discarded and counted, the old lane
is released, LANE_TAKEOVER carries kS as its effective stamp. -/
def execOverlapWindowEnd (s : State) : Host.Outcome State Fault Refusal :=
  match s.lanes.overlap with
  | none => .next s
  | some (t, o) =>
    let c := canOverlapEnd (reach t s)
    let m := modemOverlapEnd c.1
    let s1 := m.1.upLanes (fun l => { l with
      overlap := none, discarded := satAdd 16 l.discarded (c.2 + m.2) })
    let s2 := if (laneOf s1 o).state = .booting ∧ (laneOf s1 o).inReset ∧ (laneOf s1 o).rails = [] then
        releaseLane o false s1 else s1
    .next (raiseX 12 0xFFFF 0 0 [] s2.now.ft (t - 10 * qMs) s2)

/-- OUTPUT_PATH_CHECK (R57): 1 beat after the new lane's first command on a path, the path has not reported its
acceptance. A path that has had no command is not judged. -/
def execOutputPathCheck (dt : Nat) (path : Fin 4) (s : State) : Host.Outcome State Fault Refusal :=
  let s1 := tick dt s
  let p := nth OutPath.valve [.valve, .dq, .can, .modem] path
  match s1.lanes.tried.find? (fun x => x.1 == p) with
  | none => .next s1
  | some x =>
    let s2 := reachEl (x.2 + qBeat) s1
    .next (raiseX 16 0xFFFF 0 3 [] s2.now.ft s2.now.ft (s2.upLanes (fun l => { l with
      unproven := l.unproven.filter (· != p), tried := l.tried.filter (fun x => x.1 != p)
      deadPaths := l.deadPaths ++ [p] })))

/-- Layout of KD_LANE_SWAP and KD_LANE_PROMOTE (R65). -/
def scLaneCmd : RecSchema := ⟨[32], [fu 0x20 1 0 1 0], fun _ => []⟩

/-- The lane that a command names. -/
def laneNamed (p : Post) : Fin 2 := if fld p.body 0x20 1 = 0 then 0 else 1

/-- KD_LANE_SWAP (R59, R65). DESIGN CHOICE (log entry 73): it is refused STATE too where a switch is already ordered, or
while the Curator, who would order it, is silent or does not yet know the lane's state again. -/
def execKdLaneSwap (dt : Nat) (p : Post) (s : State) : Host.Outcome State Fault Refusal :=
  .next (command dt 0x0203 0x0D p scLaneCmd false decideAt (fun u s =>
    let i := laneNamed p
    if (laneOf s i).state ≠ .standby ∨ (laneOf s (other i)).state ≠ .active ∨ s.lanes.switch.isSome ∨ s.lanes.silent
        ∨ (laneOf s i).known = false then
      u.refuse 8 0 s
    else if s.lanes.mismatch ≠ 0 then u.refuse 0x14 0 s
    else orderSwitch .swap i (some (p, u.acc)) s) s)

/-- AUTO_SWAP (R59): once, 10 min after the first Standby-ready of the power-up. DESIGN CHOICE (log entry 73): where its
conditions do not hold at that instant it is given up for the power-up. -/
def execAutoSwap (s : State) : Host.Outcome State Fault Refusal :=
  match s.lanes.firstStandby with
  | none => .next s
  | some t =>
    if s.lanes.autoDone then .next s
    else
      let s1 := (reachEl (t + 600 * qSec) s).upLanes (fun l => { l with autoDone := true })
      match activeLane s1 with
      | none => .next s1
      | some a =>
        if cfg s1 0x0201 0 0x21 1 = 1 ∧ mayTakeOver s1 a ∧ s1.lanes.mismatch = 0 ∧ s1.lanes.switch = none
            ∧ s1.lanes.silent = false then
          .next (orderSwitch .swap (other a) none s1)
        else .next s1

/-- KD_LANE_PROMOTE (R63, R65). DESIGN CHOICE (log entry 73): as KD_LANE_SWAP where a switch is already ordered or the
Curator is silent. -/
def execKdLanePromote (dt : Nat) (p : Post) (s : State) : Host.Outcome State Fault Refusal :=
  .next (command dt 0x0204 0x0D p scLaneCmd false decideAt (fun u s =>
    let i := laneNamed p
    let l := laneOf s i
    if l.state ≠ .shadow ∨ (laneOf s (other i)).state ≠ .active ∨ s.lanes.switch.isSome ∨ s.lanes.silent
        ∨ l.known = false then
      u.refuse 8 0 s
    else if !s.cat.cats.any (fun c => c.format == l.ver.format) then u.refuse 0x0C 0 s
    else if l.hbBeats < 2000 then u.refuse 0x15 0 s
    else orderSwitch .promote i (some (p, u.acc)) s) s)

/-! ## Rebuilding -/

/-- Lane `i` is on its way to the live stream, in one of the phases of R60. -/
def inPhase (s : State) (i : Fin 2) (p : RebuildPhase) : Bool :=
  let l := laneOf s i
  (l.state == .rebuilding || l.state == .shadow) && l.phase == p

/-- CHECKPOINT_REQUEST (R60, R540): lane `i` requests a checkpoint, and the Active lane names kC, the `ahead`-th
beat boundary after the request. -/
def execCheckpointRequest (dt : Nat) (i : Fin 2) (ahead : Nat) (s : State) :
    Host.Outcome State Fault Refusal :=
  let s1 := tick dt s
  if inPhase s1 i .none && (activeLane s1).isSome then
    .next (upLane i (fun l => { l with
      phase := .requested, kC := nextMul qBeat s1.now.ft + (ahead - 1) * qBeat }) s1)
  else .next s1

/-- CHECKPOINT_CAPTURE (R60): at kC·T the Active lane captures its complete state and starts to send it. -/
def execCheckpointCapture (i : Fin 2) (s : State) : Host.Outcome State Fault Refusal :=
  if inPhase s i .requested && (activeLane s).isSome then
    let s1 := reach (laneOf s i).kC s
    .next (upLane i (fun l => { l with phase := .captured, ckpt := some (enginesOf s1) }) s1)
  else .next s

/-- CHECKPOINT_RECEIVED (R540). -/
def execCheckpointReceived (dt : Nat) (i : Fin 2) (s : State) : Host.Outcome State Fault Refusal :=
  let s1 := tick dt s
  .next (if inPhase s1 i .captured then upLane i (fun l => { l with phase := .received }) s1 else s1)

/-- CHECKPOINT_LOADED (R60, R540): the replay of the journal begins, from the first input stamped at or after kC·T. -/
def execCheckpointLoaded (dt : Nat) (i : Fin 2) (s : State) : Host.Outcome State Fault Refusal :=
  let s1 := tick dt s
  .next (if inPhase s1 i .received then upLane i (fun l => { l with phase := .replaying, own := l.ckpt, ckpt := none }) s1 else s1)

/-- REPLAY_JOINS_LIVE (R60): the replay has reached the live stream, so that the lane holds what the Active lane holds
(R44), and it sends signatures from now on. -/
def execReplayJoinsLive (dt : Nat) (i : Fin 2) (s : State) : Host.Outcome State Fault Refusal :=
  let s1 := tick dt s
  .next (if inPhase s1 i .replaying then
      upLane i (fun l => { l with phase := .live, agreeRun := 0, sigs := [], journal := none, own := none }) s1 else s1)

/-- JOURNAL_FULL (R61): the journal of a rebuilding lane fills before it is live. -/
def execJournalFull (dt : Nat) (i : Fin 2) (s : State) : Host.Outcome State Fault Refusal :=
  let s1 := tick dt s
  .next (if (laneOf s1 i).state = .rebuilding ∧ (laneOf s1 i).phase ≠ .live then rebuildFails i s1 else s1)

/-- REBUILD_TIMEOUT (R61): 30 s after B0 the replay has not reached the live stream. -/
def execRebuildTimeout (i : Fin 2) (s : State) : Host.Outcome State Fault Refusal :=
  let l := laneOf s i
  .next (if l.state = .rebuilding ∧ l.phase ≠ .live then rebuildFails i (reachEl (l.b0 + 30 * qSec) s) else s)

/-- STANDBY_READY (R52, R61): 2 000 agreeing beats in a row. -/
def execStandbyReady (i : Fin 2) (s : State) : Host.Outcome State Fault Refusal :=
  let l := laneOf s i
  if l.state = .rebuilding ∧ l.phase = .live ∧ 2000 ≤ l.agreeRun then
    let s1 := laneTo i .standby (upLane i (fun l => { l with attempt := 0 }) s)
    .next (laneStatus (s1.upLanes (fun l => { l with firstStandby := l.firstStandby.or (some s.now.el) })))
  else .next s

/-! ## Periods -/

/-- LANE_STATUS_PERIOD (R66): every 1 000 beats. -/
def execLaneStatusPeriod (s : State) : Host.Outcome State Fault Refusal :=
  if s.pow.state ≠ .serving then .next s
  else
    let t := s.lanes.statusNext
    .next (laneStatusAt t ((reach t s).upLanes (fun l => { l with statusNext := nextMul (1000 * qBeat) t })))

/-- An item of the output vector as numbers: a record by its Slip and the CRC-32C of its body (R45). -/
def OutItem.words : OutItem → List Nat
  | .value type index v => [1, type, index, sgn 8 v]
  | .winner group member => [2, group, member]
  | .frame ctl f => [3, ctl, f.id, flags [(0, f.ide), (1, f.fdf), (2, f.brs)], f.dlc] ++ f.data.map (·.toNat)
  | .modem bytes => 4 :: bytes.map (·.toNat)
  | .record r => [5, r.kind, r.body.length, r.source, r.flags, r.owner.getD 0, r.seq, r.corr, r.acc, r.eff, crc32c r.body]

/-- A lane sends its heartbeat at every tenth beat boundary (R47). -/
def Lane.beats (k : Nat) (l : Lane) : Lane :=
  if k % 10 = 0 ∧ l.state ≠ .off ∧ l.inReset = false then { l with hbSent := k } else l

/-- The output vector of beat `k` is complete: the lanes form its signature and send it, and at every tenth beat their
heartbeat (R45, R46, R47). DESIGN CHOICE (log entry 5): the vector holds what has been issued since the beat before. -/
def vectorOf (k : Nat) (s : State) : State :=
  (s.upLanes (fun l => { l with
    beatSig := (k, crc32c (Config.serialise (s.hub.out.map OutItem.words)))
    recto := l.recto.beats k, verso := l.verso.beats k })).upHub (fun h => { h with out := [] })

/-- BEAT (R45): the beat boundary. What is decided at beat boundaries by the field inputs, the CAN
controllers, the modem port, the cameras and the display happens here, and a Catalogue generation that has
taken effect is written to flash, but not while the supply is lost (R115, R471). The signature and the
heartbeat that the lanes send here reach the Curator as SIGNATURE and HEARTBEAT. -/
def execBeat (s : State) : Host.Outcome State Fault Refusal :=
  if s.pow.state ≠ .serving then .next s
  else
    let b := s.lanes.beatNext
    let s1 := (reach b s).upLanes (fun l => { l with beatNext := nextMul qBeat b })
    let s2 := camBeat b (modemBeat b (canBeat b (fieldBeat b s1)))
    let s3 := vectorOf (b / qBeat) (displayBeat (s2.pos.mode == 3) s2)
    .next (if s3.pow.sub = .holdup then s3 else s3.upCat (fun c => { c with flash := c.cats.map Catalog.settled }))

/-- The latest sample boundary of a loop before the boundary `b`. -/
def Loop.sampledBefore (l : Loop) (b : Int) : Option Int :=
  match l.last with
  | some t => if t < b then some t else l.prev
  | none => none

/-- A value of the batch of the boundary `b` reaches the lanes (R172, R173): it is late for each loop that has taken
a sample between its stamp and that boundary. -/
def closeInput (b : Nat) (x : PendIn) (s : State) : State :=
  (s.upSig (fun g => g.put x.num x.s)).upCtl (fun c => { c with loops := c.loops.map (fun l =>
    match l.law, l.sampledBefore b with
    | some r, some t =>
      if l.state ≠ .off ∧ fld r 0x2A 2 = x.num ∧ x.s.cmp < t then { l with late := satAdd 16 l.late 1 } else l
    | _, _ => l) })

/-- The batch of the boundary `b` closes: its inputs reach the lanes in stamp order (R14, R172). -/
def closeBatch (b : Nat) (s : State) : State :=
  canBatch (s.sig.pend.foldl (fun s x => closeInput b x s) (s.upSig (fun g => { g with pend := [], closed := b })))

/-- BEAT_BATCH_CLOSE (R172): 10 µs after the beat boundary the batch closes and its inputs reach the lanes. -/
def execBeatBatchClose (s : State) : Host.Outcome State Fault Refusal :=
  if s.pow.state ≠ .serving then .next s
  else
    let b := s.lanes.beatNext - qBeat
    .next (closeBatch b (reach (b + 10 * qUs) s))

end Sys2Proof.Machine
end

