-- ==== Sys2Proof/Machine/Ledger.lean ====
section
/-!
DEFINITION. The commands of the event sources and of the Ledger (R433, R437–R446).
-/
namespace Sys2Proof.Machine

/-- Change the Ledger. -/
def upLedger (f : Ledger → Ledger) (s : State) : State := s.upHub (fun h => { h with lg := f h.lg })

/-! ## Writing -/

/-- Lowest empty slot of the Circulating shelf (R440): `l` lists the slots in use, ascending. -/
def lowestEmpty : (from_ : Nat) → List Nat → Nat
  | n, [] => n
  | n, a :: r => if a < n then lowestEmpty n r else if a = n then lowestEmpty (n + 1) r else n

/-- Age of a record: how far its SEQ lies behind HEAD_SEQ (R440). -/
def seqAge (head seq : Nat) : Nat := sub32 head seq

/-- The oldest Circulating record of a severity (R440). -/
def oldestOf (g : Ledger) (sev : Nat) : Option Nat :=
  let l := g.slots.filter (fun x => decide (1024 ≤ x.1) && x.2.sev == sev)
  match l with
  | [] => none
  | a :: r => some (r.foldl (fun b x => if seqAge g.headSeq b.2.seq < seqAge g.headSeq x.2.seq then x else b) a).1

/-- The slot that a new record of severity `v` takes (R439, R440), none where it is dropped. -/
def slotFor (g : Ledger) (v : Nat) : Option Nat :=
  if g.founding < 1024 then some g.founding
  else
    let n := lowestEmpty 1024 (g.slots.map (·.1))
    if n < 65536 then some n else (List.range (v + 1)).findSome? (oldestOf g)

/-- SEQ of the next record (R437). -/
def nextSeq (head : Nat) : Nat := if head = 0xFFFFFFFF then 1 else head + 1

/-- Store a record (R437–R440); FOUNDING marks those of the first shelf. -/
def Ledger.write (g : Ledger) (r : LRec) : Option Ledger :=
  (slotFor g r.sev).map (fun n =>
    let found := decide (g.founding < 1024)
    let seq := nextSeq g.headSeq
    let r := { r with seq := seq, flags := if found then r.flags ||| 0x80 else r.flags }
    { g with
        slots := insertSorted (fun a b => decide (a.1 ≤ b.1)) (n, r) (g.slots.filter (fun x => x.1 != n))
        headSeq := seq, headSlot := n, founding := if found then g.founding + 1 else g.founding })

/-- Write one record, or count it as dropped (R438, R440): the first drop after 1 s raises LEDGER_DROP. The
message of its MSI-X vector follows the write (R435). -/
def writeRecord (r : LRec) (vec : Option Nat) (s : State) : State :=
  match s.hub.lg.write r with
  | some g =>
    s.upHub (fun h => { h with lg := g, link := match vec with | some v => h.link.signal v | none => h.link })
  | none =>
    let g := s.hub.lg
    let drops := upd g.drops r.sev (fun k => satAdd 32 k 1)
    let s1 := upLedger (fun g => { g with drops := drops, lastDrop := some s.now.ft }) s
    if dropIsFirst g.lastDrop s.now.ft then
      raiseX 116 0xFFFF 0 0 s1.hub.lg.dropData s.now.ft s.now.ft s1
    else s1

/-- A clear is running (R444, R446). -/
def clearing (g : Ledger) : Bool := match g.cmd with | some (.clear _ _, _) => true | _ => false

/-- Write the oldest waiting record (R438). -/
def writeNext (s : State) : State :=
  match s.hub.lg.queue with
  | [] => s
  | x :: q => writeRecord x.1 x.2 (upLedger (fun g => { g with queue := q }) s)

/-- Write every waiting record (R438, R471). -/
def writeAll (s : State) : State :=
  (List.range s.hub.lg.queue.length).foldl (fun s _ => writeNext s) s

/-- LEDGER_WRITE_COMPLETE (R438): a write completes; during a clear the queue waits (R446). -/
def execLedgerWriteComplete (dt : Nat) (s : State) : Host.Outcome State Fault Refusal :=
  let s1 := tick dt s
  if clearing s1.hub.lg then .next s1 else .next (writeNext s1)

/-! ## Coalescing -/

/-- A coalescing window ends at `at_` (R433): a count above 0 emits one record with EFFECTIVE `eff`, and a new
window begins at `start`; the raisings that already belong after it follow. -/
def endWindow (w : Window) (eff start fl : Nat) (s : State) : State :=
  let e := (curCat s).evSet w.src
  let s1 := s.upHub (fun h => { h with ev := ⟨h.ev.windows.eraseP (fun x => x.src == w.src && x.inst == w.inst)⟩ })
  let r := { w.latest with eff := eff }
  let s2 := if decide (w.count = 0) || !commanding s1 then s1
    else ask (.emit r w.count (unlockedFlag (ctxOf s1) r.acc + 0x10 + fl) (max e.sev r.sev)) s1
  let s3 := if w.count = 0 ∨ e.coalMs = 0 then s2
    else s2.upHub (fun h => { h with ev := ⟨h.ev.windows ++ [⟨w.src, w.inst, start + e.coalMs * qMs, 0, r, []⟩]⟩ })
  w.ahead.foldl (fun s r => ask (.raise r) s) s3

/-- COALESCE_WINDOW_END (R433): the window of source `src` and INSTANCE `inst` ends. -/
def execCoalesceWindowEnd (src inst : Nat) (s : State) : Host.Outcome State Fault Refusal :=
  match s.hub.ev.windows.find? (fun w => w.src == src && w.inst == inst) with
  | none => .next s
  | some w =>
    let s1 := reach w.endAt s
    .next (endWindow w w.endAt w.endAt 0 s1)

/-! ## Copy and clear -/

/-- The 64 bytes of a record (R437). -/
def LRec.bytes (r : LRec) : List Byte :=
  let b := leBytes 4 r.seq ++ leBytes 2 r.src ++ leBytes 1 r.sev ++ leBytes 1 r.flags ++ leBytes 8 r.acc
    ++ leBytes 8 r.eff ++ leBytes 4 r.gen ++ leBytes 2 r.count ++ leBytes 2 r.epoch ++ leBytes 2 r.inst
    ++ leBytes 2 r.code ++ data16 r.data ++ leBytes 4 r.powerUps ++ leBytes 4 0
  b ++ leBytes 4 (crc32 b)

/-- The 64 bytes of a slot (R437): zeros where it is empty. -/
def Ledger.slotBytes (g : Ledger) (n : Nat) : List Byte :=
  match g.slots.find? (fun x => x.1 == n) with
  | some x => x.2.bytes
  | none => List.replicate 64 0

/-- Begin the next waiting Ledger command while none runs (R443). -/
def ledgerNext (s : State) : State :=
  upLedger (fun g =>
    match g.cmd, g.waiting with
    | none, c :: r => { g with cmd := some (c, g.headSeq), waiting := r }
    | _, _ => g) s

/-- A Ledger command waits its turn (R443). -/
def ledgerQueue (c : LgCmd) (s : State) : State :=
  ledgerNext (upLedger (fun g => { g with waiting := g.waiting ++ [c] }) s)

/-- Layout of KD_LEDGER_COPY (R441). -/
def scLedgerCopy : RecSchema :=
  ⟨[32], [fu 0x20 2 0 65535 0, fu 0x24 4 1 65536 1],
    fun b => badIf (decide (65536 < fld b 0x20 2 + fld b 0x24 4)) 0x24⟩

/-- KD_LEDGER_COPY (R441, R443). -/
def execKdLedgerCopy (dt : Nat) (p : Post) (s : State) : Host.Outcome State Fault Refusal :=
  .next (command dt 0x1003 0x0F p scLedgerCopy false decideAt
    (fun u s => ledgerQueue (.copy (fld p.body 0x20 2) (fld p.body 0x24 4) u.acc p) s) s)

/-- LEDGER_COPY_DONE (R441, R442): KD_LEDGER_DATA with the slots as they stand, then the completion (log entry
60). -/
def execLedgerCopyDone (dt : Nat) (s : State) : Host.Outcome State Fault Refusal :=
  let s1 := tick dt s
  match s1.hub.lg.cmd with
  | some (.copy first count acc p, head) =>
    let g := s1.hub.lg
    let body := mkBody 32 ([(0x20, 2, first), (0x24, 4, count), (0x28, 4, head), (0x2C, 4, g.headSeq)]
      ++ g.drops.zipIdx.map (fun x => (0x30 + 4 * x.2, 4, x.1)))
    let data := (List.range count).flatMap (fun i => g.slotBytes (first + i))
    let s2 := emitFull 0x1005 16 0x0F 0x20 none (genAt s1 s1.now.ft) acc s1.now.ft body (some data) s1
    let s3 := complete 0x1003 0x0F p acc (accepted count s1.now.ft) s2
    .next (ledgerNext (upLedger (fun g => { g with cmd := none }) s3))
  | _ => .next s1

/-- KD_LEDGER_CLEAR (R446). -/
def execKdLedgerClear (dt : Nat) (p : Post) (s : State) : Host.Outcome State Fault Refusal :=
  .next (command dt 0x1004 0x0F p ⟨[32], [fu 0x20 2 0xC1EA 0xC1EA 0xC1EA], fun _ => []⟩ false decideAt
    (fun u s => ledgerQueue (.clear u.acc p) s) s)

/-- LEDGER_CLEAR_DONE (R446): the Circulating shelf is empty, LEDGER_CLEARED is its first record, the waiting
records follow. -/
def execLedgerClearDone (dt : Nat) (s : State) : Host.Outcome State Fault Refusal :=
  let s1 := tick dt s
  match s1.hub.lg.cmd with
  | some (.clear acc p, _) =>
    let g := s1.hub.lg
    let t := s1.now.ft
    let c := ctxOf s1
    let e := c.cat.evSet 117
    let r : Raising := ⟨117, 0xFFFF, 0, 0, g.dropData, t, t⟩
    let erased := (g.slots.filter (fun x => decide (1024 ≤ x.1))).length
    let s2 := upLedger (fun g => { g with
      cmd := none, slots := g.slots.filter (fun x => decide (x.1 < 1024)), drops := [0, 0, 0, 0] }) s1
    let vec := if e.vec = 0xFF ∨ !c.commanding then none else some e.vec
    let s3 := writeRecord (ledgerRec c r 1 (unlockedFlag c t) e.sev) (if e.toRing then none else vec) s2
    let s4 := if e.toRing && commanding s3 then
        ask (.deliver (eventRec c r 1 (unlockedFlag c t) e.sev vec)) s3
      else s3
    .next (ledgerNext (complete 0x1004 0x0F p acc (accepted erased t) s4))
  | _ => .next s1

end Sys2Proof.Machine
end

