-- ==== Sys2Proof/Machine/Map.lean ====
section
/-!
DEFINITION. The commands of the Yield Map Engine (R260–R267).
-/
namespace Sys2Proof.Machine

/-- Layout of KD_MAP_FIELD_OPEN (R262): what the geometry fields must hold depends on ACTION. -/
def scFieldOpen : RecSchema :=
  { lens := [32]
    flds := [fu 0x20 1 0 3 0, fu 0x22 2 0 65535 0, fu 0x24 4 0 (2 ^ 32 - 1) 0, fs 0x28 4 (-(2 ^ 31)) (2 ^ 31 - 1) 0,
      fs 0x2C 4 (-(2 ^ 31)) (2 ^ 31 - 1) 0, fs 0x30 4 (-(2 ^ 31)) (2 ^ 31 - 1) 0]
    rel := fun b =>
      let a := fld b 0x20 1
      let opens := decide (a = 0 ∨ a = 3)
      let cell := fld b 0x22 2
      let id := fld b 0x24 4
      badIf (if opens then decide (cell < 250 ∨ 10000 < cell) else decide (cell ≠ 0)) 0x22
      ++ badIf (if a = 1 then decide (id ≠ 0) else decide (id = 0 ∨ id = 2 ^ 32 - 1)) 0x24
      ++ badIf (opens && decide (900000000 < (fldS b 0x28 4).natAbs)) 0x28
      ++ badIf (opens && decide (1800000000 < (fldS b 0x2C 4).natAbs)) 0x2C
      ++ badIf (opens && decide (10000000 < (fldS b 0x30 4).natAbs)) 0x30 }

/-- A field command waits for the first tap instant at or after its stamp + 2 ms (R262). -/
def fieldCommand (dt what : Nat) (p : Post) (s : State) : State :=
  command dt 0x0802 0x0C p scFieldOpen true decideAt (fun u s =>
    s.upMap (fun m => { m with cmds := m.cmds ++ [⟨false, what, p, u.acc, u.cmp + 2 * qMs⟩] })) s

/-- FIELD_OPEN (R262). -/
def execFieldOpen (dt : Nat) (p : Post) (s : State) : Host.Outcome State Fault Refusal :=
  .next (fieldCommand dt 0 p s)

/-- FIELD_CLOSE (R263). -/
def execFieldClose (dt : Nat) (p : Post) (s : State) : Host.Outcome State Fault Refusal :=
  .next (fieldCommand dt 1 p s)

/-- FIELD_DISCARD (R262). -/
def execFieldDiscard (dt : Nat) (p : Post) (s : State) : Host.Outcome State Fault Refusal :=
  .next (fieldCommand dt 2 p s)

/-- FIELD_NEW (R262). -/
def execFieldNew (dt : Nat) (p : Post) (s : State) : Host.Outcome State Fault Refusal :=
  .next (fieldCommand dt 3 p s)

/-- FIELD_CLOSE_FLUSHED (R263): the oldest close completes, with the tiles that could not be archived. -/
def execFieldCloseFlushed (dt : Nat) (s : State) : Host.Outcome State Fault Refusal :=
  let s1 := tick dt s
  match s1.map.closes with
  | [] => .next s1
  | c :: r =>
    .next (complete 0x0802 0x0C c.post c.stamp (accepted c.lost c.at_) (s1.upMap (fun m => { m with closes := r })))

/-- MAP_FLUSH_PERIOD (R260): the dirty tiles are written, and delivered with ON_FLUSH. -/
def execMapFlushPeriod (s : State) : Host.Outcome State Fault Refusal :=
  let t := s.map.flushNext
  let s1 := (reach t s).upMap (fun m => { m with flushNext := nextMul (max 1 (fld m.recd 0x24 2) * qSec) t })
  match s1.map.field with
  | none => .next s1
  | some f =>
    if !commanding s1 then .next s1
    else
      let r := mapFlush s1
      .next (if (fld s1.map.recd 0x21 1).testBit 0 then deliverTiles f.geom 1 t r.2.1 r.1 else r.1)

/-- MAP_SUMMARY_PERIOD (R267). -/
def execMapSummaryPeriod (s : State) : Host.Outcome State Fault Refusal :=
  let per := fld s.map.recd 0x28 2
  if per = 0 then .next s
  else
    let t := s.map.summaryNext
    .next (openSummary t ((reach t s).upMap (fun m => { m with summaryNext := nextMul (per * qSec) t })))

/-- Layout of KD_MAP_TILE_REQUEST (R265). -/
def scTileRequest : RecSchema :=
  { lens := [32]
    flds := [fu 0x20 1 0 2 0, fu 0x22 1 0 255 0, fu 0x23 1 0 255 0, fu 0x24 4 0 (2 ^ 32 - 1) 0], rel := fun _ => [] }

/-- A request waits for the first tap instant at or after its stamp + 2 ms (R265). -/
def tileRequest (dt what : Nat) (p : Post) (s : State) : State :=
  command dt 0x0804 0x0C p scTileRequest false decideAt (fun u s =>
    s.upMap (fun m => { m with cmds := m.cmds ++ [⟨true, what, p, u.acc, u.cmp + 2 * qMs⟩] })) s

/-- TILE_REQUEST_TILE (R265). -/
def execTileRequestTile (dt : Nat) (p : Post) (s : State) : Host.Outcome State Fault Refusal :=
  .next (tileRequest dt 0 p s)

/-- TILE_REQUEST_SUMMARY (R265). -/
def execTileRequestSummary (dt : Nat) (p : Post) (s : State) : Host.Outcome State Fault Refusal :=
  .next (tileRequest dt 1 p s)

/-- TILE_REQUEST_ALL (R265). -/
def execTileRequestAll (dt : Nat) (p : Post) (s : State) : Host.Outcome State Fault Refusal :=
  .next (tileRequest dt 2 p s)

end Sys2Proof.Machine
end

