-- ==== Sys2Proof/Machine/Modem.lean ====
section
/-!
DEFINITION. The commands of the modem port (R401–R416) but MODEM_RING, which stands with the wake sources
in Power.lean.
-/
namespace Sys2Proof.Machine

/-- MODEM_CHARACTER (R402, R403, R406, R407): a character is received; the middle of its stop bit is now
and that of its start bit `ago` q earlier. `stopLow` is a framing error. -/
def execModemCharacter (dt ago : Nat) (b : Byte) (stopLow : Bool) (s : State) : Host.Outcome State Fault Refusal :=
  let s1 := tick dt s
  if !modemListens s1 then .next s1
  else
    let s2 := if stopLow then modemLineError s1 else s1
    let el := s2.now.el
    if s2.modem.buffered = 131072 then
      let first := firstIn1s s2.modem.lastOverrun el
      let s3 := s2.upModem (fun m => { m with
        rxBytes := satAdd 32 m.rxBytes 1, overrun := satAdd 32 m.overrun 1, loss := true, lastOverrun := some el })
      .next (if first then raise 110 0xFFFF 0 s3 else s3)
    else
      let x : MByte := ⟨b, agoStamp ago s2, s2.now.ft⟩
      let m0 := s2.modem
      let m1 : Modem := { m0 with
        rxBytes := satAdd 32 m0.rxBytes 1, part := m0.part ++ [x]
        drain := if m0.drain = 0 then m0.fill + 1 else m0.drain, fill := if m0.drain = 0 then 0 else m0.fill + 1 }
      let y := Modem.parse (m1.part.length + 1) m1 false
      let s3 := s2.upModem (fun _ => y.1)
      let s4 := if y.2 then
          let first := firstIn1s s3.modem.lastRecord el
          let s5 := s3.upModem (fun m => { m with lastRecord := some el })
          if first then raise 112 0xFFFF 0 s5 else s5
        else s3
      .next (modemHold s4)

/-- MODEM_BREAK (R402). -/
def execModemBreak (dt : Nat) (s : State) : Host.Outcome State Fault Refusal :=
  let s1 := tick dt s
  .next (if modemListens s1 then modemLineError s1 else s1)

/-- MODEM_READER_PASS (R405): the oldest complete record is passed on while the intake has credit. -/
def execModemReaderPass (dt : Nat) (s : State) : Host.Outcome State Fault Refusal :=
  let s1 := tick dt s
  let m := s1.modem
  match m.recs with
  | [] => .next s1
  | x :: _ =>
    if m.intake.length < 256 ∧ m.intake.sum + x.bytes.length ≤ 262144 then .next (modemHold (modemPass x s1))
    else .next s1

/-- MODEM_CREDIT_RETURN (R405): the lanes have finished with the oldest record of the intake. -/
def execModemCreditReturn (dt : Nat) (s : State) : Host.Outcome State Fault Refusal :=
  .next ((tick dt s).upModem (fun m => { m with intake := m.intake.drop 1 }))

/-- Layout of KD_MODEM_TX (R414). -/
def scModemTx (b : List Byte) : RecSchema :=
  let n := fld b 0x22 2
  { lens := [16 + n]
    flds := [fu 0x20 1 0 1 0, fu 0x22 2 1 4000 1, fu 0x24 2 0 60000 0, fu 0x28 8 0 (2 ^ 64 - 1) 0,
      fb 0x30 n (2 ^ (8 * n) - 1) 0]
    rel := fun _ => [] }

/-- KD_MODEM_TX (R408, R409, R414): decided at once where its boundary needs no wait for AT_STAMP, else at
the beat. -/
def execKdModemTx (dt : Nat) (p : Post) (s : State) : Host.Outcome State Fault Refusal :=
  let at_ := fld p.body 0x28 8
  .next (command dt 0x0E02 7 p (scModemTx p.body) true
    (fun acc => if at_ ≤ acc + 200 * qUs then startAt acc 0 else acc) (fun u s =>
      if u.cmp + 10 * qSec < at_ then
        let u := { u with bound := decideAt u.cmp }
        u.refuse 7 0x28 s
      else
        let h : MHost := ⟨p, u.acc, startAt u.cmp at_⟩
        if at_ ≤ u.cmp + 200 * qUs ∧ commanding s then modemDecide h s else s.upModem (fun m => { m with host := m.host ++ [h] })) s)

/-- MDM_READY_CHANGE (R401, R409): the level at `MDM_READY` changes. -/
def execMdmReadyChange (dt : Nat) (high : Bool) (s : State) : Host.Outcome State Fault Refusal :=
  let s1 := tick dt s
  let ready := high != (fld s1.modem.recd 0x22 1).testBit 1
  if ready = s1.modem.ready then .next s1
  else .next (modemStatus (s1.upModem (fun m => { m with ready := ready, started := !ready && modemSends s1 })))

/-- MODEM_CHARACTER_SENT (R409, R411): a character of the oldest outbound record completes on `MDM_TXD`. While
`MDM_READY` is not asserted, only the one that had already started can. -/
def execModemCharacterSent (dt : Nat) (s : State) : Host.Outcome State Fault Refusal :=
  let s1 := tick dt s
  let m := s1.modem
  match m.out with
  | [] => .next s1
  | x :: r =>
    if !modemSends s1 || !(m.ready || m.started) then .next s1
    else
      let sent := x.sent + 1
      let s2 := s1.upModem (fun m => { m with txBytes := satAdd 32 m.txBytes 1, waitEl := s1.now.el, stalled := false, started := false })
      if sent < x.wire.length then .next (s2.upModem (fun m => { m with out := { x with sent := sent } :: r }))
      else
        -- the other copy of the record no longer has a completion to give (R392, R409)
        let same := fun (y : MTx) => y.post == x.post && y.post.isSome
        let twice := x.copy || r.any (fun y => same y && y.copy)
        let s3 := s2.upModem (fun m => { m with out := r.map (fun y => if same y then { y with post := none } else y) })
        let s4 := modemDone x ⟨0, 0, if twice then 1 else 0, 0, 0, s1.now.ft⟩ s3
        .next (if m.shutdown then modemShutdownEnd true s4 else s4)

/-- MODEM_TX_STALL (R409): a record has waited STALL_MS without a character sent. -/
def execModemTxStall (s : State) : Host.Outcome State Fault Refusal :=
  let m := s.modem
  if m.out.isEmpty || m.stalled then .next s
  else
    let s1 := reachEl (m.waitEl + fld (modemRec s) 0x32 2 * qMs) s
    .next (raise 113 0xFFFF 0 (s1.upModem (fun m => { m with stalled := true })))

/-- MODEM_TX_LIFETIME (R409): the record not begun whose LIFETIME_MS ends first is removed. -/
def execModemTxLifetime (s : State) : Host.Outcome State Fault Refusal :=
  let waits := s.modem.out.filter (fun x => decide (x.sent = 0))
  match waits.filterMap (·.endEl) with
  | [] => .next s
  | a :: r =>
    let t := r.foldl min a
    let s1 := reachEl t s
    let gone := fun (x : MTx) => decide (x.sent = 0) && x.endEl == some t
    let out := modemGone (s.modem.out.filter gone) (s.modem.out.filter (fun x => !gone x))
    let s2 := s1.upModem (fun m => { m with
      out := m.out.filter (fun x => !gone x), txExpired := satAdd 16 m.txExpired out.length })
    .next (out.foldl (fun s x => modemDone x (refusedWith 0x12 0 (beatAt s1.now.ft)) s) s2)

/-- MODEM_STATUS_PERIOD (R415), with the level sampled at `MDM_RING`. -/
def execModemStatusPeriod (ring : Bool) (s : State) : Host.Outcome State Fault Refusal :=
  let ms := fld (modemRec s) 0x30 2
  if ms = 0 then .next s
  else
    let t := s.modem.statusNext
    .next (modemStatus ((reach t s).upModem (fun m => { m with ring := ring, statusNext := nextPeriod t ms })))

end Sys2Proof.Machine
end

