-- ==== Sys2Proof/Machine/Settings.lean ====
section
/-!
DEFINITION. The commands of the Catalogue (R113–R117, R142, R462): transactions, the settings records of
every kind, readback, and the boundaries at which commits and restores take effect.
-/
namespace Sys2Proof.Machine

/-- Code of the Catalogue manager (R99). -/
def unitCat : Nat := 0x13

/-! ## Open, commit, abort -/

/-- FORMAT is that of the commanding lane (R116). -/
def formatMine (s : State) (f : Nat) : Bool := decide (f = fmtOf s)

/-- FORMAT matches a Shadow lane's format (R116). -/
def formatShadow (s : State) (f : Nat) : Bool :=
  [s.lanes.recto, s.lanes.verso].any (fun l => l.state == .shadow && l.ver.format == f)

/-- Layout of KD_CAT_OPEN (R113): MODE is checked in the order of R114. -/
def scCatOpen : RecSchema :=
  ⟨[32], [fu 0x20 4 0 (2 ^ 32 - 1) 0, fu 0x24 2 0 65535 0, fu 0x26 1 0 255 0], fun _ => []⟩

/-- KD_CAT_OPEN (R114, R116). -/
def execKdCatOpen (dt : Nat) (p : Post) (s : State) : Host.Outcome State Fault Refusal :=
  .next (command dt 0x0401 unitCat p scCatOpen true decideAt (fun u s =>
    let base := fld p.body 0x20 4
    let f := fld p.body 0x24 2
    let mode := fld p.body 0x26 1
    if s.cat.txn.isSome then u.refuse 0x0F 0 s
    else if 1 < mode then u.refuse 7 0x26 s
    else if !formatMine s f && !formatShadow s f then u.refuse 0x0C 0 s
    else if base ≠ 0xFFFFFFFF ∧ base ≠ (catOf s f).latestGen then u.refuse 0x0D 0 s
    else
      let shadow := !formatMine s f
      let t : Txn :=
        { ring := p.ring, corr := p.corr, seq := p.seq, acc := u.acc, cmp := u.cmp, format := f, full := mode == 1
          shadow := shadow, posted := 0, recs := [], seqs := [], bytes := 0, failed := false, firstBad := 0 }
      let s1 := s.upCat (fun c => { c with txn := some t })
      complete u.kind u.unit p u.acc ⟨if shadow then 5 else 0, 0, 0, 0, 0, u.bound⟩ s1) s)

/-- The open transaction, when a close or a record on `ring` whose stamp compares as `acc` belongs to it
(R114). -/
def txnFor (s : State) (ring acc : Nat) : Option Txn :=
  match s.cat.txn with
  | some t => if t.ring = ring ∧ acc < t.cmp + 10 * qSec then some t else none
  | none => none

/-- Close the open transaction (R114). -/
def closeTxn (s : State) : State := s.upCat (fun c => { c with txn := none })

/-- The order in which commits and restores take effect: by boundary, then in stream order (R91, R115). -/
def Sched.le (a b : Sched) : Bool :=
  decide (a.boundary < b.boundary) || (a.boundary == b.boundary
    && (decide (a.cmp < b.cmp) || (a.cmp == b.cmp && decide (a.ring ≤ b.ring))))

/-- Put a commit or restore into the order in which they take effect (R115). -/
def schedule (x : Sched) (s : State) : State := s.upCat (fun c => { c with sched := insertSorted Sched.le x c.sched })

/-- Pipelines that are enabled (R350). -/
def pipesOn (s : State) : List Nat := (List.range 6).filter (fun p => (pipeOf s p).st != .off)

/-- SEQUENCE with which a transaction's record was posted (R546). -/
def Txn.seqOf (t : Txn) (n : RecName) : Option Nat :=
  ((t.recs.zip t.seqs).find? (fun x => x.1.kind == n.1 && x.1.key == n.2)).map (·.2)

/-- KD_CAT_COMMIT (R114–R116, R546). -/
def execKdCatCommit (dt : Nat) (p : Post) (s : State) : Host.Outcome State Fault Refusal :=
  .next (command dt 0x0402 unitCat p ⟨[32], [fu 0x20 4 0 (2 ^ 32 - 1) 0], fun _ => []⟩ true decideAt (fun u s =>
    match txnFor s p.ring u.cmp with
    | none => u.refuse 0x0E 0 s
    | some t =>
      let s1 := closeTxn s
      let at_ := beatAt (u.cmp + 2 * qMs)
      let base := catAhead s t.format
      let after : Catalog := { base with recs := committed t.full t.recs base.recs }
      let verdict : Option (Nat × Nat) :=
        if t.failed then some (0x10, t.firstBad)
        else if fld p.body 0x20 4 ≠ t.posted then some (0x13, 0)
        else refusalOf t.seqOf p.seq (breaches s.valve.pairMask (pipesOn s) after)
      match verdict with
      | some v =>
        if t.shadow then complete u.kind u.unit p u.acc ⟨5, 0, 0, 0, 0, at_⟩ s1
        else complete u.kind u.unit p u.acc ⟨4, v.1, 0, v.2, 0, u.bound⟩ s1
      | none =>
        let g := nextGen (catOf s t.format).latestGen
        let s2 := schedule ⟨at_, t.format, false, t.full, t.recs, g, u.acc, u.cmp, p.ring⟩
          (upCatalog t.format (fun c => { c with latestGen := g }) s1)
        complete u.kind u.unit p u.acc (if t.shadow then ⟨5, 0, 0, 0, 0, at_⟩ else ⟨0, 0, 0, g, 0, at_⟩) s2) s)

/-- KD_CAT_ABORT (R114). -/
def execKdCatAbort (dt : Nat) (p : Post) (s : State) : Host.Outcome State Fault Refusal :=
  .next (command dt 0x0403 unitCat p ⟨[32], [], fun _ => []⟩ true decideAt (fun u s =>
    match txnFor s p.ring u.cmp with
    | none => u.refuse 0x0E 0 s
    | some _ => u.accept 0 (closeTxn s)) s)

/-- The module aborts the open transaction: completed as a KD_CAT_ABORT with the CORRELATION, ring and
SEQUENCE of the KD_CAT_OPEN (R114, R473). -/
def abortTxn (reason eff : Nat) (s : State) : State :=
  match s.cat.txn with
  | none => s
  | some t =>
    complete 0x0403 unitCat ⟨t.ring, 0, 0, 32, 1, t.seq, t.corr, 0, 0, []⟩ t.acc ⟨0, reason, 0, 0, 0, eff⟩
      (closeTxn s)

/-- CAT_TRANSACTION_TIMEOUT (R114): no close in time. -/
def execCatTransactionTimeout (s : State) : Host.Outcome State Fault Refusal :=
  match s.cat.txn with
  | none => .next s
  | some t =>
    let b := decideAt (t.cmp + 10 * qSec)
    .next (abortTxn 0x12 b (reach b s))

/-! ## Settings records -/

/-- Kinds whose records differ in length by instance key (R106, R321, R352, R395). -/
def lengthByKey (kind : Nat) : Bool := kind == 0x0A01 || kind == 0x0B01 || kind == 0x0D02

/-- Kinds whose keys all select the one layout (R204, R395, R434). -/
def oneLayout (kind : Nat) : Bool := kind == 0x0602 || kind == 0x0D01 || kind == 0x1001

/-- Layout against which a posted settings record is checked. A key that selects no record of a kind of one
length is out of range; where the layouts differ by key, nothing in such a record is reserved (R161). -/
def postedLayout (kind : Nat) (b : List Byte) : Option RecSchema :=
  match postedSchema kind (keyOf kind b) b with
  | some sc => some sc
  | none =>
    if lengthByKey kind then none
    else (settingsSchema kind ((kindInfo kind).keys.headD 0)).map (fun sc =>
      let n := sc.lens.foldl max 0
      { sc with
        flds := if oneLayout kind then sc.flds else [fu 0x20 n 0 (2 ^ (8 * n) - 1) 0]
        rel := fun _ => [(kindInfo kind).keyOff] })

/-- What refuses a settings record (R106, R114, R142, R240, R473): reason and DETAIL16. -/
def recordRefusal (kind seq : Nat) (p : Post) (acc : Nat) (s : State) : Option (Nat × Nat) :=
  let i := kindInfo kind
  match checkBody (postedLayout kind p.body) i.keyOff i.keySize (lengthByKey kind) seq p with
  | some x => some x
  | none =>
    let pair := if kind = 0x0701 ∧ keyOf kind p.body < 24 then valvePairConflict s.valve.pairMask p.body else none
    match pair with
    | some o => some (7, o)
    | none =>
      if keyoff s then some (0x1201, 0)
      else
        match txnFor s p.ring acc with
        | none => some (0x0E, 0)
        | some t =>
          let was := ((t.recs.find? (fun r => r.kind == kind && r.key == keyOf kind p.body)).map
            (fun r => 32 + r.body.length)).getD 0
          if 64 * 2 ^ 20 < t.bytes - was + 32 + p.length then some (0x11, 0) else none

/-- Put a record into a transaction: it replaces an earlier one with its kind and key (R113). -/
def Txn.put (t : Txn) (r : SRec) (seq : Nat) : Txn :=
  match t.recs.findIdx? (fun x => x.kind == r.kind && x.key == r.key) with
  | some i =>
    { t with recs := t.recs.set i r, seqs := t.seqs.set i seq
             bytes := t.bytes - (32 + (nth default t.recs i).body.length) + 32 + r.body.length }
  | none => { t with recs := t.recs ++ [r], seqs := t.seqs ++ [seq], bytes := t.bytes + 32 + r.body.length }

/-- A settings record (R114): it counts among the records posted on the transaction's ring whatever its
outcome, and a refused one marks the transaction failed. A good one completes nothing (R111). -/
def settings (kind dt : Nat) (p : Post) (s : State) : State :=
  if s.pow.state ≠ .serving then tick dt s
  else
  let x := arrive dt kind unitCat p decideAt s
  let u := x.2
  let refusal := recordRefusal kind (expectedSeq s p) p u.cmp x.1
  let mine := (txnFor x.1 p.ring u.cmp).isSome
  let shadow := match x.1.cat.txn with | some t => mine && t.shadow | none => false
  let s1 := x.1.upCat (fun c => { c with txn := c.txn.map (fun t =>
    if !mine then t
    else
      let t := { t with posted := t.posted + 1 }
      match refusal with
      | some _ => if t.failed then t else { t with failed := true, firstBad := p.seq }
      | none => t.put ⟨kind, keyOf kind p.body, p.body⟩ p.seq) })
  match refusal with
  | some r => if shadow then s1 else u.refuse r.1 r.2 s1
  | none => s1

/-- KD_TIME_SETTINGS (R39). -/
def execKdTimeSettings (dt : Nat) (p : Post) (s : State) : Host.Outcome State Fault Refusal :=
  .next (settings 0x0101 dt p s)
/-- KD_LANE_SETTINGS (R64). -/
def execKdLaneSettings (dt : Nat) (p : Post) (s : State) : Host.Outcome State Fault Refusal :=
  .next (settings 0x0201 dt p s)
/-- KD_PASSAGE_SETTINGS (R142). -/
def execKdPassageSettings (dt : Nat) (p : Post) (s : State) : Host.Outcome State Fault Refusal :=
  .next (settings 0x0501 dt p s)
/-- KD_CROP_SETTINGS (R161). -/
def execKdCropSettings (dt : Nat) (p : Post) (s : State) : Host.Outcome State Fault Refusal :=
  .next (settings 0x0502 dt p s)
/-- KD_LOOP_SETTINGS (R190, R215). -/
def execKdLoopSettings (dt : Nat) (p : Post) (s : State) : Host.Outcome State Fault Refusal :=
  .next (settings 0x0601 dt p s)
/-- KD_GROUP_SETTINGS (R204). -/
def execKdGroupSettings (dt : Nat) (p : Post) (s : State) : Host.Outcome State Fault Refusal :=
  .next (settings 0x0602 dt p s)
/-- KD_VALVE_SETTINGS (R240). -/
def execKdValveSettings (dt : Nat) (p : Post) (s : State) : Host.Outcome State Fault Refusal :=
  .next (settings 0x0701 dt p s)
/-- KD_MAP_SETTINGS (R264). -/
def execKdMapSettings (dt : Nat) (p : Post) (s : State) : Host.Outcome State Fault Refusal :=
  .next (settings 0x0801 dt p s)
/-- KD_GNSS_SETTINGS (R295). -/
def execKdGnssSettings (dt : Nat) (p : Post) (s : State) : Host.Outcome State Fault Refusal :=
  .next (settings 0x0901 dt p s)
/-- KD_FUSION_SETTINGS (R321). -/
def execKdFusionSettings (dt : Nat) (p : Post) (s : State) : Host.Outcome State Fault Refusal :=
  .next (settings 0x0A01 dt p s)
/-- KD_CAMERA_SETTINGS (R352). -/
def execKdCameraSettings (dt : Nat) (p : Post) (s : State) : Host.Outcome State Fault Refusal :=
  .next (settings 0x0B01 dt p s)
/-- KD_FIELD_SETTINGS (R377). -/
def execKdFieldSettings (dt : Nat) (p : Post) (s : State) : Host.Outcome State Fault Refusal :=
  .next (settings 0x0C01 dt p s)
/-- KD_CAN_SETTINGS (R394). -/
def execKdCanSettings (dt : Nat) (p : Post) (s : State) : Host.Outcome State Fault Refusal :=
  .next (settings 0x0D01 dt p s)
/-- KD_CAN_OBJECT_SETTINGS (R395, R396). -/
def execKdCanObjectSettings (dt : Nat) (p : Post) (s : State) : Host.Outcome State Fault Refusal :=
  .next (settings 0x0D02 dt p s)
/-- KD_MODEM_SETTINGS (R413). -/
def execKdModemSettings (dt : Nat) (p : Post) (s : State) : Host.Outcome State Fault Refusal :=
  .next (settings 0x0E01 dt p s)
/-- KD_DISPLAY_SETTINGS (R428). -/
def execKdDisplaySettings (dt : Nat) (p : Post) (s : State) : Host.Outcome State Fault Refusal :=
  .next (settings 0x0F01 dt p s)
/-- KD_EVENT_SETTINGS (R434). -/
def execKdEventSettings (dt : Nat) (p : Post) (s : State) : Host.Outcome State Fault Refusal :=
  .next (settings 0x1001 dt p s)
/-- KD_CAL_USER (R461). -/
def execKdCalUser (dt : Nat) (p : Post) (s : State) : Host.Outcome State Fault Refusal :=
  .next (settings 0x1102 dt p s)
/-- KD_POWER_SETTINGS (R479). -/
def execKdPowerSettings (dt : Nat) (p : Post) (s : State) : Host.Outcome State Fault Refusal :=
  .next (settings 0x1201 dt p s)

/-! ## Readback -/

/-- The records of a kind that a read delivers, ascending by key (R117). -/
def readOf (c : Catalog) (all : Bool) (kind : Nat) : List (Nat × List Byte) :=
  (((kindInfo kind).keys).filter (fun k => all || decide (kind = 0x1102) || (c.find kind k).isSome)).map
    (fun k => (kind, c.body kind k))

/-- KD_CAT_READ (R117): the records, then the completion. -/
def execKdCatRead (dt : Nat) (p : Post) (s : State) : Host.Outcome State Fault Refusal :=
  .next (command dt 0x0404 unitCat p ⟨[32], [fu 0x20 2 0 65535 0, fu 0x22 1 0 1 0], fun b =>
      badIf (decide (fld b 0x20 2 ≠ 0) && !settingsKinds.contains (fld b 0x20 2)) 0x20⟩ false decideAt (fun u s =>
    let c := curCat s
    let k := fld p.body 0x20 2
    let kinds := if k = 0 then settingsKinds else [k]
    let recs := kinds.flatMap (readOf c (fld p.body 0x22 1 == 1))
    let s1 := recs.foldl (fun s r => emitFull r.1 18 unitCat 0 none c.gen u.acc c.genEff r.2 none s) s
    u.accept 0 s1) s)

/-! ## Boundaries -/

/-- COMMIT_BOUNDARY (R115): the earliest commit takes effect. -/
def execCommitBoundary (s : State) : Host.Outcome State Fault Refusal :=
  match s.cat.sched with
  | x :: r =>
    if x.restore then .next s
    else .next (applySched x ((reach x.boundary s).upCat (fun c => { c with sched := r })))
  | [] => .next s

/-- Layout of KD_RESTORE_FACTORY (R462). -/
def scRestore : RecSchema := ⟨[32], [fu 0x20 2 0xFAC7 0xFAC7 0xFAC7], fun _ => []⟩

/-- KD_RESTORE_FACTORY (R462): decided at the first beat boundary at least 2 ms after its stamp. -/
def execKdRestoreFactory (dt : Nat) (p : Post) (s : State) : Host.Outcome State Fault Refusal :=
  .next (command dt 0x1103 0x10 p scRestore false (fun acc => beatAt (acc + 2 * qMs)) (fun u s =>
    if s.cat.txn.isSome then u.refuse 0x0F 0 s
    else if s.ctl.loops.any (fun l => l.state != .off) then u.refuse 8 0 s
    else
      let formats := (fmtOf s :: s.cat.cats.map (·.format)).eraseDups
      let s1 := formats.foldl (fun s f =>
        let g := nextGen (catOf s f).latestGen
        schedule ⟨u.bound, f, true, false, [], g, u.acc, u.cmp, p.ring⟩ (upCatalog f (fun c => { c with latestGen := g }) s)) s
      complete u.kind u.unit p u.acc ⟨0, 0, 0, (catOf s1 (fmtOf s1)).latestGen, 0, u.bound⟩ s1) s)

/-- RESTORE_BOUNDARY (R462): the restore takes effect in every Catalogue held, and CAL_RESTORE is raised. -/
def execRestoreBoundary (s : State) : Host.Outcome State Fault Refusal :=
  match s.cat.sched with
  | x :: _ =>
    if !x.restore then .next s
    else
      let due := s.cat.sched.takeWhile (fun y => y.restore && y.acc == x.acc && y.boundary == x.boundary)
      let s1 := (reach x.boundary s).upCat (fun c => { c with sched := c.sched.drop due.length })
      .next (raise 123 0xFFFF 0 (due.foldl (fun s y => applySched y s) s1))
  | [] => .next s

end Sys2Proof.Machine
end

