-- ==== Sys2Proof/Machine/PowerOps.lean ====
section
/-!
DEFINITION. Shared operations on power (R468–R476): the start of every unit, the saved state, the end of
Serving, key-off, supply fall and its deadline.
-/
namespace Sys2Proof.Machine

/-- Change what only chapter 20 holds, with the present elapsed time. -/
def powEl (f : Power → Nat → Power) (s : State) : State := s.upPow (fun p => f p s.now.el)

/-! ## Field Time and the always-on domain -/

/-- Field Time is handed to the always-on count (R19, R469), which no rate corrects: the uncertainty of this instant
is kept. -/
def handAon (s : State) : State :=
  let u := uncertPs s
  (accrue s).upTime (fun t => { t with
    u0 := u, uAt := s.now.el, uHold := false, aonSince := s.now.el, tpOut := false, timeOk := false, r := 0 })

/-- TIME and REF start (R19, R22, R475, R543): FREE, F and R are 0, the OCXO begins to warm, the uncertainty has
grown by 11.6 ns/s since the count was handed over. -/
def startTime (s : State) : State :=
  let el := s.now.el
  let t0 := s.time
  (accrue s).upTime (fun t => { TimeU.reset with
    epoch := t.epoch, u0 := min maxPs (t0.u0 + 11600 * (el - t0.aonSince) / qSec), uAt := el
    unknown := t.unknown, ocxoOnAt := el, lastValid := el, savedFt := t.savedFt, aonSince := t.aonSince
    tpNext := nextMul qSec s.now.ft, intNext := nextMul qSec s.now.ft })

/-- A wake from Keeping leaves Field Time as it is; what is counted since the wake begins anew (R22, R40). -/
def wakeTime (s : State) : State :=
  s.upTime (fun t => { t with offset := 0, anyValid := false, timeInRejects := 0 })

/-! ## The start of the units -/

/-- The host link, the events and the Ledger's commands at a start (R93, R509, R547). -/
def startHub (s : State) : State :=
  let t := s.now.ft
  (s.upHub (fun h => { h with
    link := { Link.reset with
      msix := h.link.msix.map (fun v => { MsixVec.reset with sent := v.sent })
      statusNext := nextMul (10 * qSec) t, countsNext := nextMul (10 * qSec) t }
    ev := ⟨[]⟩, lg := { h.lg with cmd := none, waiting := [], cursor := 0 }, out := [] })).upBar (fun _ => Bar.reset)

/-- The valve stage at a start (R231, R475): every channel OFF. -/
def startValve (s : State) : State :=
  let t := s.now.ft
  let b := recBody s 0x0701 24
  s.upValve (fun v => { Valves.reset with
    pairMask := fld b 0x22 2, plateC := v.plateC, band := v.band, inhibit := v.inhibit
    statusNext := nextPeriod t (fld b 0x36 2), testNext := nextPeriod t (fld b 0x34 2)
    testEl := s.now.el, plateNext := nextMul (100 * qMs) t })

/-- The field I/O at a start (R355, R359, R360, R367, R475): every output off, counts from 0, the digital inputs
not yet sampled. -/
def startField (s : State) : State :=
  let t := s.now.ft
  let g := recBody s 0x0C01 128
  s.upField (fun _ => { Field.reset with
    di := List.replicate 48 ⟨0, s.now.el, false, none⟩, diStartEl := s.now.el
    counters := (List.range 16).map (fun n =>
      ⟨0, [], t, nextMul (max 1 (fld (recBody s 0x0C01 n) 0x26 2) * qMs) t, 0, none, none, none, []⟩)
    dq := (List.range 24).map (fun n =>
      let r := recBody s 0x0C01 (96 + n)
      let freq := max 1 (fld r 0x22 2)
      ⟨decide (fld r 0x21 1 = 1), freq, 0, 0, 100000000 / freq, 0, none, false, false, false⟩)
    aiNext := nextMul qBeat t, winStart := t, winNext := nextPeriod t (fld g 0x22 2)
    statusNext := nextPeriod t (fld g 0x24 2) })

/-- The CAN controllers at a start (R382, R388): OFF until the first beat of Active. -/
def startCan (s : State) : State :=
  let t := s.now.ft
  s.upCan (fun _ => { Can.reset with
    ctl := (List.range 6).map (fun c => { CanCtl.reset with statusNext := nextPeriod t (fld (recBody s 0x0D01 c) 0x32 2) })
    objs := (List.range 192).map (fun o => ⟨none, 0, nextPeriod t (fld (objRec s o) 0x2E 2)⟩) })

/-- The modem port at a start (R404): `MDM_HOLD` asserted. -/
def startModem (s : State) : State :=
  s.upModem (fun m => { Modem.reset with
    recd := modemRec s, ready := m.ready, ring := m.ring
    statusNext := nextPeriod s.now.ft (fld (modemRec s) 0x30 2) })

/-- The display at a start (R424, R425): OFF, then RAILS where it is enabled. -/
def startDisp (s : State) : State :=
  dispCommit (s.upDisp (fun d => { Display.reset with
    band := d.band, bandDue := d.bandDue, statusNext := nextPeriod s.now.ft (fld (dispRec s) 0x34 2) }))

/-- The GNSS front end at a cold start (R275, R284, R291): nothing tracked, the history to be built again, and
the AGC baselines too where key-off stored none. -/
def startGnss (s : State) : State :=
  let r := recBody s 0x0901 0
  let rate := max 1 (fld r 0x20 1)
  s.upGnss (fun g => { Gnss.reset with
    recd := r, rate := rate, next := nextMul (qSec / rate) s.now.ft, ant := g.ant
    bias := decide (fld r 0x21 1 = 1), retryEl := s.now.el, corrEl := s.now.el, savedAgc := g.savedAgc
    agc := (List.range 2).map (fun i =>
      let b := nth [] g.savedAgc i
      ⟨b, none, !b.isEmpty, [], 0, false, false⟩) })

/-- Positioning and fusion at a start (R302, R308): the pose is not initialised; what key-off saved stays. -/
def startFusion (s : State) : State :=
  let t := s.now.ft
  let el := s.now.el
  let m := recBody s 0x0A01 0
  let s1 := s.upFus (fun f => { Fusion.reset with
    main := m, geom := recBody s 0x0A01 1, line := recBody s 0x0A01 2, imu := recBody s 0x0A01 3
    saved := f.saved, next := nextMul (qSec / max 1 (fld m 0x22 2)) t, gnssEl := el
    seen := List.replicate 15 el, checkNext := nextMul qTap t, windowNext := nextMul qSec t
    windowFrom := t })
  s1.upPos (fun _ => { Pos.reset with primaryEl := el })

/-- The cameras at a start (R326, R350): pipelines Off, links to be locked. -/
def startCam (s : State) : State :=
  s.upCam (fun _ => { Cam.reset with
    ports := List.replicate 6 { CamPort.reset with retryEl := s.now.el + 100 * qMs }
    statusNext := nextMul qSec s.now.ft })

/-- The grids of the map engine at a start (R260, R267). -/
def startMap (s : State) : State :=
  let r := recBody s 0x0801 0
  let t := s.now.ft
  s.upMap (fun m => { m with
    recd := r, flushNext := nextMul (max 1 (fld r 0x24 2) * qSec) t
    summaryNext := nextMul (max 1 (fld r 0x28 2) * qSec) t })

/-- The lanes at a start (R52, R53): Off, their counts 0; rails out of tolerance stay so. -/
def startLanes (s : State) : State :=
  let t := s.now.ft
  s.upLanes (fun l => { Lanes.reset with
    recto := { Lane.reset 0 with slot := l.recto.slot, prevSlot := l.recto.prevSlot, rails := l.recto.rails }
    verso := { Lane.reset 2 with slot := l.verso.slot, prevSlot := l.verso.prevSlot, rails := l.verso.rails }
    startW := some s.now.el, statusNext := nextMul (1000 * qBeat) t, beatNext := nextMul qBeat t
    curatorRails := l.curatorRails })

/-- The image store at a start (R448, R449): a slot that was being written is EMPTY; at a cold start the
Curator and the Front-end Section start from their slots. -/
def startImages (warm : Bool) (s : State) : State :=
  let cur := (nextSlot s 2).getD s.img.curSlot
  let fe := (nextSlot s 3).getD s.img.feSlot
  s.upImg (fun i => { i with
    slots := i.slots.map (fun x => if x.state = .writing then { x with state := .empty } else x)
    curSlot := if warm then i.curSlot else cur, feSlot := if warm then i.feSlot else fe
    curSince := s.now.el, feSince := s.now.el, store := none, waiting := [] })

/-- The Catalogue is read from the flash (R115, R475). -/
def startCat (s : State) : State := s.upCat (fun c => { c with cats := c.flash, txn := none, sched := [] })

/-- A start of Serving (R469, R470, R475): `code` the wake source, `warm` with REF, TIME, GNSS and the Curator
running, `after` a key-off whose wake was held. POWER_STATE and POWER_WAKE are raised. -/
def startServing (code : Nat) (warm after : Bool) (s : State) : State :=
  let s0 := startCat (if warm then wakeTime (s.upGnss (fun g => { g with epoch := 0 })) else startGnss (startTime s))
  let s1 := startImages warm s0
  let s2 := startLanes (startHub s1)
  let s3 := powEl (fun p el => { p with
    state := .serving, sub := .run, wakeSource := code, warm := warm, afterShutdown := after
    undervolt := false, overvolt := false, supplyReturned := false, powerUps := p.powerUps + 1
    servingAt := el, wakeAt := el, enteredAt := el, timedServe := decide (code ≠ 0), firstBeat := false
    bankCharged := after, keyoffStep := 0, heldWake := none, deadlinePast := false, startMs := 0 }) s2
  let s4 := s3.upMar (fun m => { m with undelivered := none, planDue := false })
  let s5 := startMap (startCam (startFusion (startModem (startCan (startField (startValve s4))))))
  let s6 := s5.upPow (fun p => { p with statusNext := nextPeriod s.now.ft (cfg s5 0x1201 0 0x2C 2) })
  let s7 := s6.upSig (fun _ => Signals.reset)
  let s8 := startDisp (s7.upCtl (fun _ => Control.reset))
  raise 5 0xFFFF code (raise 4 0xFFFF 2 s8)

/-- A wake that is not by `IGN` outside Serving, or is held during a key-off (R470, R474). -/
def wake (code : Nat) (s : State) : State :=
  match s.pow.state with
  | .dormant => startServing code false false s
  | .keeping => startServing code true false s
  | .serving =>
    if s.pow.sub = .keyoff ∧ s.pow.heldWake = none then s.upPow (fun p => { p with heldWake := some code })
    else s
  | .unpowered => s

/-- Power-up plan, and both lanes released into Booting from the same stored state (R53, R475, R487). -/
def releaseBoth (m : PlanMeas) (s : State) : State := releaseLane 1 true (releaseLane 0 true (formPlan 0 m s))

/-! ## What is saved -/

/-- Save heading, position and standstill (R308, R473). -/
def saveFusion (standstill : Bool) (s : State) : State :=
  s.upFus (fun f => { f with saved := match f.last with
    | some o => if standstill && f.posInit then some (o.est.lat, o.est.lon) else none
    | none => none })

/-- Save the running values of the hops with their generation, and the crop in force (R135, R141). -/
def savePassage (s : State) : State :=
  s.upPas (fun p => { p with
    savedHops := savedRunning s, savedGen := (curCat s).gen, savedCrop := p.crop })

/-- The AGC baselines are stored, those that exist (R284, R473); where `keep` is false none are (R492). -/
def saveAgc (keep : Bool) (s : State) : State :=
  s.upGnss (fun g => { g with savedAgc := if keep then g.agc.map (fun a => if a.ready then a.base else []) else [] })

/-- Nothing is stored of hops, crop and pose (R492). -/
def saveNone (s : State) : State :=
  (s.upPas (fun p => { p with savedHops := [], savedCrop := 0 })).upFus (fun f => { f with saved := none })

/-- Save Field Time, the Ledger routing of the supply group and the wake settings (R432, R470, R473). -/
def saveAlways (s : State) : State :=
  let c := curCat s
  let b := recBody s 0x1201 0
  let route := (List.range 8).map (fun i => fld ((c.find 0x1001 i).getD (scEvent i).dflt) 0x21 1)
  (s.upTime (fun t => { t with savedFt := s.now.ft })).upPow (fun p => { p with
    aonRoute := route, aonKeepMin := fld b 0x20 2, aonWakeMask := fld b 0x24 1, aonServeS := fld b 0x26 2
    aonTimerS := fld b 0x28 4, aonKeepMv := fld b 0x2E 2
    aonCan0 := (fld (canRec s 0) 0x23 1).testBit 2, aonCan1 := (fld (canRec s 1) 0x23 1).testBit 2
    aonRing := (fld (modemRec s) 0x22 1).testBit 3 })

/-! ## The end of Serving -/

/-- Both lanes Off, nobody commands (R52, R471, R473). -/
def lanesOff (s : State) : State :=
  (laneTo 1 .off (laneTo 0 .off s)).upLanes (fun l => { l with
    selector := none, switch := none, overlap := none, selfcheck := false, suspended := false })

/-- Write what waits on the delivery rings as far as credit goes, before the link goes down. -/
def drainRings (s : State) : State :=
  (List.range 32).foldl (fun (s : State) n =>
    (List.range (nth default s.hub.link.dr n).backlog.length).foldl (fun s _ => deliverOne n s) s) s

/-- The units whose supply ends with Serving: host link, modem port, CAN, cameras, display. -/
def unitsOff (s : State) : State :=
  let s1 := upLink (fun l => l.drop false) (s.upBar (fun _ => Bar.reset))
  let s2 := s1.upHub (fun h => { h with ev := ⟨[]⟩, lg := { h.lg with cmd := none, waiting := [] } })
  let s3 := modemStop (canStop s2)
  dispLoss (s3.upCam (fun _ => Cam.reset))

/-- Entry to Dormant, Keeping or Unpowered from Serving: the time in Serving is counted (R480). -/
def leaveServing (st : PowerState) (s : State) : State :=
  powEl (fun p el => { p with
    state := st, sub := .run, servingQ := p.servingQ + (el - p.servingAt), servingAt := el, enteredAt := el
    timedServe := false, firstBeat := false, bankCharged := false, heldWake := none, deadlinePast := false }) s

/-- Entry to Dormant (R469): Field Time is handed to the always-on count. -/
def toDormant (s : State) : State :=
  raise 4 0xFFFF 0 (powEl (fun p el => { p with state := .dormant, enteredAt := el }) (handAon s))

/-- The `n` channels of bank `b` with the highest C/N0 (R293). -/
def bestChans (g : Gnss) (b n : Nat) : List Nat :=
  let l := (g.bankChans b).filter (fun c => (g.ch c).codeLock)
  (sortBy (fun a c => decide ((g.ch c).cn0 ≤ (g.ch a).cn0)) l).take n

/-- Entry to Keeping (R293, R469): 6 channels per bank are kept, epochs at 1 Hz. -/
def toKeeping (s : State) : State :=
  let keep := (List.range 4).flatMap (fun b => bestChans s.gnss b 6)
  let s1 := s.upGnss (fun g => { g with
    chans := g.chans.zipIdx.map (fun x => if keep.contains x.2 then x.1 else GChan.reset)
    pairs := g.pairs.filter (fun p => keep.contains p.a && keep.contains p.b)
    rate := 1, next := nextMul qSec s.now.ft })
  raise 4 0xFFFF 1 (powEl (fun p el => { p with state := .keeping, enteredAt := el }) s1)

/-- The always-on domain loses its supply and what it keeps (R469): the settings of log entry 1, and the records
that wait for the Ledger. -/
def aonLost (s : State) : State :=
  (s.upPow (fun p => { p with
    state := .unpowered, ign := false, aonKeepMin := 30, aonWakeMask := 1, aonTimerS := 3600, aonServeS := 300
    aonKeepMv := 23000, aonCan0 := false, aonCan1 := false, aonRing := true
    aonRoute := List.replicate 8 3 })).upHub (fun h => { h with lg := { h.lg with queue := [] } })

/-! ## Key-off -/

/-- Everything that waits to start an output, a loop or a frame is refused with KEYOFF (R473). -/
def refuseWaiting (s : State) : State :=
  let r := refusedWith 0x1201 0 (beatAt s.now.ft)
  let s1 := s.valve.host.foldl (fun s h => complete h.kind 0x0B h.post h.acc r s) s
  let s2 := s1.field.host.foldl (fun s h => complete 0x0C02 0x05 h.post h.acc r s) s1
  let s3 := s2.can.host.foldl (fun s h => complete 0x0D03 0x06 h.post h.acc r s) s2
  let s4 := s3.modem.host.foldl (fun s h => complete 0x0E02 7 h.post h.acc r s) s3
  let s5 := (List.range 128).foldl (fun (s : State) n =>
    (lp s n).cmds.foldl (fun s c => complete 0x0604 0x0A c.post c.stamp r s) s) s4
  let s6 := s5.upCtl (fun c => { c with loops := c.loops.map (fun l => { l with cmds := [] }) })
  ((s6.upValve (fun v => { v with host := [] })).upField (fun f => { f with host := [] })).upCan
    (fun c => { c with host := [] }) |>.upModem (fun m => { m with host := [] })

/-- Step 1 of R473 at the boundary `b`: loops Off without a shut-down output (R211), what they had handed on is given up,
boost queues emptied, valves and
outputs off. -/
def keyoffStep1 (b : Nat) (s : State) : State :=
  let s1 := ((List.range 128).foldl (fun (s : State) n =>
    if (lp s n).state = .off then s else goOff n b (lp s n).next 0 s) s).upCtl (fun c =>
      { loops := c.loops.map (fun l => { l with due := none, owed := none })
        groups := c.groups.map (fun g => { g with due := none }) })
  dqAllOff 0x1201 (allOffFast (emptyQueues 0x1201 (refuseWaiting s1)))

/-- Step 2 of R473: CAN and modem shut down, pipelines Off, the display's shut-down order, what the passage
engine delivers. -/
def keyoffStep2 (s : State) : State :=
  let s1 := (List.range 6).foldl (fun (s : State) c => if (cctl s c).state = .off then s else canShutdown c false s) s
  passKeyoff (dispShutdown (camShutdown (if s1.modem.enabled then modemShut s1 else s1)))

/-- A pending step lapses at key-off (R25). -/
def lapseStep (s : State) : State := timeNoted s.time (s.upTime (fun t => if t.pending.isSome then t.lapse else t))

/-- The key-off sequence begins at K, now (R473): steps 1 and 2 follow at the first beat boundary. -/
def beginKeyoff (s : State) : State :=
  let b := beatAt s.now.ft
  let s1 := powEl (fun p el => { p with
    sub := .keyoff, keyoffAt := el, keyoffStep := 1, timedServe := false, heldWake := none
    keyoffIncomplete := false }) s
  let s2 := reach b (abortTxn 0x1201 b (lapseStep (powerStatus b s1)))
  (keyoffStep2 (keyoffStep1 b s2)).upPow (fun p => { p with keyoffStep := 3 })

/-! ## Supply -/

/-- DATA of the supply events (R482): a voltage in mV and a duration in µs. -/
def supplyData (mv us : Nat) : List Byte := leBytes 2 (sat 16 mv) ++ leBytes 4 (sat 32 us)

/-- A supply fall is detected (R471, R534, R469); `mv` at `VBAT`. In Keeping, Field Time is handed over. -/
def supplyFall (mv us : Nat) (s : State) : State :=
  match s.pow.state with
  | .serving =>
    if s.pow.sub = .holdup then s
    else
      let cut := decide (s.pow.sub = .keyoff)
      let s1 := raiseX 3 0xFFFF 0 3 (supplyData mv us) s.now.ft s.now.ft s
      let s2 := if cut then raise 7 0xFFFF s.pow.keyoffStep s1 else s1
      let s3 := powEl (fun p el => { p with
        sub := .holdup, fallAt := el, deadlinePast := false, vbatMv := mv, timedServe := false
        keyoffIncomplete := p.keyoffIncomplete || cut }) s2
      let s4 := dispLoss s3
      let s5 := (List.range 6).foldl (fun (s : State) n =>
        if (portOf s n).poc = 0 then s else raise 53 n 0 (upPort n (fun y => { y with poc := 0 }) s)) s4
      let s6 := s5.upGnss (fun g => { g with bias := false })
      powerStatus (beatAt s6.now.ft) (modemHold s6)
  | .keeping =>
    if 5000 ≤ mv then toDormant s else aonLost (handAon s)
  | _ => s

/-- What the hold-up sequence does when the supply has not returned by its deadline (R471, R492, R534): the
Ledger's queue is written, the state is saved as far as the level allows, outputs are off, the lanes stop. -/
def holdupDeadline (standstill : Bool) (s : State) : State :=
  let s1 := writeAll s
  let s2 :=
    if !s1.pow.bankCharged then s1
    else
      let s2 := saveAgc (decide (s1.mar.level = 0)) (saveAlways s1)
      if s1.mar.level = 2 then saveNone s2
      else if s1.pow.keyoffStep = 0 then savePassage (saveFusion standstill s2) else saveFusion standstill s2
  let s3 := dqAllOff 8 (allOffFast (emptyQueues 8 s2))
  let s4 := s3.upMap (fun m => { m with field := m.field.map (fun f => { f with lossy := true }) })
  (lanesOff (modemStop (canStop s4))).upPow (fun p => { p with deadlinePast := true })

end Sys2Proof.Machine
end

