-- ==== Sys2Proof/Machine/Power.lean ====
section
/-!
DEFINITION. The commands of supply, power states, key-off and start-up (R465–R482, R534), and the wake
sources of other units (R393, R412).
-/
namespace Sys2Proof.Machine

/-! ## The vehicle supply -/

/-- VBAT_CONNECT (R469): `VBAT` at 9.0 V or more for 10 ms from Unpowered, with the level of `IGN`. Field Time
restarts from the value stored at the last key-off, UNKNOWN (R19). -/
def execVbatConnect (dt mv : Nat) (ign : Bool) (s : State) : Host.Outcome State Fault Refusal :=
  let s1 := tick dt s
  if s1.pow.state ≠ .unpowered then .next s1
  else
    let s2 := s1.upNow (fun n => { n with ft := s1.time.savedFt })
    let s3 := s2.upTime (fun t => { t with unknown := true, u0 := maxPs, uAt := s2.now.el, aonSince := s2.now.el })
    let s4 := powEl (fun p el => { p with state := .dormant, enteredAt := el, ign := ign, vbatMv := mv }) s3
    .next (if ign then startServing 6 false false s4 else s4)

/-- VBAT_LOST (R469): `VBAT` below 5.0 V in Dormant; the always-on domain and what it keeps are lost. -/
def execVbatLost (dt : Nat) (s : State) : Host.Outcome State Fault Refusal :=
  let s1 := tick dt s
  if s1.pow.state ≠ .dormant then .next s1
  else
    .next (aonLost s1)

/-- SUPPLY_CRANK (R465, R482): a dip of `us` µs down to `mv` has been ridden through. -/
def execSupplyCrank (dt mv us : Nat) (s : State) : Host.Outcome State Fault Refusal :=
  let s1 := tick dt s
  .next (raiseX 2 0xFFFF 0 0 (supplyData mv us) s1.now.ft s1.now.ft (s1.upPow (fun p => { p with undervolt := false })))

/-- SUPPLY_UNDERVOLT (R465, R482): `VBAT` in 8.0–9.0 V for more than 100 ms. -/
def execSupplyUndervolt (dt mv us : Nat) (s : State) : Host.Outcome State Fault Refusal :=
  let s1 := tick dt s
  .next (raiseX 0 0xFFFF 0 0 (supplyData mv us) s1.now.ft s1.now.ft
    (s1.upPow (fun p => { p with undervolt := true, vbatMv := mv })))

/-- SUPPLY_OVERVOLT (R465, R482): `VBAT` above 36.0 V. -/
def execSupplyOvervolt (dt mv us : Nat) (s : State) : Host.Outcome State Fault Refusal :=
  let s1 := tick dt s
  .next (raiseX 1 0xFFFF 0 0 (supplyData mv us) s1.now.ft s1.now.ft
    (s1.upPow (fun p => { p with overvolt := true, vbatMv := mv })))

/-- SUPPLY_FALL (R465, R469, R471). -/
def execSupplyFall (dt mv us : Nat) (s : State) : Host.Outcome State Fault Refusal :=
  .next (supplyFall mv us (tick dt s))

/-- SUPPLY_RETURN (R470, R472): `VBAT` at 9.0 V or more for 5 ms. Before the return deadline the module goes on
in RUN: what the 1 ms step switched off is switched on again, the display begins its power-up order, a plan
that fell due is formed. In Dormant it is a wake while `IGN` is high. -/
def execSupplyReturn (dt mv : Nat) (m : PlanMeas) (s : State) : Host.Outcome State Fault Refusal :=
  let s1 := tick dt s
  match s1.pow.state, s1.pow.sub with
  | .serving, .holdup =>
    if s1.pow.deadlinePast then .next s1
    else
      let s2 := powEl (fun p el => { p with
        sub := .run, supplyReturned := true, vbatMv := mv, undervolt := false, keyoffStep := 0
        timedServe := !p.ign, wakeAt := if p.ign then p.wakeAt else el }) s1
      let s3 := s2.upGnss (fun g => { g with bias := decide (fld g.recd 0x21 1 = 1) && g.ant != 3 })
      let s4 := powerStatus (beatAt s3.now.ft) (raise 5 0xFFFF 6 (modemHold (dispCommit s3)))
      .next (if s4.mar.planDue then formPlan 1 m s4 else s4)
  | .dormant, _ => .next (if s1.pow.ign then startServing 6 false false s1 else s1)
  | _, _ => .next s1

/-- HOLDUP_RETURN_DEADLINE (R471, R492): the supply has not returned; outputs off, lanes stopped. -/
def execHoldupReturnDeadline (standstill : Bool) (s : State) : Host.Outcome State Fault Refusal :=
  if s.pow.state ≠ .serving ∨ s.pow.sub ≠ .holdup ∨ s.pow.deadlinePast then .next s
  else
    .next (holdupDeadline standstill
      (reachEl (s.pow.fallAt + returnDeadlineMs s.mar.level s.mar.holdupMs * qMs) s))

/-- HOLDUP_COMPLETE (R469, R471): the hold-up sequence is complete, with `mv` at `VBAT`. -/
def execHoldupComplete (dt mv : Nat) (s : State) : Host.Outcome State Fault Refusal :=
  let s1 := tick dt s
  if s1.pow.state ≠ .serving ∨ s1.pow.sub ≠ .holdup ∨ !s1.pow.deadlinePast then .next s1
  else if 5000 ≤ mv then .next (toDormant (leaveServing .dormant (unitsOff s1)))
  else
    .next (aonLost (handAon (leaveServing .unpowered (unitsOff s1))))

/-- RAIL_FAULT (R467): rail number `rail` leaves tolerance, CODE 1 under or 2 over. `owner` is 0 Recto, 1 Verso,
2 the Curator, 3 shared. -/
def execRailFault (dt rail code : Nat) (owner : Fin 4) (s : State) : Host.Outcome State Fault Refusal :=
  let s1 := tick dt s
  if s1.pow.state ≠ .serving then .next s1
  else
    let s2 := raise 6 rail code s1
    match owner.val with
    | 0 | 1 =>
      let i : Fin 2 := if owner.val = 0 then 0 else 1
      let s3 := upLane i (fun l => { l with rails := rail :: l.rails.filter (· != rail), inReset := true }) s2
      .next (if (laneOf s3 i).state = .off then s3 else laneFails i false s3)
    | 2 => .next (s2.upLanes (fun l => { l.goSilent with
        curatorRails := rail :: l.curatorRails.filter (· != rail) }))
    | _ => .next (supplyFall s2.pow.vbatMv 0 (s2.upPow (fun p => { p with
        rails := rail :: p.rails.filter (· != rail) })))

/-- RAIL_RETURN (R467): the rail is back in tolerance; a lane that no rail holds in reset any more is released
into Booting. -/
def execRailReturn (dt rail : Nat) (owner : Fin 4) (s : State) : Host.Outcome State Fault Refusal :=
  let s1 := tick dt s
  match owner.val with
  | 0 | 1 =>
    let i : Fin 2 := if owner.val = 0 then 0 else 1
    let l := laneOf s1 i
    let s2 := upLane i (fun l => { l with rails := l.rails.filter (· != rail) }) s1
    if !l.rails.isEmpty && (laneOf s2 i).rails.isEmpty && l.state == .booting then .next (releaseLane i false s2)
    else .next s2
  | 2 => .next (s1.upLanes (fun l => { l with curatorRails := l.curatorRails.filter (· != rail) }))
  | _ => .next (s1.upPow (fun p => { p with rails := p.rails.filter (· != rail) }))

/-! ## Ignition and wake -/

/-- IGN_HIGH (R466, R469, R470, R474): `IGN` is qualified high. -/
def execIgnHigh (dt : Nat) (s : State) : Host.Outcome State Fault Refusal :=
  let s1 := (tick dt s).upPow (fun p => { p with ign := true, timedServe := false })
  .next (wake 0 s1)

/-- IGN_LOW (R466, R473): `IGN` is qualified low; the key-off sequence begins. -/
def execIgnLow (dt : Nat) (s : State) : Host.Outcome State Fault Refusal :=
  let s1 := (tick dt s).upPow (fun p => { p with ign := false })
  if s1.pow.state = .serving ∧ s1.pow.sub = .run ∧ !s1.pow.timedServe then .next (beginKeyoff s1) else .next s1

/-- A field of KD_POWER_SETTINGS in force, and the copy of the always-on domain outside Serving (R470). -/
def wakeField (s : State) (off size aon : Nat) : Nat :=
  if s.pow.state = .serving then cfg s 0x1201 0 off size else aon

/-- HOST_WAKE (R470): `HOST_WAKE` held low for 1 ms. -/
def execHostWake (dt : Nat) (s : State) : Host.Outcome State Fault Refusal :=
  let s1 := tick dt s
  .next (if (wakeField s1 0x24 1 s1.pow.aonWakeMask).testBit 0 then wake 4 s1 else s1)

/-- WAKE_TIMER (R470): WAKE_TIMER_S after the entry to Dormant or Keeping. -/
def execWakeTimer (s : State) : Host.Outcome State Fault Refusal :=
  if (s.pow.state = .dormant ∨ s.pow.state = .keeping) ∧ s.pow.aonWakeMask.testBit 1 then
    .next (wake 5 (reachEl (s.pow.enteredAt + s.pow.aonTimerS * qSec) s))
  else .next s

/-- CAN_WAKE_PATTERN (R393): a wake-up pattern on `CAN0` or `CAN1`, enabled by its WAKE_EN. -/
def execCanWakePattern (dt : Nat) (c : Fin 2) (s : State) : Host.Outcome State Fault Refusal :=
  let s1 := tick dt s
  let live := if s1.pow.state = .serving then (fld (canRec s1 c.val) 0x23 1).testBit 2
    else if c = 0 then s1.pow.aonCan0 else s1.pow.aonCan1
  if !live then .next s1
  else
    let s2 := wake (1 + c.val) s1
    .next (if s1.pow.state ≠ .serving ∧ s2.pow.state = .serving then
      upCtlr c.val (fun k => { k with wakeSource := true }) s2 else s2)

/-- MODEM_RING (R412): `MDM_RING` asserted for 10 ms, enabled by RING_WAKE. -/
def execModemRing (dt : Nat) (s : State) : Host.Outcome State Fault Refusal :=
  let s1 := (tick dt s).upModem (fun m => { m with ring := true })
  let on := if s1.pow.state = .serving then (fld (modemRec s1) 0x22 1).testBit 3 else s1.pow.aonRing
  .next (if on then wake 3 s1 else s1)

/-- WAKE_SERVE_EXPIRY (R470): the time that a wake other than by `IGN` serves ends. -/
def execWakeServeExpiry (s : State) : Host.Outcome State Fault Refusal :=
  if s.pow.state ≠ .serving ∨ s.pow.sub ≠ .run ∨ !s.pow.timedServe then .next s
  else
    let s1 := (reachEl (s.pow.wakeAt + cfg s 0x1201 0 0x26 2 * qSec) s).upPow (fun p => { p with timedServe := false })
    .next (if s1.pow.ign then s1 else beginKeyoff s1)

/-! ## Key-off -/

/-- KEYOFF_FLUSH_DONE (R260, R473): step 3, the dirty tiles are in the archive. -/
def execKeyoffFlushDone (dt : Nat) (s : State) : Host.Outcome State Fault Refusal :=
  let s1 := tick dt s
  if s1.pow.state = .serving ∧ s1.pow.sub = .keyoff ∧ s1.pow.keyoffStep = 3 then
    .next ((mapKeyoff s1).upPow (fun p => { p with keyoffStep := 4 }))
  else .next s1

/-- KEYOFF_SAVE_DONE (R473, R491): step 4, the saved state is written, and the hold-up bank is measured: `uf`
in µF, `esr` in mΩ. -/
def execKeyoffSaveDone (dt uf esr : Nat) (standstill : Bool) (s : State) : Host.Outcome State Fault Refusal :=
  let s1 := tick dt s
  if s1.pow.state = .serving ∧ s1.pow.sub = .keyoff ∧ s1.pow.keyoffStep = 4 then
    let s2 := saveFusion standstill (saveAgc true (saveAlways s1))
    let s3 := s2.upMar (fun m => { m with holdupUf := uf, esrMohm := esr, holdupMs := holdupTime uf esr })
    let s4 := s3.upCat (fun c => { c with flash := c.cats })
    .next (s4.upPow (fun p => { p with keyoffStep := 5 }))
  else .next s1

/-- KEYOFF_COMPLETE (R469, R473, R474): steps 5 and 6, once the display's shut-down has ended: the last
KD_POWER_STATUS, lanes Off, host link down; then a held wake starts again at once, or the module enters
Keeping or Dormant. `mv` at `VBAT`. -/
def execKeyoffComplete (dt mv : Nat) (m : PlanMeas) (s : State) : Host.Outcome State Fault Refusal :=
  let s1 := tick dt s
  if s1.pow.state ≠ .serving ∨ s1.pow.sub ≠ .keyoff ∨ s1.pow.keyoffStep ≠ 5 ∨ s1.disp.state ≠ .off then .next s1
  else
    let s2 := drainRings (powerStatus (beatAt s1.now.ft) (s1.upPow (fun p => { p with vbatMv := mv })))
    let held := s2.pow.heldWake
    let s3 := unitsOff (lanesOff s2)
    let s4 := powEl (fun p el => { p with keyoffStep := 0, lastKeyoffMs := (el - p.keyoffAt) / qMs }) s3
    match held with
    | some code => .next (releaseBoth m (startServing code true true (leaveServing .keeping s4)))
    | none =>
      let s5 := leaveServing .dormant s4
      if s5.pow.aonKeepMin ≠ 0 ∧ s5.pow.aonKeepMv ≤ mv then .next (toKeeping s5) else .next (toDormant s5)

/-- KEEP_MIN_EXPIRY (R469): KEEP_MIN has elapsed in Keeping. -/
def execKeepMinExpiry (s : State) : Host.Outcome State Fault Refusal :=
  if s.pow.state ≠ .keeping then .next s
  else .next (toDormant (reachEl (s.pow.enteredAt + s.pow.aonKeepMin * 60 * qSec) s))

/-- KEEP_VBAT_LOW (R469): `VBAT` below KEEP_VBAT_MIN_MV for 10 s in Keeping. -/
def execKeepVbatLow (dt : Nat) (s : State) : Host.Outcome State Fault Refusal :=
  let s1 := tick dt s
  if s1.pow.state ≠ .keeping then .next s1 else .next (toDormant s1)

/-! ## Start-up and status -/

/-- HOLDUP_BANK_CHARGED (R487, R534): the bank reaches 34.0 V; the power-up plan is formed from what the
monitors show, and both lanes are released into Booting. -/
def execHoldupBankCharged (dt : Nat) (m : PlanMeas) (s : State) : Host.Outcome State Fault Refusal :=
  let s1 := tick dt s
  if s1.pow.state ≠ .serving ∨ s1.pow.sub ≠ .run ∨ s1.pow.bankCharged then .next s1
  else .next (releaseBoth m (s1.upPow (fun p => { p with bankCharged := true })))

/-- PCIE_PERST (R475): `PCIE_PERST` is asserted, which takes the link down, or released, which lets it train. -/
def execPciePerst (dt : Nat) (asserted : Bool) (s : State) : Host.Outcome State Fault Refusal :=
  let s1 := (tick dt s).upPow (fun p => { p with perst := asserted })
  .next (if asserted && linkLive s1 then linkReset false s1 else s1)

/-- POWER_STATUS_PERIOD (R480): every STATUS_MS, with what is measured. -/
def execPowerStatusPeriod (mv : Nat) (vs : List Nat) (plateC : Int) (mw : Nat) (s : State) :
    Host.Outcome State Fault Refusal :=
  let per := cfg s 0x1201 0 0x2C 2
  if s.pow.state ≠ .serving ∨ per = 0 then .next s
  else
    let t := s.pow.statusNext
    let s1 := (reach t s).upPow (fun p => { p with
      statusNext := nextPeriod t per, vbatMv := mv, vsMv := vs.map (sat 16), plateC := plateC, logicMw := mw
      undervolt := p.undervolt && decide (mv < 9000), overvolt := p.overvolt && decide (36000 < mv) })
    .next (powerStatus t s1)

end Sys2Proof.Machine
end

