-- ==== Sys2Proof/Machine/Time.lean ====
section
/-!
DEFINITION. The commands of Field Time (R10–R41, R541–R543) but STEP_INSTANT, which touches every unit
and stands in TimeStep.lean.
-/
namespace Sys2Proof.Machine

/-- TIME_IN_EDGE (R33, R34): an edge on TIME_IN; the edge that TIME_IN_EDGE does not select, and every
edge in mode OFF, is ignored. -/
def execTimeInEdge (dt : Nat) (rising : Bool) (s : State) : Host.Outcome State Fault Refusal :=
  let s1 := tick dt s
  let r := recBody s1 0x0101 0
  let mode := fld r 0x29 1
  if mode = 0 ∨ rising = decide (fld r 0x2A 1 = 1) ∨ !awake s1 then .next s1
  else
    let ft := s1.now.ft
    let near := (ft + qSec / 2) / qSec * qSec
    let gap := ((ft : Int) - near).natAbs
    if uncertPs s1 + 1000000 < gap * 250 then
      .next (raise 33 0xFFFF 0 (s1.upTime (fun t => { t with timeInRejects := satAdd 16 t.timeInRejects 1 })))
    else
      let x : Int := (ft : Int) - fldS r 0x2C 4 - near
      let s2 := s1.upTime (fun t => { t with timeInOffset := clampI (-(2 ^ 31)) (2 ^ 31 - 1) x })
      if s2.time.state = .locked then
        .next (if 4000 < x.natAbs then raise 32 0xFFFF 0 s2 else s2)
      else if mode = 2 ∧ uncertPs s1 < 500000000000 then
        -- the edge's phase term under the slew limit of R23 (log entry 23)
        .next ((accrue s2).upTime (fun t => { t with
          timeInUsed := true, r := clampI (-20480000) 20480000 (t.f - 64 * x) }))
      else .next s2

/-- A valid interval with |offset| of 1 ms or more in FREE or HOLDOVER: confirmation, and what follows
it under STEP_POLICY (R24, R25). DESIGN CHOICE (log entry 72): R24 does not say which of the ten offsets agree with
which; each is compared with the one before it, as R25 compares them. -/
def confirmStep (x : Int) (at_ : Nat) (s : State) : State :=
  let t := s.time
  match t.pending with
  | some a =>
    if (x - a).natAbs ≤ 400 then s.upTime (fun t => { t with pending := some x, lockRun := 0 })
    else s.upTime (fun t => { t.lapse with confirmRun := 1, confirmLast := x, lockRun := 0 })
  | none =>
    if t.fixedStep.isSome then s.upTime (fun t => { t with lockRun := 0 })
    else
      let n := if 0 < t.confirmRun ∧ (x - t.confirmLast).natAbs ≤ 400 then t.confirmRun + 1 else 1
      let s1 := s.upTime (fun t => { t with confirmRun := n, confirmLast := x, lockRun := 0 })
      if n < 10 then s1
      else if cfg s 0x0101 0 0x28 1 = 0 then
        s1.upTime (fun t => { t with fixedStep := some (x, at_ + qSec), confirmRun := 0 })
      else
        raise 30 0xFFFF 0 (s1.upTime (fun t => { t with pending := some x, confirmRun := 0 }))

/-- A valid interval with |offset| below 1 ms: slew, rate law, and the run toward LOCKED (R22, R23,
R543). -/
def slewLaw (x : Int) (s : State) : State :=
  let near := decide (x.natAbs ≤ 200)
  let s1 := (accrue s).upTime (fun t => ({ t with
    pending := none, confirmRun := 0
    slewing := !near && t.state != .locked
    lockRun := if near then t.lockRun + 1 else 0 } : TimeU).law x)
  let t := s1.time
  if t.state ≠ .locked ∧ 10 ≤ t.lockRun ∧ (t.state = .holdover ∨ t.ocxoWarm) then
    timeTo .locked (s1.upTime (fun t => { t with
      u0 := basePs s, uAt := s.now.el, timeInUsed := false, invalidRun := 0, lockRun := 0 }))
  else s1

/-- A LOCKED second adds its RATE_PPT to the OCXO ageing monitor, which keeps 30 days of LOCKED (R484). -/
def noteRate (s : State) : State :=
  if s.time.state ≠ .locked then s
  else
    let day := s.now.el / (86400 * qSec)
    let v := ratePpt s.time.r
    s.upMar (fun m => { m with rateDays := match m.rateDays with
      | (d, x, n) :: r => if d = day then (d, x + v, n + 1) :: r else ((day, v, 1) :: m.rateDays).take 30
      | [] => [(day, v, 1)] })

/-- A valid interval with offset `x` (R17): the slew law, or the confirmation of a step. -/
def intervalValid (x : Int) (at_ : Nat) (s : State) : State :=
  let s1 := s.upTime (fun t => { t with
    unknown := false, anyValid := true, offset := x, lastValid := s.now.el, invalidRun := 0
    u0 := if t.state = .locked then basePs s else x.natAbs * 250 + basePs s
    uAt := s.now.el, uHold := t.state == .holdover })
  if x.natAbs < 4000000 then slewLaw x s1
  else if s1.time.state = .locked then s1
  else confirmStep x at_ s1

/-- An invalid interval (R17, R21). -/
def intervalInvalid (s : State) : State :=
  let s1 := s.upTime (fun t => { t.lapse with invalidRun := t.invalidRun + 1, lockRun := 0 })
  if s1.time.state = .locked ∧ 2 ≤ s1.time.invalidRun then loseLock s1 else s1

/-- The solution that the ended interval counts: valid where it has four satellites and the input clock has
not failed (R17). -/
def intervalSol (s : State) : Option Int :=
  match s.time.sol with
  | some v => if decide (4 ≤ v.sats) && !s.time.clockFail then some v.offset else none
  | none => none

/-- DISCIPLINE_INTERVAL_END (R17): the discipline interval ends at a GPS second. A change of state or of
STEP_PENDING, a lapse among them, is reported (R25, R40). -/
def execDisciplineIntervalEnd (s : State) : Host.Outcome State Fault Refusal :=
  if !awake s then .next s
  else
    let s1 := noteRate (reach s.time.intNext s)
    let s2 := s1.upTime (fun t => { t with intNext := s.time.intNext + qSec, sol := none, clockFail := false })
    .next (timeNoted s.time (match intervalSol s1 with
      | some x => intervalValid x s.time.intNext s2
      | none => intervalInvalid s2))

/-- TP_OUT_PULSE (R27, R31, R32, R40): the rising edge at a GPS second. The record of the instant is
that of STEP_INSTANT where a step falls at it. -/
def execTpOutPulse (s : State) : Host.Outcome State Fault Refusal :=
  if !awake s then .next s
  else
    let at_ := s.time.tpNext
    let s1 := reach at_ s
    let s2 := s1.upTime (fun t => { t with
      tpOut := true, tpEnd := s1.now.el + 100 * qMs, timeOk := t.state == .locked, tpNext := at_ + qSec })
    let stepNow := match s2.time.fixedStep with | some x => x.2 == at_ | none => false
    .next (if stepNow then s2 else timeStatus at_ s2)

/-- TP_OUT_PULSE_END (R31): 100 ms of elapsed time after the rising edge. -/
def execTpOutPulseEnd (s : State) : Host.Outcome State Fault Refusal :=
  if s.time.tpOut then
    .next ((reachEl s.time.tpEnd s).upTime (fun t => { t with tpOut := false }))
  else .next s

/-- HOLDOVER_LIMIT (R22): u(t) exceeds HOLDOVER_LIMIT_NS. -/
def execHoldoverLimit (dt : Nat) (s : State) : Host.Outcome State Fault Refusal :=
  let s1 := tick dt s
  let u := uncertPs s1
  if s1.time.state = .holdover ∧ cfg s1 0x0101 0 0x24 4 * 1000 < u then
    .next (timeChanged (timeTo .free (s1.upTime (fun t => { t with
      u0 := min maxPs (t.u0 + growthPs t.uHold (s1.now.el - t.uAt)), uAt := s1.now.el, uHold := false }))))
  else .next s1

/-- OCXO_WARM (R22): the OCXO has been powered for 10 min. -/
def execOcxoWarm (s : State) : Host.Outcome State Fault Refusal :=
  if awake s && !s.time.ocxoWarm then
    .next ((reachEl (s.time.ocxoOnAt + 600 * qSec) s).upTime (fun t => { t with ocxoWarm := true }))
  else .next s

/-- Layout of KD_TIME_STEP_CONFIRM (R41). -/
def scStepConfirm : RecSchema :=
  { lens := [32], flds := [fs 0x20 8 (-(2 ^ 63)) (2 ^ 63 - 1) 0], rel := fun _ => [] }

/-- KD_TIME_STEP_CONFIRM (R24, R41): accepted where a step is pending whose amount lies within 1 µs of
STEP_OFFSET_Q; EFFECTIVE is the next GPS second, the step instant. -/
def execKdTimeStepConfirm (dt : Nat) (p : Post) (s : State) : Host.Outcome State Fault Refusal :=
  .next (command dt 0x0103 1 p scStepConfirm false decideAt (fun u s =>
    match s.time.pending with
    | none => u.refuse 8 0 s
    | some a =>
      if 4000 < (fldS p.body 0x20 8 - a).natAbs then u.refuse 0x13 0 s
      else
        let at_ := nextMul qSec s.now.ft
        let s1 := s.upTime (fun t => { t.lapse with fixedStep := some (a, at_) })
        complete u.kind u.unit p u.acc (accepted 0 at_) (timeChanged s1)) s)

end Sys2Proof.Machine
end

