-- ==== Sys2Proof/Machine/TimeStep.lean ====
section
/-!
DEFINITION. The Field Time step (R26–R30, R541): the counter, and with it every grid, deadline and stamp
that is kept in Field Time. What elapsed time counts stays (R10, R30).
-/
namespace Sys2Proof.Machine

/-- A step: its instant in the old count, its amount and its instant in the new count. -/
structure Step where
  at_ : Nat
  amt : Int
  new : Nat
  deriving DecidableEq, Repr, Inhabited

/-- An instant of the old count in the new one, for comparisons (R29, R167). -/
def stepMove (k : Step) (t : Nat) : Nat := ((t : Int) + k.amt).toNat

/-- The next instant of a grid of period `p` (R28): the first one at least p/2 after the step. -/
def stepGrid (k : Step) (p : Nat) : Nat := if p = 0 then k.new else ceilTo p (k.new + p / 2)

/-- Next report instant of a period in ms. -/
def stepMs (k : Step) (ms : Nat) : Nat := stepGrid k (ms * qMs)

/-- A decision boundary that waits, in the new count (R544). -/
def stepBeat (k : Step) (t : Nat) : Nat := beatAt (stepMove k t)

/-- The first GPS second strictly after the step and at least 0.5 s after it (R27). -/
def stepSecond (k : Step) : Nat :=
  let n := (k.new / qSec + 1) * qSec
  if n - k.new < qSec / 2 then n + qSec else n

/-- Field Time itself (R26, R27, R541): the counts of discipline end. -/
def stepTime (k : Step) (s : State) : State :=
  (s.upNow (fun n => { n with ft := ((n.ft : Int) + k.amt).toNat % 2 ^ 64 })).upTime (fun t => { t with
    epoch := (t.epoch + 1) % 65536, fixedStep := none, lastStep := some (k.new, k.amt), pending := none, confirmRun := 0, lockRun := 0
    invalidRun := 0, tpNext := stepSecond k, intNext := stepSecond k
    lockLog := t.lockLog.map (fun x => (min x.1 k.new, x.2)) })

/-- The open beat batch reaches the lanes before the barrier (R29, R172), and every stamp that the signals
keep moves for comparisons (R167). -/
def stepSignals (k : Step) (s : State) : State :=
  let s1 := closeBatch k.at_ s
  s1.upSig (fun g => { g with
    closed := k.new
    tab := g.tab.map (fun x => { x with hist := x.hist.map (fun v => { v with cmp := v.cmp + k.amt }) }) })

/-- The instants that a loop slot keeps (R167): its sample at the step instant is the next one; where it has
been taken already, the one after it. -/
def stepLoop (k : Step) (l : Loop) : Loop :=
  let per := max 1 (fld (l.law.getD []) 0x22 2) * qBeat
  let taken := decide (l.last = some (k.at_ : Int))
  let next := if taken then boundaryAt (l.law.getD []) (k.new + per / 2) else k.new
  { l with
    next := next
    stepped := if l.law.isNone then 0 else if taken then 1 else 2
    owed := l.owed.map (fun o => { o with at_ := k.new })
    last := l.last.map (· + k.amt)
    prev := l.prev.map (· + k.amt)
    spCmp := l.spCmp.map (· + k.amt)
    orders := l.orders.map (fun o => { o with cmp := o.cmp + k.amt })
    cmds := l.cmds.map (fun c => { c with decided := stepMove k c.decided })
    -- a shut-down to the boundary that the step brings forward ends there (R167, R213)
    shut := match l.shut with | .until t => .until (if t ≤ k.at_ then stepMove k t else next) | x => x
    fb := l.fb.map (fun x => (x.1, x.2 + k.amt))
    shutAt := stepMove k l.shutAt }

/-- The GNSS epochs (R276): only the epoch stamps move; C(t) carries what the step has corrected (R291). -/
def stepGnss (k : Step) (s : State) : State :=
  s.upGnss (fun g => { g with
    corr := g.corr + 512 * k.amt * qSec, next := stepGrid k (qSec / max 1 g.rate), lastAt := stepMove k g.lastAt })

/-- The fusion filter's grids and the outputs that it keeps (R28, R306). The rate window of the external IMU closes
at the step instant (R30); one that is open there only since that second has counted nothing. -/
def stepFusion (k : Step) (s : State) : State :=
  let s1 := if s.fus.windowNext = k.at_ then closeRate k.new (stepGrid k qSec) s else s
  s1.upFus (fun f => { f with
    next := stepGrid k (qSec / max 1 (fld f.main 0x22 2)), checkNext := stepGrid k qTap
    windowNext := stepGrid k qSec, windowFrom := k.new, outs := f.outs.map (fun o => { o with cmp := o.cmp + k.amt })
    stepEl := some s.now.el })

/-- The windows of the field inputs close with STEPPED (R30, R362, R367). -/
def stepField (k : Step) (s : State) : State :=
  let s1 := (List.range 16).foldl (fun s n =>
    closeGate n 0x80 (stepGrid k (max 1 (fld (recBody s 0x0C01 n) 0x26 2) * qMs)) s) s
  let per := fieldGen s1 0x22 2
  if per = 0 then s1 else closeAi 0x80 (stepMs k per) s1

/-- An edge as comparisons see it after the step (R29). -/
def stepEdge (k : Step) (e : Edge) : Edge := { e with cmp := e.cmp + k.amt }

/-- The field unit's grids. -/
def stepFieldGrids (k : Step) (s : State) : State :=
  let per := fieldGen s 0x24 2
  s.upField (fun f => { f with
    aiNext := stepGrid k qBeat, statusNext := stepMs k per, winStart := k.new, diFrom := stepGrid k qUs
    counters := f.counters.map (fun c => { c with
      gateOpen := k.new, first := c.first.map (stepEdge k), last := c.last.map (stepEdge k)
      prev := c.prev.map (stepEdge k), ahead := c.ahead.map (stepEdge k), fresh := c.fresh.map (stepEdge k) }) })

/-- The coalescing windows end (R433). -/
def stepWindows (k : Step) (s : State) : State :=
  s.hub.ev.windows.foldl (fun s w => endWindow w k.at_ k.new 0x08 s) s

/-- One pipeline: the trigger grid with P = 4 000 000 000 / FPS q (R329), and what waits for its triggers. -/
def stepPipe (k : Step) (s : State) (p : Nat) (x : Pipe) : Pipe :=
  let per := qSec / pipeFps s p
  let next := pipeTrig s p (k.new + per / 2)
  let at_ := fun (t : Nat) =>
    if t < x.next then stepMove k t
    else pipeTrig s p (next + (t - x.next + per / 2) / max 1 per * per - per / 2)
  { x with
    next := next, stepped := 1, curC := x.curC + k.amt
    agreed := x.agreed.map (fun a => { a with trig := a.trig + k.amt })
    angle := x.angle.map (fun a => (a.1, a.2 + k.amt))
    exps := x.exps.map (fun e => { e with t1 := at_ e.t1, t2 := at_ e.t2 })
    frame := x.frame.map (fun f => { f with trigC := f.trigC + k.amt })
    shut := x.shut.map (stepBeat k) }

/-- The cameras. -/
def stepCam (k : Step) (s : State) : State :=
  s.upCam (fun c => { c with
    pipes := c.pipes.zipIdx.map (fun x => stepPipe k s x.2 x.1), statusNext := stepGrid k qSec })

/-- The lanes: the beat, the status grid, the overlap window, and the boundaries that are agreed. -/
def stepLanes (k : Step) (s : State) : State :=
  s.upLanes (fun l => { l with
    recto := { l.recto with kC := stepBeat k l.recto.kC }
    verso := { l.verso with kC := stepBeat k l.verso.kC }
    switch := l.switch.map (fun w => { w with kS := w.kS.map (stepBeat k) })
    overlap := l.overlap.map (fun o => (stepMove k o.1, o.2))
    statusNext := stepGrid k (1000 * qBeat), beatNext := stepGrid k qBeat })

/-- The host link and the Ledger: report grids, and the stamps that wait or that a second is counted from. -/
def stepHub (k : Step) (s : State) : State :=
  s.upHub (fun h => { h with
    link := { h.link with
      statusNext := stepGrid k (10 * qSec), countsNext := stepGrid k (10 * qSec)
      stream := h.link.stream.map (fun x => { x with cmp := stepMove k x.cmp })
      dr := h.link.dr.map (fun d => { d with lastDrop := d.lastDrop.map (stepMove k) }) }
    lg := { h.lg with lastDrop := h.lg.lastDrop.map (stepMove k) } })

/-- The Catalogue: the open transaction, the boundaries that wait, and those of past generations. -/
def stepCat (k : Step) (s : State) : State :=
  s.upCat (fun c => { c with
    txn := c.txn.map (fun t => { t with cmp := stepMove k t.cmp })
    sched := c.sched.map (fun x => { x with boundary := stepBeat k x.boundary, cmp := stepMove k x.cmp })
    cats := c.cats.map (fun g => { g with hist := g.hist.map (fun x => (x.1, stepMove k x.2)) }) })

/-- The map engine's grids and the commands that wait for a tap instant (R28, R260). -/
def stepMap (k : Step) (s : State) : State :=
  s.upMap (fun m => { m with
    flushNext := stepGrid k (max 1 (fld m.recd 0x24 2) * qSec)
    summaryNext := stepGrid k (max 1 (fld m.recd 0x28 2) * qSec)
    cmds := m.cmds.map (fun c => { c with due := stepMove k c.due }) })

/-- The report grids of valves, CAN, modem, display and power (R28). -/
def stepGrids (k : Step) (s : State) : State :=
  let bank := recBody s 0x0701 24
  let s1 := s.upValve (fun v => { v with
    statusNext := stepMs k (fld bank 0x36 2), testNext := stepMs k (fld bank 0x34 2)
    plateNext := stepGrid k (100 * qMs) })
  let s2 := s1.upCan (fun c => { c with
    ctl := c.ctl.zipIdx.map (fun x => { x.1 with statusNext := stepMs k (fld (recBody s1 0x0D01 x.2) 0x32 2) })
    objs := c.objs.zipIdx.map (fun x => { x.1 with next := stepMs k (fld (objRec s1 x.2) 0x2E 2) }) })
  let s3 := s2.upModem (fun m => { m with statusNext := stepMs k (fld (modemRec s2) 0x30 2) })
  let s4 := s3.upDisp (fun d => { d with statusNext := stepMs k (fld (dispRec s3) 0x34 2) })
  let per := cfg s4 0x1201 0 0x2C 2
  s4.upPow (fun p => { p with statusNext := stepMs k per })

/-- Everything that a step moves. The records that a step closes carry the instant of the step in the old
count; what follows is laid in the new one. -/
def takeStep (k : Step) (s : State) : State :=
  let s1 := stepSignals k (stepField k s)
  let s2 := s1.upCtl (fun c => { c with loops := c.loops.map (stepLoop k) })
  let s3 := passStep k.amt k.at_ s2
  let s4 := stepCam k (stepFusion k (stepGnss k s3))
  let s5 := stepWindows k s4
  let s6 := stepGrids k (stepMap k (stepCat k (stepHub k (stepLanes k s5))))
  let s7 := stepFieldGrids k (stepTime k s6)
  timeStatus k.at_ (raiseX 29 0xFFFF 0 0 [] k.at_ k.at_ s7)

/-- STEP_INSTANT (R26): Field Time reaches the GPS second of a step whose amount is fixed. -/
def execStepInstant (s : State) : Host.Outcome State Fault Refusal :=
  match s.time.fixedStep with
  | none => .next s
  | some (a, t) =>
    if !awake s then .next s
    else .next (takeStep ⟨t, a, ((t : Int) + a).toNat⟩ (reach t s))

end Sys2Proof.Machine
end

