-- ==== Sys2Proof/Machine/Valve.lean ====
section
/-!
DEFINITION. The commands of the valve output stage (R217–R245).
-/
namespace Sys2Proof.Machine

/-! ## Host commands -/

/-- Layout of KD_VALVE_PROFILE (R241). -/
def scVProfile : RecSchema :=
  ⟨[32], [fu 0x20 1 0 23 0, fu 0x24 2 0 6000 0, fu 0x26 2 500 16000 0 [0], fu 0x28 8 0 (2 ^ 64 - 1) 0],
    fun _ => []⟩

/-- Layout of KD_VALVE_HOLD_TRIM (R241). -/
def scVTrim : RecSchema :=
  ⟨[32], [fu 0x20 1 0 23 0, fu 0x24 2 0 6000 0, fu 0x28 8 0 (2 ^ 64 - 1) 0], fun _ => []⟩

/-- Layout of KD_VALVE_OFF (R241). -/
def scVOff : RecSchema :=
  ⟨[32], [fu 0x20 1 0 23 0, fu 0x21 1 0 2 0, fu 0x22 1 0 1 0, fu 0x28 8 0 (2 ^ 64 - 1) 0], fun _ => []⟩

/-- The offset out of range that depends on the pairing in force or on the stamp (R224, R241). -/
def valveRange (s : State) (kind : Nat) (p : Post) (acc : Nat) : Option Nat :=
  let n := fld p.body 0x20 1
  let ipk := fld p.body 0x26 2
  lowest (
    badIf (decide (kind ≠ 0x0704) && decide (iholdMax s n < fld p.body 0x24 2)) 0x24
    ++ badIf (decide (kind = 0x0702) && decide (ipk ≠ 0)
        && (if isPair s n then decide (ipk < 1000) else decide (8000 < ipk))) 0x26
    ++ badIf (decide (acc + 10 * qSec < fld p.body 0x28 8)) 0x28)

/-- A valve command of the host waits for its requested start (R222). -/
def valveCommand (dt kind : Nat) (sc : RecSchema) (p : Post) (s : State) : State :=
  command dt kind 0x0B p sc true (fun acc => acc) (fun u s =>
    match valveRange s kind p u.cmp with
    | some o =>
      let u := { u with bound := decideAt u.cmp }
      u.refuse 7 o s
    | none => s.upValve (fun v => { v with
        host := v.host ++ [⟨kind, p, u.acc, startAt u.cmp (fld p.body 0x28 8)⟩] })) s

/-- KD_VALVE_PROFILE (R221, R222). -/
def execKdValveProfile (dt : Nat) (p : Post) (s : State) : Host.Outcome State Fault Refusal :=
  .next (valveCommand dt 0x0702 scVProfile p s)

/-- KD_VALVE_HOLD_TRIM (R221, R222). -/
def execKdValveHoldTrim (dt : Nat) (p : Post) (s : State) : Host.Outcome State Fault Refusal :=
  .next (valveCommand dt 0x0703 scVTrim p s)

/-- KD_VALVE_OFF (R222, R235). -/
def execKdValveOff (dt : Nat) (p : Post) (s : State) : Host.Outcome State Fault Refusal :=
  .next (valveCommand dt 0x0704 scVOff p s)

/-- The earliest requested start that waits. -/
def earliestStart : List VHost → Option Nat
  | [] => none
  | h :: r => some (r.foldl (fun a b => min a b.start) h.start)

/-- VALVE_REQUEST_DECIDE (R223): at the earliest requested start that waits, every request that takes
effect there, in ascending channel number, loop values with them. Requests wait while no lane commands (R56). -/
def execValveRequestDecide (s : State) : Host.Outcome State Fault Refusal :=
  match earliestStart s.valve.host with
  | none => .next s
  | some t => .next (if commanding s then decideValves t (reach t s) else s)

/-! ## Phases -/

/-- Where a phase of the boost of channel `n` ends: the samples `w` reach the detector (R232), and I_MA is the mean `ma`
of the latest chop period or 50 µs (R243). -/
def sensed (n ma : Nat) (w : List Sense) (s : State) : State :=
  upVch n (fun c => { c with iMa := sat 16 ma }) (watchDip n w s)

/-- VALVE_RISE_END (R220): the current reaches IPK_MA after `dt`, or RISE ends at BOOST_MAX_US, if that comes first.
`ma` and `w` are what the sense took up to there. An IPK_MA reached within RISE_MIN_US is case 3 (R233). -/
def execValveRiseEnd (n : Fin 24) (dt ma : Nat) (w : List Sense) (m : ValveMeas) (s : State) :
    Host.Outcome State Fault Refusal :=
  let c := vch s n
  if c.phase ≠ .rise then .next s
  else
    let s0 := sensed n ma w s
    if c.ipk ≤ measI s n m ∧ s.now.el + dt ≤ c.endEl then
      let s1 := tick dt s0
      let least := fld (vrec s n) 0x42 2
      if decide (least ≠ 0) && decide (s1.now.el < c.startEl + least * qUs)
          && !(vbank s (n / 4)).undervolt then
        .next (detect n 3 m s1)
      else
        .next (upVch n (fun c => { c.enter .peak s1.now.el with endEl := s1.now.el + c.peakUs * qUs }) s1)
    else
      let s1 := armature n (reachEl c.endEl s0)
      .next (runQueue 4 (n / 4) (upVch n (fun c => { c.enter .hold s1.now.el with
        peakNotReached := true, target := c.ihold }) s1))

/-- VALVE_PEAK_END (R220): PEAK_US have passed, the slot is free and the queue may start. `ma` and `w` are
what the sense took up to there. -/
def execValvePeakEnd (n : Fin 24) (ma : Nat) (w : List Sense) (s : State) : Host.Outcome State Fault Refusal :=
  let c := vch s n
  if c.phase ≠ .peak then .next s
  else
    let s1 := armature n (reachEl c.endEl (sensed n ma w s))
    .next (runQueue 4 (n / 4) (upVch n (fun c => { c.enter .hold s1.now.el with target := c.ihold }) s1))

/-- VALVE_QUENCH_END (R220): the current falls below 20 mA after `dt`, or the limit is reached, if that comes first. -/
def execValveQuenchEnd (n : Fin 24) (dt i : Nat) (s : State) : Host.Outcome State Fault Refusal :=
  let c := vch s n
  if !c.quenching then .next s
  else if i < 20 ∧ s.now.el + dt ≤ c.endEl then .next (quenchOver n false (tick dt s))
  else .next (quenchOver n true (reachEl c.endEl s))

/-- VALVE_BOOST_DEADLINE (R226): a start still in the queue at its deadline is refused with TIMEOUT; the
completion's EFFECTIVE is the next beat boundary. -/
def execValveBoostDeadline (n : Fin 24) (s : State) : Host.Outcome State Fault Refusal :=
  let b := n.val / 4
  match (vch s n).wait with
  | none => .next s
  | some w =>
    if (vbank s b).queue.contains n.val then
      let s1 := reachEl w.deadline s
      let s2 := cancelWait n (refusedWith 0x12 0 (beatAt s1.now.ft)) s1
      .next (runQueue 4 b (raise 92 n 0 s2))
    else .next s

/-- Elapsed instant at which the next mean of the current of a channel ends (R220, R243): a chop period at CHOP_FREQ_HZ
in PEAK and HOLD, else 50 µs, counted from the beginning of the phase (DESIGN CHOICE, log entry 80). -/
def VChan.meanEnd (c : VChan) : Nat :=
  let hz := if c.phase = .peak ∨ c.phase = .hold then fld c.recd 0x26 2 else 20000
  c.phaseEl + (c.means + 1) * qSec / hz

/-- A mean of the current of channel `n` ends: I_MA, and the samples that its detector takes (R232, R243). -/
def takeMean (n : Nat) (w : List Sense) (m : ValveMeas) (s : State) : State :=
  let s0 := watchDip n w (reachEl (vch s n).meanEnd s)
  upVch n (fun c => { c with iMa := sat 16 (measI s n m), means := c.means + 1 }) s0

/-- VALVE_CHOP_PERIOD_END (R221, R233, R243): a chop period or 50 µs end with the mean current in `m`. In HOLD a trimmed
target is taken up; 8 periods in a row below OL_ON_MA are case 1 or 2; the hold-current signal is refreshed
(R170, R231). -/
def execValveChopPeriodEnd (n : Fin 24) (w : List Sense) (m : ValveMeas) (s : State) :
    Host.Outcome State Fault Refusal :=
  let s0 := takeMean n w m s
  let c := vch s0 n
  if c.phase ≠ .hold then .next s0
  else
    let recd := vrec s0 n
    let i := measI s0 n m
    let ol := fld recd 0x3A 2
    let low := decide (i < ol) && decide (2 * ol ≤ c.target)
    let scg := decide ((fld recd 0x3E 2 : Int) ≤ m.excess)
    -- while the bank's tests are suspended the count stays
    let held := (vbank s0 (n / 4)).undervolt
    let run := if held then c.openRun else if low then c.openRun + 1 else 0
    let s1 := upVch n (fun c => { c with target := c.ihold, openRun := if run = 8 then 0 else run }) s0
    let s2 := input (136 + n) s1.now.ft (q130 i 8000) s1
    .next (if run = 8 then detect n (if scg then 2 else 1) m s2 else s2)

/-! ## Diagnostics -/

/-- VALVE_OPEN_ON_CHECK (R233): OL_ON_US after a start the channel is still in RISE: case 1 or 2. -/
def execValveOpenOnCheck (n : Fin 24) (m : ValveMeas) (s : State) : Host.Outcome State Fault Refusal :=
  let c := vch s n
  if !c.openCheck then .next s
  else
    let recd := vrec s n
    let s1 := upVch n (fun c => { c with openCheck := false }) (reachEl (c.startEl + fld recd 0x3C 2 * qUs) s)
    if decide (c.phase = .rise) && decide (measI s n m < fld recd 0x3A 2) && !(vbank s (n / 4)).undervolt then
      .next (detect n (if (fld recd 0x3E 2 : Int) ≤ m.excess then 2 else 1) m s1)
    else .next s1

/-- VALVE_SCB_TRIP (R231, R233): a current above SCB_TRIP_MA trips the comparator in any on-state phase; a pair is one
channel. -/
def execValveScbTrip (n : Fin 24) (dt : Nat) (m : ValveMeas) (s : State) : Host.Outcome State Fault Refusal :=
  let s1 := tick dt s
  let k := vhead s1 n
  let trips := decide (fld (vrec s1 k) 0x40 2 < measI s1 k m)
  .next (if (vch s1 k).on && trips && !(vbank s1 (n / 4)).undervolt then detect k 3 m s1 else s1)

/-- VALVE_BANK_LINE (R234): I_HB above 40 A, or V_HB below V_S − 3.0 V with the high-side closed, for its time. -/
def execValveBankLine (b : Fin 6) (dt : Nat) (m : ValveMeas) (s : State) : Host.Outcome State Fault Refusal :=
  let s1 := tick dt s
  let short := decide (40000 < m.ihb) || (hsClosed s1 b && decide (m.vhb + 3000 < m.vs))
  .next (if short then bankLineFault b m s1 else s1)

/-- VALVE_OFF_TEST (R233): a test starts on every channel in OFF that has started no quench within the
last 5 ms, in banks whose tests are not suspended. -/
def execValveOffTest (s : State) : Host.Outcome State Fault Refusal :=
  let t := s.valve.testNext
  let s1 := reach t s
  .next (s1.upValve (fun v => { v with
    testNext := nextPeriod t (vbankCfg s1 0x34 2), testEl := s1.now.el
    ch := (List.range 24).map (fun n =>
      let c := nth default v.ch n
      let idle := !isOdd s1 n && decide (c.phase = .off) && decide (c.quenchAt + 5 * qMs ≤ s1.now.el ∨ c.quenchAt = 0)
        && !(nth default v.banks (n / 4)).undervolt
      { c with testing := idle }) }))

/-- The case of an off-state measurement (R233): none for a healthy channel. -/
def offCase (hs : Bool) (scg vd : Nat) (excess : Int) : Option Nat :=
  if hs then
    if vd < 2000 then (if excess < (scg : Int) then some 4 else some 5) else none
  else if 6000 < vd then some 6
  else if 3000 < vd then some 4
  else if vd < 500 then some 5
  else none

/-- VALVE_OFF_TEST_COMPLETE (R233): 150 µs of settling and 50 µs of averaging after the start of the test. -/
def execValveOffTestComplete (n : Fin 24) (m : ValveMeas) (s : State) : Host.Outcome State Fault Refusal :=
  if !(vch s n).testing then .next s
  else
    let s1 := upVch n (fun c => { c with testing := false }) (reachEl (s.valve.testEl + 200 * qUs) s)
    match offCase (hsClosed s1 (n / 4)) (fld (vrec s1 n) 0x3E 2) (measVd n m) m.excess with
    | some k => .next (detect n k m s1)
    | none => .next s1

/-- VALVE_BANK_UNDERVOLT (R233): V_S in mV; below 7.0 V every test of the bank is suspended, one that runs too. -/
def execValveBankUndervolt (b : Fin 6) (dt vs : Nat) (s : State) : Host.Outcome State Fault Refusal :=
  let low := decide (vs < 7000)
  let s1 := upVbank b (fun x => { x with undervolt := low }) (tick dt s)
  let s2 := if low then (bankChans b).foldl (fun s n => upVch n (fun c => { c with testing := false }) s) s1 else s1
  .next (s2.upPow (fun p => { p with vsMv := p.vsMv.set b (sat 16 vs) }))

/-! ## Periodic work -/

/-- VALVE_STATUS_PERIOD (R243): with STATUS_PERIOD_MS 0 no period is delivered. -/
def execValveStatusPeriod (s : State) : Host.Outcome State Fault Refusal :=
  let per := vbankCfg s 0x36 2
  if per = 0 then .next s
  else
    let t := s.valve.statusNext
    let s1 := (reach t s).upValve (fun v => { v with statusNext := nextPeriod t per })
    .next (valveStatus s1)

/-- PLATE_TEMPERATURE (R239): the plate is measured every 100 ms; the display takes its band from it
(R420). -/
def execPlateTemperature (c : Int) (s : State) : Host.Outcome State Fault Refusal :=
  let s1 := reach s.valve.plateNext s
  let b := recBody s1 0x0701 24
  let edges := [fldS b 0x30 1, fldS b 0x31 1, fldS b 0x32 1]
  let s2 := s1.upValve (fun v => { v with
    plateC := c, band := bandOf edges v.band c, plateNext := nextMul (100 * qMs) v.plateNext })
  .next (displayTemp c (s2.upPow (fun p => { p with plateC := clampI (-128) 127 c })))

end Sys2Proof.Machine
end

