-- ==== Sys2Proof/Machine/Dispatch.lean ====
section
/-! DEFINITION. One arm for each command: a direct call of its meaning. -/
namespace Sys2Proof.Machine

/-- The effect of a command on everything but the queue. -/
def exec (i : Instr) (s : State) : Host.Outcome State Fault Refusal :=
  match i with
  | .timeInEdge dt rising => Sys2Proof.Machine.execTimeInEdge dt rising s
  | .disciplineIntervalEnd => Sys2Proof.Machine.execDisciplineIntervalEnd s
  | .stepInstant => Sys2Proof.Machine.execStepInstant s
  | .tpOutPulse => Sys2Proof.Machine.execTpOutPulse s
  | .tpOutPulseEnd => Sys2Proof.Machine.execTpOutPulseEnd s
  | .holdoverLimit dt => Sys2Proof.Machine.execHoldoverLimit dt s
  | .ocxoWarm => Sys2Proof.Machine.execOcxoWarm s
  | .kdTimeStepConfirm dt p => Sys2Proof.Machine.execKdTimeStepConfirm dt p s
  | .heartbeat dt lane h => Sys2Proof.Machine.execHeartbeat dt lane h s
  | .heartbeatTimeout dt lane => Sys2Proof.Machine.execHeartbeatTimeout dt lane s
  | .signature dt lane k sig crcOk => Sys2Proof.Machine.execSignature dt lane k sig crcOk s
  | .selfcheckVerdict dt lane pass => Sys2Proof.Machine.execSelfcheckVerdict dt lane pass s
  | .selfcheckTimeout => Sys2Proof.Machine.execSelfcheckTimeout s
  | .curatorWatchdog dt => Sys2Proof.Machine.execCuratorWatchdog dt s
  | .curatorStatus dt lane => Sys2Proof.Machine.execCuratorStatus dt lane s
  | .curatorLinkTimeout lane => Sys2Proof.Machine.execCuratorLinkTimeout lane s
  | .preferredLaneTimeout => Sys2Proof.Machine.execPreferredLaneTimeout s
  | .laneStartTimeout lane => Sys2Proof.Machine.execLaneStartTimeout lane s
  | .takeoverAck dt lane => Sys2Proof.Machine.execTakeoverAck dt lane s
  | .switchBeat => Sys2Proof.Machine.execSwitchBeat s
  | .overlapWindowEnd => Sys2Proof.Machine.execOverlapWindowEnd s
  | .outputPathCheck dt path => Sys2Proof.Machine.execOutputPathCheck dt path s
  | .kdLaneSwap dt p => Sys2Proof.Machine.execKdLaneSwap dt p s
  | .autoSwap => Sys2Proof.Machine.execAutoSwap s
  | .kdLanePromote dt p => Sys2Proof.Machine.execKdLanePromote dt p s
  | .checkpointRequest dt lane ahead => Sys2Proof.Machine.execCheckpointRequest dt lane ahead s
  | .checkpointCapture lane => Sys2Proof.Machine.execCheckpointCapture lane s
  | .checkpointReceived dt lane => Sys2Proof.Machine.execCheckpointReceived dt lane s
  | .checkpointLoaded dt lane => Sys2Proof.Machine.execCheckpointLoaded dt lane s
  | .replayJoinsLive dt lane => Sys2Proof.Machine.execReplayJoinsLive dt lane s
  | .journalFull dt lane => Sys2Proof.Machine.execJournalFull dt lane s
  | .rebuildTimeout lane => Sys2Proof.Machine.execRebuildTimeout lane s
  | .standbyReady lane => Sys2Proof.Machine.execStandbyReady lane s
  | .laneStatusPeriod => Sys2Proof.Machine.execLaneStatusPeriod s
  | .railFault dt rail code owner => Sys2Proof.Machine.execRailFault dt rail code owner s
  | .linkLoss dt => Sys2Proof.Machine.execLinkLoss dt s
  | .hotReset dt => Sys2Proof.Machine.execHotReset dt s
  | .functionLevelReset dt => Sys2Proof.Machine.execFunctionLevelReset dt s
  | .d3hot dt => Sys2Proof.Machine.execD3hot dt s
  | .linkRateChange dt speed width l1 => Sys2Proof.Machine.execLinkRateChange dt speed width l1 s
  | .doorbellPoll dt => Sys2Proof.Machine.execDoorbellPoll dt s
  | .doorbellReadComplete dt r => Sys2Proof.Machine.execDoorbellReadComplete dt r s
  | .doorbellReadFail dt cause => Sys2Proof.Machine.execDoorbellReadFail dt cause s
  | .ringReadComplete dt n entries => Sys2Proof.Machine.execRingReadComplete dt n entries s
  | .dmaError dt n cause => Sys2Proof.Machine.execDmaError dt n cause s
  | .dozeTimeout => Sys2Proof.Machine.execDozeTimeout s
  | .dozeCheckRead dt words => Sys2Proof.Machine.execDozeCheckRead dt words s
  | .wake dt value => Sys2Proof.Machine.execWake dt value s
  | .ringGo dt value => Sys2Proof.Machine.execRingGo dt value s
  | .ringSetup dt table => Sys2Proof.Machine.execRingSetup dt table s
  | .dbPoll dt value => Sys2Proof.Machine.execDbPoll dt value s
  | .lgCursor dt value => Sys2Proof.Machine.execLgCursor dt value s
  | .ftSnap dt => Sys2Proof.Machine.execFtSnap dt s
  | .registerWrite dt off size value => Sys2Proof.Machine.execRegisterWrite dt off size value s
  | .msixUnmask dt v => Sys2Proof.Machine.execMsixUnmask dt v s
  | .recordDelivery dt n => Sys2Proof.Machine.execRecordDelivery dt n s
  | .coalTime n => Sys2Proof.Machine.execCoalTime n s
  | .kdRingReset dt p e => Sys2Proof.Machine.execKdRingReset dt p e s
  | .linkStatusPeriod => Sys2Proof.Machine.execLinkStatusPeriod s
  | .bufptrSupply dt p => Sys2Proof.Machine.execBufptrSupply dt p s
  | .bufptrSegmentStray dt p => Sys2Proof.Machine.execBufptrSegmentStray dt p s
  | .unknownKind dt kind p => Sys2Proof.Machine.execUnknownKind dt kind p s
  | .deliveryKindPosted dt kind p => Sys2Proof.Machine.execDeliveryKindPosted dt kind p s
  | .classCountsPeriod => Sys2Proof.Machine.execClassCountsPeriod s
  | .kdCatOpen dt p => Sys2Proof.Machine.execKdCatOpen dt p s
  | .kdCatCommit dt p => Sys2Proof.Machine.execKdCatCommit dt p s
  | .kdCatAbort dt p => Sys2Proof.Machine.execKdCatAbort dt p s
  | .kdCatRead dt p => Sys2Proof.Machine.execKdCatRead dt p s
  | .catTransactionTimeout => Sys2Proof.Machine.execCatTransactionTimeout s
  | .commitBoundary => Sys2Proof.Machine.execCommitBoundary s
  | .kdTimeSettings dt p => Sys2Proof.Machine.execKdTimeSettings dt p s
  | .kdLaneSettings dt p => Sys2Proof.Machine.execKdLaneSettings dt p s
  | .kdPassageSettings dt p => Sys2Proof.Machine.execKdPassageSettings dt p s
  | .kdCropSettings dt p => Sys2Proof.Machine.execKdCropSettings dt p s
  | .kdLoopSettings dt p => Sys2Proof.Machine.execKdLoopSettings dt p s
  | .kdGroupSettings dt p => Sys2Proof.Machine.execKdGroupSettings dt p s
  | .kdValveSettings dt p => Sys2Proof.Machine.execKdValveSettings dt p s
  | .kdMapSettings dt p => Sys2Proof.Machine.execKdMapSettings dt p s
  | .kdGnssSettings dt p => Sys2Proof.Machine.execKdGnssSettings dt p s
  | .kdFusionSettings dt p => Sys2Proof.Machine.execKdFusionSettings dt p s
  | .kdCameraSettings dt p => Sys2Proof.Machine.execKdCameraSettings dt p s
  | .kdFieldSettings dt p => Sys2Proof.Machine.execKdFieldSettings dt p s
  | .kdCanSettings dt p => Sys2Proof.Machine.execKdCanSettings dt p s
  | .kdCanObjectSettings dt p => Sys2Proof.Machine.execKdCanObjectSettings dt p s
  | .kdModemSettings dt p => Sys2Proof.Machine.execKdModemSettings dt p s
  | .kdDisplaySettings dt p => Sys2Proof.Machine.execKdDisplaySettings dt p s
  | .kdEventSettings dt p => Sys2Proof.Machine.execKdEventSettings dt p s
  | .kdCalUser dt p => Sys2Proof.Machine.execKdCalUser dt p s
  | .kdPowerSettings dt p => Sys2Proof.Machine.execKdPowerSettings dt p s
  | .tapInstant bad => Sys2Proof.Machine.execTapInstant bad s
  | .orphanTimeout => Sys2Proof.Machine.execOrphanTimeout s
  | .estWindowEnd n => Sys2Proof.Machine.execEstWindowEnd n s
  | .kdCropChange dt p => Sys2Proof.Machine.execKdCropChange dt p s
  | .passageStatusPeriod => Sys2Proof.Machine.execPassageStatusPeriod s
  | .beatBatchClose => Sys2Proof.Machine.execBeatBatchClose s
  | .loopSample n => Sys2Proof.Machine.execLoopSample n s
  | .actionHoldExpiry n => Sys2Proof.Machine.execActionHoldExpiry n s
  | .kdSetpoint dt p => Sys2Proof.Machine.execKdSetpoint dt p s
  | .loopDisable dt p => Sys2Proof.Machine.execLoopDisable dt p s
  | .loopEnable dt p => Sys2Proof.Machine.execLoopEnable dt p s
  | .loopClearSticky dt p => Sys2Proof.Machine.execLoopClearSticky dt p s
  | .kdValveProfile dt p => Sys2Proof.Machine.execKdValveProfile dt p s
  | .kdValveHoldTrim dt p => Sys2Proof.Machine.execKdValveHoldTrim dt p s
  | .kdValveOff dt p => Sys2Proof.Machine.execKdValveOff dt p s
  | .valveRequestDecide => Sys2Proof.Machine.execValveRequestDecide s
  | .valveRiseEnd n dt ma w m => Sys2Proof.Machine.execValveRiseEnd n dt ma w m s
  | .valvePeakEnd n ma w => Sys2Proof.Machine.execValvePeakEnd n ma w s
  | .valveQuenchEnd n dt ma => Sys2Proof.Machine.execValveQuenchEnd n dt ma s
  | .valveBoostDeadline n => Sys2Proof.Machine.execValveBoostDeadline n s
  | .valveOpenOnCheck n m => Sys2Proof.Machine.execValveOpenOnCheck n m s
  | .valveScbTrip n dt m => Sys2Proof.Machine.execValveScbTrip n dt m s
  | .valveBankLine b dt m => Sys2Proof.Machine.execValveBankLine b dt m s
  | .valveOffTest => Sys2Proof.Machine.execValveOffTest s
  | .valveOffTestComplete n m => Sys2Proof.Machine.execValveOffTestComplete n m s
  | .valveStatusPeriod => Sys2Proof.Machine.execValveStatusPeriod s
  | .plateTemperature c => Sys2Proof.Machine.execPlateTemperature c s
  | .outInhibitAssert dt => Sys2Proof.Machine.execOutInhibitAssert dt s
  | .outInhibitRelease dt => Sys2Proof.Machine.execOutInhibitRelease dt s
  | .fieldOpen dt p => Sys2Proof.Machine.execFieldOpen dt p s
  | .fieldClose dt p => Sys2Proof.Machine.execFieldClose dt p s
  | .fieldDiscard dt p => Sys2Proof.Machine.execFieldDiscard dt p s
  | .fieldNew dt p => Sys2Proof.Machine.execFieldNew dt p s
  | .fieldCloseFlushed dt => Sys2Proof.Machine.execFieldCloseFlushed dt s
  | .mapFlushPeriod => Sys2Proof.Machine.execMapFlushPeriod s
  | .mapSummaryPeriod => Sys2Proof.Machine.execMapSummaryPeriod s
  | .tileRequestTile dt p => Sys2Proof.Machine.execTileRequestTile dt p s
  | .tileRequestSummary dt p => Sys2Proof.Machine.execTileRequestSummary dt p s
  | .tileRequestAll dt p => Sys2Proof.Machine.execTileRequestAll dt p s
  | .gnssEpoch x => Sys2Proof.Machine.execGnssEpoch x s
  | .suspectHoldExpiry bank sv => Sys2Proof.Machine.execSuspectHoldExpiry bank sv s
  | .dualPeakFound c dt sv ns cn0 => Sys2Proof.Machine.execDualPeakFound c dt sv ns cn0 s
  | .navMessage c dt accAgo effAgo d29 d30 data => Sys2Proof.Machine.execNavMessage c dt accAgo effAgo d29 d30 data s
  | .antennaOk dt ma => Sys2Proof.Machine.execAntennaOk dt ma s
  | .antennaOpen dt => Sys2Proof.Machine.execAntennaOpen dt s
  | .antennaOvercurrent dt => Sys2Proof.Machine.execAntennaOvercurrent dt s
  | .antennaRetry => Sys2Proof.Machine.execAntennaRetry s
  | .kdRtcmIn dt p => Sys2Proof.Machine.execKdRtcmIn dt p s
  | .baseEpochTimeout host => Sys2Proof.Machine.execBaseEpochTimeout host s
  | .corrSourceBackup => Sys2Proof.Machine.execCorrSourceBackup s
  | .fusionOutput x => Sys2Proof.Machine.execFusionOutput x s
  | .fusionCheckEpoch => Sys2Proof.Machine.execFusionCheckEpoch s
  | .sourceAbsent src => Sys2Proof.Machine.execSourceAbsent src s
  | .deadReckoningTimeout => Sys2Proof.Machine.execDeadReckoningTimeout s
  | .edgeHoldExpiry => Sys2Proof.Machine.execEdgeHoldExpiry s
  | .kdHostFix dt p => Sys2Proof.Machine.execKdHostFix dt p s
  | .imu0DataReady dt x => Sys2Proof.Machine.execImu0DataReady dt x s
  | .imuDrdy dt rising => Sys2Proof.Machine.execImuDrdy dt rising s
  | .imuTransferEnd dt frame => Sys2Proof.Machine.execImuTransferEnd dt frame s
  | .imu1RateWindow => Sys2Proof.Machine.execImu1RateWindow s
  | .camTrigger p => Sys2Proof.Machine.execCamTrigger p s
  | .camTriggerEnd p => Sys2Proof.Machine.execCamTriggerEnd p s
  | .frameStart port dt vc eccFix => Sys2Proof.Machine.execFrameStart port dt vc eccFix s
  | .csi2Packet port dt vc type pay crcOk ecc => Sys2Proof.Machine.execCsi2Packet port dt vc type pay crcOk ecc s
  | .frameEnd port dt vc eccFix => Sys2Proof.Machine.execFrameEnd port dt vc eccFix s
  | .frameEndTimeout p => Sys2Proof.Machine.execFrameEndTimeout p s
  | .camLinkLock port dt => Sys2Proof.Machine.execCamLinkLock port dt s
  | .camLinkLoss port dt => Sys2Proof.Machine.execCamLinkLoss port dt s
  | .camLinkRetry port => Sys2Proof.Machine.execCamLinkRetry port s
  | .uplinkReply p dt ack => Sys2Proof.Machine.execUplinkReply p dt ack s
  | .uplinkTimeout p => Sys2Proof.Machine.execUplinkTimeout p s
  | .pocOk port dt => Sys2Proof.Machine.execPocOk port dt s
  | .pocOpen port dt => Sys2Proof.Machine.execPocOpen port dt s
  | .pocOvercurrent port dt => Sys2Proof.Machine.execPocOvercurrent port dt s
  | .pocRetry port => Sys2Proof.Machine.execPocRetry port s
  | .kdExposure dt p => Sys2Proof.Machine.execKdExposure dt p s
  | .exposureWrites p => Sys2Proof.Machine.execExposureWrites p s
  | .pipeDisable dt p => Sys2Proof.Machine.execPipeDisable dt p s
  | .pipeEnable dt p => Sys2Proof.Machine.execPipeEnable dt p s
  | .pipeDeliverFull dt p => Sys2Proof.Machine.execPipeDeliverFull dt p s
  | .pipeInitRetry p => Sys2Proof.Machine.execPipeInitRetry p s
  | .camPortStatus meas => Sys2Proof.Machine.execCamPortStatus meas s
  | .diChange n dt level => Sys2Proof.Machine.execDiChange n dt level s
  | .counterEdge n dt rising widthNs => Sys2Proof.Machine.execCounterEdge n dt rising widthNs s
  | .gateClose n => Sys2Proof.Machine.execGateClose n s
  | .aiSample xs => Sys2Proof.Machine.execAiSample xs s
  | .aiShuntOpen n dt => Sys2Proof.Machine.execAiShuntOpen n dt s
  | .aiShuntReclose n => Sys2Proof.Machine.execAiShuntReclose n s
  | .aiReport => Sys2Proof.Machine.execAiReport s
  | .dqSet dt p => Sys2Proof.Machine.execDqSet dt p s
  | .dqClearOnly dt p => Sys2Proof.Machine.execDqClearOnly dt p s
  | .dqDutyEffect n => Sys2Proof.Machine.execDqDutyEffect n s
  | .dqOverload n dt => Sys2Proof.Machine.execDqOverload n dt s
  | .dqOpenLoad n dt => Sys2Proof.Machine.execDqOpenLoad n dt s
  | .dqSupplyShort n dt => Sys2Proof.Machine.execDqSupplyShort n dt s
  | .sensorSupplyFault lane dt => Sys2Proof.Machine.execSensorSupplyFault lane dt s
  | .sensorSupplyRetry lane ok => Sys2Proof.Machine.execSensorSupplyRetry lane ok s
  | .vdqLowSet dt mv => Sys2Proof.Machine.execVdqLowSet dt mv s
  | .vdqLowClear dt mv => Sys2Proof.Machine.execVdqLowClear dt mv s
  | .fieldStatusPeriod vdq v5 v10 i5 i10 => Sys2Proof.Machine.execFieldStatusPeriod vdq v5 v10 i5 i10 s
  | .canFrameReceived c dt ago f own => Sys2Proof.Machine.execCanFrameReceived c dt ago f own s
  | .canTxSuccess c dt ago tdc => Sys2Proof.Machine.execCanTxSuccess c dt ago tdc s
  | .canTxError c dt e exempt => Sys2Proof.Machine.execCanTxError c dt e exempt s
  | .canBusoffDelay c => Sys2Proof.Machine.execCanBusoffDelay c s
  | .canRecovered c dt => Sys2Proof.Machine.execCanRecovered c dt s
  | .canIntegrated c dt => Sys2Proof.Machine.execCanIntegrated c dt s
  | .canShutdownEnd c dt => Sys2Proof.Machine.execCanShutdownEnd c dt s
  | .canTxFrame dt p => Sys2Proof.Machine.execCanTxFrame dt p s
  | .canObjectWrite dt p => Sys2Proof.Machine.execCanObjectWrite dt p s
  | .canSetpointPeriod o => Sys2Proof.Machine.execCanSetpointPeriod o s
  | .canTxLifetime c => Sys2Proof.Machine.execCanTxLifetime c s
  | .canStatusPeriod c => Sys2Proof.Machine.execCanStatusPeriod c s
  | .canWakePattern dt c => Sys2Proof.Machine.execCanWakePattern dt c s
  | .modemCharacter dt ago b stopLow => Sys2Proof.Machine.execModemCharacter dt ago b stopLow s
  | .modemBreak dt => Sys2Proof.Machine.execModemBreak dt s
  | .modemReaderPass dt => Sys2Proof.Machine.execModemReaderPass dt s
  | .modemCreditReturn dt => Sys2Proof.Machine.execModemCreditReturn dt s
  | .kdModemTx dt p => Sys2Proof.Machine.execKdModemTx dt p s
  | .mdmReadyChange dt high => Sys2Proof.Machine.execMdmReadyChange dt high s
  | .modemCharacterSent dt => Sys2Proof.Machine.execModemCharacterSent dt s
  | .modemTxStall => Sys2Proof.Machine.execModemTxStall s
  | .modemTxLifetime => Sys2Proof.Machine.execModemTxLifetime s
  | .modemRing dt => Sys2Proof.Machine.execModemRing dt s
  | .modemStatusPeriod ring => Sys2Proof.Machine.execModemStatusPeriod ring s
  | .displayFrame => Sys2Proof.Machine.execDisplayFrame s
  | .displayLcdEn1 => Sys2Proof.Machine.execDisplayLcdEn1 s
  | .displayRailsDone => Sys2Proof.Machine.execDisplayRailsDone s
  | .displayShutdownEn0 => Sys2Proof.Machine.execDisplayShutdownEn0 s
  | .displayShutdownEnd => Sys2Proof.Machine.execDisplayShutdownEnd s
  | .kdSegmentMap dt p => Sys2Proof.Machine.execKdSegmentMap dt p s
  | .displayHostTimeout => Sys2Proof.Machine.execDisplayHostTimeout s
  | .displayStatusPeriod => Sys2Proof.Machine.execDisplayStatusPeriod s
  | .coalesceWindowEnd src inst => Sys2Proof.Machine.execCoalesceWindowEnd src inst s
  | .ledgerWriteComplete dt => Sys2Proof.Machine.execLedgerWriteComplete dt s
  | .kdLedgerCopy dt p => Sys2Proof.Machine.execKdLedgerCopy dt p s
  | .ledgerCopyDone dt => Sys2Proof.Machine.execLedgerCopyDone dt s
  | .kdLedgerClear dt p => Sys2Proof.Machine.execKdLedgerClear dt p s
  | .ledgerClearDone dt => Sys2Proof.Machine.execLedgerClearDone dt s
  | .imageStore dt p segs => Sys2Proof.Machine.execImageStore dt p segs s
  | .imageBodyWritten dt sha => Sys2Proof.Machine.execImageBodyWritten dt sha s
  | .imageRestart dt p => Sys2Proof.Machine.execImageRestart dt p s
  | .imageSelect dt p => Sys2Proof.Machine.execImageSelect dt p s
  | .imageConfirmLane lane => Sys2Proof.Machine.execImageConfirmLane lane s
  | .imageConfirmTimer fe => Sys2Proof.Machine.execImageConfirmTimer fe s
  | .curatorStartFallback dt fe => Sys2Proof.Machine.execCuratorStartFallback dt fe s
  | .kdRestoreFactory dt p => Sys2Proof.Machine.execKdRestoreFactory dt p s
  | .restoreBoundary => Sys2Proof.Machine.execRestoreBoundary s
  | .vbatConnect dt mv ign => Sys2Proof.Machine.execVbatConnect dt mv ign s
  | .vbatLost dt => Sys2Proof.Machine.execVbatLost dt s
  | .supplyCrank dt mv us => Sys2Proof.Machine.execSupplyCrank dt mv us s
  | .supplyUndervolt dt mv us => Sys2Proof.Machine.execSupplyUndervolt dt mv us s
  | .supplyOvervolt dt mv us => Sys2Proof.Machine.execSupplyOvervolt dt mv us s
  | .supplyFall dt mv us => Sys2Proof.Machine.execSupplyFall dt mv us s
  | .supplyReturn dt mv m => Sys2Proof.Machine.execSupplyReturn dt mv m s
  | .holdupReturnDeadline standstill => Sys2Proof.Machine.execHoldupReturnDeadline standstill s
  | .holdupComplete dt mv => Sys2Proof.Machine.execHoldupComplete dt mv s
  | .ignHigh dt => Sys2Proof.Machine.execIgnHigh dt s
  | .ignLow dt => Sys2Proof.Machine.execIgnLow dt s
  | .keyoffFlushDone dt => Sys2Proof.Machine.execKeyoffFlushDone dt s
  | .keyoffSaveDone dt uf esr standstill => Sys2Proof.Machine.execKeyoffSaveDone dt uf esr standstill s
  | .keyoffComplete dt mv m => Sys2Proof.Machine.execKeyoffComplete dt mv m s
  | .keepMinExpiry => Sys2Proof.Machine.execKeepMinExpiry s
  | .keepVbatLow dt => Sys2Proof.Machine.execKeepVbatLow dt s
  | .hostWake dt => Sys2Proof.Machine.execHostWake dt s
  | .wakeTimer => Sys2Proof.Machine.execWakeTimer s
  | .wakeServeExpiry => Sys2Proof.Machine.execWakeServeExpiry s
  | .holdupBankCharged dt m => Sys2Proof.Machine.execHoldupBankCharged dt m s
  | .pciePerst dt asserted => Sys2Proof.Machine.execPciePerst dt asserted s
  | .powerStatusPeriod mv vs plateC mw => Sys2Proof.Machine.execPowerStatusPeriod mv vs plateC mw s
  | .marginPlan p => Sys2Proof.Machine.execMarginPlan p s
  | .marginStepApply => Sys2Proof.Machine.execMarginStepApply s
  | .flashRefreshDue => Sys2Proof.Machine.execFlashRefreshDue s
  | .beat => Sys2Proof.Machine.execBeat s
  | .linkUp dt speed width l1 => Sys2Proof.Machine.execLinkUp dt speed width l1 s
  | .laneImageLoaded dt lane ok => Sys2Proof.Machine.execLaneImageLoaded dt lane ok s
  | .canRxError c dt e eight => Sys2Proof.Machine.execCanRxError c dt e eight s
  | .channelLock c dt sv code carrier slip => Sys2Proof.Machine.execChannelLock c dt sv code carrier slip s
  | .valveChopPeriodEnd n w m => Sys2Proof.Machine.execValveChopPeriodEnd n w m s
  | .valveBankUndervolt b dt vs => Sys2Proof.Machine.execValveBankUndervolt b dt vs s
  | .railReturn dt rail owner => Sys2Proof.Machine.execRailReturn dt rail owner s

end Sys2Proof.Machine
end

