-- ==== Sys2Proof/Machine/Registers.lean ====
section
/-!
DEFINITION. What the host reads: the configuration words of the endpoint (R67) and every register of BAR0 (R8, R9,
R444, R507–R521). A read changes nothing but the capture of FT_SNAP, which FT_SNAP makes before it reads (R519).
-/
namespace Sys2Proof.Machine

/-- Vendor and device identity (R67, R510): the ID register, and offset 0x00 of the configuration space. -/
def idWord : Nat := 0x96401F9A

/-- A 32-bit word of the configuration space that R67 gives a value: vendor and device, class code, subsystem. -/
def configRead (off : Nat) : Option Nat :=
  match off with
  | 0x00 => some idWord
  | 0x08 => some (0x118000 * 256)
  | 0x2C => some idWord
  | _ => none

/-- The low or the high 32 bits of a 64-bit register. -/
def half (high : Bool) (v : Nat) : Nat := if high then v / 2 ^ 32 % 2 ^ 32 else v % 2 ^ 32

/-- A version register (R517). -/
def verWord (major minor patch : Nat) : Nat := major % 256 * 2 ^ 24 + minor % 256 * 2 ^ 16 + patch % 65536

/-- The version register of a lane: the version that it runs or last ran, 0 before its first start (R517). -/
def Lane.verWord (l : Lane) : Nat := Sys2Proof.Machine.verWord l.ver.major l.ver.minor l.ver.patch

/-- The version register of the unit that runs from image slot `n` (R452, R517). -/
def slotVerWord (s : State) (n : Nat) : Nat :=
  let h := (slotAt s n).hdr
  verWord h.major h.minor h.patch

/-- RING_STATUS (R515). -/
def ringStatusWord (l : Link) : Nat :=
  l.badReason % 256 * 2 ^ 16 + l.badEntry % 256 * 2 ^ 8
    + flags [(3, l.goPending), (2, l.tableBad), (1, l.running), (0, l.dozing)]

/-- CURATOR_RUNNING (R516): a status message has been received within 3 ms. -/
def curatorRunning (s : State) : Bool :=
  !s.lanes.silent && decide (s.now.el ≤ max s.lanes.recto.statusAt s.lanes.verso.statusAt + 3 * qMs)

/-- LANE_STATE (R516): while the Curator is in reset or silent every field but CURATOR_RUNNING holds its last value. -/
def laneStateWord (s : State) : Nat :=
  (if s.lanes.silent then s.lanes.shown else laneView s.lanes) + (if curatorRunning s then 2 ^ 16 else 0)

/-- CAT_GEN (R517): the generation in force in the commanding lane. -/
def catGenWord (s : State) : Nat := if commanding s then (curCat s).gen % 2 ^ 32 else 0xFFFFFFFF

/-- LG_STATUS (R444). -/
def lgStatusWord (g : Ledger) : Nat :=
  (if clearing g then 2 ^ 31 else 0) + (if g.founding = 1024 then 2 ^ 30 else 0) + g.founding % 2048 * 2 ^ 16
    + g.headSlot % 65536

/-- A word of the MSI-X table: address, upper address, data and vector control of an entry (R521). -/
def MsixVec.word (v : MsixVec) (k : Nat) : Nat :=
  match k with
  | 0 => v.addrLo | 1 => v.addrHi | 2 => v.data | _ => flags [(0, v.masked)]

/-- A word of the pending bit array (R521). -/
def pbaWord (l : Link) (k : Nat) : Nat :=
  flags ((List.range 32).map (fun i => (i, (nth default l.msix (32 * k + i)).pending)))

/-- The 32-bit word that an aligned read of 4 bytes returns at an offset of BAR0 (R507, R508): a field that is ro or rw
at its present value, one that is wo as 0 (R9), and 0 for whatever is reserved (R8). -/
def barRead (off : Nat) (s : State) : Nat :=
  if 0x1000 ≤ off ∧ off < 0x1400 then
    (nth default s.hub.link.msix ((off - 0x1000) / 16)).word (off % 16 / 4)
  else if 0x340 ≤ off ∧ off < 0x380 then leNat (((s.hub.lg.slotBytes s.hub.lg.cursor).drop (off - 0x340)).take 4)
  else
    match off with
    | 0x000 => idWord
    | 0x004 => Config.stepping.toNat * 256 + Config.build.toNat
    | 0x008 => half false Config.serial.toNat
    | 0x00C => half true Config.serial.toNat
    | 0x010 => 1
    | 0x100 => s.bar.rtLo | 0x104 => s.bar.rtHi
    | 0x108 => s.bar.dbLo | 0x10C => s.bar.dbHi
    | 0x110 => s.bar.retLo | 0x114 => s.bar.retHi
    | 0x118 => s.bar.dbPollUs
    | 0x11C => 0
    | 0x120 => 0
    | 0x124 => ringStatusWord s.hub.link
    | 0x200 => laneStateWord s
    | 0x204 => s.lanes.recto.verWord
    | 0x208 => s.lanes.verso.verWord
    | 0x20C => s.lanes.verso.ver.format % 65536 * 65536 + s.lanes.recto.ver.format % 65536
    | 0x210 => slotVerWord s s.img.curSlot
    | 0x214 => slotVerWord s s.img.feSlot
    | 0x218 => catGenWord s
    | 0x21C => s.pow.wakeSource % 256 * 256 + s.pow.sub.code
    | 0x220 => s.time.epoch % 65536 * 65536 + flags [(2, s.time.timeOk)] + s.time.state.code
    | 0x228 => half false s.time.snap
    | 0x22C => half true s.time.snap
    | 0x300 => s.hub.lg.cursor
    | 0x304 => lgStatusWord s.hub.lg
    | 0x308 => s.hub.lg.headSeq
    | 0x310 => nth 0 s.hub.lg.drops 0
    | 0x314 => nth 0 s.hub.lg.drops 1
    | 0x318 => nth 0 s.hub.lg.drops 2
    | 0x31C => nth 0 s.hub.lg.drops 3
    | 0x1800 => pbaWord s.hub.link 0
    | 0x1804 => pbaWord s.hub.link 1
    | _ => 0

/-- What an aligned read of 8 bytes returns at the lower offset of an 8-byte register (R508). -/
def barRead8 (off : Nat) (s : State) : Nat := barRead off s + barRead (off + 4) s * 2 ^ 32

end Sys2Proof.Machine
end

