-- ==== Sys2Proof/Safety.lean ====
section
/-!
DEFINITION. What counts as a safe run (every step answers a next state), which units of the state each command
may change, and the conditions that the statements name.
-/
namespace Sys2Proof.Machine

/-- A step that neither faults nor refuses. -/
def State.goesOn (s : State) : Prop := ∃ t, step s = .next t

/-- `k` steps from `s`, each of which answers a next state, end in `t`. -/
def runsTo : Nat → State → State → Prop
  | 0, s, t => s = t
  | k + 1, s, t => ∃ u, step s = .next u ∧ runsTo k u t

/-- Every run from `s` goes on. -/
def State.safe (s : State) : Prop := ∀ k t, runsTo k s t → t.goesOn

/-- A set of units of the state. The queue is never among them. -/
structure Units where
  now : Bool := false
  time : Bool := false
  lanes : Bool := false
  hub : Bool := false
  cat : Bool := false
  sig : Bool := false
  ctl : Bool := false
  pas : Bool := false
  img : Bool := false
  pow : Bool := false
  mar : Bool := false
  bar : Bool := false
  valve : Bool := false
  field : Bool := false
  can : Bool := false
  modem : Bool := false
  disp : Bool := false
  gnss : Bool := false
  pos : Bool := false
  fus : Bool := false
  cam : Bool := false
  map : Bool := false
  deriving DecidableEq, Repr

/-- A value that is forgotten where `b` holds. -/
def hide {α : Type} (b : Bool) (a : α) : Option α := if b then none else some a

/-- A state with units forgotten. -/
structure Masked where
  now : Option Now
  time : Option TimeU
  lanes : Option Lanes
  hub : Option Hub
  cat : Option Cat
  sig : Option Signals
  ctl : Option Control
  pas : Option Passage
  img : Option Images
  pow : Option Power
  mar : Option Margin
  bar : Option Bar
  valve : Option Valves
  field : Option Field
  can : Option Can
  modem : Option Modem
  disp : Option Display
  gnss : Option Gnss
  pos : Option Pos
  fus : Option Fusion
  cam : Option Cam
  map : Option MapU
  pending : List Instr

/-- Forget the units of `U`. -/
def mask (U : Units) (s : State) : Masked :=
  { now := hide U.now s.now
    time := hide U.time s.time
    lanes := hide U.lanes s.lanes
    hub := hide U.hub s.hub
    cat := hide U.cat s.cat
    sig := hide U.sig s.sig
    ctl := hide U.ctl s.ctl
    pas := hide U.pas s.pas
    img := hide U.img s.img
    pow := hide U.pow s.pow
    mar := hide U.mar s.mar
    bar := hide U.bar s.bar
    valve := hide U.valve s.valve
    field := hide U.field s.field
    can := hide U.can s.can
    modem := hide U.modem s.modem
    disp := hide U.disp s.disp
    gnss := hide U.gnss s.gnss
    pos := hide U.pos s.pos
    fus := hide U.fus s.fus
    cam := hide U.cam s.cam
    map := hide U.map s.map
    pending := s.pending }

/-- An outcome that is a next state in which only the units of `U` may differ from `s`. -/
def Goes (U : Units) (s : State) (o : Host.Outcome State Fault Refusal) : Prop :=
  ∃ t, o = .next t ∧ mask U t = mask U s

/-- The units of the state that a command may change. All other units, and the queue, it leaves as they are:
the commands that deliver a record or a status (R105) change the host link's unit besides their own, and those
that carry a tick or a deadline change the clocks. -/
def touches : Instr → Units
  | .timeInEdge .. =>
    { now := true, time := true, hub := true, gnss := true }
  | .disciplineIntervalEnd .. =>
    { now := true, time := true, hub := true, mar := true, gnss := true }
  | .stepInstant .. =>
    { now := true, time := true, lanes := true, hub := true, cat := true, sig := true, ctl := true,
      pas := true, pow := true, valve := true, field := true, can := true, modem := true, disp := true,
      gnss := true, fus := true, cam := true, map := true }
  | .tpOutPulse .. | .holdoverLimit .. | .kdTimeStepConfirm .. =>
    { now := true, time := true, hub := true }
  | .tpOutPulseEnd .. | .ocxoWarm .. | .ftSnap .. =>
    { now := true, time := true }
  | .heartbeat .. =>
    { now := true, lanes := true, hub := true, cat := true, ctl := true, pas := true, pow := true,
      mar := true, can := true, modem := true, map := true }
  | .heartbeatTimeout .. | .selfcheckVerdict .. | .selfcheckTimeout .. =>
    { now := true, lanes := true, hub := true, mar := true }
  | .signature .. | .curatorWatchdog .. | .outputPathCheck .. | .kdLaneSwap .. | .kdLanePromote ..
  | .journalFull .. | .rebuildTimeout .. | .laneStatusPeriod .. =>
    { now := true, lanes := true, hub := true }
  | .curatorStatus .. | .curatorLinkTimeout .. =>
    { now := true, lanes := true, hub := true, sig := true, pas := true, fus := true, cam := true }
  | .preferredLaneTimeout .. =>
    { now := true, lanes := true, hub := true, ctl := true, pas := true, pow := true, mar := true,
      can := true, modem := true, map := true }
  | .laneStartTimeout .. | .laneImageLoaded .. =>
    { now := true, lanes := true, hub := true, img := true, mar := true }
  | .takeoverAck .. | .autoSwap .. | .checkpointRequest .. | .checkpointCapture ..
  | .checkpointReceived .. | .checkpointLoaded .. | .replayJoinsLive .. =>
    { now := true, lanes := true }
  | .switchBeat .. =>
    { now := true, lanes := true, hub := true, sig := true, ctl := true, pas := true, pow := true,
      mar := true, valve := true, field := true, can := true, modem := true, disp := true, pos := true,
      fus := true, cam := true, map := true }
  | .overlapWindowEnd .. =>
    { now := true, lanes := true, hub := true, mar := true, can := true, modem := true }
  | .standbyReady .. =>
    { lanes := true, hub := true }
  | .railFault .. =>
    { now := true, time := true, lanes := true, hub := true, pow := true, mar := true, modem := true,
      disp := true, gnss := true, cam := true }
  | .linkLoss .. | .hotReset .. | .functionLevelReset .. | .d3hot .. | .registerWrite .. =>
    { now := true, hub := true, bar := true }
  | .linkRateChange .. | .doorbellPoll .. | .doorbellReadComplete .. | .doorbellReadFail ..
  | .ringReadComplete .. | .dmaError .. | .dozeTimeout .. | .dozeCheckRead .. | .wake .. | .ringGo ..
  | .ringSetup .. | .lgCursor .. | .msixUnmask .. | .recordDelivery .. | .coalTime .. | .kdRingReset ..
  | .linkStatusPeriod .. | .bufptrSupply .. | .bufptrSegmentStray .. | .unknownKind ..
  | .deliveryKindPosted .. | .classCountsPeriod .. | .kdCatRead .. | .pipeDeliverFull ..
  | .coalesceWindowEnd .. | .ledgerWriteComplete .. | .kdLedgerCopy .. | .ledgerCopyDone ..
  | .kdLedgerClear .. | .ledgerClearDone .. | .linkUp .. =>
    { now := true, hub := true }
  | .dbPoll .. =>
    { now := true, bar := true }
  | .kdCatOpen .. | .kdCatCommit .. | .kdCatAbort .. | .catTransactionTimeout .. | .kdTimeSettings ..
  | .kdLaneSettings .. | .kdPassageSettings .. | .kdCropSettings .. | .kdLoopSettings ..
  | .kdGroupSettings .. | .kdValveSettings .. | .kdMapSettings .. | .kdGnssSettings ..
  | .kdFusionSettings .. | .kdCameraSettings .. | .kdFieldSettings .. | .kdCanSettings ..
  | .kdCanObjectSettings .. | .kdModemSettings .. | .kdDisplaySettings .. | .kdEventSettings ..
  | .kdCalUser .. | .kdPowerSettings .. | .kdRestoreFactory .. =>
    { now := true, hub := true, cat := true }
  | .commitBoundary .. | .restoreBoundary .. =>
    { now := true, hub := true, cat := true, sig := true, ctl := true, pas := true, pow := true,
      valve := true, field := true, can := true, modem := true, disp := true, fus := true, cam := true }
  | .tapInstant .. =>
    { now := true, hub := true, sig := true, pas := true, map := true }
  | .orphanTimeout .. =>
    { now := true, hub := true, pas := true, map := true }
  | .estWindowEnd .. | .kdCropChange .. | .passageStatusPeriod .. =>
    { now := true, hub := true, pas := true }
  | .beatBatchClose .. =>
    { now := true, hub := true, sig := true, ctl := true, can := true }
  | .loopSample .. =>
    { now := true, lanes := true, hub := true, sig := true, ctl := true, pas := true, valve := true,
      field := true, can := true }
  | .actionHoldExpiry .. =>
    { hub := true, ctl := true, pas := true }
  | .kdSetpoint .. | .loopDisable .. | .loopEnable .. | .loopClearSticky .. =>
    { now := true, hub := true, ctl := true }
  | .kdValveProfile .. | .kdValveHoldTrim .. | .kdValveOff .. | .valveStatusPeriod ..
  | .outInhibitRelease .. =>
    { now := true, hub := true, valve := true }
  | .valveRequestDecide .. =>
    { now := true, lanes := true, hub := true, sig := true, ctl := true, valve := true, field := true,
      can := true }
  | .valveRiseEnd .. | .valvePeakEnd .. | .valveBoostDeadline .. | .valveOpenOnCheck ..
  | .valveScbTrip .. | .valveBankLine .. | .valveOffTestComplete .. =>
    { now := true, hub := true, valve := true }
  | .valveQuenchEnd .. =>
    { now := true, hub := true, ctl := true, valve := true }
  | .valveOffTest .. =>
    { now := true, valve := true }
  | .plateTemperature .. =>
    { now := true, pow := true, valve := true, disp := true }
  | .outInhibitAssert .. =>
    { now := true, hub := true, sig := true, valve := true, field := true }
  | .fieldOpen .. | .fieldClose .. | .fieldDiscard .. | .fieldNew .. | .fieldCloseFlushed ..
  | .mapFlushPeriod .. | .mapSummaryPeriod .. | .tileRequestTile .. | .tileRequestSummary ..
  | .tileRequestAll .. =>
    { now := true, hub := true, map := true }
  | .gnssEpoch .. =>
    { now := true, time := true, hub := true, gnss := true, pos := true, fus := true }
  | .suspectHoldExpiry .. | .antennaRetry .. | .channelLock .. =>
    { now := true, gnss := true }
  | .dualPeakFound .. | .navMessage .. | .antennaOk .. | .antennaOpen .. | .antennaOvercurrent .. =>
    { now := true, hub := true, gnss := true }
  | .kdRtcmIn .. =>
    { now := true, hub := true, pos := true }
  | .baseEpochTimeout .. | .corrSourceBackup .. =>
    { now := true, pos := true }
  | .fusionOutput .. =>
    { now := true, hub := true, sig := true, pos := true, fus := true }
  | .fusionCheckEpoch .. | .deadReckoningTimeout .. | .kdHostFix .. | .imu1RateWindow .. =>
    { now := true, hub := true, fus := true }
  | .sourceAbsent .. | .edgeHoldExpiry .. | .imu0DataReady .. | .imuDrdy .. | .imuTransferEnd .. =>
    { now := true, fus := true }
  | .camTrigger .. | .csi2Packet .. | .camLinkLock .. | .uplinkReply .. | .uplinkTimeout .. | .pocOk ..
  | .pocOpen .. | .pocOvercurrent .. | .kdExposure .. | .exposureWrites .. | .pipeEnable ..
  | .camPortStatus .. =>
    { now := true, hub := true, cam := true }
  | .camTriggerEnd .. | .camLinkRetry .. | .pocRetry .. | .pipeInitRetry .. =>
    { now := true, cam := true }
  | .frameStart .. | .frameEnd .. | .frameEndTimeout .. | .camLinkLoss .. | .pipeDisable .. =>
    { now := true, hub := true, sig := true, pas := true, fus := true, cam := true }
  | .diChange .. =>
    { now := true, sig := true, field := true }
  | .counterEdge .. | .aiShuntOpen .. | .aiShuntReclose .. =>
    { now := true, field := true }
  | .gateClose .. | .aiSample .. | .dqOverload .. =>
    { now := true, hub := true, sig := true, field := true }
  | .aiReport .. | .dqSet .. | .dqClearOnly .. | .dqOpenLoad .. | .dqSupplyShort ..
  | .sensorSupplyFault .. | .sensorSupplyRetry .. | .vdqLowSet .. | .vdqLowClear ..
  | .fieldStatusPeriod .. =>
    { now := true, hub := true, field := true }
  | .dqDutyEffect .. =>
    { now := true, lanes := true, hub := true, sig := true, field := true }
  | .canFrameReceived .. =>
    { now := true, hub := true, sig := true, can := true }
  | .canTxSuccess .. | .canTxError .. | .canBusoffDelay .. | .canRecovered .. | .canIntegrated ..
  | .canShutdownEnd .. | .canSetpointPeriod .. | .canTxLifetime .. | .canStatusPeriod .. | .canRxError .. =>
    { now := true, hub := true, can := true }
  | .canTxFrame .. | .canObjectWrite .. =>
    { now := true, lanes := true, hub := true, can := true }
  | .canWakePattern .. | .modemRing .. | .vbatConnect .. | .supplyReturn .. | .ignHigh ..
  | .keyoffComplete .. | .hostWake .. | .wakeTimer .. =>
    { now := true, time := true, lanes := true, hub := true, cat := true, sig := true, ctl := true,
      pas := true, img := true, pow := true, mar := true, bar := true, valve := true, field := true,
      can := true, modem := true, disp := true, gnss := true, pos := true, fus := true, cam := true,
      map := true }
  | .modemCharacter .. | .modemBreak .. | .mdmReadyChange .. | .modemCharacterSent .. | .modemTxStall ..
  | .modemTxLifetime .. | .modemStatusPeriod .. =>
    { now := true, hub := true, modem := true }
  | .modemReaderPass .. =>
    { now := true, hub := true, modem := true, pos := true }
  | .modemCreditReturn .. =>
    { now := true, modem := true }
  | .kdModemTx .. =>
    { now := true, lanes := true, hub := true, modem := true }
  | .displayFrame .. | .displayRailsDone .. | .displayShutdownEnd .. | .kdSegmentMap ..
  | .displayHostTimeout .. | .displayStatusPeriod .. =>
    { now := true, hub := true, disp := true }
  | .displayLcdEn1 .. | .displayShutdownEn0 .. =>
    { now := true, disp := true }
  | .imageStore .. | .imageBodyWritten .. | .imageSelect .. | .imageRestart .. =>
    { now := true, lanes := true, hub := true, img := true, mar := true }
  | .imageConfirmTimer .. | .curatorStartFallback .. =>
    { now := true, hub := true, img := true }
  | .imageConfirmLane .. =>
    { hub := true, img := true }
  | .vbatLost .. | .supplyCrank .. | .supplyUndervolt .. | .supplyOvervolt .. | .powerStatusPeriod .. =>
    { now := true, hub := true, pow := true }
  | .supplyFall .. =>
    { now := true, time := true, hub := true, pow := true, modem := true, disp := true, gnss := true,
      cam := true }
  | .holdupReturnDeadline .. =>
    { now := true, time := true, lanes := true, hub := true, sig := true, pas := true, pow := true,
      valve := true, field := true, can := true, modem := true, gnss := true, fus := true, map := true }
  | .holdupComplete .. =>
    { now := true, time := true, hub := true, ctl := true, pas := true, pow := true, mar := true,
      bar := true, can := true, modem := true, disp := true, gnss := true, cam := true, map := true }
  | .ignLow .. | .wakeServeExpiry .. =>
    { now := true, time := true, hub := true, cat := true, sig := true, ctl := true, pas := true,
      pow := true, valve := true, field := true, can := true, modem := true, disp := true, fus := true,
      cam := true, map := true }
  | .keyoffFlushDone .. =>
    { now := true, hub := true, pow := true, map := true }
  | .keyoffSaveDone .. =>
    { now := true, time := true, cat := true, pow := true, mar := true, gnss := true, fus := true }
  | .keepMinExpiry .. | .keepVbatLow .. =>
    { now := true, time := true, hub := true, pow := true, gnss := true }
  | .holdupBankCharged .. | .railReturn .. =>
    { now := true, lanes := true, hub := true, pow := true, mar := true }
  | .pciePerst .. =>
    { now := true, hub := true, pow := true, bar := true }
  | .marginPlan .. | .marginStepApply .. =>
    { now := true, hub := true, mar := true }
  | .flashRefreshDue .. =>
    { now := true, mar := true }
  | .beat .. =>
    { now := true, lanes := true, hub := true, cat := true, sig := true, field := true, can := true,
      modem := true, disp := true, cam := true }
  | .valveChopPeriodEnd .. =>
    { now := true, hub := true, sig := true, valve := true }
  | .valveBankUndervolt .. =>
    { now := true, pow := true, valve := true }

/-- A submission that the module hears: Serving, the record passes the checks of R106, and a command that a
key-off refuses meets none (R473). -/
def Passes (sc : RecSchema) (guarded : Bool) (p : Post) (s : State) : Prop :=
  s.pow.state = .serving ∧ checkBody (some sc) 0x20 0 false (expectedSeq s p) p = none
    ∧ (guarded = true → keyoff s = false)

/-- What the rules fix of Field Time's own registers: TIME_EPOCH has 16 bits (R26), `TIME_OK` is high in LOCKED
only (R32), F stays within 0.1 ppm (R543), the rate within 10 ppm (R23), and in LOCKED within 0.1 ppm (R18). Both
count 2^-11 ppb. -/
def TimeU.inBounds (t : TimeU) : Prop :=
  t.epoch < 65536 ∧ (t.timeOk = true → t.state = .locked) ∧ t.f.natAbs ≤ 204800 ∧ t.r.natAbs ≤ 20480000
    ∧ (t.state = .locked → t.r.natAbs ≤ 204800)

/-- What the BAR0 registers can hold: the base addresses are 4 KiB aligned, each word has 32 bits (R511), and
DB_POLL_US lies in 2 to 1000 (R512). -/
def Bar.inBounds (b : Bar) : Prop :=
  b.rtLo % 4096 = 0 ∧ b.dbLo % 4096 = 0 ∧ b.retLo % 4096 = 0 ∧ b.rtLo < 2 ^ 32 ∧ b.rtHi < 2 ^ 32 ∧ b.dbLo < 2 ^ 32
    ∧ b.dbHi < 2 ^ 32 ∧ b.retLo < 2 ^ 32 ∧ b.retHi < 2 ^ 32 ∧ 2 ≤ b.dbPollUs ∧ b.dbPollUs ≤ 1000

/-- The DC accumulator A of pixel `i` in frame units (R419). -/
def Display.acc (d : Display) (i : Nat) : Int :=
  if d.accPlus.testBit i then 1 else if d.accMinus.testBit i then -1 else 0

/-- The display keeps DC balance (R419): a pixel with residual charge is on, and the frame in progress has the
polarity that takes the charge away. -/
def Display.balanced (d : Display) : Prop :=
  ∀ i, i < 480 → (d.accPlus.testBit i = true → d.plus = false ∧ d.shown.testBit i = true)
    ∧ (d.accMinus.testBit i = true → d.plus = true ∧ d.shown.testBit i = true)

end Sys2Proof.Machine
end

