-- ==== Sys2Proof/Certificates/Slice0/Obligations.lean ====
section
/-!
DEFINITION. The statements about the model, one `Prop` each.
-/
open Sys2Proof Sys2Proof.Machine

/-- A step runs the front command with the queue's rest; with none waiting the block idles (the latter the
model's choice, log entry 1). spec/00_scope.md. -/
def Obligations.StepRunsTheFrontCommand : Prop :=
  (∀ (c : Instr) (q : List Instr) (s : State), step { s with pending := c :: q } = exec c { s with pending := q })
  ∧ (∀ s : State, s.pending = [] → step s = .next s)

/-- Every command, in every state, answers a next state that differs only in the units the command may change.
spec/00_scope.md, spec/95_what_each_step_holds.md. -/
def Obligations.EveryCommandFrame : Prop := ∀ (c : Instr) (s : State), Goes (touches c) s (exec c s)

/-- TIME_IN_EDGE: an ignored, a rejected, a measured and a disciplining edge. Rule R33, R34. -/
def Obligations.TimeInEdgeEffect : Prop :=
  ∀ (dt : Nat) (rising : Bool) (s : State),
    let s1 := tick dt s
    let mode := cfg s 0x0101 0 0x29 1
    let near := (s1.now.ft + qSec / 2) / qSec * qSec
    let gap := ((s1.now.ft : Int) - near).natAbs
    let x : Int := (s1.now.ft : Int) - cfgS s 0x0101 0 0x2C 4 - near
    let noted := s1.upTime (fun t => { t with timeInOffset := clampI (-(2 ^ 31)) (2 ^ 31 - 1) x })
    let selected := mode ≠ 0 ∧ rising ≠ decide (cfg s 0x0101 0 0x2A 1 = 1) ∧ awake s = true
    (¬selected → exec (.timeInEdge dt rising) s = .next s1)
    ∧ (selected → uncertPs s1 + 1000000 < gap * 250 →
        exec (.timeInEdge dt rising) s
          = .next (raise 33 0xFFFF 0 (s1.upTime (fun t => { t with timeInRejects := satAdd 16 t.timeInRejects 1 }))))
    ∧ (selected → gap * 250 ≤ uncertPs s1 + 1000000 → s.time.state = .locked →
        exec (.timeInEdge dt rising) s = .next (if 4000 < x.natAbs then raise 32 0xFFFF 0 noted else noted))
    ∧ (selected → gap * 250 ≤ uncertPs s1 + 1000000 → s.time.state ≠ .locked →
        exec (.timeInEdge dt rising) s
          = .next (if mode = 2 ∧ uncertPs s1 < 500000000000 then
              (accrue noted).upTime (fun t => { t with
                timeInUsed := true, r := clampI (-20480000) 20480000 (t.f - 64 * x) })
            else noted))

/-- DISCIPLINE_INTERVAL_END: a valid and an invalid interval. Rule R17, R22, R23, R24, R25, R40, R542. -/
def Obligations.DisciplineIntervalEffect : Prop :=
  ∀ s : State, awake s = true →
    let s1 := noteRate (reach s.time.intNext s)
    let s2 := s1.upTime (fun t => { t with intNext := s.time.intNext + qSec, sol := none, clockFail := false })
    (∀ v : TimeSol, s.time.sol = some v → 4 ≤ v.sats → s.time.clockFail = false →
      let x := v.offset
      let s3 := s2.upTime (fun t => { t with
        unknown := false, anyValid := true, offset := x, lastValid := s2.now.el, invalidRun := 0
        u0 := if t.state = .locked then basePs s2 else x.natAbs * 250 + basePs s2
        uAt := s2.now.el, uHold := t.state == .holdover })
      exec .disciplineIntervalEnd s
        = .next (timeNoted s.time (if x.natAbs < 4000000 then slewLaw x s3
            else if s3.time.state = .locked then s3 else confirmStep x s.time.intNext s3)))
    ∧ ((∀ v : TimeSol, s.time.sol = some v → v.sats < 4 ∨ s.time.clockFail = true) →
      let s3 := s2.upTime (fun t => { t with
        pending := none, confirmRun := 0, invalidRun := t.invalidRun + 1, lockRun := 0 })
      exec .disciplineIntervalEnd s
        = .next (timeNoted s.time (if s3.time.state = .locked ∧ 2 ≤ s3.time.invalidRun then loseLock s3 else s3)))

/-- The TP_OUT pulse, the holdover limit and the OCXO, and KD_TIME_STEP_CONFIRM. Rule R22, R24, R25, R31, R32,
R40, R41, R106. -/
def Obligations.PulseAndStepCommands : Prop :=
  (∀ s : State,
    (awake s = true →
      let s1 := reach s.time.tpNext s
      let s2 := s1.upTime (fun t => { t with
        tpOut := true, tpEnd := s1.now.el + 100 * qMs, timeOk := t.state == .locked, tpNext := s.time.tpNext + qSec })
      (∀ x, s.time.fixedStep = some (x, s.time.tpNext) → exec .tpOutPulse s = .next s2)
      ∧ ((∀ x, s.time.fixedStep ≠ some (x, s.time.tpNext)) → exec .tpOutPulse s = .next (timeStatus s.time.tpNext s2)))
    ∧ (s.time.tpOut = true →
        exec .tpOutPulseEnd s = .next ((reachEl s.time.tpEnd s).upTime (fun t => { t with tpOut := false })))
    ∧ (∀ dt, s.time.state = .holdover → cfg s 0x0101 0 0x24 4 * 1000 < uncertPs (tick dt s) →
        ∃ t, exec (.holdoverLimit dt) s = .next t ∧ t.time.state = .free
          ∧ t.time.u0 = min maxPs (s.time.u0 + growthPs s.time.uHold (s.now.el + dt - s.time.uAt))
          ∧ t.time.uAt = s.now.el + dt ∧ t.time.uHold = false
          ∧ t.time.r = s.time.r ∧ t.time.f = s.time.f ∧ t.time.epoch = s.time.epoch)
    ∧ (awake s = true → s.time.ocxoWarm = false →
        exec .ocxoWarm s
          = .next ((reachEl (s.time.ocxoOnAt + 600 * qSec) s).upTime (fun t => { t with ocxoWarm := true }))))
  ∧ (∀ (dt : Nat) (p : Post) (s : State), Passes scStepConfirm false p s →
    let x := arrive dt 0x0103 1 p decideAt s
    (∀ a, s.time.pending = some a → (fldS p.body 0x20 8 - a).natAbs ≤ 4000 →
      let at_ := nextMul qSec x.1.now.ft
      let s1 := x.1.upTime (fun t => { t with pending := none, confirmRun := 0, fixedStep := some (a, at_) })
      exec (.kdTimeStepConfirm dt p) s
        = .next (complete 0x0103 1 p x.2.acc (accepted 0 at_) (timeChanged s1)))
    ∧ (∀ a, s.time.pending = some a → 4000 < (fldS p.body 0x20 8 - a).natAbs →
      exec (.kdTimeStepConfirm dt p) s = .next (x.2.refuse 0x13 0 x.1))
    ∧ (s.time.pending = none → exec (.kdTimeStepConfirm dt p) s = .next (x.2.refuse 8 0 x.1)))

/-- STEP_INSTANT: Field Time takes the step, TIME_EPOCH counts it, elapsed time does not. Rule R26, R27, R30,
R541. -/
def Obligations.StepInstantEffect : Prop :=
  ∀ (s : State) (a : Int) (t : Nat), awake s = true → s.time.fixedStep = some (a, t) → s.now.ft ≤ t →
    t < 2 ^ 64 → 0 ≤ (t : Int) + a → (t : Int) + a < 2 ^ 64 →
    ∃ u, exec .stepInstant s = .next u ∧ (u.now.ft : Int) = t + a ∧ u.now.el = (s.now.goto s.time.r t).el
      ∧ u.time.epoch = (s.time.epoch + 1) % 65536 ∧ u.time.fixedStep = none ∧ u.time.pending = none
      ∧ u.time.confirmRun = 0 ∧ u.time.lockRun = 0 ∧ u.time.invalidRun = 0
      ∧ u.time.state = s.time.state ∧ u.time.f = s.time.f ∧ u.time.r = s.time.r

/-- LINK_UP, the events of R68 and LINK_RATE_CHANGE. Rule R67, R68, R95. -/
def Obligations.LinkEventsEffect : Prop :=
  ∀ (dt : Nat) (s : State),
    let s1 := tick dt s
    let gone := fun (up : Bool) => raise 20 0xFFFF 0 (upLink (fun l =>
      { l.drop up with resets := satAdd 16 l.resets 1 }) (s1.upBar (fun _ => Bar.reset)))
    (∀ speed width l1, s.pow.state = .serving → s.pow.perst = false →
      s.hub.link.up = false ∨ s.hub.link.d3hot = true →
      let was := s.hub.link.trained
      let s2 := raise 20 0xFFFF 1 (upLink (fun l => { l with
        up := true, speed := speed, width := width, trained := (speed, width), l1 := l1, d3hot := false }) s1)
      exec (.linkUp dt speed width l1) s
        = .next (if was = (0, 0) ∨ was = (speed, width) then s2 else linkStatus 3 (beatAt s2.now.ft) s2))
    ∧ (s.pow.state = .serving → s.hub.link.up = true →
      exec (.linkLoss dt) s = .next (gone false) ∧ exec (.hotReset dt) s = .next (gone false)
      ∧ exec (.functionLevelReset dt) s = .next (gone true))
    ∧ (linkLive s = true →
      exec (.d3hot dt) s = .next (upLink (fun l => { l with d3hot := true }) (gone true))
      ∧ ∀ speed width l1,
        let s2 := upLink (fun l => { l with
          speed := speed, width := width, trained := (speed, width), l1 := l1 }) s1
        exec (.linkRateChange dt speed width l1) s
          = .next (if s.hub.link.speed = speed ∧ s.hub.link.width = width then s2
              else linkStatus 3 (beatAt s2.now.ft) s2))

/-- DOORBELL_POLL, DOORBELL_READ_COMPLETE, DOORBELL_READ_FAIL, DOZE_TIMEOUT and DOZE_CHECK_READ. Rule R84,
R85, R87, R88, R93, R512. -/
def Obligations.PollingEffect : Prop :=
  ∀ (dt : Nat) (s : State), linkLive s = true → s.hub.link.running = true →
    let s1 := tick dt s
    let l := s.hub.link
    (l.phase = .awake →
      (let s2 := match l.pollAt with | some t => reachEl t s | none => s1
       exec (.doorbellPoll dt) s = .next (upLink (fun l => { l with
         pollUs := s.bar.dbPollUs, pollAt := some (s2.now.el + s.bar.dbPollUs * qUs)
         pollsIssued := l.pollsIssued + 1 }) s2))
      ∧ exec .dozeTimeout s
        = .next (upLink (fun l => { l with dozing := true, phase := .checking }) (reachEl l.dozeAt s)))
    ∧ (l.pollsDone < l.pollsIssued →
      (∀ r, exec (.doorbellReadComplete dt r) s = .next (takeWords (l.pollsDone + 1) r.words (upLink (fun l => { l with
        pollsDone := l.pollsDone + 1, failRun := 0, aerCorr := satAdd 16 l.aerCorr r.corr }) s1)))
      ∧ (∀ cause,
        let s2 := noteAer cause (upLink (fun x => { x with
          pollsDone := l.pollsDone + 1, pollFails := satAdd 16 l.pollFails 1
          failRun := if l.failRun = 2 then 0 else l.failRun + 1 }) s1)
        exec (.doorbellReadFail dt cause) s = .next (if l.failRun = 2 then raise 21 0xFFFF 0 s2 else s2)))
    ∧ (l.phase = .checking → ∀ words,
      let s2 := upLink (fun l => { l with failRun := 0 }) s1
      exec (.dozeCheckRead dt words) s
        = .next (if words = l.words then raise 26 0xFFFF 0 (upLink (fun l => { l with
              phase := .dozing, dozeCount := add32 l.dozeCount 1, pollAt := none }) s2)
            else takeWords l.pollsDone words s2))

/-- RING_READ_COMPLETE and DMA_ERROR. Rule R75, R78, R79, R88, R89, R91, R93. -/
def Obligations.RingReadEffect : Prop :=
  ∀ (dt : Nat) (s : State), linkLive s = true →
    let s1 := tick dt s
    (∀ (n : Fin 32) (entries : Nat),
      let r := nth default s.hub.link.sr n.val
      r.st = .running → r.hold = none → r.skip = 0 → 0 < sub32 r.p r.c → r.taken < 64 → 0 < entries →
      fetchPaused s.hub.link r = false →
      (ringLimit r.entry < entries → exec (.ringReadComplete dt n entries) s = .next (faultRing 23 n.val s1))
      ∧ (entries ≤ ringLimit r.entry → entries ≤ 64 → entries ≤ sub32 r.p r.c → r.taken + entries ≤ 64 →
        exec (.ringReadComplete dt n entries) s
          = .next (upSr n.val (fun r => { r with
              c := add32 r.c entries, taken := r.taken + entries, skip := 0, at_ := slotAddrs r.entry r.c entries })
            (upLink (fun l => { l with
              stream := insertSorted Stamped.le ⟨n.val, s1.now.ft, s1.now.ft, entries, none⟩ l.stream }) s1))))
    ∧ (∀ (n : Fin 64) (cause : DmaCause),
      exec (.dmaError dt n cause) s
        = .next (if s.hub.link.ringState n.val = .running then faultRing 25 n.val (noteAer cause s1) else s1))

/-- The ring set-up, and KD_RING_RESET. Rule R71, R94, R97, R513. -/
def Obligations.RingSetupAndResetEffect : Prop :=
  (∀ (dt : Nat) (s : State), linkLive s = true →
    let s1 := tick dt s
    (∀ value, value % 2 = 0 ∨ keyoff s = true → exec (.ringGo dt value) s = .next s1)
    ∧ (∀ value, value % 2 = 1 → keyoff s = false →
      let s2 := if s.hub.link.phase = .dozing then endDoze s1 else s1
      exec (.ringGo dt value) s
        = .next (if s2.hub.link.setupRunning || !s.pow.firstBeat then upLink (fun l => { l with goPending := true }) s2
            else upLink (fun l => { l with setupRunning := true }) s2))
    ∧ (∀ table, s.hub.link.setupRunning = true ∨ s.hub.link.goPending = true ∧ s.pow.firstBeat = true →
      let s2 := fun bad => upLink (fun l =>
        { l with goPending := l.setupRunning && l.goPending }.setup bad table s1.now.el) s1
      (tableFault s.bar table = none →
        exec (.ringSetup dt table) s = .next (linkStatus 1 (beatAt (s1.now.ft + 1)) (s2 none)))
      ∧ (∀ e r, tableFault s.bar table = some (e, r) →
        exec (.ringSetup dt table) s = .next (raise 22 e r (s2 (some (e, r)))))))
  ∧ (∀ (dt : Nat) (p : Post) (e : RingEntry) (s : State),
    Passes ⟨[32], [fu 0x20 1 0 63 0], fun _ => []⟩ false p s →
    let x := arrive dt 0x0301 0x0E p decideAt s
    let n := fld p.body 0x20 1
    let was := x.1.hub.link.ringState n
    let fault := tableReason (x.1.hub.link.table.set n e) n
    (n = p.ring → exec (.kdRingReset dt p e) s = .next (x.2.refuse 0x16 0 x.1))
    ∧ (n ≠ p.ring → was = .unused → exec (.kdRingReset dt p e) s = .next (x.2.refuse 8 0 x.1))
    ∧ (n ≠ p.ring → was ≠ .unused → ∀ r, fault = some r →
      exec (.kdRingReset dt p e) s
        = .next (complete 0x0301 0x0E p x.2.acc ⟨4, 7, 0, r, 0, x.2.bound⟩ (raise 22 n r x.1)))
    ∧ (n ≠ p.ring → was ≠ .unused → fault = none →
      let y := x.1.hub.link.resetRing n e
      let s1 := upLink (fun _ => y.2) x.1
      let s2 := if s1.hub.link.ringState n = was then s1 else linkStatus 2 (beatAt s1.now.ft) s1
      exec (.kdRingReset dt p e) s
        = .next (completeX 0x0301 0x0E p x.2.acc (accepted y.1 x.2.bound) (some n) s2)))

/-- RECORD_DELIVERY and COAL_TIME. Rule R77, R83, R90, R92. -/
def Obligations.DeliveryEffect : Prop :=
  (∀ (dt : Nat) (n : Fin 32) (s : State), linkLive s = true → commanding s = true → s.hub.link.running = true →
    let s1 := tick dt s
    let d := nth default s.hub.link.dr n.val
    d.st = .running → d.hold = none →
    (d.chain = [] → d.backlog = [] → exec (.recordDelivery dt n) s = .next s1)
    ∧ (∀ r q, d.chain = [] → d.backlog = r :: q → takeBufs (padBulk (r.bulk.getD [])).length d.supplies = none →
      exec (.recordDelivery dt n) s = .next s1)
    ∧ (∀ r d1,
      (∃ q, d.chain = r :: q ∧ d1 = { d with chain := q })
        ∨ (∃ q bufs rest, d.chain = [] ∧ d.backlog = r :: q
          ∧ takeBufs (padBulk (r.bulk.getD [])).length d.supplies = some (bufs, rest)
          ∧ d1 = { d with backlog := q, chain := bufPtrs r bufs (freeNat 32 s), supplies := rest }) →
      let d2 := d1.write r
      let d3 := { d2 with unsig := if d.entry.vec ≠ 0xFF then d.unsig ++ [s1.now.el] else [] }
      let s2 := upLink (fun l => ({ l with dr := l.dr.set n.val d3 }.covered r).ringSignal n.val
        (fun d => decide (d.entry.coalTime = 0) || decide (d.entry.coalCount ≤ d.unsig.length))) s1
      (ringLimit d.entry < sub32 d.f d.h + r.entries → exec (.recordDelivery dt n) s = .next s1)
      ∧ (sub32 d.f d.h + r.entries ≤ ringLimit d.entry →
        exec (.recordDelivery dt n) s = .next (if r.bulk.isSome then drawn s2 else s2))))
  ∧ (∀ (n : Fin 32) (s : State) (t : Nat) (q : List Nat),
    let d := nth default s.hub.link.dr n.val
    d.unsig = t :: q →
    exec (.coalTime n) s = .next (upLink (fun l => l.ringSignal n.val (fun _ => true))
      (reachEl (t + d.entry.coalTime * qUs) s)))

/-- DB_POLL, LG_CURSOR, FT_SNAP, REGISTER_WRITE and MSIX_UNMASK. Rule R444, R508, R511, R512, R519, R520,
R521. -/
def Obligations.BarWritesEffect : Prop :=
  ∀ (dt : Nat) (s : State), linkLive s = true →
    let s1 := tick dt s
    (∀ value,
      exec (.dbPoll dt value) s = .next (s1.upBar (fun b => { b with dbPollUs := max 2 (min 1000 (value % 1024)) }))
      ∧ exec (.lgCursor dt value) s
        = .next (s1.upHub (fun h => { h with lg := { h.lg with cursor := value % 65536 } })))
    ∧ (∃ d, d < 8 ∧ exec (.ftSnap dt) s = .next (drawn (s1.upTime (fun t => { t with snap := s1.now.ft - d }))))
    ∧ (∀ off size value, size = 4 → off % 4 = 0 →
      exec (.registerWrite dt off size value) s = .next (barWrite off (value % 2 ^ 32) s1))
    ∧ (∀ off size value, size = 8 → off % 8 = 0 → 0x1000 ≤ off → off < 0x1400 →
      exec (.registerWrite dt off size value) s
        = .next (barWrite (off + 4) (value / 2 ^ 32 % 2 ^ 32) (barWrite off (value % 2 ^ 32) s1)))
    ∧ (∀ off size value, ¬(size = 4 ∧ off % 4 = 0) →
      ¬(size = 8 ∧ off % 8 = 0 ∧ 0x1000 ≤ off ∧ off < 0x1400) →
      exec (.registerWrite dt off size value) s = .next s1)
    ∧ (∀ value,
      barWrite 0x100 value s1 = s1.upBar (fun b => { b with rtLo := value / 4096 * 4096 })
      ∧ barWrite 0x104 value s1 = s1.upBar (fun b => { b with rtHi := value })
      ∧ barWrite 0x108 value s1 = s1.upBar (fun b => { b with dbLo := value / 4096 * 4096 })
      ∧ barWrite 0x10C value s1 = s1.upBar (fun b => { b with dbHi := value })
      ∧ barWrite 0x110 value s1 = s1.upBar (fun b => { b with retLo := value / 4096 * 4096 })
      ∧ barWrite 0x114 value s1 = s1.upBar (fun b => { b with retHi := value })
      ∧ barWrite 0x118 value s1 = s1.upBar (fun b => { b with dbPollUs := max 2 (min 1000 (value % 1024)) }))
    ∧ (∀ v : Fin 64, exec (.msixUnmask dt v) s
      = .next (upLink (fun l => { l with msix := upd l.msix v.val (fun m =>
          if m.pending then { m with masked := false, pending := false, sent := m.sent + 1 }
          else { m with masked := false }) }) s1))

/-- BUFPTR_SUPPLY, BUFPTR_SEGMENT_STRAY, UNKNOWN_KIND, DELIVERY_KIND_POSTED, LINK_STATUS_PERIOD and
CLASS_COUNTS_PERIOD. Rule R82, R83, R95, R106, R110. -/
def Obligations.BufferPointersAndPeriods : Prop :=
  ∀ (dt : Nat) (p : Post) (s : State),
    (Passes scBufptr false p s →
      let x := arrive dt 2 0x0E p decideAt s
      let n := fld p.body 0x35 1
      let d := nth default x.1.hub.link.dr n
      (fld p.body 0x34 1 = 0 → exec (.bufptrSegmentStray dt p) s = .next (x.2.refuse 0x0A 0 x.1))
      ∧ (fld p.body 0x34 1 = 1 → d.st = .unused → exec (.bufptrSupply dt p) s = .next (x.2.refuse 8 0 x.1))
      ∧ (fld p.body 0x34 1 = 1 → d.st ≠ .unused → 1024 ≤ d.supplies.length →
        exec (.bufptrSupply dt p) s = .next (x.2.refuse 0x0B 0 x.1))
      ∧ (fld p.body 0x34 1 = 1 → d.st ≠ .unused → d.supplies.length < 1024 →
        exec (.bufptrSupply dt p) s = .next (upDr n (fun d => { d with
          supplies := d.supplies ++ [⟨fld p.body 0x20 8, fld p.body 0x28 4⟩] }) x.1)))
    ∧ (s.pow.state = .serving →
      (∀ kind,
        let x := arrive dt kind 0x0E p decideAt s
        exec (.unknownKind dt kind p) s = .next (x.2.refuse 2 0 x.1)
        ∧ exec (.deliveryKindPosted dt kind p) s = .next (x.2.refuse 4 0 x.1))
      ∧ (let t := s.hub.link.statusNext
         exec .linkStatusPeriod s
           = .next (linkStatus 0 t (upLink (fun l => { l with statusNext := t + 10 * qSec }) (reach t s))))
      ∧ (let t := s.hub.link.countsNext
         let s1 := upLink (fun l => { l with countsNext := t + 10 * qSec }) (reach t s)
         exec .classCountsPeriod s
           = .next (emit 3 2 0x0E 0 t t
               (mkBody 128 (s.hub.link.undelivered.zipIdx.map (fun x => (0x20 + 4 * x.2, 4, x.1)))) s1)))

/-- Heartbeats of a lane, and its start. Rule R47, R48, R52, R53, R449, R450, R539. -/
def Obligations.LaneStartEffect : Prop :=
  (∀ (dt : Nat) (i : Fin 2) (s : State),
    let s1 := tick dt s
    let l := laneOf s i
    (∀ h : Heartbeat, s.pow.state = .serving → s.lanes.silent = false → l.state ≠ .off → l.inReset = false →
      h.crcOk = true → (∀ b, l.hbBeat = some b → b < h.beat) →
      let s2 := upLane i (fun l => { l with
        hbBeat := some h.beat, hbAt := s.now.el + dt, hbBeats := l.hbBeats + 10
        hbState := h.state, hbPass := h.verdictPass, known := true }) s1
      exec (.heartbeat dt i h) s
        = .next (if l.started then s2 else laneStarts i ⟨h.major, h.minor, h.patch, h.format⟩ s2))
    ∧ (∀ h : Heartbeat, h.crcOk = false ∨ (∃ b, l.hbBeat = some b ∧ h.beat ≤ b) ∨ s.lanes.silent = true →
      exec (.heartbeat dt i h) s = .next s1)
    ∧ (s.lanes.silent = false → l.state ≠ .off → l.state ≠ .booting → l.hbAt + 2910 * qUs ≤ s.now.el + dt →
      exec (.heartbeatTimeout dt i) s = .next (laneFails i true s1)))
  ∧ (∀ (dt : Nat) (i : Fin 2) (s : State),
    (∀ w, s.lanes.startW = some w →
      let s1 := (reachEl (w + 3500 * qMs) s).upLanes (fun l => { l with preferOver := true })
      exec .preferredLaneTimeout s
        = .next (if s.lanes.recto.started ∧ s.lanes.recto.state = .booting then becomeActive 0 s1
            else if s.lanes.verso.started ∧ s.lanes.verso.state = .booting then becomeActive 1 s1 else s1))
    ∧ (let l := laneOf s i
       l.state = .booting → l.started = false → l.inReset = false →
       exec (.laneStartTimeout i) s = .next (startFails i (reachEl (l.bootAt + 3500 * qMs) s))
       ∧ exec (.laneImageLoaded dt i true) s = .next (upLane i (fun l => { l with loaded := true }) (tick dt s))
       ∧ exec (.laneImageLoaded dt i false) s = .next (startFails i (tick dt s))))

/-- SIGNATURE: agree, mismatch, absent or kept. Rule R46, R49, R61, R62. -/
def Obligations.SignatureEffect : Prop :=
  ∀ (dt : Nat) (i : Fin 2) (beat sig : Nat) (ok : Bool) (s : State),
    let s1 := tick dt s
    let compares := signing s i = true ∧ signing s (other i) = true ∧ s.lanes.suspended = false ∧ s.lanes.silent = false
    let k := beat % 2 ^ 32
    let theirs := (laneOf s (other i)).sigs
    let earlier := fun (x : Nat × Option Nat) => ok && beatBefore x.1 k
    let s2 := absentBeats (theirs.filter (fun x => earlier x && x.2.isSome)).length
      (upLane (other i) (fun l => { l with sigs := l.sigs.filter (fun x => !earlier x && x.1 != k) }) s1)
    let kept := fun (v : Option Nat) => upLane i (fun l => { l with
      sigs := if l.sigs.length < 16 then l.sigs ++ [(k, v)] else (l.sigs ++ [(k, v)]).drop 1 })
    (compares →
      (∀ v, theirs.find? (fun x => x.1 == k) = some (k, some v) →
        exec (.signature dt i beat sig ok) s = .next (if ok = false then absentBeats 1 s2
          else if v = sig then agreeBeat s2 else mismatchBeat s2))
      ∧ (theirs.find? (fun x => x.1 == k) = some (k, none) → exec (.signature dt i beat sig ok) s = .next s2)
      ∧ (theirs.find? (fun x => x.1 == k) = none →
        exec (.signature dt i beat sig ok) s
          = .next (if ok then kept (some sig) s2 else kept none (absentBeats 1 s2))))
    ∧ (¬compares → exec (.signature dt i beat sig ok) s = .next s1)

/-- The counts of a beat that agrees and of one that mismatches. Rule R46, R49, R61, R62. -/
def Obligations.MismatchCounts : Prop :=
  ∀ s : State,
    ((agreeBeat s).lanes.mismatch = 0 ∧ (agreeBeat s).lanes.agree = satAdd 32 s.lanes.agree 1
      ∧ (agreeBeat s).lanes.recto.agreeRun = s.lanes.recto.agreeRun + 1
      ∧ (agreeBeat s).lanes.verso.agreeRun = s.lanes.verso.agreeRun + 1
      ∧ (agreeBeat s).lanes.selector = s.lanes.selector)
    ∧ (let t := mismatchBeat s
       (∀ i, (laneOf s i).state ≠ .off ∧ ((laneOf s i).state = .rebuilding → (laneOf s i).attempt < 3)) →
       t.lanes.mismatch = min 8 (s.lanes.mismatch + 1) ∧ t.lanes.agree = 0
       ∧ t.lanes.mismatchTotal = satAdd 32 s.lanes.mismatchTotal 1
       ∧ t.lanes.recto.agreeRun = 0 ∧ t.lanes.verso.agreeRun = 0
       ∧ (s.lanes.mismatch + 1 < 8 ∨ (∃ i, (laneOf s i).state = .shadow) →
         t.lanes.suspended = s.lanes.suspended ∧ t.lanes.selfcheck = s.lanes.selfcheck)
       ∧ (7 ≤ s.lanes.mismatch → (∀ i, (laneOf s i).state ≠ .shadow) →
         t.lanes.suspended = true ∧ t.lanes.selfcheck = true
         ∧ t.lanes.selfcheckAt = s.now.el ∧ t.lanes.recto.verdict = none ∧ t.lanes.verso.verdict = none))

/-- The verdicts of a self-check, and the Curator's watchdog, status and silence. Rule R49, R51, R516. -/
def Obligations.SelfcheckAndCuratorEffect : Prop :=
  (∀ (dt : Nat) (i : Fin 2) (pass : Bool) (s : State), s.lanes.selfcheck = true →
    let s1 := upLane i (fun l => { l with verdict := some (l.verdict.getD pass) }) (tick dt s)
    ((laneOf s (other i)).verdict = none → exec (.selfcheckVerdict dt i pass) s = .next s1)
    ∧ ((laneOf s (other i)).verdict ≠ none → exec (.selfcheckVerdict dt i pass) s = .next (applyVerdicts s1))
    ∧ exec .selfcheckTimeout s = .next (applyVerdicts (reachEl (s.lanes.selfcheckAt + 2 * qMs) s)))
  ∧ (∀ (dt : Nat) (s : State),
    let s1 := tick dt s
    (awake s = true →
      let s2 := match s.lanes.switch with | some w => refuseSwitch w s1 | none => s1
      exec (.curatorWatchdog dt) s
        = .next (raise 18 0xFFFF 0 (s2.upLanes (fun l => { l with
            silent := true, shown := if l.silent then l.shown else laneView l
            restarted := true, mismatch := 0, agree := 0, suspended := false, selfcheck := false, switch := none
            recto := { l.recto with sigs := [], hbBeat := none, hbAt := s.now.el + dt, agreeRun := 0, known := false }
            verso := { l.verso with sigs := [], hbBeat := none, hbAt := s.now.el + dt, agreeRun := 0, known := false } }))))
    ∧ (∀ i, ∃ t, exec (.curatorStatus dt i) s = .next t ∧ t.lanes.silent = false
      ∧ (laneOf t i).statusAt = s.now.el + dt ∧ (laneOf t i).linkLost = false
      ∧ (laneOf t i).state = (laneOf s i).state ∧ laneOf t (other i) =
        { laneOf s (other i) with hbAt := if s.lanes.silent then s.now.el + dt else (laneOf s (other i)).hbAt })
    ∧ (∀ i, (laneOf s i).started = true → (laneOf s i).linkLost = false →
      let s2 := upLane i (fun l => { l with linkLost := true }) (reachEl ((laneOf s i).statusAt + 3 * qMs) s)
      exec (.curatorLinkTimeout i) s = .next (if s.lanes.selector = some i then raise 19 0xFFFF 0 s2 else s2)))

/-- TAKEOVER_ACK, SWITCH_BEAT and OVERLAP_WINDOW_END. Rule R51, R54, R55, R56, R59, R63. -/
def Obligations.SwitchEffect : Prop :=
  ∀ (dt : Nat) (s : State),
    (∀ w i, s.lanes.switch = some w → w.dest = i → w.kS = none → s.lanes.silent = false →
      exec (.takeoverAck dt i) s = .next ((tick dt s).upLanes (fun l => { l with
        switch := some { w with kS := some (beatAt ((tick dt s).now.ft + 100 * qUs)) } })))
    ∧ (∀ w kS, s.lanes.switch = some w → w.kS = some kS →
      let s1 := reach kS s
      let st := (laneOf s w.dest).state
      let eligible := st = .standby ∨ (st = .shadow ∧ w.post ≠ none ∧ w.why = .promote)
      let s2 := refuseSwitch w (s1.upLanes (fun l => { l with switch := none }))
      (s.lanes.silent = true → exec .switchBeat s = .next s1)
      ∧ (s.lanes.silent = false →
        (eligible → exec .switchBeat s = .next (switchTo w kS (activeLane s) s1))
        ∧ (¬eligible → w.why ≠ .failure ∨ activeLane s = none → exec .switchBeat s = .next s2)
        ∧ (¬eligible → w.why = .failure → ∀ o, activeLane s = some o →
          exec .switchBeat s = .next (noLane o false s2))))
    ∧ (∀ t o, s.lanes.overlap = some (t, o) →
      let c := canOverlapEnd (reach t s)
      let m := modemOverlapEnd c.1
      let s1 := m.1.upLanes (fun l => { l with overlap := none, discarded := satAdd 16 l.discarded (c.2 + m.2) })
      let s2 := if (laneOf s1 o).state = .booting ∧ (laneOf s1 o).inReset = true ∧ (laneOf s1 o).rails = [] then
          releaseLane o false s1 else s1
      exec .overlapWindowEnd s = .next (raiseX 12 0xFFFF 0 0 [] s2.now.ft (t - 10 * qMs) s2))

/-- Rebuilding a lane, and the lane commands. Rule R52, R57, R59, R60, R61, R63, R65, R66, R540. -/
def Obligations.LaneCommandsEffect : Prop :=
  (∀ (dt : Nat) (i : Fin 2) (s : State),
    let s1 := tick dt s
    (activeLane s ≠ none →
      (∀ ahead, inPhase s i .none = true → exec (.checkpointRequest dt i ahead) s
        = .next (upLane i (fun l => { l with
            phase := .requested, kC := nextMul qBeat s1.now.ft + (ahead - 1) * qBeat }) s1))
      ∧ (inPhase s i .requested = true → exec (.checkpointCapture i) s
        = .next (upLane i (fun l => { l with
            phase := .captured, ckpt := some (enginesOf (reach (laneOf s i).kC s)) }) (reach (laneOf s i).kC s))))
    ∧ (inPhase s i .captured = true →
      exec (.checkpointReceived dt i) s = .next (upLane i (fun l => { l with phase := .received }) s1))
    ∧ (inPhase s i .received = true →
      exec (.checkpointLoaded dt i) s = .next (upLane i (fun l => { l with
        phase := .replaying, own := l.ckpt, ckpt := none }) s1))
    ∧ (inPhase s i .replaying = true → exec (.replayJoinsLive dt i) s
      = .next (upLane i (fun l => { l with
        phase := .live, agreeRun := 0, sigs := [], journal := none, own := none }) s1))
    ∧ ((laneOf s i).state = .rebuilding → (laneOf s i).phase ≠ .live →
      exec (.journalFull dt i) s = .next (rebuildFails i s1)
      ∧ exec (.rebuildTimeout i) s = .next (rebuildFails i (reachEl ((laneOf s i).b0 + 30 * qSec) s)))
    ∧ ((laneOf s i).state = .rebuilding → (laneOf s i).phase = .live → 2000 ≤ (laneOf s i).agreeRun →
      exec (.standbyReady i) s
        = .next (laneStatus ((laneTo i .standby (upLane i (fun l => { l with attempt := 0 }) s)).upLanes (fun l =>
            { l with firstStandby := l.firstStandby.or (some s.now.el) })))))
  ∧ (∀ (dt : Nat) (p : Post) (s : State),
    (Passes scLaneCmd false p s →
      let i := laneNamed p
      (let x := arrive dt 0x0203 0x0D p decideAt s
       let able := (laneOf s i).state = .standby ∧ (laneOf s (other i)).state = .active ∧ s.lanes.switch = none
         ∧ s.lanes.silent = false ∧ (laneOf s i).known = true
       (able → s.lanes.mismatch = 0 →
         exec (.kdLaneSwap dt p) s = .next (orderSwitch .swap i (some (p, x.2.acc)) x.1))
       ∧ (able → s.lanes.mismatch ≠ 0 → exec (.kdLaneSwap dt p) s = .next (x.2.refuse 0x14 0 x.1))
       ∧ (¬able → exec (.kdLaneSwap dt p) s = .next (x.2.refuse 8 0 x.1)))
      ∧ (let x := arrive dt 0x0204 0x0D p decideAt s
         let able := (laneOf s i).state = .shadow ∧ (laneOf s (other i)).state = .active ∧ s.lanes.switch = none
           ∧ s.lanes.silent = false ∧ (laneOf s i).known = true
         let held := s.cat.cats.any (fun c => c.format == (laneOf s i).ver.format)
         (able → held = true → 2000 ≤ (laneOf s i).hbBeats →
           exec (.kdLanePromote dt p) s = .next (orderSwitch .promote i (some (p, x.2.acc)) x.1))
         ∧ (able → held = true → (laneOf s i).hbBeats < 2000 →
           exec (.kdLanePromote dt p) s = .next (x.2.refuse 0x15 0 x.1))
         ∧ (able → held = false → exec (.kdLanePromote dt p) s = .next (x.2.refuse 0x0C 0 x.1))
         ∧ (¬able → exec (.kdLanePromote dt p) s = .next (x.2.refuse 8 0 x.1))))
    ∧ (∀ t, s.lanes.firstStandby = some t → s.lanes.autoDone = false →
      let s1 := (reachEl (t + 600 * qSec) s).upLanes (fun l => { l with autoDone := true })
      (∀ a, activeLane s = some a → cfg s 0x0201 0 0x21 1 = 1 → (laneOf s (other a)).state = .standby →
        (laneOf s (other a)).known = true → s.lanes.mismatch = 0 → s.lanes.switch = none → s.lanes.silent = false →
        exec .autoSwap s = .next (orderSwitch .swap (other a) none s1))
      ∧ (cfg s 0x0201 0 0x21 1 ≠ 1 ∨ activeLane s = none → exec .autoSwap s = .next s1))
    ∧ (∀ n : Fin 4,
      let path := nth OutPath.valve [.valve, .dq, .can, .modem] n
      let s1 := tick dt s
      (∀ x, s.lanes.tried.find? (fun x => x.1 == path) = some x →
        let s2 := reachEl (x.2 + qBeat) s1
        exec (.outputPathCheck dt n) s
        = .next (raiseX 16 0xFFFF 0 3 [] s2.now.ft s2.now.ft (s2.upLanes (fun l => { l with
            unproven := l.unproven.filter (· != path), tried := l.tried.filter (fun x => x.1 != path)
            deadPaths := l.deadPaths ++ [path] }))))
      ∧ (s.lanes.tried.find? (fun x => x.1 == path) = none → exec (.outputPathCheck dt n) s = .next s1))
    ∧ (s.pow.state = .serving → exec .laneStatusPeriod s
      = .next (laneStatusAt s.lanes.statusNext ((reach s.lanes.statusNext s).upLanes (fun l =>
          { l with statusNext := nextMul (1000 * qBeat) s.lanes.statusNext })))))

/-- BEAT and BEAT_BATCH_CLOSE. Rule R45, R47, R115, R172, R173, R471. -/
def Obligations.BeatEffect : Prop :=
  ∀ s : State, s.pow.state = .serving →
    (let b := s.lanes.beatNext
     let s1 := (reach b s).upLanes (fun l => { l with beatNext := nextMul qBeat b })
     let s2 := camBeat b (modemBeat b (canBeat b (fieldBeat b s1)))
     let s3 := vectorOf (b / qBeat) (displayBeat (s2.pos.mode == 3) s2)
     exec .beat s
       = .next (if s3.pow.sub = .holdup then s3 else s3.upCat (fun c => { c with flash := c.cats.map Catalog.settled })))
    ∧ (let b := s.lanes.beatNext - qBeat
       let s1 := (reach (b + 10 * qUs) s).upSig (fun g => { g with pend := [], closed := b })
       exec .beatBatchClose s = .next (canBatch (s.sig.pend.foldl (fun s x => closeInput b x s) s1)))

/-- LEDGER_WRITE_COMPLETE, COALESCE_WINDOW_END, KD_LEDGER_COPY, LEDGER_COPY_DONE, KD_LEDGER_CLEAR and
LEDGER_CLEAR_DONE. Rule R433, R438, R440, R441, R443, R444, R446. -/
def Obligations.LedgerCommandsEffect : Prop :=
  (∀ (dt : Nat) (s : State), clearing s.hub.lg = false →
    exec (.ledgerWriteComplete dt) s = .next (writeNext (tick dt s)))
  ∧ (∀ (src inst : Nat) (s : State) (w : Window),
    s.hub.ev.windows.find? (fun w => w.src == src && w.inst == inst) = some w →
    exec (.coalesceWindowEnd src inst) s = .next (endWindow w w.endAt w.endAt 0 (reach w.endAt s)))
  ∧ (∀ (dt : Nat) (p : Post) (s : State), Passes scLedgerCopy false p s →
    let x := arrive dt 0x1003 0x0F p decideAt s
    exec (.kdLedgerCopy dt p) s
      = .next (ledgerNext (upLedger (fun g => { g with
          waiting := g.waiting ++ [.copy (fld p.body 0x20 2) (fld p.body 0x24 4) x.2.acc p] }) x.1)))
  ∧ (∀ (dt : Nat) (p : Post) (s : State), Passes ⟨[32], [fu 0x20 2 0xC1EA 0xC1EA 0xC1EA], fun _ => []⟩ false p s →
    let x := arrive dt 0x1004 0x0F p decideAt s
    exec (.kdLedgerClear dt p) s
      = .next (ledgerNext (upLedger (fun g => { g with waiting := g.waiting ++ [.clear x.2.acc p] }) x.1)))
  ∧ (∀ (dt first count acc head : Nat) (p : Post) (s : State), s.hub.lg.cmd = some (.copy first count acc p, head) →
    let s1 := tick dt s
    let g := s.hub.lg
    let body := mkBody 32 ([(0x20, 2, first), (0x24, 4, count), (0x28, 4, head), (0x2C, 4, g.headSeq)]
      ++ g.drops.zipIdx.map (fun x => (0x30 + 4 * x.2, 4, x.1)))
    let data := (List.range count).flatMap (fun n => g.slotBytes (first + n))
    let s2 := emitFull 0x1005 16 0x0F 0x20 none (genAt s1 s1.now.ft) acc s1.now.ft body (some data) s1
    exec (.ledgerCopyDone dt) s
      = .next (ledgerNext (upLedger (fun g => { g with cmd := none })
          (complete 0x1003 0x0F p acc (accepted count s1.now.ft) s2))))
  ∧ (∀ (dt acc n : Nat) (p : Post) (s : State), s.hub.lg.cmd = some (.clear acc p, n) →
    let s1 := tick dt s
    let c := ctxOf s1
    let e := c.cat.evSet 117
    let r : Raising := ⟨117, 0xFFFF, 0, 0, s.hub.lg.dropData, s1.now.ft, s1.now.ft⟩
    let erased := (s.hub.lg.slots.filter (fun x => decide (1024 ≤ x.1))).length
    let s2 := upLedger (fun g => { g with
      cmd := none, slots := g.slots.filter (fun x => decide (x.1 < 1024)), drops := [0, 0, 0, 0] }) s1
    let vec := if e.vec = 0xFF ∨ commanding s = false then none else some e.vec
    let s3 := writeRecord (ledgerRec c r 1 (unlockedFlag c s1.now.ft) e.sev) (if e.toRing then none else vec) s2
    let s4 := if e.toRing && commanding s3 then
        ask (.deliver (eventRec c r 1 (unlockedFlag c s1.now.ft) e.sev vec)) s3
      else s3
    exec (.ledgerClearDone dt) s
      = .next (ledgerNext (complete 0x1004 0x0F p acc (accepted erased s1.now.ft) s4)))

/-- A Ledger write never changes a Founding record. Rule R437, R439, R440, R446. -/
def Obligations.LedgerKeepsTheFirstShelf : Prop :=
  ∀ (g h : Ledger) (r : LRec),
    g.slots.Pairwise (fun a b => a.1 < b.1) → (∀ x ∈ g.slots, x.1 < 1024 → x.1 < g.founding) → g.founding ≤ 1024 →
    g.write r = some h →
    h.slots.filter (fun x => decide (x.1 < g.founding)) = g.slots.filter (fun x => decide (x.1 < g.founding))
    ∧ h.slots.Pairwise (fun a b => a.1 < b.1) ∧ (∀ x ∈ h.slots, x.1 < 1024 → x.1 < h.founding) ∧ h.founding ≤ 1024
    ∧ g.founding ≤ h.founding ∧ h.headSeq = nextSeq g.headSeq ∧ h.headSeq ≠ 0
    ∧ (∃ x ∈ h.slots, x.1 = h.headSlot ∧ x.2.seq = h.headSeq)

/-- The image commands, and the confirmation of a TRY slot. Rule R89, R103, R449, R450, R454, R455, R456,
R457. -/
def Obligations.ImagesEffect : Prop :=
  ((∀ (dt : Nat) (p : Post) (segs : List Segment) (s : State),
    let q := { p with flags := if p.flags.testBit 5 then p.flags - 32 else p.flags + 2 }
    Passes scImageStore true q s →
    let x := arrive dt 0x1101 0x10 q decideAt s
    exec (.imageStore dt p segs) s = .next (passSegments p segs
      (imageQueue ⟨0, x.2.acc, { q with flags := p.flags % 2 }, segs⟩ x.1)))
  ∧ (∀ (dt : Nat) (p : Post) (s : State), Passes (scImageAct 4) true p s →
    let x := arrive dt 0x1101 0x10 p decideAt s
    exec (.imageSelect dt p) s = .next (imageQueue ⟨2, x.2.acc, p, []⟩ x.1))
  ∧ (∀ (dt : Nat) (p : Post) (s : State), Passes (scImageAct 2) true p s →
    let x := arrive dt 0x1101 0x10 p (fun acc => beatAt (acc + 2 * qMs)) s
    exec (.imageRestart dt p) s = .next (imageQueue ⟨1, x.2.acc, p, []⟩ x.1))
  ∧ (∀ (c : ImgCmd) (b : Nat) (s : State), c.action = 1 →
    let lane : Fin 2 := if fld c.post.body 0x21 1 = 0 then 0 else 1
    let done := fun (d : Done) (s : State) => complete 0x1101 0x10 c.post c.stamp d s
    imageCarry c b s
      = if (laneOf s lane).state = .active then done (refusedWith 8 0 b) s
        else done (accepted 0 b) (laneStatus (resetLane lane s)))
  ∧ (∀ (dt : Nat) (sha : List Byte) (s : State) (n acc : Nat) (p : Post), s.img.store = some (n, p, acc) →
    let s1 := (tick dt s).upImg (fun m => { m with store := none })
    let s2 := match slotIn s (n / 2) .try_ with | some o => putSlot o .stored s1 | none => s1
    let s3 := if sha = (slotAt s n).hdr.sha then
        complete 0x1101 0x10 p acc (accepted n s1.now.ft) (raise 120 n 0 (setSlot n .try_ s2))
      else
        complete 0x1101 0x10 p acc (refusedWith 0x1107 0 (beatAt s1.now.ft)) (raise 119 n 0x1107 (setSlot n .empty s1))
    exec (.imageBodyWritten dt sha) s = .next (imageNext s3.img.waiting.length s3)))
  ∧ (∀ (s : State),
    (∀ i : Fin 2, (slotAt s (laneOf s i).slot).state = .try_ → (laneOf s i).started = true →
      (laneOf s i).state ≠ .off → (laneOf s i).state ≠ .shadow → 2000 ≤ (laneOf s i).hbBeats →
      exec (.imageConfirmLane i) s = .next (confirmSlot (laneOf s i).slot s))
    ∧ (s.pow.state = .serving →
      ((slotAt s s.img.feSlot).state = .try_ → exec (.imageConfirmTimer true) s
        = .next (confirmSlot s.img.feSlot (reachEl (s.img.feSince + 60 * qSec) s)))
      ∧ ((slotAt s s.img.curSlot).state = .try_ → exec (.imageConfirmTimer false) s
        = .next (confirmSlot s.img.curSlot (reachEl (s.img.curSince + 60 * qSec) s))))
    ∧ (awake s = true → ∀ dt c,
      (slotIn s 3 .try_ = some s.img.feSlot → slotIn s 3 .confirmed = some c →
        exec (.curatorStartFallback dt true) s = .next (setSlot s.img.feSlot .failed
          ((tick dt s).upImg (fun m => { m with feSlot := c, feSince := s.now.el + dt }))))
      ∧ (slotIn s 2 .try_ = some s.img.curSlot → slotIn s 2 .confirmed = some c →
        exec (.curatorStartFallback dt false) s = .next (setSlot s.img.curSlot .failed
          ((tick dt s).upImg (fun m => { m with curSlot := c, curSince := s.now.el + dt }))))))

/-- KD_CAT_OPEN, KD_CAT_COMMIT, KD_CAT_ABORT and CAT_TRANSACTION_TIMEOUT. Rule R114, R115, R116, R546. -/
def Obligations.TransactionEffect : Prop :=
  (∀ (dt : Nat) (p : Post) (s : State), Passes scCatOpen true p s →
    let x := arrive dt 0x0401 0x13 p decideAt s
    let base := fld p.body 0x20 4
    let f := fld p.body 0x24 2
    let mode := fld p.body 0x26 1
    let lane := formatMine s f = true ∨ formatShadow s f = true
    (s.cat.txn ≠ none → exec (.kdCatOpen dt p) s = .next (x.2.refuse 0x0F 0 x.1))
    ∧ (s.cat.txn = none → 1 < mode → exec (.kdCatOpen dt p) s = .next (x.2.refuse 7 0x26 x.1))
    ∧ (s.cat.txn = none → mode ≤ 1 → ¬lane → exec (.kdCatOpen dt p) s = .next (x.2.refuse 0x0C 0 x.1))
    ∧ (s.cat.txn = none → mode ≤ 1 → lane → base ≠ 0xFFFFFFFF → base ≠ (catOf x.1 f).latestGen →
      exec (.kdCatOpen dt p) s = .next (x.2.refuse 0x0D 0 x.1))
    ∧ (s.cat.txn = none → mode ≤ 1 → lane → base = 0xFFFFFFFF ∨ base = (catOf x.1 f).latestGen →
      exec (.kdCatOpen dt p) s
        = .next (complete 0x0401 0x13 p x.2.acc ⟨if formatMine s f then 0 else 5, 0, 0, 0, 0, x.2.bound⟩
            (x.1.upCat (fun c => { c with txn := some {
              ring := p.ring, corr := p.corr, seq := p.seq, acc := x.2.acc, cmp := x.2.cmp, format := f
              full := mode == 1, shadow := !formatMine s f, posted := 0, recs := [], seqs := [], bytes := 0
              failed := false, firstBad := 0 } })))))
  ∧ (∀ (dt : Nat) (p : Post) (s : State), Passes ⟨[32], [fu 0x20 4 0 (2 ^ 32 - 1) 0], fun _ => []⟩ true p s →
    let x := arrive dt 0x0402 0x13 p decideAt s
    (txnFor x.1 p.ring x.2.cmp = none → exec (.kdCatCommit dt p) s = .next (x.2.refuse 0x0E 0 x.1))
    ∧ (∀ t, txnFor x.1 p.ring x.2.cmp = some t →
      let s1 := closeTxn x.1
      let base := catAhead x.1 t.format
      let breach := refusalOf t.seqOf p.seq (breaches x.1.valve.pairMask (pipesOn x.1)
        { base with recs := committed t.full t.recs base.recs })
      let at_ := beatAt (x.2.cmp + 2 * qMs)
      let g := nextGen (catOf x.1 t.format).latestGen
      let good := t.failed = false ∧ fld p.body 0x20 4 = t.posted ∧ breach = none
      let s2 := schedule ⟨at_, t.format, false, t.full, t.recs, g, x.2.acc, x.2.cmp, p.ring⟩
        (upCatalog t.format (fun c => { c with latestGen := g }) s1)
      (t.shadow = false → t.failed = true → exec (.kdCatCommit dt p) s
        = .next (complete 0x0402 0x13 p x.2.acc ⟨4, 0x10, 0, t.firstBad, 0, x.2.bound⟩ s1))
      ∧ (t.shadow = false → t.failed = false → fld p.body 0x20 4 ≠ t.posted → exec (.kdCatCommit dt p) s
        = .next (complete 0x0402 0x13 p x.2.acc ⟨4, 0x13, 0, 0, 0, x.2.bound⟩ s1))
      ∧ (t.shadow = false → t.failed = false → fld p.body 0x20 4 = t.posted → ∀ r d, breach = some (r, d) →
        exec (.kdCatCommit dt p) s = .next (complete 0x0402 0x13 p x.2.acc ⟨4, r, 0, d, 0, x.2.bound⟩ s1))
      ∧ (t.shadow = false → good →
        exec (.kdCatCommit dt p) s = .next (complete 0x0402 0x13 p x.2.acc ⟨0, 0, 0, g, 0, at_⟩ s2))
      ∧ (t.shadow = true → good →
        exec (.kdCatCommit dt p) s = .next (complete 0x0402 0x13 p x.2.acc ⟨5, 0, 0, 0, 0, at_⟩ s2))
      ∧ (t.shadow = true → ¬good →
        exec (.kdCatCommit dt p) s = .next (complete 0x0402 0x13 p x.2.acc ⟨5, 0, 0, 0, 0, at_⟩ s1))))
  ∧ (∀ (dt : Nat) (p : Post) (s : State), Passes ⟨[32], [], fun _ => []⟩ true p s →
    let x := arrive dt 0x0403 0x13 p decideAt s
    (txnFor x.1 p.ring x.2.cmp = none → exec (.kdCatAbort dt p) s = .next (x.2.refuse 0x0E 0 x.1))
    ∧ (txnFor x.1 p.ring x.2.cmp ≠ none → exec (.kdCatAbort dt p) s = .next (x.2.accept 0 (closeTxn x.1))))
  ∧ (∀ (s : State) (t : Txn), s.cat.txn = some t →
    let b := decideAt (t.cmp + 10 * qSec)
    exec .catTransactionTimeout s = .next (abortTxn 0x12 b (reach b s)))

/-- Settings records outside and inside a transaction, KD_CAT_READ and RESTORE_FACTORY. Rule R106, R111, R113,
R114, R115, R117, R462. -/
def Obligations.SettingsEffect : Prop :=
  (∀ k ∈ [(Instr.kdTimeSettings, 0x0101), (.kdLaneSettings, 0x0201), (.kdPassageSettings, 0x0501),
      (.kdCropSettings, 0x0502), (.kdLoopSettings, 0x0601), (.kdGroupSettings, 0x0602), (.kdValveSettings, 0x0701),
      (.kdMapSettings, 0x0801), (.kdGnssSettings, 0x0901), (.kdFusionSettings, 0x0A01), (.kdCameraSettings, 0x0B01),
      (.kdFieldSettings, 0x0C01), (.kdCanSettings, 0x0D01), (.kdCanObjectSettings, 0x0D02), (.kdModemSettings, 0x0E01),
      (.kdDisplaySettings, 0x0F01), (.kdEventSettings, 0x1001), (.kdCalUser, 0x1102), (.kdPowerSettings, 0x1201)],
  ∀ (dt : Nat) (p : Post) (s : State), s.pow.state = .serving →
    let x := arrive dt k.2 0x13 p decideAt s
    let refusal := recordRefusal k.2 (expectedSeq s p) p x.2.cmp x.1
    (∀ t, s.cat.txn = some t → t.ring = p.ring → x.2.cmp < t.cmp + 10 * qSec →
      (refusal = none → exec (k.1 dt p) s = .next (x.1.upCat (fun c => { c with
        txn := some ({ t with posted := t.posted + 1 }.put ⟨k.2, keyOf k.2 p.body, p.body⟩ p.seq) })))
      ∧ (∀ r, refusal = some r →
        let s1 := x.1.upCat (fun c => { c with txn := some { t with
          posted := t.posted + 1, failed := true, firstBad := if t.failed then t.firstBad else p.seq } })
        exec (k.1 dt p) s = .next (if t.shadow then s1 else x.2.refuse r.1 r.2 s1)))
    ∧ (txnFor x.1 p.ring x.2.cmp = none → ∀ r, refusal = some r →
      exec (k.1 dt p) s = .next (x.2.refuse r.1 r.2 x.1)))
  ∧ ((∀ (dt : Nat) (p : Post) (s : State),
    Passes ⟨[32], [fu 0x20 2 0 65535 0, fu 0x22 1 0 1 0], fun b =>
      badIf (decide (fld b 0x20 2 ≠ 0) && !settingsKinds.contains (fld b 0x20 2)) 0x20⟩ false p s →
    let x := arrive dt 0x0404 0x13 p decideAt s
    let c := curCat x.1
    let kinds := if fld p.body 0x20 2 = 0 then settingsKinds else [fld p.body 0x20 2]
    exec (.kdCatRead dt p) s
      = .next (x.2.accept 0 ((kinds.flatMap (readOf c (fld p.body 0x22 1 == 1))).foldl
          (fun s r => emitFull r.1 18 0x13 0 none c.gen x.2.acc c.genEff r.2 none s) x.1)))
  ∧ (∀ (s : State) (x : Sched) (r : List Sched), s.cat.sched = x :: r → x.restore = false →
    exec .commitBoundary s = .next (applySched x ((reach x.boundary s).upCat (fun c => { c with sched := r }))))
  ∧ (∀ (dt : Nat) (p : Post) (s : State), Passes scRestore false p s →
    let x := arrive dt 0x1103 0x10 p (fun acc => beatAt (acc + 2 * qMs)) s
    let moving := s.ctl.loops.any (fun l => l.state != .off)
    (s.cat.txn ≠ none → exec (.kdRestoreFactory dt p) s = .next (x.2.refuse 0x0F 0 x.1))
    ∧ (s.cat.txn = none → moving = true → exec (.kdRestoreFactory dt p) s = .next (x.2.refuse 8 0 x.1))
    ∧ (s.cat.txn = none → moving = false →
      let s1 := ((fmtOf x.1 :: x.1.cat.cats.map (·.format)).eraseDups).foldl (fun s f =>
        let g := nextGen (catOf s f).latestGen
        schedule ⟨x.2.bound, f, true, false, [], g, x.2.acc, x.2.cmp, p.ring⟩
          (upCatalog f (fun c => { c with latestGen := g }) s)) x.1
      exec (.kdRestoreFactory dt p) s
        = .next (complete 0x1103 0x10 p x.2.acc
            ⟨0, 0, 0, (catOf s1 (fmtOf s1)).latestGen, 0, x.2.bound⟩ s1)))
  ∧ (∀ (s : State) (x : Sched) (r : List Sched), s.cat.sched = x :: r → x.restore = true →
    let due := s.cat.sched.takeWhile (fun y => y.restore && y.acc == x.acc && y.boundary == x.boundary)
    let s1 := (reach x.boundary s).upCat (fun c => { c with sched := c.sched.drop due.length })
    exec .restoreBoundary s = .next (raise 123 0xFFFF 0 (due.foldl (fun s y => applySched y s) s1))))

/-- The samples and the commands of the control loops. Rule R168, R177, R184, R192, R193, R197, R198, R210,
R213, R214, R223. -/
def Obligations.LoopsEffect : Prop :=
  (∀ (n : Fin 128) (s : State),
    let l := lp s n
    (l.owesFirst = none → ∀ law, l.law = some law →
      exec (.loopSample n) s = .next (sampleAt n l.next (reach l.next s)))
    ∧ (l.owesFirst = none → l.law = none → exec (.loopSample n) s = .next s)
    ∧ (∀ o, l.owesFirst = some o →
      let s1 := handTo n o (upLoop n (fun l => { l with owed := none }) (reach o.at_ s))
      (l.law = none ∨ o.at_ ≠ l.next → exec (.loopSample n) s = .next s1)
      ∧ (∀ law, l.law = some law → o.at_ = l.next →
        exec (.loopSample n) s = .next (sampleAt n l.next (reach l.next s1))))
    ∧ (∀ t : Nat,
      let s1 := decideAround n t s
      let t1 := nextBoundary { lp s1 n with law := ((curCat s1).find 0x0601 n).or (lp s1 n).law } t
      (groupOf s1 n = none → sampleAt n t s = sampleSlots [n.val] none t t1 s1)
      ∧ (∀ g, groupOf s1 n = some g →
        (evaluates s1 n g t = true → sampleAt n t s = sampleSlots (membersAt s1 g t) (some g) t t1 s1)
        ∧ (evaluates s1 n g t = false → sampleAt n t s = waitSlots (membersAt s1 g t) t t1 s1)))
    ∧ (l.actTimed = true → l.actLeft = 0 → exec (.actionHoldExpiry n) s = .next (releaseAction n s.now.ft s))
    ∧ (l.actTimed = false ∨ l.actLeft ≠ 0 → exec (.actionHoldExpiry n) s = .next s))
  ∧ (∀ (dt : Nat) (p : Post) (s : State),
    let n := fld p.body 0x20 1
    (Passes scSetpoint true p s →
      let x := arrive dt 0x0603 0x0A p decideAt s
      let y := arrive dt 0x0603 0x0A p id s
      ((lp s n).law = none → exec (.kdSetpoint dt p) s = .next (x.2.refuse 8 0 x.1))
      ∧ ((lp s n).law ≠ none → exec (.kdSetpoint dt p) s = .next (upLoop n (fun l => { l with
          orders := l.orders ++ [⟨1, fldS p.body 0x24 4, y.2.acc, y.2.cmp, some p⟩] }) y.1)))
    ∧ (Passes scLoopEnable true p s →
      let x := arrive dt 0x0604 0x0A p decideAt s
      let wait := fun (action : Nat) => upLoop n (fun l => { l with
        cmds := l.cmds ++ [⟨action, p, x.2.acc, x.2.bound⟩] }) x.1
      let idle := (lp s n).law = none
      let law := (curCat x.1).find 0x0601 n
      (idle → exec (.loopDisable dt p) s = .next (x.2.accept 0 x.1))
      ∧ (¬idle → exec (.loopDisable dt p) s = .next (wait 0))
      ∧ (law = none → exec (.loopEnable dt p) s = .next (x.2.refuse 8 0 x.1)
        ∧ exec (.loopClearSticky dt p) s = .next (x.2.refuse 8 0 x.1))
      ∧ (∀ b, law = some b → exec (.loopClearSticky dt p) s = .next (wait 2)
        ∧ exec (.loopEnable dt p) s = .next (if fld b 0x2A 2 = 0xFFFF then x.2.refuse 8 0 x.1 else wait 1))))

/-- TAP_INSTANT, ORPHAN_TIMEOUT, EST_WINDOW_END, KD_CROP_CHANGE and PASSAGE_STATUS_PERIOD. Rule R126, R131,
R140, R144, R148, R154. -/
def Obligations.PassageEffect : Prop :=
  (∀ (bad : List MapUnit) (s : State),
    let t := s.pas.tapNext
    let laid := fun (s : State) => s.upPas (fun p => { p with tapAt := t, tapNext := nextMul qTap t })
    (commanding s = true →
      exec (.tapInstant bad) s = .next (laid (tapWork bad t (s.pas.tapNum + 1) (reach t s))))
    ∧ (commanding s = false → exec (.tapInstant bad) s = .next (laid (reach t s))))
  ∧ (∀ s : State,
    (∀ o, s.pas.orphan = some o →
      let s1 := reachEl (o.openEl + 10 * qSec) s
      let r := closeOrphan s1.now.ft false s1
      exec .orphanTimeout s = .next (r.2.foldl (fun s x => mapRecord s1.now.ft x s) r.1))
    ∧ (s.pas.orphan = none → exec .orphanTimeout s = .next s))
  ∧ (∀ (n : Fin 7) (s : State),
    let t := (nth (Hop.reset (n.val + 1)) s.pas.hops n).winNext
    exec (.estWindowEnd n) s
      = .next (estClose (n.val + 1) t (nextMul (max 1 (hopCfg s (n.val + 1) 0x4E 2) * qSec) t) (reach t s)))
  ∧ (∀ (dt : Nat) (p : Post) (s : State), Passes scCropChange false p s →
    let x := arrive dt 0x0508 unitPass p decideAt s
    let at_ := fld p.body 0x28 8
    (x.2.cmp + 60 * qSec < at_ → exec (.kdCropChange dt p) s = .next (x.2.refuse 7 0x28 x.1))
    ∧ (at_ ≤ x.2.cmp + 60 * qSec →
      let change := some ⟨fld p.body 0x20 1, at_, x.2.cmp + 2 * qMs, p, x.2.acc⟩
      (s.pas.change = none →
        exec (.kdCropChange dt p) s = .next (x.1.upPas (fun q => { q with change := change })))
      ∧ (∀ c, s.pas.change = some c → exec (.kdCropChange dt p) s
        = .next ((complete 0x0508 unitPass c.post c.stamp ⟨3, 0, 0, p.corr, 0, x.2.bound⟩ x.1).upPas
            (fun q => { q with change := change })))))
  ∧ (∀ s : State,
    let t := s.pas.statusNext
    let s1 := (reach t s).upPas (fun p => { p with statusNext := nextPeriod t (chainCfg s 0x38 2) })
    exec .passageStatusPeriod s = .next (passStatus s.pas.state (max 0 s.pas.tapAt).toNat s1))

/-- KD_VALVE_PROFILE, KD_VALVE_HOLD_TRIM, KD_VALVE_OFF and VALVE_REQUEST_DECIDE. Rule R221, R222, R223, R241.
-/
def Obligations.ValveCommandsEffect : Prop :=
  (∀ k ∈ [(Instr.kdValveProfile, 0x0702, scVProfile), (.kdValveHoldTrim, 0x0703, scVTrim),
      (.kdValveOff, 0x0704, scVOff)],
    ∀ (dt : Nat) (p : Post) (s : State), Passes k.2.2 true p s →
    let x := arrive dt k.2.1 0x0B p (fun acc => acc) s
    (valveRange x.1 k.2.1 p x.2.cmp = none →
      exec (k.1 dt p) s = .next (x.1.upValve (fun v => { v with
        host := v.host ++ [⟨k.2.1, p, x.2.acc, startAt x.2.cmp (fld p.body 0x28 8)⟩] })))
    ∧ (∀ o, valveRange x.1 k.2.1 p x.2.cmp = some o →
      exec (k.1 dt p) s = .next ({ x.2 with bound := decideAt x.2.cmp }.refuse 7 o x.1)))
  ∧ (∀ (s : State) (t : Nat), earliestStart s.valve.host = some t → commanding s = true →
    let r := reach t s
    let due := s.valve.host.filter (fun h => h.start == t)
    let slots := (List.range 128).filter (toValve r t)
    let s1 := r.upValve (fun v => { v with host := v.host.filter (fun h => h.start != t) })
    exec .valveRequestDecide s = .next ((List.range 24).foldl (fun s c =>
      slots.foldl (fun s n => slotToChannel c t n s) (decideChannel t c due s)) s1))
  ∧ (∀ s : State, earliestStart s.valve.host = none ∨ commanding s = false → exec .valveRequestDecide s = .next s)

/-- The earliest requested start is the least of those that wait. Rule R223. -/
def Obligations.EarliestStartIsLeast : Prop :=
  (∀ l : List VHost, earliestStart l = none ↔ l = [])
  ∧ (∀ (l : List VHost) (t : Nat), earliestStart l = some t → (∃ h ∈ l, h.start = t) ∧ ∀ h ∈ l, t ≤ h.start)

/-- VALVE_RISE_END, VALVE_PEAK_END, VALVE_QUENCH_END, VALVE_BOOST_DEADLINE and VALVE_CHOP_PERIOD_END. Rule
R218, R220, R221, R226, R231, R232, R233, R243, R245. -/
def Obligations.ValvePhasesEffect : Prop :=
  ∀ (n : Fin 24) (dt cur ma : Nat) (w : List Sense) (m : ValveMeas) (s : State),
    let c := vch s n
    let i := nth 0 m.il (n % 4) + if isPair s n then nth 0 m.il (n % 4 + 1) else 0
    let s0 := upVch n (fun c => { c with iMa := sat 16 ma }) (watchDip n w s)
    (c.phase = .rise → c.ipk ≤ i → s.now.el + dt ≤ c.endEl →
      let s1 := tick dt s0
      let least := fld (vrec s n) 0x42 2
      let early := least ≠ 0 ∧ s1.now.el < c.startEl + least * qUs ∧ (vbank s (n / 4)).undervolt = false
      (early → exec (.valveRiseEnd n dt ma w m) s = .next (detect n 3 m s1))
      ∧ (¬early → exec (.valveRiseEnd n dt ma w m) s
        = .next (upVch n (fun c => { c with
            phase := .peak, phaseEl := s1.now.el, means := 0, endEl := s1.now.el + c.peakUs * qUs }) s1)))
    ∧ (c.phase = .rise → i < c.ipk ∨ c.endEl < s.now.el + dt →
      let s1 := armature n (reachEl c.endEl s0)
      exec (.valveRiseEnd n dt ma w m) s = .next (runQueue 4 (n / 4) (upVch n (fun c => { c with
        phase := .hold, phaseEl := s1.now.el, means := 0, peakNotReached := true, target := c.ihold }) s1)))
    ∧ (c.phase ≠ .rise → exec (.valveRiseEnd n dt ma w m) s = .next s)
    ∧ (c.phase = .peak →
      let s1 := armature n (reachEl c.endEl s0)
      exec (.valvePeakEnd n ma w) s = .next (runQueue 4 (n / 4) (upVch n (fun c => { c with
        phase := .hold, phaseEl := s1.now.el, means := 0, target := c.ihold }) s1)))
    ∧ (c.phase ≠ .peak → exec (.valvePeakEnd n ma w) s = .next s)
    ∧ (c.quenching = true →
      (cur < 20 → s.now.el + dt ≤ c.endEl → exec (.valveQuenchEnd n dt cur) s = .next (quenchOver n false (tick dt s)))
      ∧ (20 ≤ cur ∨ c.endEl < s.now.el + dt →
        exec (.valveQuenchEnd n dt cur) s = .next (quenchOver n true (reachEl c.endEl s))))
    ∧ (c.quenching = false → exec (.valveQuenchEnd n dt cur) s = .next s)
    ∧ (∀ r, c.wait = some r → (vbank s (n.val / 4)).queue.contains n.val = true →
      let s1 := reachEl r.deadline s
      exec (.valveBoostDeadline n) s
        = .next (runQueue 4 (n.val / 4)
            (raise 92 n 0 (cancelWait n (refusedWith 0x12 0 (beatAt s1.now.ft)) s1))))
    ∧ (c.wait = none ∨ (vbank s (n.val / 4)).queue.contains n.val = false →
      exec (.valveBoostDeadline n) s = .next s)
    ∧ (let s1 := upVch n (fun c => { c with iMa := sat 16 i, means := c.means + 1 }) (watchDip n w (reachEl c.meanEnd s))
      (c.phase ≠ .hold → exec (.valveChopPeriodEnd n w m) s = .next s1)
      ∧ (c.phase = .hold →
        let recd := vrec s n
        let ol := fld recd 0x3A 2
        let low := decide (i < ol) && decide (2 * ol ≤ c.target)
        let run := if (vbank s (n / 4)).undervolt then c.openRun else if low then c.openRun + 1 else 0
        let s2 := upVch n (fun c => { c with target := c.ihold, openRun := if run = 8 then 0 else run }) s1
        let s3 := input (136 + n) s2.now.ft (q130 i 8000) s2
        exec (.valveChopPeriodEnd n w m) s
          = .next (if run = 8 then detect n (if (fld recd 0x3E 2 : Int) ≤ m.excess then 2 else 1) m s3 else s3)))

/-- VALVE_OPEN_ON_CHECK, VALVE_SCB_TRIP, VALVE_BANK_LINE, VALVE_OFF_TEST, VALVE_OFF_TEST_COMPLETE,
VALVE_BANK_UNDERVOLT, VALVE_STATUS_PERIOD and PLATE_TEMPERATURE. Rule R231, R233, R234, R239, R243. -/
def Obligations.ValveDiagnosticsEffect : Prop :=
  (∀ (n : Fin 24) (dt : Nat) (m : ValveMeas) (s : State),
    let c := vch s n
    (c.openCheck = true →
      let s1 := upVch n (fun c => { c with openCheck := false })
        (reachEl (c.startEl + fld (vrec s n) 0x3C 2 * qUs) s)
      let low := c.phase = .rise ∧ measI s n m < fld (vrec s n) 0x3A 2 ∧ (vbank s (n / 4)).undervolt = false
      (low → exec (.valveOpenOnCheck n m) s
        = .next (detect n (if (fld (vrec s n) 0x3E 2 : Int) ≤ m.excess then 2 else 1) m s1))
      ∧ (¬low → exec (.valveOpenOnCheck n m) s = .next s1))
    ∧ (c.openCheck = false → exec (.valveOpenOnCheck n m) s = .next s)
    ∧ (let k := vhead s n
      let trips := (vch s k).on = true ∧ fld (vrec s k) 0x40 2 < measI s k m ∧ (vbank s (n / 4)).undervolt = false
      (trips → exec (.valveScbTrip n dt m) s = .next (detect k 3 m (tick dt s)))
      ∧ (¬trips → exec (.valveScbTrip n dt m) s = .next (tick dt s)))
    ∧ (c.testing = true →
      let s1 := upVch n (fun c => { c with testing := false }) (reachEl (s.valve.testEl + 200 * qUs) s)
      exec (.valveOffTestComplete n m) s
        = .next (match offCase (hsClosed s1 (n / 4)) (fld (vrec s n) 0x3E 2) (measVd n m) m.excess with
            | some k => detect n k m s1 | none => s1))
    ∧ (c.testing = false → exec (.valveOffTestComplete n m) s = .next s))
  ∧ (∀ (b : Fin 6) (dt vs : Nat) (m : ValveMeas) (s : State),
    let short := 40000 < m.ihb ∨ (hsClosed s b = true ∧ m.vhb + 3000 < m.vs)
    let volts := fun (s : State) => s.upPow (fun p => { p with vsMv := p.vsMv.set b (sat 16 vs) })
    (short → exec (.valveBankLine b dt m) s = .next (bankLineFault b m (tick dt s)))
    ∧ (¬short → exec (.valveBankLine b dt m) s = .next (tick dt s))
    ∧ (7000 ≤ vs → exec (.valveBankUndervolt b dt vs) s
      = .next (volts (upVbank b (fun x => { x with undervolt := false }) (tick dt s))))
    ∧ (vs < 7000 → exec (.valveBankUndervolt b dt vs) s
      = .next (volts ((bankChans b).foldl (fun s n => upVch n (fun c => { c with testing := false }) s)
          (upVbank b (fun x => { x with undervolt := true }) (tick dt s))))))
  ∧ (∀ s : State,
    let t := s.valve.testNext
    let s1 := reach t s
    ∃ u, exec .valveOffTest s = .next u ∧ u.valve.testNext = nextPeriod t (vbankCfg s 0x34 2)
      ∧ u.valve.testEl = s1.now.el ∧ ∀ n : Fin 24, vch u n = { vch s n with
        testing := decide (isOdd s n = false ∧ (vch s n).phase = .off ∧ ((vch s n).quenchAt + 5 * qMs ≤ s1.now.el ∨ (vch s n).quenchAt = 0)
          ∧ (vbank s (n / 4)).undervolt = false) })
  ∧ (∀ s : State,
    let t := s.valve.statusNext
    (vbankCfg s 0x36 2 ≠ 0 → exec .valveStatusPeriod s = .next (valveStatus
      ((reach t s).upValve (fun v => { v with statusNext := nextPeriod t (vbankCfg s 0x36 2) }))))
    ∧ (vbankCfg s 0x36 2 = 0 → exec .valveStatusPeriod s = .next s))
  ∧ (∀ (c : Int) (s : State),
    let b := recBody s 0x0701 24
    let s1 := (reach s.valve.plateNext s).upValve (fun v => { v with
      plateC := c, band := bandOf [fldS b 0x30 1, fldS b 0x31 1, fldS b 0x32 1] v.band c
      plateNext := nextMul (100 * qMs) v.plateNext })
    exec (.plateTemperature c) s = .next (displayTemp c (s1.upPow (fun p => { p with plateC := clampI (-128) 127 c }))))

/-- FIELD_OPEN, FIELD_CLOSE, FIELD_DISCARD, FIELD_NEW, the three tile requests, FIELD_CLOSE_FLUSHED,
MAP_FLUSH_PERIOD and MAP_SUMMARY_PERIOD. Rule R260, R262, R263, R265, R267. -/
def Obligations.MapCommandsEffect : Prop :=
  (∀ k ∈ [(Instr.fieldOpen, 0), (.fieldClose, 1), (.fieldDiscard, 2), (.fieldNew, 3)],
    ∀ (dt : Nat) (p : Post) (s : State), Passes scFieldOpen true p s →
    let x := arrive dt 0x0802 0x0C p decideAt s
    exec (k.1 dt p) s = .next (x.1.upMap (fun m => { m with
      cmds := m.cmds ++ [⟨false, k.2, p, x.2.acc, x.2.cmp + 2 * qMs⟩] })))
  ∧ (∀ k ∈ [(Instr.tileRequestTile, 0), (.tileRequestSummary, 1), (.tileRequestAll, 2)],
    ∀ (dt : Nat) (p : Post) (s : State), Passes scTileRequest false p s →
    let x := arrive dt 0x0804 0x0C p decideAt s
    exec (k.1 dt p) s = .next (x.1.upMap (fun m => { m with
      cmds := m.cmds ++ [⟨true, k.2, p, x.2.acc, x.2.cmp + 2 * qMs⟩] })))
  ∧ (∀ (dt : Nat) (s : State) (c : MapClose) (r : List MapClose), s.map.closes = c :: r →
    exec (.fieldCloseFlushed dt) s = .next (complete 0x0802 0x0C c.post c.stamp (accepted c.lost c.at_)
      ((tick dt s).upMap (fun m => { m with closes := r }))))
  ∧ (∀ (dt : Nat) (s : State), s.map.closes = [] → exec (.fieldCloseFlushed dt) s = .next (tick dt s))
  ∧ (∀ s : State,
    let t := s.map.flushNext
    let s1 := (reach t s).upMap (fun m => { m with flushNext := nextMul (max 1 (fld m.recd 0x24 2) * qSec) t })
    let r := mapFlush s1
    (s.map.field = none ∨ commanding s = false → exec .mapFlushPeriod s = .next s1)
    ∧ (∀ f, s.map.field = some f → commanding s = true → exec .mapFlushPeriod s
      = .next (if (fld s.map.recd 0x21 1).testBit 0 then deliverTiles f.geom 1 t r.2.1 r.1
          else r.1)))
  ∧ (∀ s : State,
    let t := s.map.summaryNext
    (fld s.map.recd 0x28 2 ≠ 0 → exec .mapSummaryPeriod s = .next (openSummary t ((reach t s).upMap (fun m => { m with
      summaryNext := nextMul (fld s.map.recd 0x28 2 * qSec) t }))))
    ∧ (fld s.map.recd 0x28 2 = 0 → exec .mapSummaryPeriod s = .next s))

/-- The GNSS epoch, and the antenna supply. Rule R270, R275, R276. -/
def Obligations.GnssEpochAndAntennaEffect : Prop :=
  (∀ (x : GnssEpochIn) (s : State),
    (awake s = true → ∃ t, exec (.gnssEpoch x) s = .next t ∧ t.gnss.epoch = (s.gnss.epoch + 1) % 2 ^ 32
      ∧ t.gnss.lastAt = s.gnss.next ∧ t.now.ft = max s.now.ft s.gnss.next % 2 ^ 64
      ∧ (∀ k ∈ t.gnss.chans, k.slip = false))
    ∧ (awake s = false → exec (.gnssEpoch x) s = .next s))
  ∧ (∀ (dt : Nat) (s : State),
    let s1 := tick dt s
    (fld s.gnss.recd 0x21 1 ≠ 0 → awake s = true →
      (∀ ma, 2 ≤ ma → ma ≤ 60 →
        exec (.antennaOk dt ma) s = .next (antTo 1 (s1.upGnss (fun g => { g with bias := true, antMa := ma }))))
      ∧ exec (.antennaOpen dt) s = .next (antTo 2 (s1.upGnss (fun g => { g with bias := true })))
      ∧ exec (.antennaOvercurrent dt) s = .next (antTo 3 (s1.upGnss (fun g => { g with
          bias := false, retryEl := s.now.el + dt + 5 * qSec }))))
    ∧ (fld s.gnss.recd 0x21 1 = 0 ∨ awake s = false →
      (∀ ma, exec (.antennaOk dt ma) s = .next s1) ∧ exec (.antennaOpen dt) s = .next s1
      ∧ exec (.antennaOvercurrent dt) s = .next s1)
    ∧ (∀ ma, ma < 2 ∨ 60 < ma → exec (.antennaOk dt ma) s = .next s1)
    ∧ (s.gnss.ant = 3 → exec .antennaRetry s = .next ((reachEl s.gnss.retryEl s).upGnss (fun g => { g with
        bias := true, retryEl := g.retryEl + 5 * qSec })))
    ∧ (s.gnss.ant ≠ 3 → exec .antennaRetry s = .next s))

/-- CHANNEL_LOCK, SUSPECT_HOLD_EXPIRY, DUAL_PEAK_FOUND and NAV_MESSAGE. Rule R270, R273, R278, R281, R286,
R288, R289. -/
def Obligations.GnssChannelsEffect : Prop :=
  (∀ (c : Fin 192) (dt sv : Nat) (code carrier slip : Bool) (s : State),
    let x := exec (.channelLock c dt sv code carrier slip) s
    let s1 := tick dt s
    let g := s.gnss
    let b := c.val / 48
    let k := g.ch c
    let lock := carrier && code
    let lost := slip || !lock
    let locked := fun (k : GChan) => { k with
      codeLock := code, carrierLock := lock, hadLock := k.hadLock || lock
      slips := (k.slips + slip.toNat + (k.hadLock && (lock != k.carrierLock)).toNat) % 256, slip := k.slip || slip
      lockEl := if lock && !k.carrierLock then s.now.el + dt else k.lockEl
      arc := if lost then none else k.arc, cmc := if lost then none else k.cmc }
    let held := (g.holders b sv).filter (fun x => decide (x ≠ c.val))
    let g1 : Gnss := { g with chans := held.foldl (fun l x => upd l x GChan.freed) g.chans }
    let full := (held.any (fun x => (g.ch x).codeLock) || decide (k.sv = 0) && !g1.roomIn b) = true
    (awake s = false → x = .next s1)
    ∧ (awake s = true → sv = 0 → x = .next (s1.upGnss (·.releaseSat c)))
    ∧ (awake s = true → sv ≠ 0 →
      (svOk b sv = false ∨ svMasked g.recd b sv = true → x = .next s1)
      ∧ (svOk b sv = true → svMasked g.recd b sv = false →
        (k.sv = sv → x = .next (upChan c locked s1))
        ∧ (k.sv ≠ sv → full → x = .next s1)
        ∧ (k.sv ≠ sv → ¬full → x = .next (s1.upGnss (fun _ => ({ g1 with
            chans := upd g1.chans c (fun k => locked { k.freed with sv := sv }) } : Gnss).withOther b sv))))))
  ∧ (∀ (bank : Fin 4) (sv : Nat) (s : State),
    let found := s.gnss.causes.find? (fun c => c.bank == bank.val && c.sv == sv)
    (∀ c e, found = some c → c.bits = 0 → c.holdEnd = some e →
      let s1 := (reachEl e s).upGnss (fun g => { g with
        causes := g.causes.filter (fun c => !(c.bank == bank.val && c.sv == sv)) })
      exec (.suspectHoldExpiry bank sv) s
        = .next (s1.upGnss (fun g => { g with suspLog := ((s1.now.el, g.suspects) :: g.suspLog).take 256 })))
    ∧ ((∀ c, found = some c → c.bits ≠ 0 ∨ c.holdEnd = none) → exec (.suspectHoldExpiry bank sv) s = .next s))
  ∧ (∀ (c : Fin 192) (dt sv ns cn0 : Nat) (s : State),
    let admits := awake s = true ∧ (s.gnss.ch c).sv = 0
      ∧ ((s.gnss.bankChans (c.val / 48)).filter (fun x => (s.gnss.ch x).sv == sv)).length = 1 ∧ sv ≠ 0 ∧ 3000 ≤ cn0
      ∧ fld s.gnss.recd 0x44 2 < ns ∧ (fld s.gnss.recd 0x50 1).testBit 3 = true
    (admits → exec (.dualPeakFound c dt sv ns cn0) s
      = .next (raise 38 (svInst (c.val / 48) sv) 0 (upChan c (fun k => { k.freed with
          sv := sv, codeLock := true, dup := true }) (tick dt s))))
    ∧ (¬admits → exec (.dualPeakFound c dt sv ns cn0) s = .next (tick dt s)))
  ∧ (∀ (c : Fin 192) (dt accAgo effAgo : Nat) (d29 d30 : Bool) (data : List Byte) (s : State),
    let s1 := tick dt s
    let k := s.gnss.ch c
    (awake s = false ∨ k.codeLock = false → exec (.navMessage c dt accAgo effAgo d29 d30 data) s = .next s1)
    ∧ (awake s = true → k.codeLock = true →
      let b := c.val / 48
      let bits := navBits (navLen b) data
      let el := s1.now.el - accAgo
      let parity := if b = 0 then lnavFail 10 (k.before (s1.now.el - effAgo) (d29, d30)) bits else 0
      let fail := if b = 0 then decide (parity ≠ 0) else !navCrcOk b bits
      let body := navBody s.gnss c el parity fail bits
      let s2 := if s.pow.state = .serving ∧ (fld s.gnss.recd 0x22 1).testBit b = true then
          emit 0x0903 4 2 0 (agoStamp accAgo s1) (agoStamp effAgo s1) body s1
        else s1
      let n := if fail then k.navFail + 1 else 0
      let new := decide (3 ≤ n) && !k.navRaised
      let s3 := upChan c (fun k => { k with
        navFail := n, navRaised := fail && (k.navRaised || new)
        navEnd := if b = 0 then (el, nth false bits 298, nth false bits 299) else k.navEnd }) s2
      exec (.navMessage c dt accAgo effAgo d29 d30 data) s = .next (if new then
          raiseX 43 c 0 0 (body.take 16) s3.now.ft s3.now.ft s3 else s3)))

/-- KD_RTCM_IN, BASE_EPOCH_TIMEOUT and CORR_SOURCE_BACKUP. Rule R301, R302, R303. -/
def Obligations.CorrectionsEffect : Prop :=
  (∀ (dt : Nat) (p : Post) (s : State), Passes (scRtcmIn p.length) false p s →
    let x := arrive dt 0x0A02 3 p decideAt s
    (∀ fs, rtcmSplit 65 (p.body.drop 4) = some fs → fs.length = fld p.body 0x20 2 →
      let y := rtcmAll true x.2.acc fs x.1
      exec (.kdRtcmIn dt p) s = .next (complete 0x0A02 3 p x.2.acc ⟨0, 0, y.2.2, y.2.1, 0, x.2.bound⟩ y.1))
    ∧ ((∀ fs, rtcmSplit 65 (p.body.drop 4) = some fs → fs.length ≠ fld p.body 0x20 2) →
      exec (.kdRtcmIn dt p) s = .next (x.2.refuse 0x0A02 0 x.1)))
  ∧ (∀ (host : Bool) (s : State) (b : OpenBase) (rest : List OpenBase), (s.pos.src host).collecting = b :: rest →
    exec (.baseEpochTimeout host) s = .next ((reachEl (b.firstEl + 200 * qMs) s).upPos (fun p =>
      let p1 := p.upSrc host (fun c => ({ c with collecting := rest } : CorrSrc).add ⟨b.tow, true, b.stamp⟩)
      if host = primaryHost s then { p1 with primaryRun := 0 } else p1)))
  ∧ (∀ s : State, 3 ≤ corrMode s → s.pos.backup = false →
    exec .corrSourceBackup s = .next ((reachEl (s.pos.primaryEl + 5 * qSec) s).upPos (fun p => p.switch true)))
  ∧ (∀ s : State, corrMode s < 3 ∨ s.pos.backup = true → exec .corrSourceBackup s = .next s)
  ∧ (∀ (host : Bool) (s : State), (s.pos.src host).collecting = [] → exec (.baseEpochTimeout host) s = .next s)

/-- FUSION_OUTPUT: the output is counted and kept, the measurements it used are used once. Rule R306, R308,
R319. -/
def Obligations.FusionOutputEffect : Prop :=
  ∀ (x : FusionIn) (s : State), ∃ t, exec (.fusionOutput x) s = .next t
    ∧ t.fus.count = (s.fus.count + 1) % 2 ^ 32 ∧ t.now.ft = max s.now.ft s.fus.next % 2 ^ 64
    ∧ (∃ o rest, t.fus.outs = o :: rest ∧ o.est = x.est ∧ o.cmp = s.fus.next ∧ o.el = t.now.el
        ∧ o.validPose = t.fus.validPose)
    ∧ t.fus.late = s.fus.late + x.late ∧ t.fus.gnssNew = false ∧ t.fus.feature = false
    ∧ t.fus.main = recBody s 0x0A01 0

/-- The checks and the timers of the fusion. Rule R37, R308, R311, R312, R313, R316. -/
def Obligations.FusionChecksEffect : Prop :=
  (∀ s : State, ∃ t, exec .fusionCheckEpoch s = .next t
    ∧ t.fus.checkNext = nextMul qTap s.fus.checkNext ∧ t.now.ft = max s.now.ft s.fus.checkNext % 2 ^ 64
    ∧ (∀ e ∈ t.fus.excl, e.run = 0 ∨ e.run < fld s.fus.main 0x30 2)
    ∧ t.fus.outs = s.fus.outs ∧ t.fus.count = s.fus.count ∧ t.fus.main = s.fus.main)
  ∧ (∀ s : State,
    (s.fus.dead = false → exec .deadReckoningTimeout s = .next (raise 49 0xFFFF 1
      ((reachEl (s.fus.gnssEl + qSec) s).upFus (fun f => { f with dead := true }))))
    ∧ (∀ t, s.fus.edgeEl = some t → exec .edgeHoldExpiry s
      = .next ((reachEl (t + fld s.fus.main 0x3C 2 * qMs) s).upFus (fun f => { f with edgeEl := none })))
    ∧ (∀ src : Fin 15, s.fus.enabled src = true → s.fus.absent.testBit src = false → exec (.sourceAbsent src) s
      = .next ((reachEl (nth 0 s.fus.seen src + qSec) s).upFus (fun f => { f with absent := f.absent ||| 2 ^ src.val })))
    ∧ (s.fus.dead = true → exec .deadReckoningTimeout s = .next s)
    ∧ (s.fus.edgeEl = none → exec .edgeHoldExpiry s = .next s)
    ∧ (∀ src : Fin 15, s.fus.enabled src = false ∨ s.fus.absent.testBit src = true →
      exec (.sourceAbsent src) s = .next s)
    ∧ (let t := s.fus.windowNext
       let rate := fld s.fus.main 0x32 2
       let judged := rate ≠ 0 ∧ t = s.fus.windowFrom + qSec
       let s1 := (reach t s).upFus (fun f => { f with
         edges := f.edgesNext, edgesNext := 0, windowFrom := t, windowNext := nextMul qSec t })
       let bad := 5 * rate < 1000 * ((s.fus.edges : Int) - rate).natAbs
       (¬judged → exec .imu1RateWindow s = .next s1)
       ∧ (judged → bad →
         let s2 := s1.upFus (fun f => { f with rateBad := true, rateGood := 0 })
         exec .imu1RateWindow s = .next (if s.fus.rateBad then s2 else raise 47 2 4 s2))
       ∧ (judged → ¬bad → s.fus.rateBad = false → exec .imu1RateWindow s = .next s1)
       ∧ (judged → ¬bad → s.fus.rateBad = true → s.fus.rateGood < 9 → exec .imu1RateWindow s
         = .next (s1.upFus (fun f => { f with rateGood := s.fus.rateGood + 1 })))
       ∧ (judged → ¬bad → s.fus.rateBad = true → 9 ≤ s.fus.rateGood → exec .imu1RateWindow s
         = .next (raise 48 2 0 (s1.upFus (fun f => { f with rateBad := false, rateGood := 0 }))))))

/-- KD_HOST_FIX, IMU0_DATA_READY, IMU_DRDY and IMU_TRANSFER_END. Rule R37, R305, R308, R314, R315, R324. -/
def Obligations.FusionInputsEffect : Prop :=
  (∀ (dt : Nat) (p : Post) (s : State), Passes scHostFix false p s →
    let x := arrive dt 0x0A03 3 p decideAt s
    let t := fld p.body 0x20 8
    let late := x.2.acc < t ∨ t + fld s.fus.main 0x36 2 * qMs < x.2.acc
    (late → exec (.kdHostFix dt p) s = .next (x.2.refuse 0x0A01 0 x.1))
    ∧ (¬late →
      let e : Est := ⟨14, 0, [F64.ofInt (fldS p.body 0x28 4 * 1000), F64.ofInt (fldS p.body 0x2C 4 * 1000)],
        F64.ofNat (fld p.body 0x34 2), (x.1.now.el : Int) - ((x.1.now.ft : Int) - t)⟩
      exec (.kdHostFix dt p) s = .next (x.2.accept 0 (x.1.upFus (fun f =>
        if f.uses 14 then
          { (f.put e).locate 14 (fldS p.body 0x28 4 * 1000) (fldS p.body 0x2C 4 * 1000) with
            hostEl := if f.dead || !f.posInit then some x.1.now.el else f.hostEl }
        else f.put e)))))
  ∧ (∀ (dt : Nat) (x : ImuSample) (s : State),
    exec (.imu0DataReady dt x) s = .next (imuTake 0 x (s.now.el + dt) (tick dt s)))
  ∧ (∀ (dt : Nat) (rising : Bool) (s : State), imu1On s = true → rising ≠ decide (fld s.fus.imu 0x24 1 = 1) →
    let s1 := tick dt s
    let count := fun (f : Fusion) => if s1.now.ft < f.windowNext then { f with edges := f.edges + 1 }
      else { f with edgesNext := f.edgesNext + 1 }
    (s.fus.transfer = none → exec (.imuDrdy dt rising) s
      = .next (s1.upFus (fun f => { count f with transfer := some (s.now.el + dt) })))
    ∧ (s.fus.transfer ≠ none → exec (.imuDrdy dt rising) s
      = .next (s1.upFus (fun f => { count f with imuBad := f.imuBad + 1 }))))
  ∧ (∀ (dt : Nat) (rising : Bool) (s : State), imu1On s = false ∨ rising = decide (fld s.fus.imu 0x24 1 = 1) →
    exec (.imuDrdy dt rising) s = .next (tick dt s))
  ∧ (∀ (dt : Nat) (frame : List Byte) (s : State), s.fus.transfer = none →
    exec (.imuTransferEnd dt frame) s = .next (tick dt s))
  ∧ (∀ (dt : Nat) (frame : List Byte) (s : State) (el : Nat), s.fus.transfer = some el →
    let r := s.fus.imu
    let s1 := (tick dt s).upFus (fun f => { f with transfer := none })
    let g := fun i => imuField r frame i * fld r 0x38 4
    let a := fun i => imuField r frame i * fld r 0x3C 4
    exec (.imuTransferEnd dt frame) s
      = .next (if imuFrameOk r frame then imuTake 1 ⟨g 0, g 1, g 2, a 3, a 4, a 5⟩ el s1
          else s1.upFus (fun f => { f with imuBad := f.imuBad + 1 })))

/-- CAM_TRIGGER, CAM_TRIGGER_END, FRAME_START, CSI2_PACKET, FRAME_END, FRAME_END_TIMEOUT and CAM_PORT_STATUS.
Rule R326, R329, R331, R332, R333, R342, R345, R350. -/
def Obligations.CameraFramesEffect : Prop :=
  (∀ (p : Fin 6) (s : State), (pipeOf s p).st ≠ .off → s.pow.state = .serving →
    let x := pipeOf s p
    let s1 := reach x.next s
    let s2 := if x.st = .running ∧ x.judged = true ∧ x.started = false then missedRecord p s1 else s1
    exec (.camTrigger p) s = .next (expTrigger p x.next (upPipe p (fun y => { y with
      frameNumber := (y.frameNumber + 1) % 2 ^ 32, cur := some x.next, curC := x.next
      judged := decide (y.st = .running), started := false, curStepped := decide (0 < y.stepped)
      stepped := y.stepped - 1, next := pipeTrig s p (x.next + 1)
      trigEnd := some (s2.now.el + fld (pipeRec s p) 0x36 2 * qUs) }) s2)))
  ∧ (∀ (p : Fin 6) (s : State), (pipeOf s p).st = .off ∨ s.pow.state ≠ .serving → exec (.camTrigger p) s = .next s)
  ∧ (∀ (p : Fin 6) (s : State), (pipeOf s p).trigEnd = none → exec (.camTriggerEnd p) s = .next s)
  ∧ (∀ (p : Fin 6) (s : State), (pipeOf s p).frame = none → exec (.frameEndTimeout p) s = .next s)
  ∧ (∀ (port : Fin 6) (dt vc type : Nat) (fix ok : Bool) (pay : List Byte) (ecc : Fin 3) (s : State),
    (portOf s port).lock = 0 → exec (.frameStart port dt vc fix) s = .next (tick dt s)
      ∧ exec (.csi2Packet port dt vc type pay ok ecc) s = .next (tick dt s)
      ∧ exec (.frameEnd port dt vc fix) s = .next (tick dt s))
  ∧ (∀ (p : Fin 6) (s : State) (t : Nat), (pipeOf s p).trigEnd = some t →
    exec (.camTriggerEnd p) s = .next (upPipe p (fun x => { x with trigEnd := none }) (reachEl t s)))
  ∧ (∀ (port : Fin 6) (dt vc : Nat) (fix : Bool) (s : State), (portOf s port).lock ≠ 0 →
    let s1 := tick dt s
    (∀ p, boundPipe s port vc = some p → (pipeOf s p).st ≠ .running →
      ((pipeOf s p).ready && (pipeOf s p).cur.isSome) = false →
      exec (.frameStart port dt vc fix) s = .next (upPipe p (fun x => { x with looseOpen := true }) s1))
    ∧ (boundPipe s port vc = none →
      exec (.frameStart port dt vc fix) s = .next (unboundPacket port s1)
      ∧ exec (.frameEnd port dt vc fix) s = .next (unboundPacket port s1)
      ∧ (∀ (type : Nat) (pay : List Byte) (ok : Bool) (ecc : Fin 3), ecc ≠ 2 →
        exec (.csi2Packet port dt vc type pay ok ecc) s = .next (unboundPacket port s1)))
    ∧ (∀ (type : Nat) (pay : List Byte) (ok : Bool),
      exec (.csi2Packet port dt vc type pay ok 2) s
        = .next ((List.range 6).foldl (fun (s : State) p =>
            if pipePort s p = port then upFrame p (fun f => { f with marks := f.marks ||| mkEccBad }) s else s)
          (upPort port (fun y => { y with eccBad := satAdd 32 y.eccBad 1 }) s1)))
    ∧ (∀ p, boundPipe s port vc = some p →
      (∀ t, (pipeOf s p).st = .running → (pipeOf s p).cur = some t →
        let s2 := closeFrame p mkTrunc false s1
        (pipeOf s2 p).st = .running →
        let y := pipeOf s2 p
        let us := fld (pipeRec s2 p) 0x3C 4
        let marks := (if us ≠ 0 ∧ y.curC + us * qUs < s2.now.ft then mkLate else 0)
          ||| (if y.started then mkExtra else 0) ||| (if y.curStepped then mkStepped else 0)
        let f : OpenFrame :=
          { number := y.frameNumber, trig := t, trigC := y.curC, fs := s2.now.ft, fsEl := s2.now.el, marks := marks
            emb := [], pix := [], crc := 0, ecc := 0, exp := y.expNow, recs := frameRecs s2 p
            scalars := (List.range 16).map (fun i => recBody s2 0x0B01 (256 + i)) }
        exec (.frameStart port dt vc fix) s
          = .next (upPipe p (fun x => { x with started := true, frame := some (eccFixed fix f) }) s2))
      ∧ (∀ (type : Nat) (pay : List Byte) (ok : Bool) (ecc : Fin 3), ecc ≠ 2 →
        exec (.csi2Packet port dt vc type pay ok ecc) s
          = .next (upFrame p (takePacket type pay ok (decide (ecc = 1))) s1))
      ∧ exec (.frameEnd port dt vc fix) s
        = .next (closeFrame p 0 false (upFrame p (eccFixed fix) (upPipe p (fun x => { x with looseOpen := false }) s1)))))
  ∧ (∀ (p : Fin 6) (s : State) (f : OpenFrame), (pipeOf s p).frame = some f →
    exec (.frameEndTimeout p) s
      = .next (closeFrame p mkTrunc false (reachEl (f.fsEl + 2 * qSec / pipeFps s p) s)))
  ∧ (∀ (meas : List (Nat × Nat)) (s : State), s.pow.state = .serving →
    let t := s.cam.statusNext
    exec (.camPortStatus meas) s
      = .next ((List.range 6).foldl (fun (s : State) n =>
          if portCfg s n 0x22 1 = 0 then s
          else portStatus n (nth (0, 0) meas n).1 (nth (0, 0) meas n).2 t s)
        ((reach t s).upCam (fun c => { c with statusNext := nextMul qSec t }))))

/-- CAM_LINK_LOCK, CAM_LINK_LOSS, CAM_LINK_RETRY, UPLINK_REPLY, UPLINK_TIMEOUT, POC_OK, POC_OPEN,
POC_OVERCURRENT and POC_RETRY. Rule R326, R327, R328. -/
def Obligations.CameraLinksEffect : Prop :=
  (∀ (port : Fin 6) (dt : Nat) (s : State), portCfg s port 0x22 1 ≠ 0 → s.pow.state = .serving →
    (portOf s port).lock = 0 →
    let g := portCfg s port 0x23 1
    exec (.camLinkLock port dt) s
        = .next ((List.range 6).foldl (fun (s : State) p => if pipePort s p = port then startWrites p s else s)
          (raise 52 port g (upPort port (fun y => { y with lock := g }) (tick dt s))))
    ∧ exec (.camLinkRetry port) s = .next (upPort port (fun y => { y with
        retryEl := (portOf s port).retryEl + 100 * qMs }) (reachEl (portOf s port).retryEl s)))
  ∧ (∀ (port : Fin 6) (dt : Nat) (s : State),
    portCfg s port 0x22 1 = 0 ∨ s.pow.state ≠ .serving ∨ (portOf s port).lock ≠ 0 →
    exec (.camLinkLock port dt) s = .next (tick dt s) ∧ exec (.camLinkRetry port) s = .next s)
  ∧ (∀ (p : Fin 6) (dt : Nat) (ack : Bool) (s : State), (pipeOf s p).jobs = [] →
    exec (.uplinkReply p dt ack) s = .next (tick dt s) ∧ exec (.uplinkTimeout p) s = .next s)
  ∧ (∀ (port : Fin 6) (s : State), (portOf s port).poc ≠ 3 → exec (.pocRetry port) s = .next s)
  ∧ (∀ (port : Fin 6) (dt : Nat) (s : State), (portOf s port).lock ≠ 0 →
    exec (.camLinkLoss port dt) s
      = .next ((List.range 6).foldl (fun (s : State) p =>
          if pipePort s p ≠ port then s
          else
            match (pipeOf s p).st with
            | .running => fallBack p s
            | .starting => enterPipeStarting p s
            | .off => s)
        (raise 52 port 0 (upPort port (fun y => { y with
          lock := 0, losses := satAdd 16 y.losses 1, retryEl := s.now.el + dt + 100 * qMs }) (tick dt s)))))
  ∧ (∀ (p : Fin 6) (dt : Nat) (s : State) (j : UpJob) (js : List UpJob), (pipeOf s p).jobs = j :: js →
    (∀ ack, j.sentEl ≤ s.now.el + dt →
      exec (.uplinkReply p dt ack) s = .next (writeAnswered p ack (tick dt s)))
    ∧ exec (.uplinkTimeout p) s = .next (writeAnswered p false (reachEl (j.sentEl + 2 * qMs) s)))
  ∧ (∀ (port : Fin 6) (dt : Nat) (s : State), portCfg s port 0x24 1 ≠ 0 → s.pow.state = .serving →
    s.pow.sub ≠ .holdup →
    let raiseTo := fun (k : Nat) (s : State) => raise 53 port k (upPort port (fun y => { y with poc := k }) s)
    ((portOf s port).poc ≠ 1 → exec (.pocOk port dt) s = .next (raiseTo 1 (tick dt s)))
    ∧ ((portOf s port).poc ≠ 2 → exec (.pocOpen port dt) s = .next (raiseTo 2 (tick dt s)))
    ∧ ((portOf s port).poc ≠ 3 → exec (.pocOvercurrent port dt) s = .next (upPort port (fun y => { y with
        pocRetryEl := s.now.el + dt + 5 * qSec }) (raiseTo 3 (tick dt s)))))
  ∧ (∀ (port : Fin 6) (s : State), (portOf s port).poc = 3 →
    exec (.pocRetry port) s = .next (upPort port (fun y => { y with
      pocRetryEl := (portOf s port).pocRetryEl + 5 * qSec }) (reachEl (portOf s port).pocRetryEl s)))

/-- KD_EXPOSURE, EXPOSURE_WRITES, KD_PIPE_ENABLE with each ACTION, and PIPE_INIT_RETRY. Rule R340, R342, R343,
R350, R351. -/
def Obligations.CameraCommandsEffect : Prop :=
  (∀ (dt : Nat) (p : Post) (s : State), Passes (scExposure p.body) true p s →
    let x := arrive dt 0x0B02 4 p decideAt s
    let n := fld p.body 0x20 1
    ((pipeOf s n).st = .running → exec (.kdExposure dt p) s = .next (expAccept n x.2 x.1))
    ∧ ((pipeOf s n).st ≠ .running → exec (.kdExposure dt p) s = .next (x.2.refuse 8 0 x.1)))
  ∧ (∀ (dt : Nat) (p : Post) (s : State), Passes scPipeEnable true p s →
    let x := arrive dt 0x0B06 4 p decideAt s
    let n := fld p.body 0x20 1
    exec (.pipeDisable dt p) s = .next (x.2.accept 0 (stopPipe n x.1))
    ∧ (pipeHasRec s n = false → exec (.pipeEnable dt p) s = .next (x.2.refuse 8 0 x.1))
    ∧ (pipeHasRec s n = true → (pipeOf s n).shut = none →
      exec (.pipeEnable dt p) s = .next (x.2.accept 0 (startPipe n x.1)))
    ∧ (∀ t, pipeHasRec s n = true → (pipeOf s n).shut = some t →
      exec (.pipeEnable dt p) s
        = .next (complete 0x0B06 4 p x.2.acc ⟨2, 0, 0, t - x.2.bound, 0, x.2.bound⟩
            (upPipe n (fun y => { y with enableAfter := true }) x.1)))
    ∧ (∀ f, (pipeOf s n).store.find? (fun f => decide (f.number = fld p.body 0x24 4)) = some f →
      exec (.pipeDeliverFull dt p) s = .next (x.2.accept 0 (fullRecord n f false x.1)))
    ∧ ((pipeOf s n).store.find? (fun f => decide (f.number = fld p.body 0x24 4)) = none →
      exec (.pipeDeliverFull dt p) s = .next (raise 63 n 0 (x.2.refuse 0x0B04 0 x.1))))
  ∧ (∀ (p : Fin 6) (s : State) (e : ExpSet), (pipeOf s p).exps.find? (fun e => !e.sent) = some e →
    let s1 := reach e.t1 s
    exec (.exposureWrites p) s = .next (expSettle p (upPipe p (fun x => { x with
      exps := updFirst (fun y => !y.sent) (fun y => { y with sent := true, done := y.writes.isEmpty }) x.exps
      jobs := x.jobs ++ (if e.writes = [] then [] else [⟨false, e.writes, s1.now.el⟩]) }) s1)))
  ∧ (∀ (p : Fin 6) (s : State), (pipeOf s p).exps.find? (fun e => !e.sent) = none →
    exec (.exposureWrites p) s = .next s)
  ∧ (∀ (p : Fin 6) (s : State), (pipeOf s p).retryEl = none → exec (.pipeInitRetry p) s = .next s)
  ∧ (∀ (p : Fin 6) (s : State) (t : Nat), (pipeOf s p).retryEl = some t →
    exec (.pipeInitRetry p) s = .next (startWrites p (upPipe p (fun x => { x with retryEl := none }) (reachEl t s))))

/-- DI_CHANGE, COUNTER_EDGE, GATE_CLOSE, AI_SAMPLE, AI_SHUNT_OPEN, AI_SHUNT_RECLOSE and AI_REPORT. Rule R355,
R356, R357, R358, R360, R364, R366, R367. -/
def Obligations.FieldInputsEffect : Prop :=
  (∀ (n : Fin 48) (dt : Nat) (level : Bool) (s : State),
    let t := diSample (tick dt s)
    let s1 := reach t (tick dt s)
    let r := recBody s 0x0C01 n
    let d := nth default s.field.di n
    let can := d.accEl + (if level then fld r 0x22 2 - d.acc else d.acc) * qUs ≤ s1.now.el
    let settled := fun (d : Di) => { d with
      level := level, acc := if level then fld r 0x22 2 else 0, accEl := s1.now.el }
    (s1.now.el < s.field.diStartEl + qUs → exec (.diChange n dt level) s
      = .next (s1.upField (fun f => { f with di := upd f.di n settled })))
    ∧ (s.field.diStartEl + qUs ≤ s1.now.el → d.level ≠ level → can → exec (.diChange n dt level) s
      = .next (input n t (if level then 2 ^ 30 else 0) (s1.upField (fun f => { f with
          di := upd f.di n (fun y => { settled y with
            change := if (fld r 0x21 1).testBit 1 then
                some ((d.change.map (fun c => { c with extra := c.extra + 1 })).getD ⟨t, level, 0⟩)
              else none }) }))))
    ∧ (s.field.diStartEl + qUs ≤ s1.now.el → (d.level = level ∨ ¬can) → exec (.diChange n dt level) s = .next s1))
  ∧ (∀ (n : Fin 16) (dt w : Nat) (rising : Bool) (s : State),
    let s1 := tick dt s
    let r := recBody s 0x0C01 n
    let up := rising != (fld r 0x21 1).testBit 0
    let counts := (fld r 0x24 1 = 0 → up = true) ∧ (fld r 0x24 1 = 1 → up = false) ∧ fld r 0x28 4 ≤ w
    let e : Edge := ⟨s1.now.ft, s1.now.ft⟩
    (counts → exec (.counterEdge n dt rising w) s
      = .next (upCnt n (fun c =>
          let c1 := { c with total := (c.total + 1) % 2 ^ 32, fresh := c.fresh ++ [e] }
          if s1.now.ft < c.gateNext then c1.take e else { c1 with ahead := c1.ahead ++ [e] }) s1))
    ∧ (¬counts → exec (.counterEdge n dt rising w) s = .next s1))
  ∧ (∀ (n : Fin 16) (s : State),
    let t := (cnt s n).gateNext
    exec (.gateClose n) s
      = .next (closeGate n 0 (nextMul (max 1 (fld (recBody s 0x0C01 n) 0x26 2) * qMs) t) (reach t s)))
  ∧ (∀ (xs : List Int) (s : State),
    let t := s.field.aiNext
    exec (.aiSample xs) s
      = .next (((List.range 16).foldl (fun s n => aiSampleOne n (nth 0 xs n) s)
          ((reach t s).upField (fun f => { f with aiNext := t + qBeat }))).upField (fun f =>
            let x : AiAhead := ⟨t, f.ai.zipIdx.map (fun a => (nth 0 xs a.2, a.1.status))⟩
            if fieldGen s 0x22 2 ≠ 0 ∧ f.winNext ≤ t then { f with ahead := f.ahead ++ [x] } else f.window x)))
  ∧ (∀ (n : Fin 16) (dt : Nat) (s : State),
    (cfg s 0x0C01 (64 + n) 0x21 1 = 2 →
      exec (.aiShuntOpen n dt) s = .next ((tick dt s).upField (fun f => { f with ai := upd f.ai n (fun a =>
        { a with shuntOpen := true, recloseEl := s.now.el + dt + qSec }) })))
    ∧ ((nth default s.field.ai n).shuntOpen = true →
      exec (.aiShuntReclose n) s
        = .next ((reachEl (nth default s.field.ai n).recloseEl s).upField (fun f => { f with
            ai := upd f.ai n (fun a => { a with shuntOpen := false }) })))
    ∧ (cfg s 0x0C01 (64 + n) 0x21 1 ≠ 2 → exec (.aiShuntOpen n dt) s = .next (tick dt s))
    ∧ ((nth default s.field.ai n).shuntOpen = false → exec (.aiShuntReclose n) s = .next s))
  ∧ (∀ s : State,
    let t := s.field.winNext
    (fieldGen s 0x22 2 ≠ 0 →
      exec .aiReport s = .next (closeAi 0 (nextMul (fieldGen s 0x22 2 * qMs) t) (reach t s)))
    ∧ (fieldGen s 0x22 2 = 0 → exec .aiReport s = .next s))

/-- DQ_SET, DQ_CLEAR_ONLY, DQ_DUTY_EFFECT, the DQ diagnostics, OUT_INHIBIT, the field supplies and
FIELD_STATUS_PERIOD. Rule R369, R370, R371, R373, R374, R375, R376. -/
def Obligations.FieldOutputsEffect : Prop :=
  (∀ k ∈ [Instr.dqSet, .dqClearOnly], ∀ (dt : Nat) (p : Post) (s : State),
    Passes scDqSet true p s →
    let x := arrive dt 0x0C02 0x05 p (fun acc => acc) s
    let stamp := fld p.body 0x28 8
    let duty := ¬((fld p.body 0x21 1).testBit 1 = true) ∧ 2 ^ 30 < fld p.body 0x24 4
    let s1 := reach (decideAt x.2.cmp) x.1
    let u := { x.2 with bound := decideAt x.2.cmp }
    (duty ∨ x.2.cmp + 10 * qSec < stamp → exec (k dt p) s = .next (match dqRefusal p.body s1 with
      | some r => u.refuse r 0 s1
      | none => u.refuse 7 (if duty then 0x24 else 0x28) s1))
    ∧ (¬duty → stamp ≤ x.2.cmp + 10 * qSec →
      exec (k dt p) s = .next (x.1.upField (fun f => { f with
        host := f.host ++ [⟨p, x.2.acc, startAt x.2.cmp stamp⟩] }))))
  ∧ (∀ (n : Fin 24) (s : State),
    let mine := s.field.host.filter (fun h => fld h.post.body 0x20 1 == n.val)
    (mine = [] → exec (.dqDutyEffect n) s = .next (dqWaitEnds n s))
    ∧ (∀ (pre : List DqHost) (l : DqHost) (t : Nat), (dqOf s n).wait = none → commanding s = true →
      mine.filter (fun h => decide (h.start ≤ t)) = pre ++ [l] → (∃ h ∈ mine, h.start = t) →
      (∀ h ∈ mine, t ≤ h.start) →
      exec (.dqDutyEffect n) s
        = .next (dqDecide l (pre.foldl (fun s h => complete 0x0C02 0x05 h.post h.acc ⟨3, 0, 0, l.post.corr, 0, t⟩ s)
            ((reach t s).upField (fun f => { f with host := f.host.filter (fun h => !(pre ++ [l]).contains h) }))))))
  ∧ (∀ (n : Fin 24) (dt : Nat) (s : State),
    let s1 := tick dt s
    let d := dqOf s n
    (s.field.vdqMv < 7000 ∨ d.onCounts = 0 → exec (.dqOverload n dt) s = .next s1)
    ∧ (s.field.vdqMv < 7000 ∨ d.onCounts = 0 ∨ d.openOn = true ∨ (fld (dqRec s n) 0x24 1).testBit 0 = false →
      exec (.dqOpenLoad n dt) s = .next s1)
    ∧ (s.field.vdqMv < 7000 ∨ d.onCounts ≠ 0 ∨ d.short = true ∨ (fld (dqRec s n) 0x24 1).testBit 1 = false →
      exec (.dqSupplyShort n dt) s = .next s1)
    ∧ (7000 ≤ s.field.vdqMv → d.onCounts ≠ 0 → exec (.dqOverload n dt) s
      = .next (fieldStatus (raise 97 n 0 (upDq n (fun d => { d with latched := true })
          (dqOff n (dqCancel n (refusedWith 0x0C02 0 (beatAt s1.now.ft)) s1))))))
    ∧ (7000 ≤ s.field.vdqMv → d.onCounts ≠ 0 → d.openOn = false → (fld (dqRec s n) 0x24 1).testBit 0 = true →
      exec (.dqOpenLoad n dt) s = .next (fieldStatus (raise 98 n 0 (upDq n (fun d => { d with openOn := true }) s1))))
    ∧ (7000 ≤ s.field.vdqMv → d.onCounts = 0 → d.short = false → (fld (dqRec s n) 0x24 1).testBit 1 = true →
      exec (.dqSupplyShort n dt) s = .next (fieldStatus (raise 99 n 0 (upDq n (fun d => { d with short := true }) s1)))))
  ∧ (∀ (dt : Nat) (s : State),
    let s1 := tick dt s
    (s.valve.inhibit = false → exec (.outInhibitAssert dt) s
      = .next (inhibitReport true (dqAllOff 0x0C01 (allOffFast (emptyQueues 0x0701
          (s1.upValve (fun v => { v with inhibit := true })))))))
    ∧ (s.valve.inhibit = true → exec (.outInhibitRelease dt) s
      = .next (inhibitReport false (s1.upValve (fun v => { v with inhibit := false }))))
    ∧ (s.valve.inhibit = true → exec (.outInhibitAssert dt) s = .next s1)
    ∧ (s.valve.inhibit = false → exec (.outInhibitRelease dt) s = .next s1)
    ∧ (s.field.fault5 = false → exec (.sensorSupplyFault 0 dt) s
      = .next (fieldStatus (raise 102 0 1 (s1.upField (fun f => { f with
          fault5 := true, retry5 := s.now.el + dt + qSec })))))
    ∧ (s.field.fault10 = false → exec (.sensorSupplyFault 1 dt) s
      = .next (fieldStatus (raise 102 1 1 (s1.upField (fun f => { f with
          fault10 := true, retry10 := s.now.el + dt + qSec })))))
    ∧ (∀ mv, (mv < fieldGen s 0x26 2 → s.field.vdqLow = false →
        exec (.vdqLowSet dt mv) s
          = .next (fieldStatus (raise 100 0xFFFF 0 (s1.upField (fun f => { f with
              vdqMv := min mv 65535, vdqLow := true })))))
      ∧ (fieldGen s 0x26 2 ≤ mv ∨ s.field.vdqLow = true →
        exec (.vdqLowSet dt mv) s = .next (s1.upField (fun f => { f with vdqMv := min mv 65535 })))
      ∧ (mv < fieldGen s 0x26 2 + 500 →
        exec (.vdqLowClear dt mv) s = .next (s1.upField (fun f => { f with vdqMv := min mv 65535 })))
      ∧ (fieldGen s 0x26 2 + 500 ≤ mv →
        exec (.vdqLowClear dt mv) s
          = .next (if s.field.vdqLow then
              fieldStatus (s1.upField (fun f => { f with vdqMv := min mv 65535, vdqLow := false }))
            else s1.upField (fun f => { f with vdqMv := min mv 65535 })))))
  ∧ (∀ (ok : Bool) (s : State),
    (s.field.fault5 = true →
      let s1 := reachEl s.field.retry5 s
      let s2 := s1.upField (fun f => { f with fault5 := !ok, retry5 := s1.now.el + qSec })
      exec (.sensorSupplyRetry 0 ok) s = .next (if ok then fieldStatus (raise 102 0 0 s2) else s2))
    ∧ (s.field.fault5 = false → exec (.sensorSupplyRetry 0 ok) s = .next s)
    ∧ (s.field.fault10 = false → exec (.sensorSupplyRetry 1 ok) s = .next s)
    ∧ (s.field.fault10 = true →
      let s1 := reachEl s.field.retry10 s
      let s2 := s1.upField (fun f => { f with fault10 := !ok, retry10 := s1.now.el + qSec })
      exec (.sensorSupplyRetry 1 ok) s = .next (if ok then fieldStatus (raise 102 1 0 s2) else s2)))
  ∧ (∀ (vdq v5 v10 i5 i10 : Nat) (s : State), fieldGen s 0x24 2 = 0 →
    exec (.fieldStatusPeriod vdq v5 v10 i5 i10) s = .next s)
  ∧ (∀ (vdq v5 v10 i5 i10 : Nat) (s : State), fieldGen s 0x24 2 ≠ 0 →
    let t := s.field.statusNext
    exec (.fieldStatusPeriod vdq v5 v10 i5 i10) s
      = .next (fieldStatus ((reach t s).upField (fun f => { f with
          statusNext := nextMul (fieldGen s 0x24 2 * qMs) t, vdqMv := min vdq 65535, sup5Mv := min v5 65535
          sup10Mv := min v10 65535, sup5Ma := min i5 65535, sup10Ma := min i10 65535 }))))

/-- The CAN channels: their states and their frames. Rule R382, R383, R384, R385, R386, R387, R388, R389,
R391, R399. -/
def Obligations.CanEffect : Prop :=
  ((∀ (c : Fin 6) (dt : Nat) (s : State),
    let s1 := tick dt s
    let k := cctl s c
    (k.state ≠ .integrating → exec (.canIntegrated c dt) s = .next s1)
    ∧ (k.state ≠ .busOff → exec (.canBusoffDelay c) s = .next s)
    ∧ (k.state ≠ .recovering → exec (.canRecovered c dt) s = .next s1)
    ∧ (k.shutdown = false → exec (.canShutdownEnd c dt) s = .next s1)
    ∧ (fld (canRec s c) 0x32 2 = 0 → exec (.canStatusPeriod c) s = .next s)
    ∧ (k.state = .integrating → exec (.canIntegrated c dt) s = .next (canSetState c .errorActive s1))
    ∧ (k.state = .busOff → exec (.canBusoffDelay c) s = .next (canSetState c .recovering (reachEl k.delayEl s)))
    ∧ (k.state = .recovering → exec (.canRecovered c dt) s
      = .next (canSetState c .errorActive (upCtlr c (fun k => { k with tec := 0, recErr := 0 }) s1)))
    ∧ (k.shutdown = true → k.enableAfter = false → exec (.canShutdownEnd c dt) s
      = .next (canEmpty c false (upCtlr c (fun k => { k with shutdown := false }) s1)))
    ∧ (k.shutdown = true → k.enableAfter = true → exec (.canShutdownEnd c dt) s
      = .next (canSetState c .integrating (upCtlr c (fun k => { k with afterShutdown := true, enableAfter := false })
          (upCtlr c (fun k => { k with shutdown := false }) s1))))
    ∧ (fld (canRec s c) 0x32 2 ≠ 0 → exec (.canStatusPeriod c) s
      = .next (canStatus c (upCtlr c (fun x => { x with
          statusNext := nextMul (fld (canRec s c) 0x32 2 * qMs) k.statusNext }) (reach k.statusNext s)))))
  ∧ (∀ (o : Fin 192) (s : State), fld (objRec s o) 0x2E 2 = 0 → exec (.canSetpointPeriod o) s = .next s)
  ∧ (∀ (o : Fin 192) (s : State), fld (objRec s o) 0x2E 2 ≠ 0 →
    let t := (nth default s.can.objs o).next
    let s1 := (reach t s).upCan (fun v => { v with
      objs := upd v.objs o (fun x => { x with next := nextMul (fld (objRec s o) 0x2E 2 * qMs) t }) })
    exec (.canSetpointPeriod o) s = .next (if commanding s = true ∧ objEnabled s o = true then objEnqueue o s1 else s1)))
  ∧ ((∀ (c : Fin 6) (dt ago : Nat) (f : CanFrame) (own : Bool) (s : State),
    let s1 := tick dt s
    let k := cctl s c
    let mode := fld (canRec s c) 0x22 1
    let hears := k.onBus = true ∧ (own = true → mode ≠ 0) ∧ (own = false → mode ≠ 1)
    let knows := f.fdf = true → (fld (canRec s c) 0x23 1).testBit 0 = true
    let takes := hears ∧ knows
    let high := decide (127 < k.recErr)
    let rec2 := if own then k.recErr else if high then 119 + freeNat 16 s1 % 9 else k.recErr - 1
    let s2 := upCtlr c (fun k => { k with recErr := rec2 }) s1
    let s3 := canByCounters c (if high && !own then drawn s2 else s2)
    let accepts := fun r => if f.fdf then (fld r 0x22 1).testBit 4 else (fld r 0x22 1).testBit 3
    (¬hears → exec (.canFrameReceived c dt ago f own) s = .next s1)
    ∧ (hears → ¬knows → exec (.canFrameReceived c dt ago f own) s
      = .next (canByCounters c (upCtlr c (fun k => { k with
          recErr := min 255 (k.recErr + 1), errs := upd k.errs 1 (fun n => satAdd 16 n 1) }) s1)))
    ∧ (takes → f.remote = true → exec (.canFrameReceived c dt ago f own) s
      = .next (upCtlr c (fun k => { k with rxRemote := satAdd 16 k.rxRemote 1 }) s3))
    ∧ (takes → f.remote = false → (∀ o r, boundObject s3 c f = some (o, r) → accepts r = false) →
      exec (.canFrameReceived c dt ago f own) s
        = .next (upCtlr c (fun k => { k with rxUnbound := satAdd 32 k.rxUnbound 1 }) s3))
    ∧ (∀ o r, takes → f.remote = false → boundObject s3 c f = some (o, r) → accepts r = true →
      let stamp := agoStamp ago s1
      let s4 := (List.range 4).foldl (canEntry c o r f stamp (agoCmp ago s1))
        (upCtlr c (fun k => { k with rxFrames := satAdd 32 k.rxFrames 1 }) s3)
      exec (.canFrameReceived c dt ago f own) s
        = .next (if (fld r 0x22 1).testBit 2 then
            s4.upCan (fun v => { v with batch := canSlotPut ⟨c, o, stamp, f, canShort r f, own, 0⟩ v.batch })
          else s4)))
  ∧ (∀ (c : Fin 6) (dt : Nat) (e : CanErr) (s : State),
    let s1 := tick dt s
    let k := cctl s c
    let silent := decide (e = .ack) && decide (fld (canRec s c) 0x22 1 ≠ 0)
    (∀ eight : Bool, (k.onBus = true → exec (.canRxError c dt e eight) s
        = .next (canByCounters c (upCtlr c (fun k => { k with
            recErr := min 255 (k.recErr + if eight then 8 else 1), errs := bumpErr e k.errs }) s1)))
      ∧ (k.onBus = false → exec (.canRxError c dt e eight) s = .next s1))
    ∧ (∀ exempt : Bool, (∀ (x : CanEntry) (r : List CanEntry), k.queue = x :: r → k.onBus = true → silent = false →
        exec (.canTxError c dt e exempt) s
          = .next (canByCounters c (upCtlr c (fun k => { k with
              tec := min 256 (k.tec + if e = .arbitration ∨ exempt = true then 0 else 8)
              errs := bumpErr e k.errs
              queue := { x with attempts := x.attempts + 1 } :: r }) s1)))
      ∧ (k.queue = [] ∨ k.onBus = false ∨ silent = true → exec (.canTxError c dt e exempt) s = .next s1)))
  ∧ (∀ (c : Fin 6) (dt ago tdc : Nat) (s : State),
    let s1 := tick dt s
    let k := cctl s c
    (k.queue = [] ∨ k.onBus = false ∧ k.shutdown = false → exec (.canTxSuccess c dt ago tdc) s = .next s1)
    ∧ (∀ (x : CanEntry) (r : List CanEntry), k.queue = x :: r → k.onBus = true ∨ k.shutdown = true →
      let measured := x.frame.brs && (fld (canRec s c) 0x23 1).testBit 4
      let far := measured && decide (127 < tdc + fld (canRec s c) 0x2E 1)
      let same := fun (y : CanEntry) => y.post == x.post && y.post.isSome
      let s2 := upCtlr c (fun k => { k with
        queue := r.map (fun y => if same y then { y with post := none } else y)
        tec := k.tec - 1, txFrames := satAdd 32 k.txFrames 1
        tdcMeasured := if x.frame.brs then min 255 tdc else k.tdcMeasured
        tdcRange := if measured then far else k.tdcRange }) s1
      let twice := x.copy || r.any (fun y => same y && y.copy)
      let s3 := match x.post with
        | some (p, acc) =>
          complete 0x0D03 0x06 p acc ⟨0, 0, if twice then 1 else 0, x.attempts + 1, 0, agoStamp ago s1⟩ s2
        | none => s2
      exec (.canTxSuccess c dt ago tdc) s = .next (canByCounters c (if far then canRaise 108 c 0 s3 else s3))))
  ∧ (∀ (c : Fin 6) (s : State), (∀ e ∈ (cctl s c).queue, e.endEl = none) → exec (.canTxLifetime c) s = .next s)
  ∧ (∀ (c : Fin 6) (s : State) (t : Nat),
    let q := (cctl s c).queue
    (∃ e ∈ q, e.endEl = some t) → (∀ e ∈ q, ∀ u, e.endEl = some u → t ≤ u) →
    let s1 := reachEl t s
    let gone := completing (q.filter (fun e => e.endEl == some t)) []
    exec (.canTxLifetime c) s
      = .next (gone.foldl (fun s e => entryDone e (refusedWith 0x12 0 (beatAt s1.now.ft)) s)
          (upCtlr c (fun k => { k with queue := k.queue.filter (fun e => !(e.endEl == some t))
                                       txExpired := satAdd 32 k.txExpired gone.length }) s1)))
  ∧ (∀ k ∈ [(Instr.canTxFrame, false), (.canObjectWrite, true)], ∀ (dt : Nat) (p : Post) (s : State),
    Passes (scCanTx k.2) true p s →
    let stamp := fld p.body 0x28 8
    let x := arrive dt 0x0D03 0x06 p (fun acc => if stamp ≤ acc + 200 * qUs then startAt acc 0 else acc) s
    (stamp ≤ x.2.cmp + 200 * qUs → commanding s = true →
      exec (k.1 dt p) s = .next (canDecide ⟨p, x.2.acc, startAt x.2.cmp stamp⟩ x.1))
    ∧ (x.2.cmp + 200 * qUs < stamp ∨ commanding s = false → stamp ≤ x.2.cmp + 10 * qSec →
      exec (k.1 dt p) s = .next (x.1.upCan (fun v => { v with
        host := v.host ++ [⟨p, x.2.acc, startAt x.2.cmp stamp⟩] })))
    ∧ (x.2.cmp + 10 * qSec < stamp →
      exec (k.1 dt p) s = .next ({ x.2 with bound := decideAt x.2.cmp }.refuse 7 0x28 x.1))))

/-- The commands of the modem port. Rule R401, R402, R403, R405, R407, R408, R409, R411, R412, R415. -/
def Obligations.ModemEffect : Prop :=
  (∀ (dt ago : Nat) (b : Byte) (low : Bool) (s : State),
    let s1 := tick dt s
    let s2 := if low then modemLineError s1 else s1
    let m := s2.modem
    let el := s2.now.el
    (modemListens s = false → exec (.modemCharacter dt ago b low) s = .next s1 ∧ exec (.modemBreak dt) s = .next s1)
    ∧ (modemListens s = true → m.fill + m.drain = 131072 →
      let s3 := s2.upModem (fun m => { m with
        rxBytes := satAdd 32 m.rxBytes 1, overrun := satAdd 32 m.overrun 1, loss := true, lastOverrun := some el })
      exec (.modemCharacter dt ago b low) s = .next (if firstIn1s m.lastOverrun el then raise 110 0xFFFF 0 s3 else s3))
    ∧ (modemListens s = true → m.fill + m.drain ≠ 131072 →
      let m1 : Modem := { m with
        rxBytes := satAdd 32 m.rxBytes 1, part := m.part ++ [⟨b, agoStamp ago s2, s2.now.ft⟩]
        drain := if m.drain = 0 then m.fill + 1 else m.drain, fill := if m.drain = 0 then 0 else m.fill + 1 }
      let y := Modem.parse (m1.part.length + 1) m1 false
      let s3 := s2.upModem (fun _ => y.1)
      let s4 := s3.upModem (fun m => { m with lastRecord := some el })
      (y.2 = false → exec (.modemCharacter dt ago b low) s = .next (modemHold s3))
      ∧ (y.2 = true → exec (.modemCharacter dt ago b low) s
        = .next (modemHold (if firstIn1s s3.modem.lastRecord el then raise 112 0xFFFF 0 s4 else s4))))
    ∧ (modemListens s = true → exec (.modemBreak dt) s = .next (modemLineError s1)))
  ∧ (∀ (dt : Nat) (s : State), s.modem.recs = [] ∨ (∃ x r, s.modem.recs = x :: r
      ∧ (256 ≤ s.modem.intake.length ∨ 262144 < s.modem.intake.sum + x.bytes.length)) →
    exec (.modemReaderPass dt) s = .next (tick dt s))
  ∧ (∀ (dt : Nat) (s : State) (x : MRec) (r : List MRec), s.modem.recs = x :: r → s.modem.intake.length < 256 →
    s.modem.intake.sum + x.bytes.length ≤ 262144 →
    exec (.modemReaderPass dt) s = .next (modemHold (modemPass x (tick dt s))))
  ∧ (∀ (dt : Nat) (s : State),
    exec (.modemCreditReturn dt) s = .next ((tick dt s).upModem (fun m => { m with intake := m.intake.drop 1 })))
  ∧ (∀ (dt : Nat) (p : Post) (s : State), Passes (scModemTx p.body) true p s →
    let stamp := fld p.body 0x28 8
    let x := arrive dt 0x0E02 7 p (fun acc => if stamp ≤ acc + 200 * qUs then startAt acc 0 else acc) s
    (stamp ≤ x.2.cmp + 200 * qUs → commanding s = true →
      exec (.kdModemTx dt p) s = .next (modemDecide ⟨p, x.2.acc, startAt x.2.cmp stamp⟩ x.1))
    ∧ (x.2.cmp + 200 * qUs < stamp ∨ commanding s = false → stamp ≤ x.2.cmp + 10 * qSec →
      exec (.kdModemTx dt p) s = .next (x.1.upModem (fun m => { m with
        host := m.host ++ [⟨p, x.2.acc, startAt x.2.cmp stamp⟩] })))
    ∧ (x.2.cmp + 10 * qSec < stamp →
      exec (.kdModemTx dt p) s = .next ({ x.2 with bound := decideAt x.2.cmp }.refuse 7 0x28 x.1)))
  ∧ (let sends := fun (s : State) (x : MTx) =>
      s.modem.enabled = true ∧ (s.modem.shutdown = true → x.sent ≠ 0) ∧ s.pow.state = .serving
    (∀ (dt : Nat) (high : Bool) (s : State),
    let ready := high != (fld s.modem.recd 0x22 1).testBit 1
    (ready ≠ s.modem.ready → exec (.mdmReadyChange dt high) s
      = .next (modemStatus ((tick dt s).upModem (fun m => { m with
          ready := ready, started := !ready && modemSends (tick dt s) }))))
    ∧ (ready = s.modem.ready → exec (.mdmReadyChange dt high) s = .next (tick dt s)))
  ∧ (∀ (dt : Nat) (s : State),
    let s1 := tick dt s
    let m := s.modem
    let may := fun (x : MTx) => sends s x ∧ (m.ready = true ∨ m.started = true)
    let s2 := s1.upModem (fun m => { m with
      txBytes := satAdd 32 m.txBytes 1, waitEl := s.now.el + dt, stalled := false, started := false })
    (m.out = [] → exec (.modemCharacterSent dt) s = .next s1)
    ∧ (∀ (x : MTx) (r : List MTx), m.out = x :: r →
      (¬may x → exec (.modemCharacterSent dt) s = .next s1)
      ∧ (may x → x.sent + 1 < x.wire.length → exec (.modemCharacterSent dt) s
        = .next (s2.upModem (fun m => { m with out := { x with sent := x.sent + 1 } :: r })))
      ∧ (may x → x.wire.length ≤ x.sent + 1 →
        let same := fun (y : MTx) => y.post == x.post && y.post.isSome
        let twice := x.copy || r.any (fun y => same y && y.copy)
        let s3 := s2.upModem (fun m => { m with out := r.map (fun y => if same y then { y with post := none } else y) })
        let s4 := match x.post with
          | some (p, acc) => complete 0x0E02 7 p acc ⟨0, 0, if twice then 1 else 0, 0, 0, s1.now.ft⟩ s3
          | none => s3
        exec (.modemCharacterSent dt) s = .next (if m.shutdown then modemShutdownEnd true s4 else s4)))))
  ∧ (∀ s : State, s.modem.out = [] ∨ s.modem.stalled = true → exec .modemTxStall s = .next s)
  ∧ (∀ s : State, (∀ x ∈ s.modem.out, x.sent = 0 → x.endEl = none) → exec .modemTxLifetime s = .next s)
  ∧ (∀ (ring : Bool) (s : State), fld (modemRec s) 0x30 2 = 0 → exec (.modemStatusPeriod ring) s = .next s)
  ∧ (∀ s : State, s.modem.out ≠ [] → s.modem.stalled = false →
    exec .modemTxStall s
      = .next (raise 113 0xFFFF 0 ((reachEl (s.modem.waitEl + fld (modemRec s) 0x32 2 * qMs) s).upModem
          (fun m => { m with stalled := true }))))
  ∧ (∀ (s : State) (t : Nat), (∃ x ∈ s.modem.out, x.sent = 0 ∧ x.endEl = some t) →
    (∀ x ∈ s.modem.out, x.sent = 0 → ∀ u, x.endEl = some u → t ≤ u) →
    let s1 := reachEl t s
    let gone := fun (x : MTx) => decide (x.sent = 0 ∧ x.endEl = some t)
    let out := modemGone (s.modem.out.filter gone) (s.modem.out.filter (fun x => !gone x))
    exec .modemTxLifetime s
      = .next (out.foldl (fun s x => modemDone x (refusedWith 0x12 0 (beatAt s1.now.ft)) s)
          (s1.upModem (fun m => { m with
            out := m.out.filter (fun x => !gone x), txExpired := satAdd 16 m.txExpired out.length }))))
  ∧ (∀ (ring : Bool) (s : State), fld (modemRec s) 0x30 2 ≠ 0 →
    let t := s.modem.statusNext
    exec (.modemStatusPeriod ring) s
      = .next (modemStatus ((reach t s).upModem (fun m => { m with
          ring := ring, statusNext := nextPeriod t (fld (modemRec s) 0x30 2) }))))

/-- The commands of the cab display. Rule R419, R420, R421, R423, R424, R425, R426, R429. -/
def Obligations.DisplayEffect : Prop :=
  (∀ s : State, s.disp.state = .rails →
    let d := s.disp
    (d.lcdEn1 = false → exec .displayLcdEn1 s
      = .next ((reachEl (d.stepEl + 20 * qMs) s).upDisp (fun d => { d with lcdEn1 := true })))
    ∧ (d.lcdEn1 = true →
      let s1 := reachEl (d.stepEl + 70 * qMs) s
      exec .displayRailsDone s
        = .next (dispState .clearing (s1.upDisp (fun d => { d with
            plus := true, shown := 0, accPlus := 0, accMinus := 0, frames := 0, rateFrames := 0, rateEl := s1.now.el
            band := d.bandDue, hz := max 1 (fld (dispRec s) (0x28 + 2 * d.bandDue) 2), anyOn := false })))))
  ∧ (∀ s : State,
    let d := s.disp
    (d.state ≠ .rails ∨ d.lcdEn1 = true → exec .displayLcdEn1 s = .next s)
    ∧ (d.state ≠ .rails ∨ d.lcdEn1 = false → exec .displayRailsDone s = .next s)
    ∧ (d.state = .off ∨ d.state = .rails ∨ (d.state = .shutdown ∧ d.shutStep ≠ 1) → exec .displayFrame s = .next s)
    ∧ (d.state ≠ .shutdown ∨ d.shutStep ≠ 2 → exec .displayShutdownEn0 s = .next s)
    ∧ (d.state ≠ .shutdown ∨ d.shutStep ≠ 3 → exec .displayShutdownEnd s = .next s))
  ∧ (∀ s : State,
    let d := s.disp
    let s1 := (reachEl (d.rateEl + (d.rateFrames + 1) * qSec / max 1 d.hz) s).upDisp (fun d => { d.account with
      plus := !d.plus, frames := add32 d.frames 1, rateFrames := d.rateFrames + 1 })
    let s2 := if d.plus then s1 else takeBand s1
    (d.state = .clearing → d.frames ≠ 3 → d.frames < 2 ^ 32 → exec .displayFrame s = .next s2)
    ∧ (d.state = .clearing → d.frames = 3 → exec .displayFrame s
      = .next (dispState .showing (showFrame (takeBand (s1.upDisp (fun d => { d with blEn := true }))))))
    ∧ (d.state = .showing → exec .displayFrame s = .next (showFrame s2))
    ∧ (d.state = .shutdown → d.shutStep = 1 → exec .displayFrame s
      = .next (if d.plus = false ∧ d.account.accPlus = 0 ∧ d.account.accMinus = 0 then dispEn1Low s1
          else s1.upDisp (fun d => (d.apply 0).1))))
  ∧ (∀ s : State, s.disp.state = .shutdown →
    let d := s.disp
    (d.shutStep = 2 →
      let s1 := reachEl (d.stepEl + 50 * qMs) s
      exec .displayShutdownEn0 s
        = .next (s1.upDisp (fun d => { d with lcdEn0 := false, shutStep := 3, stepEl := s1.now.el })))
    ∧ (d.shutStep = 3 →
      let s1 := reachEl (d.stepEl + 100 * qMs) s
      (d.held = true → s.pow.state = .serving → exec .displayShutdownEnd s = .next (dispRails s1))
      ∧ (d.held = false ∨ s.pow.state ≠ .serving → exec .displayShutdownEnd s
        = .next (dispState .off (s1.upDisp (fun d => { d with shutStep := 0 }))))))
  ∧ (∀ (dt : Nat) (p : Post) (s : State), Passes scSegmentMap true p s →
    let x := arrive dt 0x0F02 0x08 p decideAt s
    let put := fun s => dispSilence (s.upDisp (fun d => { d with
      waiting := some ⟨leNat (fieldBytes p.body 0x24 60), p, x.2.acc⟩, mapEver := true, lastMapEl := s.now.el }))
    (s.disp.waiting = none → exec (.kdSegmentMap dt p) s = .next (put x.1))
    ∧ (∀ w, s.disp.waiting = some w → exec (.kdSegmentMap dt p) s
      = .next (put (complete 0x0F02 0x08 w.post w.acc ⟨3, 0, 0, p.corr, 0, x.2.bound⟩ x.1))))
  ∧ (∀ s : State,
    let t := fld (dispRec s) 0x22 2
    let per := fld (dispRec s) 0x34 2
    (t ≠ 0 → s.disp.mapEver = true → s.disp.silent = false →
      let s1 := reachEl (s.disp.lastMapEl + t * qMs) s
      (commanding s = true → exec .displayHostTimeout s = .next (dispSilence s1))
      ∧ (commanding s = false → exec .displayHostTimeout s = .next s1))
    ∧ (t = 0 ∨ s.disp.mapEver = false ∨ s.disp.silent = true → exec .displayHostTimeout s = .next s)
    ∧ (per = 0 → exec .displayStatusPeriod s = .next s)
    ∧ (per ≠ 0 → exec .displayStatusPeriod s
      = .next (dispStatus ((reach s.disp.statusNext s).upDisp (fun d => { d with
          statusNext := nextMul (per * qMs) d.statusNext })))))

/-- The supply, the rails, the hold-up and the start-up. Rule R465, R467, R469, R470, R471, R472, R482, R487,
R492, R534. -/
def Obligations.SupplyAndRailsEffect : Prop :=
  (∀ (dt mv : Nat) (s : State), s.pow.state = .unpowered →
    let s1 := tick dt s
    let start := fun (ign : Bool) => ((s1.upNow (fun n => { n with ft := s.time.savedFt })).upTime (fun t => { t with
      unknown := true, u0 := maxPs, uAt := s1.now.el, aonSince := s1.now.el })).upPow (fun p => { p with
        state := .dormant, enteredAt := s1.now.el, ign := ign, vbatMv := mv })
    exec (.vbatConnect dt mv false) s = .next (start false)
    ∧ exec (.vbatConnect dt mv true) s = .next (startServing 6 false false (start true)))
  ∧ (∀ (dt : Nat) (s : State), s.pow.state = .dormant →
    let s1 := tick dt s
    ∃ t, exec (.vbatLost dt) s = .next t ∧ t.pow.state = .unpowered ∧ t.pow.ign = false ∧ t.hub.lg.queue = []
      ∧ t.pow.aonWakeMask = 1 ∧ t.pow.aonKeepMin = 30 ∧ t.pow.aonTimerS = 3600 ∧ t.pow.aonServeS = 300
      ∧ t.pow.aonKeepMv = 23000 ∧ t.hub.lg.slots = s.hub.lg.slots ∧ t.cat = s.cat ∧ t.img = s.img ∧ t.now = s1.now)
  ∧ (∀ (dt mv us : Nat) (s : State),
    let s1 := tick dt s
    let data := leBytes 2 (min mv 65535) ++ leBytes 4 (min us (2 ^ 32 - 1))
    let event := fun k (s : State) => raiseX k 0xFFFF 0 0 data s1.now.ft s1.now.ft s
    exec (.supplyCrank dt mv us) s = .next (event 2 (s1.upPow (fun p => { p with undervolt := false })))
    ∧ exec (.supplyUndervolt dt mv us) s
      = .next (event 0 (s1.upPow (fun p => { p with undervolt := true, vbatMv := mv })))
    ∧ exec (.supplyOvervolt dt mv us) s
      = .next (event 1 (s1.upPow (fun p => { p with overvolt := true, vbatMv := mv })))
    ∧ exec (.supplyFall dt mv us) s = .next (supplyFall mv us s1))
  ∧ (∀ (dt mv : Nat) (m : PlanMeas) (s : State),
    let s1 := tick dt s
    (s.pow.state = .serving → s.pow.sub = .holdup → s.pow.deadlinePast = false →
      let s2 := s1.upPow (fun p => { p with
        sub := .run, supplyReturned := true, vbatMv := mv, undervolt := false, keyoffStep := 0
        timedServe := !p.ign, wakeAt := if p.ign then p.wakeAt else s1.now.el })
      let s3 := s2.upGnss (fun g => { g with bias := decide (fld g.recd 0x21 1 = 1) && g.ant != 3 })
      let s4 := powerStatus (beatAt s1.now.ft) (raise 5 0xFFFF 6 (modemHold (dispCommit s3)))
      exec (.supplyReturn dt mv m) s = .next (if s4.mar.planDue then formPlan 1 m s4 else s4))
    ∧ (s.pow.state = .dormant → s.pow.ign = true →
      exec (.supplyReturn dt mv m) s = .next (startServing 6 false false s1)))
  ∧ (∀ (still : Bool) (s : State), s.pow.state = .serving → s.pow.sub = .holdup → s.pow.deadlinePast = false →
    exec (.holdupReturnDeadline still) s
      = .next (holdupDeadline still (reachEl (s.pow.fallAt + returnDeadlineMs s.mar.level s.mar.holdupMs * qMs) s)))
  ∧ (∀ (dt mv : Nat) (s : State), s.pow.state = .serving → s.pow.sub = .holdup → s.pow.deadlinePast = true →
    let s1 := tick dt s
    (5000 ≤ mv → exec (.holdupComplete dt mv) s = .next (toDormant (leaveServing .dormant (unitsOff s1))))
    ∧ (mv < 5000 → exec (.holdupComplete dt mv) s
      = .next (aonLost (handAon (leaveServing .unpowered (unitsOff s1))))))
  ∧ (∀ (dt rail code : Nat) (s : State), s.pow.state = .serving →
    let s2 := raise 6 rail code (tick dt s)
    (∀ i : Fin 2, (laneOf s i).state ≠ .off →
      exec (.railFault dt rail code ⟨i.val, by omega⟩) s
        = .next (laneFails i false (upLane i (fun l => { l with
            rails := rail :: l.rails.filter (· != rail), inReset := true }) s2)))
    ∧ (∀ i : Fin 2, (laneOf s i).state = .off →
      exec (.railFault dt rail code ⟨i.val, by omega⟩) s
        = .next (upLane i (fun l => { l with rails := rail :: l.rails.filter (· != rail), inReset := true }) s2))
    ∧ exec (.railFault dt rail code 2) s = .next (s2.upLanes (fun l => { l.goSilent with
        curatorRails := rail :: l.curatorRails.filter (· != rail) }))
    ∧ exec (.railFault dt rail code 3) s = .next (supplyFall s2.pow.vbatMv 0 (s2.upPow (fun p => { p with
        rails := rail :: p.rails.filter (· != rail) }))))
  ∧ (∀ (dt mv us rail code : Nat) (b : Bool) (o : Fin 4) (m : PlanMeas) (s : State),
    let s1 := tick dt s
    (s.pow.state ≠ .unpowered → exec (.vbatConnect dt mv b) s = .next s1)
    ∧ (s.pow.state ≠ .dormant → exec (.vbatLost dt) s = .next s1)
    ∧ (s.pow.state ≠ .dormant ∨ s.pow.ign = false →
      s.pow.state ≠ .serving ∨ s.pow.sub ≠ .holdup ∨ s.pow.deadlinePast = true →
      exec (.supplyReturn dt mv m) s = .next s1)
    ∧ (s.pow.state ≠ .serving ∨ s.pow.sub ≠ .holdup ∨ s.pow.deadlinePast = true →
      exec (.holdupReturnDeadline b) s = .next s)
    ∧ (s.pow.state ≠ .serving ∨ s.pow.sub ≠ .holdup ∨ s.pow.deadlinePast = false →
      exec (.holdupComplete dt mv) s = .next s1)
    ∧ (s.pow.state ≠ .serving → exec (.railFault dt rail code o) s = .next s1)
    ∧ (s.pow.state ≠ .serving ∨ s.pow.sub ≠ .run ∨ s.pow.bankCharged = true →
      exec (.holdupBankCharged dt m) s = .next s1))
  ∧ (∀ (dt rail : Nat) (s : State),
    let s1 := tick dt s
    (∀ i : Fin 2, (laneOf s i).state ≠ .booting ∨ (laneOf s i).rails = [] ∨ (∃ r ∈ (laneOf s i).rails, r ≠ rail) →
      exec (.railReturn dt rail ⟨i.val, by omega⟩) s
        = .next (upLane i (fun l => { l with rails := l.rails.filter (· != rail) }) s1)) ∧
    (∀ i : Fin 2, (laneOf s i).rails = [rail] → (laneOf s i).state = .booting →
      exec (.railReturn dt rail ⟨i.val, by omega⟩) s
        = .next (releaseLane i false (upLane i (fun l => { l with rails := l.rails.filter (· != rail) }) s1)))
    ∧ exec (.railReturn dt rail 2) s = .next (s1.upLanes (fun l => { l with
        curatorRails := l.curatorRails.filter (· != rail) }))
    ∧ exec (.railReturn dt rail 3) s = .next (s1.upPow (fun p => { p with rails := p.rails.filter (· != rail) })))
  ∧ (∀ (dt : Nat) (m : PlanMeas) (s : State), s.pow.state = .serving → s.pow.sub = .run → s.pow.bankCharged = false →
    exec (.holdupBankCharged dt m) s
      = .next (releaseLane 1 true (releaseLane 0 true (formPlan 0 m
          ((tick dt s).upPow (fun p => { p with bankCharged := true }))))))
  ∧ (∀ (dt : Nat) (s : State),
    let to1 := fun (b : Bool) => (tick dt s).upPow (fun p => { p with perst := b })
    exec (.pciePerst dt false) s = .next (to1 false)
    ∧ (linkLive (to1 true) = true → exec (.pciePerst dt true) s = .next (linkReset false (to1 true)))
    ∧ (linkLive (to1 true) = false → exec (.pciePerst dt true) s = .next (to1 true)))

/-- Ignition, the wake sources, the key-off sequence, Keeping and the power status. Rule R393, R412, R466,
R469, R470, R473, R474, R480, R491. -/
def Obligations.WakeAndKeyoffEffect : Prop :=
  (∀ (dt : Nat) (s : State),
    let s1 := tick dt s
    let ign := s1.upPow (fun p => { p with ign := true, timedServe := false })
    let low := s1.upPow (fun p => { p with ign := false })
    let ring := s1.upModem (fun m => { m with ring := true })
    let t5 := reachEl (s.pow.enteredAt + s.pow.aonTimerS * qSec) s
    (s.pow.state = .dormant →
      exec (.ignHigh dt) s = .next (startServing 0 false false ign)
      ∧ (s.pow.aonWakeMask.testBit 0 = true → exec (.hostWake dt) s = .next (startServing 4 false false s1))
      ∧ (s.pow.aonWakeMask.testBit 1 = true → exec .wakeTimer s = .next (startServing 5 false false t5))
      ∧ (s.pow.aonRing = true → exec (.modemRing dt) s = .next (startServing 3 false false ring)))
    ∧ (s.pow.state = .keeping →
      exec (.ignHigh dt) s = .next (startServing 0 true false ign)
      ∧ (s.pow.aonWakeMask.testBit 0 = true → exec (.hostWake dt) s = .next (startServing 4 true false s1))
      ∧ (s.pow.aonWakeMask.testBit 1 = true → exec .wakeTimer s = .next (startServing 5 true false t5))
      ∧ (s.pow.aonRing = true → exec (.modemRing dt) s = .next (startServing 3 true false ring)))
    ∧ (s.pow.state = .unpowered ∨ (s.pow.state = .serving ∧ (s.pow.sub ≠ .keyoff ∨ s.pow.heldWake ≠ none)) →
      exec (.ignHigh dt) s = .next ign ∧ exec (.hostWake dt) s = .next s1 ∧ exec (.modemRing dt) s = .next ring
      ∧ ∀ c, exec (.canWakePattern dt c) s = .next s1)
    ∧ (s.pow.state ≠ .serving → s.pow.aonWakeMask.testBit 0 = false → exec (.hostWake dt) s = .next s1)
    ∧ (s.pow.state ≠ .serving → s.pow.aonRing = false → exec (.modemRing dt) s = .next ring)
    ∧ (s.pow.state = .unpowered ∨ s.pow.state = .serving ∨ s.pow.aonWakeMask.testBit 1 = false →
      exec .wakeTimer s = .next s)
    ∧ (s.pow.state ≠ .serving ∨ s.pow.sub ≠ .run →
      exec (.ignLow dt) s = .next low ∧ exec .wakeServeExpiry s = .next s)
    ∧ (s.pow.timedServe = false → exec .wakeServeExpiry s = .next s)
    ∧ (s.pow.state = .serving → s.pow.sub = .keyoff → s.pow.heldWake = none →
      exec (.ignHigh dt) s = .next (ign.upPow (fun p => { p with heldWake := some 0 }))
      ∧ ((cfg s 0x1201 0 0x24 1).testBit 0 = true →
        exec (.hostWake dt) s = .next (s1.upPow (fun p => { p with heldWake := some 4 }))))
    ∧ (∀ c : Fin 2, (if c = 0 then s.pow.aonCan0 else s.pow.aonCan1) = true →
      let wake := fun (warm : Bool) => .next (upCtlr c (fun k => { k with wakeSource := true })
        (startServing (1 + c) warm false s1))
      (s.pow.state = .dormant → exec (.canWakePattern dt c) s = wake false)
      ∧ (s.pow.state = .keeping → exec (.canWakePattern dt c) s = wake true))
    ∧ (s.pow.state = .serving → s.pow.sub = .run → s.pow.timedServe = false →
      exec (.ignLow dt) s = .next (beginKeyoff low))
    ∧ (s.pow.state = .serving → s.pow.sub = .run → s.pow.timedServe = true →
      exec (.ignLow dt) s = .next low
      ∧ (let s2 := (reachEl (s.pow.wakeAt + cfg s 0x1201 0 0x26 2 * qSec) s).upPow (fun p => { p with
          timedServe := false })
        exec .wakeServeExpiry s = .next (if s.pow.ign then s2 else beginKeyoff s2))))
  ∧ (∀ (dt uf esr mv : Nat) (still : Bool) (m : PlanMeas) (s : State),
    let s1 := tick dt s
    (s.pow.keyoffStep ≠ 3 ∨ s.pow.state ≠ .serving ∨ s.pow.sub ≠ .keyoff → exec (.keyoffFlushDone dt) s = .next s1)
    ∧ (s.pow.keyoffStep ≠ 4 ∨ s.pow.state ≠ .serving ∨ s.pow.sub ≠ .keyoff →
      exec (.keyoffSaveDone dt uf esr still) s = .next s1)
    ∧ (s.pow.keyoffStep ≠ 5 ∨ s.pow.state ≠ .serving ∨ s.pow.sub ≠ .keyoff ∨ s.disp.state ≠ .off →
      exec (.keyoffComplete dt mv m) s = .next s1)
    ∧ (s.pow.state ≠ .keeping → exec .keepMinExpiry s = .next s ∧ exec (.keepVbatLow dt) s = .next s1))
  ∧ (∀ (dt : Nat) (s : State), s.pow.state = .serving → s.pow.sub = .keyoff →
    let s1 := tick dt s
    (s.pow.keyoffStep = 3 → exec (.keyoffFlushDone dt) s
      = .next ((mapKeyoff s1).upPow (fun p => { p with keyoffStep := 4 })))
    ∧ (∀ (uf esr : Nat) (still : Bool), s.pow.keyoffStep = 4 → ∃ t,
      exec (.keyoffSaveDone dt uf esr still) s = .next t ∧ t.pow.keyoffStep = 5 ∧ t.mar.holdupUf = uf
        ∧ t.mar.esrMohm = esr ∧ t.mar.holdupMs = holdupTime uf esr ∧ t.cat.flash = t.cat.cats
        ∧ t.time.savedFt = s1.now.ft ∧ t.fus.saved = (saveFusion still s1).fus.saved)
    ∧ (∀ (mv : Nat) (m : PlanMeas), s.pow.keyoffStep = 5 → s.disp.state = .off →
      let s2 := drainRings (powerStatus (beatAt s1.now.ft) (s1.upPow (fun p => { p with vbatMv := mv })))
      let s4 := (unitsOff (lanesOff s2)).upPow (fun p => { p with
        keyoffStep := 0, lastKeyoffMs := ((unitsOff (lanesOff s2)).now.el - p.keyoffAt) / qMs })
      let s5 := leaveServing .dormant s4
      (∀ code, s2.pow.heldWake = some code →
        exec (.keyoffComplete dt mv m) s
          = .next (releaseLane 1 true (releaseLane 0 true (formPlan 0 m
              (startServing code true true (leaveServing .keeping s4))))))
      ∧ (s2.pow.heldWake = none → s5.pow.aonKeepMin ≠ 0 → s5.pow.aonKeepMv ≤ mv →
        exec (.keyoffComplete dt mv m) s = .next (toKeeping s5))
      ∧ (s2.pow.heldWake = none → (s5.pow.aonKeepMin = 0 ∨ mv < s5.pow.aonKeepMv) →
        exec (.keyoffComplete dt mv m) s = .next (toDormant s5))))
  ∧ (∀ (dt : Nat) (s : State), s.pow.state = .keeping →
    exec .keepMinExpiry s = .next (toDormant (reachEl (s.pow.enteredAt + s.pow.aonKeepMin * 60 * qSec) s))
    ∧ exec (.keepVbatLow dt) s = .next (toDormant (tick dt s)))
  ∧ (∀ (mv mw : Nat) (vs : List Nat) (plate : Int) (s : State), s.pow.state ≠ .serving ∨ cfg s 0x1201 0 0x2C 2 = 0 →
    exec (.powerStatusPeriod mv vs plate mw) s = .next s)
  ∧ (∀ (mv mw : Nat) (vs : List Nat) (plate : Int) (s : State), s.pow.state = .serving →
    cfg s 0x1201 0 0x2C 2 ≠ 0 →
    let t := s.pow.statusNext
    exec (.powerStatusPeriod mv vs plate mw) s
      = .next (powerStatus t ((reach t s).upPow (fun p => { p with
          statusNext := nextPeriod t (cfg s 0x1201 0 0x2C 2), vbatMv := mv, vsMv := vs.map (fun v => min v 65535)
          plateC := plate, logicMw := mw, undervolt := p.undervolt && decide (mv < 9000)
          overvolt := p.overvolt && decide (36000 < mv) }))))

/-- MARGIN_PLAN, MARGIN_STEP_APPLY and FLASH_REFRESH_DUE. Rule R486, R487, R489, R490. -/
def Obligations.MarginEffect : Prop :=
  (∀ (p : PlanMeas) (s : State), s.pow.state ≠ .serving →
    exec (.marginPlan p) s = .next s ∧ exec .flashRefreshDue s = .next s)
  ∧ (∀ s : State, (∀ x ∈ s.mar.pendingSteps, stepWaits s x.1 = true) → exec .marginStepApply s = .next s)
  ∧ (∀ (p : PlanMeas) (s : State), s.pow.state = .serving →
    let s1 := reachEl (s.mar.planAt + 3600 * qSec) s
    (s.pow.sub = .run → exec (.marginPlan p) s = .next (formPlan 1 p s1))
    ∧ (s.pow.sub ≠ .run → exec (.marginPlan p) s = .next (s1.upMar (fun m => { m with planDue := true }))))
  ∧ (∀ s : State, (∃ x ∈ s.mar.pendingSteps, stepWaits s x.1 = false) →
    let s1 := reach (nextMul qBeat s.now.ft) s
    let go := fun (x : Nat × Nat) => !stepWaits s x.1
    exec .marginStepApply s
      = .next ((s.mar.pendingSteps.filter go).foldl (fun s x => raise 126 (domainNo x.1) x.2 s)
          (s1.upMar (fun m => { m with pendingSteps := m.pendingSteps.filter (fun x => stepWaits s x.1) }))))
  ∧ (∀ s : State, s.pow.state = .serving →
    let s1 := reachEl (s.mar.refreshedAt + s.mar.refreshDays * 86400 * qSec) s
    exec .flashRefreshDue s = .next (s1.upMar (fun m => { m with refreshedAt := s1.now.el })))

/-- Every pixel's DC accumulator stays within -1 to +1, and a deferred turn-off lasts exactly one frame. Rule
R419. -/
def Obligations.DisplayDcBalance : Prop :=
  ∀ (d : Display) (want : Nat), d.balanced →
    let turn := fun (d : Display) (want : Nat) => (({ d.account with plus := !d.plus } : Display).apply want).1
    let e := turn d want
    e.balanced
    ∧ ∀ i, i < 480 →
      e.acc i = d.acc i + (if d.shown.testBit i then (if d.plus then 1 else -1) else 0)
      ∧ -1 ≤ e.acc i ∧ e.acc i ≤ 1
      ∧ (e.shown.testBit i = true ↔ want.testBit i = true ∨ (d.shown.testBit i = true ∧ e.acc i ≠ 0))
      ∧ (d.shown.testBit i = true → want.testBit i = false → e.acc i ≠ 0 →
          e.acc i = (if e.plus then -1 else 1)
          ∧ ∀ then_, (turn e then_).acc i = 0 ∧ (turn e then_).shown.testBit i = then_.testBit i)

/-- DB_POLL_US is 20 at reset, and a write stores its low ten bits held within 2 to 1 000. Rule R512. -/
def Obligations.DbPollRegister : Prop :=
  State.reset.bar.dbPollUs = 20
  ∧ (∀ (dt value : Nat) (s : State), linkLive s = true →
    let k := value % 1024
    let stored := if k < 2 then 2 else if 1000 < k then 1000 else k
    let t := (tick dt s).upBar (fun b => { b with dbPollUs := stored })
    exec (.dbPoll dt value) s = .next t ∧ exec (.registerWrite dt 0x118 4 value) s = .next t
    ∧ barRead 0x118 t = stored)
  ∧ (∀ (dt : Nat) (s : State), linkLive s = true → s.hub.link.running = true → s.hub.link.phase = .awake →
    ∃ t, exec (.doorbellPoll dt) s = .next t
      ∧ t.hub.link.pollAt = some (t.now.el + s.bar.dbPollUs * qUs))

/-- A 1 written to WAKE ends a doze or restarts the 50 ms timer, a 0 has no effect. Rule R514. -/
def Obligations.WakeRegister : Prop :=
  ∀ (dt value : Nat) (s : State), linkLive s = true →
    let s1 := tick dt s
    let woken := fun (l : Link) => { l with dozing := false, phase := .awake, dozeAt := s.now.el + dt + 50 * qMs }
    (value % 2 = 0 → exec (.wake dt value) s = .next s1)
    ∧ (value % 2 = 1 → s.hub.link.running = true → s.hub.link.phase = .dozing →
      exec (.wake dt value) s
        = .next (raise 27 0xFFFF 0 (upLink (fun l => { woken l with pollAt := none }) s1)))
    ∧ (value % 2 = 1 → s.hub.link.running = true → s.hub.link.phase ≠ .dozing →
      exec (.wake dt value) s = .next (upLink woken s1))
    ∧ (s.hub.link.running = false → exec (.wake dt value) s = .next s1)

/-- QUIET keeps back the completion of an accepted submission, and no other. Rule R101. -/
def Obligations.QuietFlag : Prop :=
  (∀ (kind src acc : Nat) (p : Post) (d : Done) (s : State),
    (p.flags % 2 = 1 → d.outcome = 0 → complete kind src p acc d s = s)
    ∧ ((p.flags % 2 = 0 ∨ d.outcome ≠ 0) →
      complete kind src p acc d s = complete kind src { p with flags := 0 } acc d s
      ∧ (commanding s = true → complete kind src p acc d s
        = ask (.complete (nth 0 s.hub.link.compRing p.ring)
          { kind := 1, cls := 0, source := src, flags := slipFlags s 0 acc, owner := none, seq := 0, corr := p.corr
            acc := acc, eff := d.eff, body := completionBody kind p.ring p.seq d, bulk := none, vec := none
            holdOf := none }) s)))
  ∧ (∀ (dt : Nat) (p : Post) (e : RingEntry) (s : State),
    exec (.kdRingReset dt { p with flags := 1 } e) s = exec (.kdRingReset dt { p with flags := 0 } e) s)
  ∧ (∀ (sc : Option RecSchema) (off size : Nat) (byKey : Bool) (seq : Nat) (p : Post),
    p.flags / 2 ≠ 0 → checkBody sc off size byKey seq p ≠ none)

/-- SELECT makes the unit's STORED slot TRY, or is refused. Rule R457. -/
def Obligations.ImageSelect : Prop :=
  ∀ (c : ImgCmd) (b : Nat) (s : State), c.action = 2 →
    let u := fld c.post.body 0x21 1
    let done := fun (d : Done) (s : State) => complete 0x1101 0x10 c.post c.stamp d s
    (slotIn s u .stored = none → imageCarry c b s = done (refusedWith 8 0 b) s)
    ∧ (∀ n, slotIn s u .stored = some n →
      let h := (slotAt s n).hdr
      let floor := nth 0 s.img.floors (h.kind - 1)
      (h.version < floor → imageCarry c b s = done (refusedWith 0x1105 0 b) s)
      ∧ (floor ≤ h.version →
        let s1 := match slotIn s u .try_ with | some o => putSlot o .stored s | none => s
        imageCarry c b s = done (accepted n b) (setSlot n .try_ s1)
        ∧ (slotAt (imageCarry c b s) n).state = .try_ ∧ nextSlot (imageCarry c b s) u = some n))

/-- The slot of a new Ledger record, and the record that is dropped. Rule R440. -/
def Obligations.LedgerSlotChoice : Prop :=
  ∀ (s : State) (r : LRec) (vec : Option Nat),
    let g := s.hub.lg
    let used := fun (n : Nat) => ∃ x ∈ g.slots, x.1 = n
    let holds := fun (v : Nat) (x : Nat × LRec) => x ∈ g.slots ∧ 1024 ≤ x.1 ∧ x.2.sev = v
    let full := 1024 ≤ g.founding ∧ ∀ n, 1024 ≤ n → n < 65536 → used n
    g.slots.Pairwise (fun a b => a.1 < b.1) →
    (g.founding < 1024 → ∃ h, g.write r = some h ∧ h.headSlot = g.founding ∧ h.founding = g.founding + 1)
    ∧ (1024 ≤ g.founding → ∀ n, 1024 ≤ n → n < 65536 → ¬used n → (∀ m, 1024 ≤ m → m < n → used m) →
      ∃ h, g.write r = some h ∧ h.headSlot = n ∧ h.founding = g.founding)
    ∧ (full → ∀ v, v ≤ r.sev → (∃ x, holds v x) → (∀ w, w < v → ¬∃ x, holds w x) →
      ∃ h, g.write r = some h ∧ h.founding = g.founding
        ∧ ∃ x, holds v x ∧ h.headSlot = x.1 ∧ ∀ y, holds v y → sub32 g.headSeq y.2.seq ≤ sub32 g.headSeq x.2.seq)
    ∧ (∀ h, g.write r = some h →
      h.headSeq = (if g.headSeq = 0xFFFFFFFF then 1 else g.headSeq + 1) ∧ h.drops = g.drops
      ∧ (h.headSlot, { r with seq := h.headSeq, flags := if g.founding < 1024 then r.flags ||| 0x80 else r.flags })
          ∈ h.slots
      ∧ (∀ x ∈ g.slots, x.1 ≠ h.headSlot → x ∈ h.slots)
      ∧ writeRecord r vec s = s.upHub (fun u => { u with
          lg := h, link := match vec with | some v => u.link.signal v | none => u.link }))
    ∧ (full → (∀ v, v ≤ r.sev → ¬∃ x, holds v x) →
      let drops := upd g.drops r.sev (fun k => satAdd 32 k 1)
      let s1 := s.upHub (fun u => { u with lg := { u.lg with drops := drops, lastDrop := some s.now.ft } })
      g.write r = none
      ∧ writeRecord r vec s = (if (∀ t, g.lastDrop = some t → t + qSec ≤ s.now.ft) then
          raiseX 116 0xFFFF 0 0 (drops.flatMap (leBytes 4)) s.now.ft s.now.ft s1 else s1))

/-- No command takes a BAR0 register out of its range. Rule R511, R512. -/
def Obligations.BarRegistersKept : Prop :=
  ∀ (c : Instr) (s t : State), s.bar.inBounds → exec c s = .next t → t.bar.inBounds

/-- No command takes Field Time's rate, epoch or TIME_OK out of their bounds. Rule R18, R23, R26, R32. -/
def Obligations.TimeBoundsKept : Prop :=
  ∀ (c : Instr) (s t : State), s.time.inBounds → exec c s = .next t → t.time.inBounds

/-- No command takes the display out of DC balance. Rule R419. -/
def Obligations.DcBalanceKept : Prop :=
  ∀ (c : Instr) (s t : State), s.disp.balanced → exec c s = .next t → t.disp.balanced

/-- The invariants hold at reset. Rule R18, R26, R32, R419, R511, R512. -/
def Obligations.InvariantsAtReset : Prop :=
  State.reset.time.inBounds ∧ State.reset.bar.inBounds ∧ State.reset.disp.balanced

/-- What the machine holds before the supply is first connected, as far as the rules give it. Rule R19, R52,
R70, R469, R511, R512, R521, R543. -/
def Obligations.ResetState : Prop :=
  let s := State.reset
  s.pow.state = .unpowered ∧ s.pending = []
  ∧ s.time.state = .free ∧ s.time.unknown = true ∧ s.time.u0 = 0xFFFFFFFF * 1000 ∧ s.time.f = 0
  ∧ s.lanes.recto.state = .off ∧ s.lanes.verso.state = .off ∧ s.lanes.selector = none
  ∧ s.hub.link.running = false
  ∧ (s.hub.link.sr.length = 32 ∧ ∀ r ∈ s.hub.link.sr, r.st = .unused ∧ r.p = 0 ∧ r.c = 0)
  ∧ (s.hub.link.dr.length = 32 ∧ ∀ r ∈ s.hub.link.dr, r.st = .unused ∧ r.f = 0 ∧ r.h = 0)
  ∧ (s.hub.link.msix.length = 64 ∧ ∀ v ∈ s.hub.link.msix, v.masked = true ∧ v.pending = false)
  ∧ s.bar = { s.bar with rtLo := 0, rtHi := 0, dbLo := 0, dbHi := 0, retLo := 0, retHi := 0, dbPollUs := 20 }
end

