-- ==== Sys2Proof/Laws/State.lean ====
section
/-!
SUPPORT. What each change of one unit leaves alone: one equation per field, all true by computation.
-/
namespace Sys2Proof.Machine

@[simp] theorem State.upNow_now (f : Now → Now) (s : State) : (s.upNow f).now = f s.now := by rfl
@[simp] theorem State.upNow_time (f : Now → Now) (s : State) : (s.upNow f).time = s.time := by rfl
@[simp] theorem State.upNow_lanes (f : Now → Now) (s : State) : (s.upNow f).lanes = s.lanes := by rfl
@[simp] theorem State.upNow_hub (f : Now → Now) (s : State) : (s.upNow f).hub = s.hub := by rfl
@[simp] theorem State.upNow_cat (f : Now → Now) (s : State) : (s.upNow f).cat = s.cat := by rfl
@[simp] theorem State.upNow_sig (f : Now → Now) (s : State) : (s.upNow f).sig = s.sig := by rfl
@[simp] theorem State.upNow_ctl (f : Now → Now) (s : State) : (s.upNow f).ctl = s.ctl := by rfl
@[simp] theorem State.upNow_pas (f : Now → Now) (s : State) : (s.upNow f).pas = s.pas := by rfl
@[simp] theorem State.upNow_img (f : Now → Now) (s : State) : (s.upNow f).img = s.img := by rfl
@[simp] theorem State.upNow_pow (f : Now → Now) (s : State) : (s.upNow f).pow = s.pow := by rfl
@[simp] theorem State.upNow_mar (f : Now → Now) (s : State) : (s.upNow f).mar = s.mar := by rfl
@[simp] theorem State.upNow_bar (f : Now → Now) (s : State) : (s.upNow f).bar = s.bar := by rfl
@[simp] theorem State.upNow_valve (f : Now → Now) (s : State) : (s.upNow f).valve = s.valve := by rfl
@[simp] theorem State.upNow_field (f : Now → Now) (s : State) : (s.upNow f).field = s.field := by rfl
@[simp] theorem State.upNow_can (f : Now → Now) (s : State) : (s.upNow f).can = s.can := by rfl
@[simp] theorem State.upNow_modem (f : Now → Now) (s : State) : (s.upNow f).modem = s.modem := by rfl
@[simp] theorem State.upNow_disp (f : Now → Now) (s : State) : (s.upNow f).disp = s.disp := by rfl
@[simp] theorem State.upNow_gnss (f : Now → Now) (s : State) : (s.upNow f).gnss = s.gnss := by rfl
@[simp] theorem State.upNow_pos (f : Now → Now) (s : State) : (s.upNow f).pos = s.pos := by rfl
@[simp] theorem State.upNow_fus (f : Now → Now) (s : State) : (s.upNow f).fus = s.fus := by rfl
@[simp] theorem State.upNow_cam (f : Now → Now) (s : State) : (s.upNow f).cam = s.cam := by rfl
@[simp] theorem State.upNow_map (f : Now → Now) (s : State) : (s.upNow f).map = s.map := by rfl
@[simp] theorem State.upNow_pending (f : Now → Now) (s : State) : (s.upNow f).pending = s.pending := by rfl

@[simp] theorem State.upTime_now (f : TimeU → TimeU) (s : State) : (s.upTime f).now = s.now := by rfl
@[simp] theorem State.upTime_time (f : TimeU → TimeU) (s : State) : (s.upTime f).time = f s.time := by rfl
@[simp] theorem State.upTime_lanes (f : TimeU → TimeU) (s : State) : (s.upTime f).lanes = s.lanes := by rfl
@[simp] theorem State.upTime_hub (f : TimeU → TimeU) (s : State) : (s.upTime f).hub = s.hub := by rfl
@[simp] theorem State.upTime_cat (f : TimeU → TimeU) (s : State) : (s.upTime f).cat = s.cat := by rfl
@[simp] theorem State.upTime_sig (f : TimeU → TimeU) (s : State) : (s.upTime f).sig = s.sig := by rfl
@[simp] theorem State.upTime_ctl (f : TimeU → TimeU) (s : State) : (s.upTime f).ctl = s.ctl := by rfl
@[simp] theorem State.upTime_pas (f : TimeU → TimeU) (s : State) : (s.upTime f).pas = s.pas := by rfl
@[simp] theorem State.upTime_img (f : TimeU → TimeU) (s : State) : (s.upTime f).img = s.img := by rfl
@[simp] theorem State.upTime_pow (f : TimeU → TimeU) (s : State) : (s.upTime f).pow = s.pow := by rfl
@[simp] theorem State.upTime_mar (f : TimeU → TimeU) (s : State) : (s.upTime f).mar = s.mar := by rfl
@[simp] theorem State.upTime_bar (f : TimeU → TimeU) (s : State) : (s.upTime f).bar = s.bar := by rfl
@[simp] theorem State.upTime_valve (f : TimeU → TimeU) (s : State) : (s.upTime f).valve = s.valve := by rfl
@[simp] theorem State.upTime_field (f : TimeU → TimeU) (s : State) : (s.upTime f).field = s.field := by rfl
@[simp] theorem State.upTime_can (f : TimeU → TimeU) (s : State) : (s.upTime f).can = s.can := by rfl
@[simp] theorem State.upTime_modem (f : TimeU → TimeU) (s : State) : (s.upTime f).modem = s.modem := by rfl
@[simp] theorem State.upTime_disp (f : TimeU → TimeU) (s : State) : (s.upTime f).disp = s.disp := by rfl
@[simp] theorem State.upTime_gnss (f : TimeU → TimeU) (s : State) : (s.upTime f).gnss = s.gnss := by rfl
@[simp] theorem State.upTime_pos (f : TimeU → TimeU) (s : State) : (s.upTime f).pos = s.pos := by rfl
@[simp] theorem State.upTime_fus (f : TimeU → TimeU) (s : State) : (s.upTime f).fus = s.fus := by rfl
@[simp] theorem State.upTime_cam (f : TimeU → TimeU) (s : State) : (s.upTime f).cam = s.cam := by rfl
@[simp] theorem State.upTime_map (f : TimeU → TimeU) (s : State) : (s.upTime f).map = s.map := by rfl
@[simp] theorem State.upTime_pending (f : TimeU → TimeU) (s : State) : (s.upTime f).pending = s.pending := by rfl

@[simp] theorem State.upLanes_now (f : Lanes → Lanes) (s : State) : (s.upLanes f).now = s.now := by rfl
@[simp] theorem State.upLanes_time (f : Lanes → Lanes) (s : State) : (s.upLanes f).time = s.time := by rfl
@[simp] theorem State.upLanes_lanes (f : Lanes → Lanes) (s : State) : (s.upLanes f).lanes = f s.lanes := by rfl
@[simp] theorem State.upLanes_hub (f : Lanes → Lanes) (s : State) : (s.upLanes f).hub = s.hub := by rfl
@[simp] theorem State.upLanes_cat (f : Lanes → Lanes) (s : State) : (s.upLanes f).cat = s.cat := by rfl
@[simp] theorem State.upLanes_sig (f : Lanes → Lanes) (s : State) : (s.upLanes f).sig = s.sig := by rfl
@[simp] theorem State.upLanes_ctl (f : Lanes → Lanes) (s : State) : (s.upLanes f).ctl = s.ctl := by rfl
@[simp] theorem State.upLanes_pas (f : Lanes → Lanes) (s : State) : (s.upLanes f).pas = s.pas := by rfl
@[simp] theorem State.upLanes_img (f : Lanes → Lanes) (s : State) : (s.upLanes f).img = s.img := by rfl
@[simp] theorem State.upLanes_pow (f : Lanes → Lanes) (s : State) : (s.upLanes f).pow = s.pow := by rfl
@[simp] theorem State.upLanes_mar (f : Lanes → Lanes) (s : State) : (s.upLanes f).mar = s.mar := by rfl
@[simp] theorem State.upLanes_bar (f : Lanes → Lanes) (s : State) : (s.upLanes f).bar = s.bar := by rfl
@[simp] theorem State.upLanes_valve (f : Lanes → Lanes) (s : State) : (s.upLanes f).valve = s.valve := by rfl
@[simp] theorem State.upLanes_field (f : Lanes → Lanes) (s : State) : (s.upLanes f).field = s.field := by rfl
@[simp] theorem State.upLanes_can (f : Lanes → Lanes) (s : State) : (s.upLanes f).can = s.can := by rfl
@[simp] theorem State.upLanes_modem (f : Lanes → Lanes) (s : State) : (s.upLanes f).modem = s.modem := by rfl
@[simp] theorem State.upLanes_disp (f : Lanes → Lanes) (s : State) : (s.upLanes f).disp = s.disp := by rfl
@[simp] theorem State.upLanes_gnss (f : Lanes → Lanes) (s : State) : (s.upLanes f).gnss = s.gnss := by rfl
@[simp] theorem State.upLanes_pos (f : Lanes → Lanes) (s : State) : (s.upLanes f).pos = s.pos := by rfl
@[simp] theorem State.upLanes_fus (f : Lanes → Lanes) (s : State) : (s.upLanes f).fus = s.fus := by rfl
@[simp] theorem State.upLanes_cam (f : Lanes → Lanes) (s : State) : (s.upLanes f).cam = s.cam := by rfl
@[simp] theorem State.upLanes_map (f : Lanes → Lanes) (s : State) : (s.upLanes f).map = s.map := by rfl
@[simp] theorem State.upLanes_pending (f : Lanes → Lanes) (s : State) : (s.upLanes f).pending = s.pending := by rfl

@[simp] theorem State.upHub_now (f : Hub → Hub) (s : State) : (s.upHub f).now = s.now := by rfl
@[simp] theorem State.upHub_time (f : Hub → Hub) (s : State) : (s.upHub f).time = s.time := by rfl
@[simp] theorem State.upHub_lanes (f : Hub → Hub) (s : State) : (s.upHub f).lanes = s.lanes := by rfl
@[simp] theorem State.upHub_hub (f : Hub → Hub) (s : State) : (s.upHub f).hub = f s.hub := by rfl
@[simp] theorem State.upHub_cat (f : Hub → Hub) (s : State) : (s.upHub f).cat = s.cat := by rfl
@[simp] theorem State.upHub_sig (f : Hub → Hub) (s : State) : (s.upHub f).sig = s.sig := by rfl
@[simp] theorem State.upHub_ctl (f : Hub → Hub) (s : State) : (s.upHub f).ctl = s.ctl := by rfl
@[simp] theorem State.upHub_pas (f : Hub → Hub) (s : State) : (s.upHub f).pas = s.pas := by rfl
@[simp] theorem State.upHub_img (f : Hub → Hub) (s : State) : (s.upHub f).img = s.img := by rfl
@[simp] theorem State.upHub_pow (f : Hub → Hub) (s : State) : (s.upHub f).pow = s.pow := by rfl
@[simp] theorem State.upHub_mar (f : Hub → Hub) (s : State) : (s.upHub f).mar = s.mar := by rfl
@[simp] theorem State.upHub_bar (f : Hub → Hub) (s : State) : (s.upHub f).bar = s.bar := by rfl
@[simp] theorem State.upHub_valve (f : Hub → Hub) (s : State) : (s.upHub f).valve = s.valve := by rfl
@[simp] theorem State.upHub_field (f : Hub → Hub) (s : State) : (s.upHub f).field = s.field := by rfl
@[simp] theorem State.upHub_can (f : Hub → Hub) (s : State) : (s.upHub f).can = s.can := by rfl
@[simp] theorem State.upHub_modem (f : Hub → Hub) (s : State) : (s.upHub f).modem = s.modem := by rfl
@[simp] theorem State.upHub_disp (f : Hub → Hub) (s : State) : (s.upHub f).disp = s.disp := by rfl
@[simp] theorem State.upHub_gnss (f : Hub → Hub) (s : State) : (s.upHub f).gnss = s.gnss := by rfl
@[simp] theorem State.upHub_pos (f : Hub → Hub) (s : State) : (s.upHub f).pos = s.pos := by rfl
@[simp] theorem State.upHub_fus (f : Hub → Hub) (s : State) : (s.upHub f).fus = s.fus := by rfl
@[simp] theorem State.upHub_cam (f : Hub → Hub) (s : State) : (s.upHub f).cam = s.cam := by rfl
@[simp] theorem State.upHub_map (f : Hub → Hub) (s : State) : (s.upHub f).map = s.map := by rfl
@[simp] theorem State.upHub_pending (f : Hub → Hub) (s : State) : (s.upHub f).pending = s.pending := by rfl

@[simp] theorem State.upCat_now (f : Cat → Cat) (s : State) : (s.upCat f).now = s.now := by rfl
@[simp] theorem State.upCat_time (f : Cat → Cat) (s : State) : (s.upCat f).time = s.time := by rfl
@[simp] theorem State.upCat_lanes (f : Cat → Cat) (s : State) : (s.upCat f).lanes = s.lanes := by rfl
@[simp] theorem State.upCat_hub (f : Cat → Cat) (s : State) : (s.upCat f).hub = s.hub := by rfl
@[simp] theorem State.upCat_cat (f : Cat → Cat) (s : State) : (s.upCat f).cat = f s.cat := by rfl
@[simp] theorem State.upCat_sig (f : Cat → Cat) (s : State) : (s.upCat f).sig = s.sig := by rfl
@[simp] theorem State.upCat_ctl (f : Cat → Cat) (s : State) : (s.upCat f).ctl = s.ctl := by rfl
@[simp] theorem State.upCat_pas (f : Cat → Cat) (s : State) : (s.upCat f).pas = s.pas := by rfl
@[simp] theorem State.upCat_img (f : Cat → Cat) (s : State) : (s.upCat f).img = s.img := by rfl
@[simp] theorem State.upCat_pow (f : Cat → Cat) (s : State) : (s.upCat f).pow = s.pow := by rfl
@[simp] theorem State.upCat_mar (f : Cat → Cat) (s : State) : (s.upCat f).mar = s.mar := by rfl
@[simp] theorem State.upCat_bar (f : Cat → Cat) (s : State) : (s.upCat f).bar = s.bar := by rfl
@[simp] theorem State.upCat_valve (f : Cat → Cat) (s : State) : (s.upCat f).valve = s.valve := by rfl
@[simp] theorem State.upCat_field (f : Cat → Cat) (s : State) : (s.upCat f).field = s.field := by rfl
@[simp] theorem State.upCat_can (f : Cat → Cat) (s : State) : (s.upCat f).can = s.can := by rfl
@[simp] theorem State.upCat_modem (f : Cat → Cat) (s : State) : (s.upCat f).modem = s.modem := by rfl
@[simp] theorem State.upCat_disp (f : Cat → Cat) (s : State) : (s.upCat f).disp = s.disp := by rfl
@[simp] theorem State.upCat_gnss (f : Cat → Cat) (s : State) : (s.upCat f).gnss = s.gnss := by rfl
@[simp] theorem State.upCat_pos (f : Cat → Cat) (s : State) : (s.upCat f).pos = s.pos := by rfl
@[simp] theorem State.upCat_fus (f : Cat → Cat) (s : State) : (s.upCat f).fus = s.fus := by rfl
@[simp] theorem State.upCat_cam (f : Cat → Cat) (s : State) : (s.upCat f).cam = s.cam := by rfl
@[simp] theorem State.upCat_map (f : Cat → Cat) (s : State) : (s.upCat f).map = s.map := by rfl
@[simp] theorem State.upCat_pending (f : Cat → Cat) (s : State) : (s.upCat f).pending = s.pending := by rfl

@[simp] theorem State.upSig_now (f : Signals → Signals) (s : State) : (s.upSig f).now = s.now := by rfl
@[simp] theorem State.upSig_time (f : Signals → Signals) (s : State) : (s.upSig f).time = s.time := by rfl
@[simp] theorem State.upSig_lanes (f : Signals → Signals) (s : State) : (s.upSig f).lanes = s.lanes := by rfl
@[simp] theorem State.upSig_hub (f : Signals → Signals) (s : State) : (s.upSig f).hub = s.hub := by rfl
@[simp] theorem State.upSig_cat (f : Signals → Signals) (s : State) : (s.upSig f).cat = s.cat := by rfl
@[simp] theorem State.upSig_sig (f : Signals → Signals) (s : State) : (s.upSig f).sig = f s.sig := by rfl
@[simp] theorem State.upSig_ctl (f : Signals → Signals) (s : State) : (s.upSig f).ctl = s.ctl := by rfl
@[simp] theorem State.upSig_pas (f : Signals → Signals) (s : State) : (s.upSig f).pas = s.pas := by rfl
@[simp] theorem State.upSig_img (f : Signals → Signals) (s : State) : (s.upSig f).img = s.img := by rfl
@[simp] theorem State.upSig_pow (f : Signals → Signals) (s : State) : (s.upSig f).pow = s.pow := by rfl
@[simp] theorem State.upSig_mar (f : Signals → Signals) (s : State) : (s.upSig f).mar = s.mar := by rfl
@[simp] theorem State.upSig_bar (f : Signals → Signals) (s : State) : (s.upSig f).bar = s.bar := by rfl
@[simp] theorem State.upSig_valve (f : Signals → Signals) (s : State) : (s.upSig f).valve = s.valve := by rfl
@[simp] theorem State.upSig_field (f : Signals → Signals) (s : State) : (s.upSig f).field = s.field := by rfl
@[simp] theorem State.upSig_can (f : Signals → Signals) (s : State) : (s.upSig f).can = s.can := by rfl
@[simp] theorem State.upSig_modem (f : Signals → Signals) (s : State) : (s.upSig f).modem = s.modem := by rfl
@[simp] theorem State.upSig_disp (f : Signals → Signals) (s : State) : (s.upSig f).disp = s.disp := by rfl
@[simp] theorem State.upSig_gnss (f : Signals → Signals) (s : State) : (s.upSig f).gnss = s.gnss := by rfl
@[simp] theorem State.upSig_pos (f : Signals → Signals) (s : State) : (s.upSig f).pos = s.pos := by rfl
@[simp] theorem State.upSig_fus (f : Signals → Signals) (s : State) : (s.upSig f).fus = s.fus := by rfl
@[simp] theorem State.upSig_cam (f : Signals → Signals) (s : State) : (s.upSig f).cam = s.cam := by rfl
@[simp] theorem State.upSig_map (f : Signals → Signals) (s : State) : (s.upSig f).map = s.map := by rfl
@[simp] theorem State.upSig_pending (f : Signals → Signals) (s : State) : (s.upSig f).pending = s.pending := by rfl

@[simp] theorem State.upCtl_now (f : Control → Control) (s : State) : (s.upCtl f).now = s.now := by rfl
@[simp] theorem State.upCtl_time (f : Control → Control) (s : State) : (s.upCtl f).time = s.time := by rfl
@[simp] theorem State.upCtl_lanes (f : Control → Control) (s : State) : (s.upCtl f).lanes = s.lanes := by rfl
@[simp] theorem State.upCtl_hub (f : Control → Control) (s : State) : (s.upCtl f).hub = s.hub := by rfl
@[simp] theorem State.upCtl_cat (f : Control → Control) (s : State) : (s.upCtl f).cat = s.cat := by rfl
@[simp] theorem State.upCtl_sig (f : Control → Control) (s : State) : (s.upCtl f).sig = s.sig := by rfl
@[simp] theorem State.upCtl_ctl (f : Control → Control) (s : State) : (s.upCtl f).ctl = f s.ctl := by rfl
@[simp] theorem State.upCtl_pas (f : Control → Control) (s : State) : (s.upCtl f).pas = s.pas := by rfl
@[simp] theorem State.upCtl_img (f : Control → Control) (s : State) : (s.upCtl f).img = s.img := by rfl
@[simp] theorem State.upCtl_pow (f : Control → Control) (s : State) : (s.upCtl f).pow = s.pow := by rfl
@[simp] theorem State.upCtl_mar (f : Control → Control) (s : State) : (s.upCtl f).mar = s.mar := by rfl
@[simp] theorem State.upCtl_bar (f : Control → Control) (s : State) : (s.upCtl f).bar = s.bar := by rfl
@[simp] theorem State.upCtl_valve (f : Control → Control) (s : State) : (s.upCtl f).valve = s.valve := by rfl
@[simp] theorem State.upCtl_field (f : Control → Control) (s : State) : (s.upCtl f).field = s.field := by rfl
@[simp] theorem State.upCtl_can (f : Control → Control) (s : State) : (s.upCtl f).can = s.can := by rfl
@[simp] theorem State.upCtl_modem (f : Control → Control) (s : State) : (s.upCtl f).modem = s.modem := by rfl
@[simp] theorem State.upCtl_disp (f : Control → Control) (s : State) : (s.upCtl f).disp = s.disp := by rfl
@[simp] theorem State.upCtl_gnss (f : Control → Control) (s : State) : (s.upCtl f).gnss = s.gnss := by rfl
@[simp] theorem State.upCtl_pos (f : Control → Control) (s : State) : (s.upCtl f).pos = s.pos := by rfl
@[simp] theorem State.upCtl_fus (f : Control → Control) (s : State) : (s.upCtl f).fus = s.fus := by rfl
@[simp] theorem State.upCtl_cam (f : Control → Control) (s : State) : (s.upCtl f).cam = s.cam := by rfl
@[simp] theorem State.upCtl_map (f : Control → Control) (s : State) : (s.upCtl f).map = s.map := by rfl
@[simp] theorem State.upCtl_pending (f : Control → Control) (s : State) : (s.upCtl f).pending = s.pending := by rfl

@[simp] theorem State.upPas_now (f : Passage → Passage) (s : State) : (s.upPas f).now = s.now := by rfl
@[simp] theorem State.upPas_time (f : Passage → Passage) (s : State) : (s.upPas f).time = s.time := by rfl
@[simp] theorem State.upPas_lanes (f : Passage → Passage) (s : State) : (s.upPas f).lanes = s.lanes := by rfl
@[simp] theorem State.upPas_hub (f : Passage → Passage) (s : State) : (s.upPas f).hub = s.hub := by rfl
@[simp] theorem State.upPas_cat (f : Passage → Passage) (s : State) : (s.upPas f).cat = s.cat := by rfl
@[simp] theorem State.upPas_sig (f : Passage → Passage) (s : State) : (s.upPas f).sig = s.sig := by rfl
@[simp] theorem State.upPas_ctl (f : Passage → Passage) (s : State) : (s.upPas f).ctl = s.ctl := by rfl
@[simp] theorem State.upPas_pas (f : Passage → Passage) (s : State) : (s.upPas f).pas = f s.pas := by rfl
@[simp] theorem State.upPas_img (f : Passage → Passage) (s : State) : (s.upPas f).img = s.img := by rfl
@[simp] theorem State.upPas_pow (f : Passage → Passage) (s : State) : (s.upPas f).pow = s.pow := by rfl
@[simp] theorem State.upPas_mar (f : Passage → Passage) (s : State) : (s.upPas f).mar = s.mar := by rfl
@[simp] theorem State.upPas_bar (f : Passage → Passage) (s : State) : (s.upPas f).bar = s.bar := by rfl
@[simp] theorem State.upPas_valve (f : Passage → Passage) (s : State) : (s.upPas f).valve = s.valve := by rfl
@[simp] theorem State.upPas_field (f : Passage → Passage) (s : State) : (s.upPas f).field = s.field := by rfl
@[simp] theorem State.upPas_can (f : Passage → Passage) (s : State) : (s.upPas f).can = s.can := by rfl
@[simp] theorem State.upPas_modem (f : Passage → Passage) (s : State) : (s.upPas f).modem = s.modem := by rfl
@[simp] theorem State.upPas_disp (f : Passage → Passage) (s : State) : (s.upPas f).disp = s.disp := by rfl
@[simp] theorem State.upPas_gnss (f : Passage → Passage) (s : State) : (s.upPas f).gnss = s.gnss := by rfl
@[simp] theorem State.upPas_pos (f : Passage → Passage) (s : State) : (s.upPas f).pos = s.pos := by rfl
@[simp] theorem State.upPas_fus (f : Passage → Passage) (s : State) : (s.upPas f).fus = s.fus := by rfl
@[simp] theorem State.upPas_cam (f : Passage → Passage) (s : State) : (s.upPas f).cam = s.cam := by rfl
@[simp] theorem State.upPas_map (f : Passage → Passage) (s : State) : (s.upPas f).map = s.map := by rfl
@[simp] theorem State.upPas_pending (f : Passage → Passage) (s : State) : (s.upPas f).pending = s.pending := by rfl

@[simp] theorem State.upImg_now (f : Images → Images) (s : State) : (s.upImg f).now = s.now := by rfl
@[simp] theorem State.upImg_time (f : Images → Images) (s : State) : (s.upImg f).time = s.time := by rfl
@[simp] theorem State.upImg_lanes (f : Images → Images) (s : State) : (s.upImg f).lanes = s.lanes := by rfl
@[simp] theorem State.upImg_hub (f : Images → Images) (s : State) : (s.upImg f).hub = s.hub := by rfl
@[simp] theorem State.upImg_cat (f : Images → Images) (s : State) : (s.upImg f).cat = s.cat := by rfl
@[simp] theorem State.upImg_sig (f : Images → Images) (s : State) : (s.upImg f).sig = s.sig := by rfl
@[simp] theorem State.upImg_ctl (f : Images → Images) (s : State) : (s.upImg f).ctl = s.ctl := by rfl
@[simp] theorem State.upImg_pas (f : Images → Images) (s : State) : (s.upImg f).pas = s.pas := by rfl
@[simp] theorem State.upImg_img (f : Images → Images) (s : State) : (s.upImg f).img = f s.img := by rfl
@[simp] theorem State.upImg_pow (f : Images → Images) (s : State) : (s.upImg f).pow = s.pow := by rfl
@[simp] theorem State.upImg_mar (f : Images → Images) (s : State) : (s.upImg f).mar = s.mar := by rfl
@[simp] theorem State.upImg_bar (f : Images → Images) (s : State) : (s.upImg f).bar = s.bar := by rfl
@[simp] theorem State.upImg_valve (f : Images → Images) (s : State) : (s.upImg f).valve = s.valve := by rfl
@[simp] theorem State.upImg_field (f : Images → Images) (s : State) : (s.upImg f).field = s.field := by rfl
@[simp] theorem State.upImg_can (f : Images → Images) (s : State) : (s.upImg f).can = s.can := by rfl
@[simp] theorem State.upImg_modem (f : Images → Images) (s : State) : (s.upImg f).modem = s.modem := by rfl
@[simp] theorem State.upImg_disp (f : Images → Images) (s : State) : (s.upImg f).disp = s.disp := by rfl
@[simp] theorem State.upImg_gnss (f : Images → Images) (s : State) : (s.upImg f).gnss = s.gnss := by rfl
@[simp] theorem State.upImg_pos (f : Images → Images) (s : State) : (s.upImg f).pos = s.pos := by rfl
@[simp] theorem State.upImg_fus (f : Images → Images) (s : State) : (s.upImg f).fus = s.fus := by rfl
@[simp] theorem State.upImg_cam (f : Images → Images) (s : State) : (s.upImg f).cam = s.cam := by rfl
@[simp] theorem State.upImg_map (f : Images → Images) (s : State) : (s.upImg f).map = s.map := by rfl
@[simp] theorem State.upImg_pending (f : Images → Images) (s : State) : (s.upImg f).pending = s.pending := by rfl

@[simp] theorem State.upPow_now (f : Power → Power) (s : State) : (s.upPow f).now = s.now := by rfl
@[simp] theorem State.upPow_time (f : Power → Power) (s : State) : (s.upPow f).time = s.time := by rfl
@[simp] theorem State.upPow_lanes (f : Power → Power) (s : State) : (s.upPow f).lanes = s.lanes := by rfl
@[simp] theorem State.upPow_hub (f : Power → Power) (s : State) : (s.upPow f).hub = s.hub := by rfl
@[simp] theorem State.upPow_cat (f : Power → Power) (s : State) : (s.upPow f).cat = s.cat := by rfl
@[simp] theorem State.upPow_sig (f : Power → Power) (s : State) : (s.upPow f).sig = s.sig := by rfl
@[simp] theorem State.upPow_ctl (f : Power → Power) (s : State) : (s.upPow f).ctl = s.ctl := by rfl
@[simp] theorem State.upPow_pas (f : Power → Power) (s : State) : (s.upPow f).pas = s.pas := by rfl
@[simp] theorem State.upPow_img (f : Power → Power) (s : State) : (s.upPow f).img = s.img := by rfl
@[simp] theorem State.upPow_pow (f : Power → Power) (s : State) : (s.upPow f).pow = f s.pow := by rfl
@[simp] theorem State.upPow_mar (f : Power → Power) (s : State) : (s.upPow f).mar = s.mar := by rfl
@[simp] theorem State.upPow_bar (f : Power → Power) (s : State) : (s.upPow f).bar = s.bar := by rfl
@[simp] theorem State.upPow_valve (f : Power → Power) (s : State) : (s.upPow f).valve = s.valve := by rfl
@[simp] theorem State.upPow_field (f : Power → Power) (s : State) : (s.upPow f).field = s.field := by rfl
@[simp] theorem State.upPow_can (f : Power → Power) (s : State) : (s.upPow f).can = s.can := by rfl
@[simp] theorem State.upPow_modem (f : Power → Power) (s : State) : (s.upPow f).modem = s.modem := by rfl
@[simp] theorem State.upPow_disp (f : Power → Power) (s : State) : (s.upPow f).disp = s.disp := by rfl
@[simp] theorem State.upPow_gnss (f : Power → Power) (s : State) : (s.upPow f).gnss = s.gnss := by rfl
@[simp] theorem State.upPow_pos (f : Power → Power) (s : State) : (s.upPow f).pos = s.pos := by rfl
@[simp] theorem State.upPow_fus (f : Power → Power) (s : State) : (s.upPow f).fus = s.fus := by rfl
@[simp] theorem State.upPow_cam (f : Power → Power) (s : State) : (s.upPow f).cam = s.cam := by rfl
@[simp] theorem State.upPow_map (f : Power → Power) (s : State) : (s.upPow f).map = s.map := by rfl
@[simp] theorem State.upPow_pending (f : Power → Power) (s : State) : (s.upPow f).pending = s.pending := by rfl

@[simp] theorem State.upMar_now (f : Margin → Margin) (s : State) : (s.upMar f).now = s.now := by rfl
@[simp] theorem State.upMar_time (f : Margin → Margin) (s : State) : (s.upMar f).time = s.time := by rfl
@[simp] theorem State.upMar_lanes (f : Margin → Margin) (s : State) : (s.upMar f).lanes = s.lanes := by rfl
@[simp] theorem State.upMar_hub (f : Margin → Margin) (s : State) : (s.upMar f).hub = s.hub := by rfl
@[simp] theorem State.upMar_cat (f : Margin → Margin) (s : State) : (s.upMar f).cat = s.cat := by rfl
@[simp] theorem State.upMar_sig (f : Margin → Margin) (s : State) : (s.upMar f).sig = s.sig := by rfl
@[simp] theorem State.upMar_ctl (f : Margin → Margin) (s : State) : (s.upMar f).ctl = s.ctl := by rfl
@[simp] theorem State.upMar_pas (f : Margin → Margin) (s : State) : (s.upMar f).pas = s.pas := by rfl
@[simp] theorem State.upMar_img (f : Margin → Margin) (s : State) : (s.upMar f).img = s.img := by rfl
@[simp] theorem State.upMar_pow (f : Margin → Margin) (s : State) : (s.upMar f).pow = s.pow := by rfl
@[simp] theorem State.upMar_mar (f : Margin → Margin) (s : State) : (s.upMar f).mar = f s.mar := by rfl
@[simp] theorem State.upMar_bar (f : Margin → Margin) (s : State) : (s.upMar f).bar = s.bar := by rfl
@[simp] theorem State.upMar_valve (f : Margin → Margin) (s : State) : (s.upMar f).valve = s.valve := by rfl
@[simp] theorem State.upMar_field (f : Margin → Margin) (s : State) : (s.upMar f).field = s.field := by rfl
@[simp] theorem State.upMar_can (f : Margin → Margin) (s : State) : (s.upMar f).can = s.can := by rfl
@[simp] theorem State.upMar_modem (f : Margin → Margin) (s : State) : (s.upMar f).modem = s.modem := by rfl
@[simp] theorem State.upMar_disp (f : Margin → Margin) (s : State) : (s.upMar f).disp = s.disp := by rfl
@[simp] theorem State.upMar_gnss (f : Margin → Margin) (s : State) : (s.upMar f).gnss = s.gnss := by rfl
@[simp] theorem State.upMar_pos (f : Margin → Margin) (s : State) : (s.upMar f).pos = s.pos := by rfl
@[simp] theorem State.upMar_fus (f : Margin → Margin) (s : State) : (s.upMar f).fus = s.fus := by rfl
@[simp] theorem State.upMar_cam (f : Margin → Margin) (s : State) : (s.upMar f).cam = s.cam := by rfl
@[simp] theorem State.upMar_map (f : Margin → Margin) (s : State) : (s.upMar f).map = s.map := by rfl
@[simp] theorem State.upMar_pending (f : Margin → Margin) (s : State) : (s.upMar f).pending = s.pending := by rfl

@[simp] theorem State.upBar_now (f : Bar → Bar) (s : State) : (s.upBar f).now = s.now := by rfl
@[simp] theorem State.upBar_time (f : Bar → Bar) (s : State) : (s.upBar f).time = s.time := by rfl
@[simp] theorem State.upBar_lanes (f : Bar → Bar) (s : State) : (s.upBar f).lanes = s.lanes := by rfl
@[simp] theorem State.upBar_hub (f : Bar → Bar) (s : State) : (s.upBar f).hub = s.hub := by rfl
@[simp] theorem State.upBar_cat (f : Bar → Bar) (s : State) : (s.upBar f).cat = s.cat := by rfl
@[simp] theorem State.upBar_sig (f : Bar → Bar) (s : State) : (s.upBar f).sig = s.sig := by rfl
@[simp] theorem State.upBar_ctl (f : Bar → Bar) (s : State) : (s.upBar f).ctl = s.ctl := by rfl
@[simp] theorem State.upBar_pas (f : Bar → Bar) (s : State) : (s.upBar f).pas = s.pas := by rfl
@[simp] theorem State.upBar_img (f : Bar → Bar) (s : State) : (s.upBar f).img = s.img := by rfl
@[simp] theorem State.upBar_pow (f : Bar → Bar) (s : State) : (s.upBar f).pow = s.pow := by rfl
@[simp] theorem State.upBar_mar (f : Bar → Bar) (s : State) : (s.upBar f).mar = s.mar := by rfl
@[simp] theorem State.upBar_bar (f : Bar → Bar) (s : State) : (s.upBar f).bar = f s.bar := by rfl
@[simp] theorem State.upBar_valve (f : Bar → Bar) (s : State) : (s.upBar f).valve = s.valve := by rfl
@[simp] theorem State.upBar_field (f : Bar → Bar) (s : State) : (s.upBar f).field = s.field := by rfl
@[simp] theorem State.upBar_can (f : Bar → Bar) (s : State) : (s.upBar f).can = s.can := by rfl
@[simp] theorem State.upBar_modem (f : Bar → Bar) (s : State) : (s.upBar f).modem = s.modem := by rfl
@[simp] theorem State.upBar_disp (f : Bar → Bar) (s : State) : (s.upBar f).disp = s.disp := by rfl
@[simp] theorem State.upBar_gnss (f : Bar → Bar) (s : State) : (s.upBar f).gnss = s.gnss := by rfl
@[simp] theorem State.upBar_pos (f : Bar → Bar) (s : State) : (s.upBar f).pos = s.pos := by rfl
@[simp] theorem State.upBar_fus (f : Bar → Bar) (s : State) : (s.upBar f).fus = s.fus := by rfl
@[simp] theorem State.upBar_cam (f : Bar → Bar) (s : State) : (s.upBar f).cam = s.cam := by rfl
@[simp] theorem State.upBar_map (f : Bar → Bar) (s : State) : (s.upBar f).map = s.map := by rfl
@[simp] theorem State.upBar_pending (f : Bar → Bar) (s : State) : (s.upBar f).pending = s.pending := by rfl

@[simp] theorem State.upValve_now (f : Valves → Valves) (s : State) : (s.upValve f).now = s.now := by rfl
@[simp] theorem State.upValve_time (f : Valves → Valves) (s : State) : (s.upValve f).time = s.time := by rfl
@[simp] theorem State.upValve_lanes (f : Valves → Valves) (s : State) : (s.upValve f).lanes = s.lanes := by rfl
@[simp] theorem State.upValve_hub (f : Valves → Valves) (s : State) : (s.upValve f).hub = s.hub := by rfl
@[simp] theorem State.upValve_cat (f : Valves → Valves) (s : State) : (s.upValve f).cat = s.cat := by rfl
@[simp] theorem State.upValve_sig (f : Valves → Valves) (s : State) : (s.upValve f).sig = s.sig := by rfl
@[simp] theorem State.upValve_ctl (f : Valves → Valves) (s : State) : (s.upValve f).ctl = s.ctl := by rfl
@[simp] theorem State.upValve_pas (f : Valves → Valves) (s : State) : (s.upValve f).pas = s.pas := by rfl
@[simp] theorem State.upValve_img (f : Valves → Valves) (s : State) : (s.upValve f).img = s.img := by rfl
@[simp] theorem State.upValve_pow (f : Valves → Valves) (s : State) : (s.upValve f).pow = s.pow := by rfl
@[simp] theorem State.upValve_mar (f : Valves → Valves) (s : State) : (s.upValve f).mar = s.mar := by rfl
@[simp] theorem State.upValve_bar (f : Valves → Valves) (s : State) : (s.upValve f).bar = s.bar := by rfl
@[simp] theorem State.upValve_valve (f : Valves → Valves) (s : State) : (s.upValve f).valve = f s.valve := by rfl
@[simp] theorem State.upValve_field (f : Valves → Valves) (s : State) : (s.upValve f).field = s.field := by rfl
@[simp] theorem State.upValve_can (f : Valves → Valves) (s : State) : (s.upValve f).can = s.can := by rfl
@[simp] theorem State.upValve_modem (f : Valves → Valves) (s : State) : (s.upValve f).modem = s.modem := by rfl
@[simp] theorem State.upValve_disp (f : Valves → Valves) (s : State) : (s.upValve f).disp = s.disp := by rfl
@[simp] theorem State.upValve_gnss (f : Valves → Valves) (s : State) : (s.upValve f).gnss = s.gnss := by rfl
@[simp] theorem State.upValve_pos (f : Valves → Valves) (s : State) : (s.upValve f).pos = s.pos := by rfl
@[simp] theorem State.upValve_fus (f : Valves → Valves) (s : State) : (s.upValve f).fus = s.fus := by rfl
@[simp] theorem State.upValve_cam (f : Valves → Valves) (s : State) : (s.upValve f).cam = s.cam := by rfl
@[simp] theorem State.upValve_map (f : Valves → Valves) (s : State) : (s.upValve f).map = s.map := by rfl
@[simp] theorem State.upValve_pending (f : Valves → Valves) (s : State) : (s.upValve f).pending = s.pending := by rfl

@[simp] theorem State.upField_now (f : Field → Field) (s : State) : (s.upField f).now = s.now := by rfl
@[simp] theorem State.upField_time (f : Field → Field) (s : State) : (s.upField f).time = s.time := by rfl
@[simp] theorem State.upField_lanes (f : Field → Field) (s : State) : (s.upField f).lanes = s.lanes := by rfl
@[simp] theorem State.upField_hub (f : Field → Field) (s : State) : (s.upField f).hub = s.hub := by rfl
@[simp] theorem State.upField_cat (f : Field → Field) (s : State) : (s.upField f).cat = s.cat := by rfl
@[simp] theorem State.upField_sig (f : Field → Field) (s : State) : (s.upField f).sig = s.sig := by rfl
@[simp] theorem State.upField_ctl (f : Field → Field) (s : State) : (s.upField f).ctl = s.ctl := by rfl
@[simp] theorem State.upField_pas (f : Field → Field) (s : State) : (s.upField f).pas = s.pas := by rfl
@[simp] theorem State.upField_img (f : Field → Field) (s : State) : (s.upField f).img = s.img := by rfl
@[simp] theorem State.upField_pow (f : Field → Field) (s : State) : (s.upField f).pow = s.pow := by rfl
@[simp] theorem State.upField_mar (f : Field → Field) (s : State) : (s.upField f).mar = s.mar := by rfl
@[simp] theorem State.upField_bar (f : Field → Field) (s : State) : (s.upField f).bar = s.bar := by rfl
@[simp] theorem State.upField_valve (f : Field → Field) (s : State) : (s.upField f).valve = s.valve := by rfl
@[simp] theorem State.upField_field (f : Field → Field) (s : State) : (s.upField f).field = f s.field := by rfl
@[simp] theorem State.upField_can (f : Field → Field) (s : State) : (s.upField f).can = s.can := by rfl
@[simp] theorem State.upField_modem (f : Field → Field) (s : State) : (s.upField f).modem = s.modem := by rfl
@[simp] theorem State.upField_disp (f : Field → Field) (s : State) : (s.upField f).disp = s.disp := by rfl
@[simp] theorem State.upField_gnss (f : Field → Field) (s : State) : (s.upField f).gnss = s.gnss := by rfl
@[simp] theorem State.upField_pos (f : Field → Field) (s : State) : (s.upField f).pos = s.pos := by rfl
@[simp] theorem State.upField_fus (f : Field → Field) (s : State) : (s.upField f).fus = s.fus := by rfl
@[simp] theorem State.upField_cam (f : Field → Field) (s : State) : (s.upField f).cam = s.cam := by rfl
@[simp] theorem State.upField_map (f : Field → Field) (s : State) : (s.upField f).map = s.map := by rfl
@[simp] theorem State.upField_pending (f : Field → Field) (s : State) : (s.upField f).pending = s.pending := by rfl

@[simp] theorem State.upCan_now (f : Can → Can) (s : State) : (s.upCan f).now = s.now := by rfl
@[simp] theorem State.upCan_time (f : Can → Can) (s : State) : (s.upCan f).time = s.time := by rfl
@[simp] theorem State.upCan_lanes (f : Can → Can) (s : State) : (s.upCan f).lanes = s.lanes := by rfl
@[simp] theorem State.upCan_hub (f : Can → Can) (s : State) : (s.upCan f).hub = s.hub := by rfl
@[simp] theorem State.upCan_cat (f : Can → Can) (s : State) : (s.upCan f).cat = s.cat := by rfl
@[simp] theorem State.upCan_sig (f : Can → Can) (s : State) : (s.upCan f).sig = s.sig := by rfl
@[simp] theorem State.upCan_ctl (f : Can → Can) (s : State) : (s.upCan f).ctl = s.ctl := by rfl
@[simp] theorem State.upCan_pas (f : Can → Can) (s : State) : (s.upCan f).pas = s.pas := by rfl
@[simp] theorem State.upCan_img (f : Can → Can) (s : State) : (s.upCan f).img = s.img := by rfl
@[simp] theorem State.upCan_pow (f : Can → Can) (s : State) : (s.upCan f).pow = s.pow := by rfl
@[simp] theorem State.upCan_mar (f : Can → Can) (s : State) : (s.upCan f).mar = s.mar := by rfl
@[simp] theorem State.upCan_bar (f : Can → Can) (s : State) : (s.upCan f).bar = s.bar := by rfl
@[simp] theorem State.upCan_valve (f : Can → Can) (s : State) : (s.upCan f).valve = s.valve := by rfl
@[simp] theorem State.upCan_field (f : Can → Can) (s : State) : (s.upCan f).field = s.field := by rfl
@[simp] theorem State.upCan_can (f : Can → Can) (s : State) : (s.upCan f).can = f s.can := by rfl
@[simp] theorem State.upCan_modem (f : Can → Can) (s : State) : (s.upCan f).modem = s.modem := by rfl
@[simp] theorem State.upCan_disp (f : Can → Can) (s : State) : (s.upCan f).disp = s.disp := by rfl
@[simp] theorem State.upCan_gnss (f : Can → Can) (s : State) : (s.upCan f).gnss = s.gnss := by rfl
@[simp] theorem State.upCan_pos (f : Can → Can) (s : State) : (s.upCan f).pos = s.pos := by rfl
@[simp] theorem State.upCan_fus (f : Can → Can) (s : State) : (s.upCan f).fus = s.fus := by rfl
@[simp] theorem State.upCan_cam (f : Can → Can) (s : State) : (s.upCan f).cam = s.cam := by rfl
@[simp] theorem State.upCan_map (f : Can → Can) (s : State) : (s.upCan f).map = s.map := by rfl
@[simp] theorem State.upCan_pending (f : Can → Can) (s : State) : (s.upCan f).pending = s.pending := by rfl

@[simp] theorem State.upModem_now (f : Modem → Modem) (s : State) : (s.upModem f).now = s.now := by rfl
@[simp] theorem State.upModem_time (f : Modem → Modem) (s : State) : (s.upModem f).time = s.time := by rfl
@[simp] theorem State.upModem_lanes (f : Modem → Modem) (s : State) : (s.upModem f).lanes = s.lanes := by rfl
@[simp] theorem State.upModem_hub (f : Modem → Modem) (s : State) : (s.upModem f).hub = s.hub := by rfl
@[simp] theorem State.upModem_cat (f : Modem → Modem) (s : State) : (s.upModem f).cat = s.cat := by rfl
@[simp] theorem State.upModem_sig (f : Modem → Modem) (s : State) : (s.upModem f).sig = s.sig := by rfl
@[simp] theorem State.upModem_ctl (f : Modem → Modem) (s : State) : (s.upModem f).ctl = s.ctl := by rfl
@[simp] theorem State.upModem_pas (f : Modem → Modem) (s : State) : (s.upModem f).pas = s.pas := by rfl
@[simp] theorem State.upModem_img (f : Modem → Modem) (s : State) : (s.upModem f).img = s.img := by rfl
@[simp] theorem State.upModem_pow (f : Modem → Modem) (s : State) : (s.upModem f).pow = s.pow := by rfl
@[simp] theorem State.upModem_mar (f : Modem → Modem) (s : State) : (s.upModem f).mar = s.mar := by rfl
@[simp] theorem State.upModem_bar (f : Modem → Modem) (s : State) : (s.upModem f).bar = s.bar := by rfl
@[simp] theorem State.upModem_valve (f : Modem → Modem) (s : State) : (s.upModem f).valve = s.valve := by rfl
@[simp] theorem State.upModem_field (f : Modem → Modem) (s : State) : (s.upModem f).field = s.field := by rfl
@[simp] theorem State.upModem_can (f : Modem → Modem) (s : State) : (s.upModem f).can = s.can := by rfl
@[simp] theorem State.upModem_modem (f : Modem → Modem) (s : State) : (s.upModem f).modem = f s.modem := by rfl
@[simp] theorem State.upModem_disp (f : Modem → Modem) (s : State) : (s.upModem f).disp = s.disp := by rfl
@[simp] theorem State.upModem_gnss (f : Modem → Modem) (s : State) : (s.upModem f).gnss = s.gnss := by rfl
@[simp] theorem State.upModem_pos (f : Modem → Modem) (s : State) : (s.upModem f).pos = s.pos := by rfl
@[simp] theorem State.upModem_fus (f : Modem → Modem) (s : State) : (s.upModem f).fus = s.fus := by rfl
@[simp] theorem State.upModem_cam (f : Modem → Modem) (s : State) : (s.upModem f).cam = s.cam := by rfl
@[simp] theorem State.upModem_map (f : Modem → Modem) (s : State) : (s.upModem f).map = s.map := by rfl
@[simp] theorem State.upModem_pending (f : Modem → Modem) (s : State) : (s.upModem f).pending = s.pending := by rfl

@[simp] theorem State.upDisp_now (f : Display → Display) (s : State) : (s.upDisp f).now = s.now := by rfl
@[simp] theorem State.upDisp_time (f : Display → Display) (s : State) : (s.upDisp f).time = s.time := by rfl
@[simp] theorem State.upDisp_lanes (f : Display → Display) (s : State) : (s.upDisp f).lanes = s.lanes := by rfl
@[simp] theorem State.upDisp_hub (f : Display → Display) (s : State) : (s.upDisp f).hub = s.hub := by rfl
@[simp] theorem State.upDisp_cat (f : Display → Display) (s : State) : (s.upDisp f).cat = s.cat := by rfl
@[simp] theorem State.upDisp_sig (f : Display → Display) (s : State) : (s.upDisp f).sig = s.sig := by rfl
@[simp] theorem State.upDisp_ctl (f : Display → Display) (s : State) : (s.upDisp f).ctl = s.ctl := by rfl
@[simp] theorem State.upDisp_pas (f : Display → Display) (s : State) : (s.upDisp f).pas = s.pas := by rfl
@[simp] theorem State.upDisp_img (f : Display → Display) (s : State) : (s.upDisp f).img = s.img := by rfl
@[simp] theorem State.upDisp_pow (f : Display → Display) (s : State) : (s.upDisp f).pow = s.pow := by rfl
@[simp] theorem State.upDisp_mar (f : Display → Display) (s : State) : (s.upDisp f).mar = s.mar := by rfl
@[simp] theorem State.upDisp_bar (f : Display → Display) (s : State) : (s.upDisp f).bar = s.bar := by rfl
@[simp] theorem State.upDisp_valve (f : Display → Display) (s : State) : (s.upDisp f).valve = s.valve := by rfl
@[simp] theorem State.upDisp_field (f : Display → Display) (s : State) : (s.upDisp f).field = s.field := by rfl
@[simp] theorem State.upDisp_can (f : Display → Display) (s : State) : (s.upDisp f).can = s.can := by rfl
@[simp] theorem State.upDisp_modem (f : Display → Display) (s : State) : (s.upDisp f).modem = s.modem := by rfl
@[simp] theorem State.upDisp_disp (f : Display → Display) (s : State) : (s.upDisp f).disp = f s.disp := by rfl
@[simp] theorem State.upDisp_gnss (f : Display → Display) (s : State) : (s.upDisp f).gnss = s.gnss := by rfl
@[simp] theorem State.upDisp_pos (f : Display → Display) (s : State) : (s.upDisp f).pos = s.pos := by rfl
@[simp] theorem State.upDisp_fus (f : Display → Display) (s : State) : (s.upDisp f).fus = s.fus := by rfl
@[simp] theorem State.upDisp_cam (f : Display → Display) (s : State) : (s.upDisp f).cam = s.cam := by rfl
@[simp] theorem State.upDisp_map (f : Display → Display) (s : State) : (s.upDisp f).map = s.map := by rfl
@[simp] theorem State.upDisp_pending (f : Display → Display) (s : State) : (s.upDisp f).pending = s.pending := by rfl

@[simp] theorem State.upGnss_now (f : Gnss → Gnss) (s : State) : (s.upGnss f).now = s.now := by rfl
@[simp] theorem State.upGnss_time (f : Gnss → Gnss) (s : State) : (s.upGnss f).time = s.time := by rfl
@[simp] theorem State.upGnss_lanes (f : Gnss → Gnss) (s : State) : (s.upGnss f).lanes = s.lanes := by rfl
@[simp] theorem State.upGnss_hub (f : Gnss → Gnss) (s : State) : (s.upGnss f).hub = s.hub := by rfl
@[simp] theorem State.upGnss_cat (f : Gnss → Gnss) (s : State) : (s.upGnss f).cat = s.cat := by rfl
@[simp] theorem State.upGnss_sig (f : Gnss → Gnss) (s : State) : (s.upGnss f).sig = s.sig := by rfl
@[simp] theorem State.upGnss_ctl (f : Gnss → Gnss) (s : State) : (s.upGnss f).ctl = s.ctl := by rfl
@[simp] theorem State.upGnss_pas (f : Gnss → Gnss) (s : State) : (s.upGnss f).pas = s.pas := by rfl
@[simp] theorem State.upGnss_img (f : Gnss → Gnss) (s : State) : (s.upGnss f).img = s.img := by rfl
@[simp] theorem State.upGnss_pow (f : Gnss → Gnss) (s : State) : (s.upGnss f).pow = s.pow := by rfl
@[simp] theorem State.upGnss_mar (f : Gnss → Gnss) (s : State) : (s.upGnss f).mar = s.mar := by rfl
@[simp] theorem State.upGnss_bar (f : Gnss → Gnss) (s : State) : (s.upGnss f).bar = s.bar := by rfl
@[simp] theorem State.upGnss_valve (f : Gnss → Gnss) (s : State) : (s.upGnss f).valve = s.valve := by rfl
@[simp] theorem State.upGnss_field (f : Gnss → Gnss) (s : State) : (s.upGnss f).field = s.field := by rfl
@[simp] theorem State.upGnss_can (f : Gnss → Gnss) (s : State) : (s.upGnss f).can = s.can := by rfl
@[simp] theorem State.upGnss_modem (f : Gnss → Gnss) (s : State) : (s.upGnss f).modem = s.modem := by rfl
@[simp] theorem State.upGnss_disp (f : Gnss → Gnss) (s : State) : (s.upGnss f).disp = s.disp := by rfl
@[simp] theorem State.upGnss_gnss (f : Gnss → Gnss) (s : State) : (s.upGnss f).gnss = f s.gnss := by rfl
@[simp] theorem State.upGnss_pos (f : Gnss → Gnss) (s : State) : (s.upGnss f).pos = s.pos := by rfl
@[simp] theorem State.upGnss_fus (f : Gnss → Gnss) (s : State) : (s.upGnss f).fus = s.fus := by rfl
@[simp] theorem State.upGnss_cam (f : Gnss → Gnss) (s : State) : (s.upGnss f).cam = s.cam := by rfl
@[simp] theorem State.upGnss_map (f : Gnss → Gnss) (s : State) : (s.upGnss f).map = s.map := by rfl
@[simp] theorem State.upGnss_pending (f : Gnss → Gnss) (s : State) : (s.upGnss f).pending = s.pending := by rfl

@[simp] theorem State.upPos_now (f : Pos → Pos) (s : State) : (s.upPos f).now = s.now := by rfl
@[simp] theorem State.upPos_time (f : Pos → Pos) (s : State) : (s.upPos f).time = s.time := by rfl
@[simp] theorem State.upPos_lanes (f : Pos → Pos) (s : State) : (s.upPos f).lanes = s.lanes := by rfl
@[simp] theorem State.upPos_hub (f : Pos → Pos) (s : State) : (s.upPos f).hub = s.hub := by rfl
@[simp] theorem State.upPos_cat (f : Pos → Pos) (s : State) : (s.upPos f).cat = s.cat := by rfl
@[simp] theorem State.upPos_sig (f : Pos → Pos) (s : State) : (s.upPos f).sig = s.sig := by rfl
@[simp] theorem State.upPos_ctl (f : Pos → Pos) (s : State) : (s.upPos f).ctl = s.ctl := by rfl
@[simp] theorem State.upPos_pas (f : Pos → Pos) (s : State) : (s.upPos f).pas = s.pas := by rfl
@[simp] theorem State.upPos_img (f : Pos → Pos) (s : State) : (s.upPos f).img = s.img := by rfl
@[simp] theorem State.upPos_pow (f : Pos → Pos) (s : State) : (s.upPos f).pow = s.pow := by rfl
@[simp] theorem State.upPos_mar (f : Pos → Pos) (s : State) : (s.upPos f).mar = s.mar := by rfl
@[simp] theorem State.upPos_bar (f : Pos → Pos) (s : State) : (s.upPos f).bar = s.bar := by rfl
@[simp] theorem State.upPos_valve (f : Pos → Pos) (s : State) : (s.upPos f).valve = s.valve := by rfl
@[simp] theorem State.upPos_field (f : Pos → Pos) (s : State) : (s.upPos f).field = s.field := by rfl
@[simp] theorem State.upPos_can (f : Pos → Pos) (s : State) : (s.upPos f).can = s.can := by rfl
@[simp] theorem State.upPos_modem (f : Pos → Pos) (s : State) : (s.upPos f).modem = s.modem := by rfl
@[simp] theorem State.upPos_disp (f : Pos → Pos) (s : State) : (s.upPos f).disp = s.disp := by rfl
@[simp] theorem State.upPos_gnss (f : Pos → Pos) (s : State) : (s.upPos f).gnss = s.gnss := by rfl
@[simp] theorem State.upPos_pos (f : Pos → Pos) (s : State) : (s.upPos f).pos = f s.pos := by rfl
@[simp] theorem State.upPos_fus (f : Pos → Pos) (s : State) : (s.upPos f).fus = s.fus := by rfl
@[simp] theorem State.upPos_cam (f : Pos → Pos) (s : State) : (s.upPos f).cam = s.cam := by rfl
@[simp] theorem State.upPos_map (f : Pos → Pos) (s : State) : (s.upPos f).map = s.map := by rfl
@[simp] theorem State.upPos_pending (f : Pos → Pos) (s : State) : (s.upPos f).pending = s.pending := by rfl

@[simp] theorem State.upFus_now (f : Fusion → Fusion) (s : State) : (s.upFus f).now = s.now := by rfl
@[simp] theorem State.upFus_time (f : Fusion → Fusion) (s : State) : (s.upFus f).time = s.time := by rfl
@[simp] theorem State.upFus_lanes (f : Fusion → Fusion) (s : State) : (s.upFus f).lanes = s.lanes := by rfl
@[simp] theorem State.upFus_hub (f : Fusion → Fusion) (s : State) : (s.upFus f).hub = s.hub := by rfl
@[simp] theorem State.upFus_cat (f : Fusion → Fusion) (s : State) : (s.upFus f).cat = s.cat := by rfl
@[simp] theorem State.upFus_sig (f : Fusion → Fusion) (s : State) : (s.upFus f).sig = s.sig := by rfl
@[simp] theorem State.upFus_ctl (f : Fusion → Fusion) (s : State) : (s.upFus f).ctl = s.ctl := by rfl
@[simp] theorem State.upFus_pas (f : Fusion → Fusion) (s : State) : (s.upFus f).pas = s.pas := by rfl
@[simp] theorem State.upFus_img (f : Fusion → Fusion) (s : State) : (s.upFus f).img = s.img := by rfl
@[simp] theorem State.upFus_pow (f : Fusion → Fusion) (s : State) : (s.upFus f).pow = s.pow := by rfl
@[simp] theorem State.upFus_mar (f : Fusion → Fusion) (s : State) : (s.upFus f).mar = s.mar := by rfl
@[simp] theorem State.upFus_bar (f : Fusion → Fusion) (s : State) : (s.upFus f).bar = s.bar := by rfl
@[simp] theorem State.upFus_valve (f : Fusion → Fusion) (s : State) : (s.upFus f).valve = s.valve := by rfl
@[simp] theorem State.upFus_field (f : Fusion → Fusion) (s : State) : (s.upFus f).field = s.field := by rfl
@[simp] theorem State.upFus_can (f : Fusion → Fusion) (s : State) : (s.upFus f).can = s.can := by rfl
@[simp] theorem State.upFus_modem (f : Fusion → Fusion) (s : State) : (s.upFus f).modem = s.modem := by rfl
@[simp] theorem State.upFus_disp (f : Fusion → Fusion) (s : State) : (s.upFus f).disp = s.disp := by rfl
@[simp] theorem State.upFus_gnss (f : Fusion → Fusion) (s : State) : (s.upFus f).gnss = s.gnss := by rfl
@[simp] theorem State.upFus_pos (f : Fusion → Fusion) (s : State) : (s.upFus f).pos = s.pos := by rfl
@[simp] theorem State.upFus_fus (f : Fusion → Fusion) (s : State) : (s.upFus f).fus = f s.fus := by rfl
@[simp] theorem State.upFus_cam (f : Fusion → Fusion) (s : State) : (s.upFus f).cam = s.cam := by rfl
@[simp] theorem State.upFus_map (f : Fusion → Fusion) (s : State) : (s.upFus f).map = s.map := by rfl
@[simp] theorem State.upFus_pending (f : Fusion → Fusion) (s : State) : (s.upFus f).pending = s.pending := by rfl

@[simp] theorem State.upCam_now (f : Cam → Cam) (s : State) : (s.upCam f).now = s.now := by rfl
@[simp] theorem State.upCam_time (f : Cam → Cam) (s : State) : (s.upCam f).time = s.time := by rfl
@[simp] theorem State.upCam_lanes (f : Cam → Cam) (s : State) : (s.upCam f).lanes = s.lanes := by rfl
@[simp] theorem State.upCam_hub (f : Cam → Cam) (s : State) : (s.upCam f).hub = s.hub := by rfl
@[simp] theorem State.upCam_cat (f : Cam → Cam) (s : State) : (s.upCam f).cat = s.cat := by rfl
@[simp] theorem State.upCam_sig (f : Cam → Cam) (s : State) : (s.upCam f).sig = s.sig := by rfl
@[simp] theorem State.upCam_ctl (f : Cam → Cam) (s : State) : (s.upCam f).ctl = s.ctl := by rfl
@[simp] theorem State.upCam_pas (f : Cam → Cam) (s : State) : (s.upCam f).pas = s.pas := by rfl
@[simp] theorem State.upCam_img (f : Cam → Cam) (s : State) : (s.upCam f).img = s.img := by rfl
@[simp] theorem State.upCam_pow (f : Cam → Cam) (s : State) : (s.upCam f).pow = s.pow := by rfl
@[simp] theorem State.upCam_mar (f : Cam → Cam) (s : State) : (s.upCam f).mar = s.mar := by rfl
@[simp] theorem State.upCam_bar (f : Cam → Cam) (s : State) : (s.upCam f).bar = s.bar := by rfl
@[simp] theorem State.upCam_valve (f : Cam → Cam) (s : State) : (s.upCam f).valve = s.valve := by rfl
@[simp] theorem State.upCam_field (f : Cam → Cam) (s : State) : (s.upCam f).field = s.field := by rfl
@[simp] theorem State.upCam_can (f : Cam → Cam) (s : State) : (s.upCam f).can = s.can := by rfl
@[simp] theorem State.upCam_modem (f : Cam → Cam) (s : State) : (s.upCam f).modem = s.modem := by rfl
@[simp] theorem State.upCam_disp (f : Cam → Cam) (s : State) : (s.upCam f).disp = s.disp := by rfl
@[simp] theorem State.upCam_gnss (f : Cam → Cam) (s : State) : (s.upCam f).gnss = s.gnss := by rfl
@[simp] theorem State.upCam_pos (f : Cam → Cam) (s : State) : (s.upCam f).pos = s.pos := by rfl
@[simp] theorem State.upCam_fus (f : Cam → Cam) (s : State) : (s.upCam f).fus = s.fus := by rfl
@[simp] theorem State.upCam_cam (f : Cam → Cam) (s : State) : (s.upCam f).cam = f s.cam := by rfl
@[simp] theorem State.upCam_map (f : Cam → Cam) (s : State) : (s.upCam f).map = s.map := by rfl
@[simp] theorem State.upCam_pending (f : Cam → Cam) (s : State) : (s.upCam f).pending = s.pending := by rfl

@[simp] theorem State.upMap_now (f : MapU → MapU) (s : State) : (s.upMap f).now = s.now := by rfl
@[simp] theorem State.upMap_time (f : MapU → MapU) (s : State) : (s.upMap f).time = s.time := by rfl
@[simp] theorem State.upMap_lanes (f : MapU → MapU) (s : State) : (s.upMap f).lanes = s.lanes := by rfl
@[simp] theorem State.upMap_hub (f : MapU → MapU) (s : State) : (s.upMap f).hub = s.hub := by rfl
@[simp] theorem State.upMap_cat (f : MapU → MapU) (s : State) : (s.upMap f).cat = s.cat := by rfl
@[simp] theorem State.upMap_sig (f : MapU → MapU) (s : State) : (s.upMap f).sig = s.sig := by rfl
@[simp] theorem State.upMap_ctl (f : MapU → MapU) (s : State) : (s.upMap f).ctl = s.ctl := by rfl
@[simp] theorem State.upMap_pas (f : MapU → MapU) (s : State) : (s.upMap f).pas = s.pas := by rfl
@[simp] theorem State.upMap_img (f : MapU → MapU) (s : State) : (s.upMap f).img = s.img := by rfl
@[simp] theorem State.upMap_pow (f : MapU → MapU) (s : State) : (s.upMap f).pow = s.pow := by rfl
@[simp] theorem State.upMap_mar (f : MapU → MapU) (s : State) : (s.upMap f).mar = s.mar := by rfl
@[simp] theorem State.upMap_bar (f : MapU → MapU) (s : State) : (s.upMap f).bar = s.bar := by rfl
@[simp] theorem State.upMap_valve (f : MapU → MapU) (s : State) : (s.upMap f).valve = s.valve := by rfl
@[simp] theorem State.upMap_field (f : MapU → MapU) (s : State) : (s.upMap f).field = s.field := by rfl
@[simp] theorem State.upMap_can (f : MapU → MapU) (s : State) : (s.upMap f).can = s.can := by rfl
@[simp] theorem State.upMap_modem (f : MapU → MapU) (s : State) : (s.upMap f).modem = s.modem := by rfl
@[simp] theorem State.upMap_disp (f : MapU → MapU) (s : State) : (s.upMap f).disp = s.disp := by rfl
@[simp] theorem State.upMap_gnss (f : MapU → MapU) (s : State) : (s.upMap f).gnss = s.gnss := by rfl
@[simp] theorem State.upMap_pos (f : MapU → MapU) (s : State) : (s.upMap f).pos = s.pos := by rfl
@[simp] theorem State.upMap_fus (f : MapU → MapU) (s : State) : (s.upMap f).fus = s.fus := by rfl
@[simp] theorem State.upMap_cam (f : MapU → MapU) (s : State) : (s.upMap f).cam = s.cam := by rfl
@[simp] theorem State.upMap_map (f : MapU → MapU) (s : State) : (s.upMap f).map = f s.map := by rfl
@[simp] theorem State.upMap_pending (f : MapU → MapU) (s : State) : (s.upMap f).pending = s.pending := by rfl

end Sys2Proof.Machine
end

