-- ==== Sys2Proof/Laws/Frame.lean ====
section
/-!
SUPPORT. What a change of the state leaves alone, said once for every operation: `mask U` forgets the units
that `U` names, so that an operation that touches only these units does not change it.
-/
namespace Sys2Proof.Machine

@[simp] theorem mask_upNow {U : Units} (h : U.now = true) (f : Now → Now) (s : State) :
    mask U (s.upNow f) = mask U s := by simp [mask, State.upNow, hide, h]

@[simp] theorem mask_upTime {U : Units} (h : U.time = true) (f : TimeU → TimeU) (s : State) :
    mask U (s.upTime f) = mask U s := by simp [mask, State.upTime, hide, h]

@[simp] theorem mask_upLanes {U : Units} (h : U.lanes = true) (f : Lanes → Lanes) (s : State) :
    mask U (s.upLanes f) = mask U s := by simp [mask, State.upLanes, hide, h]

@[simp] theorem mask_upHub {U : Units} (h : U.hub = true) (f : Hub → Hub) (s : State) :
    mask U (s.upHub f) = mask U s := by simp [mask, State.upHub, hide, h]

@[simp] theorem mask_upCat {U : Units} (h : U.cat = true) (f : Cat → Cat) (s : State) :
    mask U (s.upCat f) = mask U s := by simp [mask, State.upCat, hide, h]

@[simp] theorem mask_upSig {U : Units} (h : U.sig = true) (f : Signals → Signals) (s : State) :
    mask U (s.upSig f) = mask U s := by simp [mask, State.upSig, hide, h]

@[simp] theorem mask_upCtl {U : Units} (h : U.ctl = true) (f : Control → Control) (s : State) :
    mask U (s.upCtl f) = mask U s := by simp [mask, State.upCtl, hide, h]

@[simp] theorem mask_upPas {U : Units} (h : U.pas = true) (f : Passage → Passage) (s : State) :
    mask U (s.upPas f) = mask U s := by simp [mask, State.upPas, hide, h]

@[simp] theorem mask_upImg {U : Units} (h : U.img = true) (f : Images → Images) (s : State) :
    mask U (s.upImg f) = mask U s := by simp [mask, State.upImg, hide, h]

@[simp] theorem mask_upPow {U : Units} (h : U.pow = true) (f : Power → Power) (s : State) :
    mask U (s.upPow f) = mask U s := by simp [mask, State.upPow, hide, h]

@[simp] theorem mask_upMar {U : Units} (h : U.mar = true) (f : Margin → Margin) (s : State) :
    mask U (s.upMar f) = mask U s := by simp [mask, State.upMar, hide, h]

@[simp] theorem mask_upBar {U : Units} (h : U.bar = true) (f : Bar → Bar) (s : State) :
    mask U (s.upBar f) = mask U s := by simp [mask, State.upBar, hide, h]

@[simp] theorem mask_upValve {U : Units} (h : U.valve = true) (f : Valves → Valves) (s : State) :
    mask U (s.upValve f) = mask U s := by simp [mask, State.upValve, hide, h]

@[simp] theorem mask_upField {U : Units} (h : U.field = true) (f : Field → Field) (s : State) :
    mask U (s.upField f) = mask U s := by simp [mask, State.upField, hide, h]

@[simp] theorem mask_upCan {U : Units} (h : U.can = true) (f : Can → Can) (s : State) :
    mask U (s.upCan f) = mask U s := by simp [mask, State.upCan, hide, h]

@[simp] theorem mask_upModem {U : Units} (h : U.modem = true) (f : Modem → Modem) (s : State) :
    mask U (s.upModem f) = mask U s := by simp [mask, State.upModem, hide, h]

@[simp] theorem mask_upDisp {U : Units} (h : U.disp = true) (f : Display → Display) (s : State) :
    mask U (s.upDisp f) = mask U s := by simp [mask, State.upDisp, hide, h]

@[simp] theorem mask_upGnss {U : Units} (h : U.gnss = true) (f : Gnss → Gnss) (s : State) :
    mask U (s.upGnss f) = mask U s := by simp [mask, State.upGnss, hide, h]

@[simp] theorem mask_upPos {U : Units} (h : U.pos = true) (f : Pos → Pos) (s : State) :
    mask U (s.upPos f) = mask U s := by simp [mask, State.upPos, hide, h]

@[simp] theorem mask_upFus {U : Units} (h : U.fus = true) (f : Fusion → Fusion) (s : State) :
    mask U (s.upFus f) = mask U s := by simp [mask, State.upFus, hide, h]

@[simp] theorem mask_upCam {U : Units} (h : U.cam = true) (f : Cam → Cam) (s : State) :
    mask U (s.upCam f) = mask U s := by simp [mask, State.upCam, hide, h]

@[simp] theorem mask_upMap {U : Units} (h : U.map = true) (f : MapU → MapU) (s : State) :
    mask U (s.upMap f) = mask U s := by simp [mask, State.upMap, hide, h]

theorem mask_now {U : Units} {s t : State} (h : mask U t = mask U s) (hu : U.now = false) : t.now = s.now := by
  have := congrArg Masked.now h
  simpa [mask, hide, hu] using this

theorem mask_time {U : Units} {s t : State} (h : mask U t = mask U s) (hu : U.time = false) : t.time = s.time := by
  have := congrArg Masked.time h
  simpa [mask, hide, hu] using this

theorem mask_lanes {U : Units} {s t : State} (h : mask U t = mask U s) (hu : U.lanes = false) : t.lanes = s.lanes := by
  have := congrArg Masked.lanes h
  simpa [mask, hide, hu] using this

theorem mask_hub {U : Units} {s t : State} (h : mask U t = mask U s) (hu : U.hub = false) : t.hub = s.hub := by
  have := congrArg Masked.hub h
  simpa [mask, hide, hu] using this

theorem mask_cat {U : Units} {s t : State} (h : mask U t = mask U s) (hu : U.cat = false) : t.cat = s.cat := by
  have := congrArg Masked.cat h
  simpa [mask, hide, hu] using this

theorem mask_sig {U : Units} {s t : State} (h : mask U t = mask U s) (hu : U.sig = false) : t.sig = s.sig := by
  have := congrArg Masked.sig h
  simpa [mask, hide, hu] using this

theorem mask_ctl {U : Units} {s t : State} (h : mask U t = mask U s) (hu : U.ctl = false) : t.ctl = s.ctl := by
  have := congrArg Masked.ctl h
  simpa [mask, hide, hu] using this

theorem mask_pas {U : Units} {s t : State} (h : mask U t = mask U s) (hu : U.pas = false) : t.pas = s.pas := by
  have := congrArg Masked.pas h
  simpa [mask, hide, hu] using this

theorem mask_img {U : Units} {s t : State} (h : mask U t = mask U s) (hu : U.img = false) : t.img = s.img := by
  have := congrArg Masked.img h
  simpa [mask, hide, hu] using this

theorem mask_pow {U : Units} {s t : State} (h : mask U t = mask U s) (hu : U.pow = false) : t.pow = s.pow := by
  have := congrArg Masked.pow h
  simpa [mask, hide, hu] using this

theorem mask_mar {U : Units} {s t : State} (h : mask U t = mask U s) (hu : U.mar = false) : t.mar = s.mar := by
  have := congrArg Masked.mar h
  simpa [mask, hide, hu] using this

theorem mask_bar {U : Units} {s t : State} (h : mask U t = mask U s) (hu : U.bar = false) : t.bar = s.bar := by
  have := congrArg Masked.bar h
  simpa [mask, hide, hu] using this

theorem mask_valve {U : Units} {s t : State} (h : mask U t = mask U s) (hu : U.valve = false) : t.valve = s.valve := by
  have := congrArg Masked.valve h
  simpa [mask, hide, hu] using this

theorem mask_field {U : Units} {s t : State} (h : mask U t = mask U s) (hu : U.field = false) : t.field = s.field := by
  have := congrArg Masked.field h
  simpa [mask, hide, hu] using this

theorem mask_can {U : Units} {s t : State} (h : mask U t = mask U s) (hu : U.can = false) : t.can = s.can := by
  have := congrArg Masked.can h
  simpa [mask, hide, hu] using this

theorem mask_modem {U : Units} {s t : State} (h : mask U t = mask U s) (hu : U.modem = false) : t.modem = s.modem := by
  have := congrArg Masked.modem h
  simpa [mask, hide, hu] using this

theorem mask_disp {U : Units} {s t : State} (h : mask U t = mask U s) (hu : U.disp = false) : t.disp = s.disp := by
  have := congrArg Masked.disp h
  simpa [mask, hide, hu] using this

theorem mask_gnss {U : Units} {s t : State} (h : mask U t = mask U s) (hu : U.gnss = false) : t.gnss = s.gnss := by
  have := congrArg Masked.gnss h
  simpa [mask, hide, hu] using this

theorem mask_pos {U : Units} {s t : State} (h : mask U t = mask U s) (hu : U.pos = false) : t.pos = s.pos := by
  have := congrArg Masked.pos h
  simpa [mask, hide, hu] using this

theorem mask_fus {U : Units} {s t : State} (h : mask U t = mask U s) (hu : U.fus = false) : t.fus = s.fus := by
  have := congrArg Masked.fus h
  simpa [mask, hide, hu] using this

theorem mask_cam {U : Units} {s t : State} (h : mask U t = mask U s) (hu : U.cam = false) : t.cam = s.cam := by
  have := congrArg Masked.cam h
  simpa [mask, hide, hu] using this

theorem mask_map {U : Units} {s t : State} (h : mask U t = mask U s) (hu : U.map = false) : t.map = s.map := by
  have := congrArg Masked.map h
  simpa [mask, hide, hu] using this

theorem mask_pending {U : Units} {s t : State} (h : mask U t = mask U s) : t.pending = s.pending :=
  congrArg Masked.pending h

/-- A loop over a list touches what its body touches. -/
theorem mask_foldl {α : Type} {U : Units} (f : State → α → State) (h : ∀ s x, mask U (f s x) = mask U s)
    (l : List α) (s : State) : mask U (l.foldl f s) = mask U s := by
  induction l generalizing s with
  | nil => rfl
  | cons a l ih => simp [List.foldl, ih, h]

/-- The same for a loop that carries a value beside the state. -/
theorem mask_foldl_fst {α β : Type} {U : Units} (f : State × β → α → State × β)
    (h : ∀ s x, mask U (f s x).1 = mask U s.1) (l : List α) (s : State × β) :
    mask U (l.foldl f s).1 = mask U s.1 := by
  induction l generalizing s with
  | nil => rfl
  | cons a l ih => simp [List.foldl, ih, h]

/-- A choice touches what its branches touch. -/
theorem mask_ite {U : Units} {c : Prop} {_ : Decidable c} {a b s : State} (ha : mask U a = mask U s)
    (hb : mask U b = mask U s) : mask U (if c then a else b) = mask U s := by
  split <;> assumption

@[simp] theorem goes_next {U : Units} {s t : State} : Goes U s (.next t) ↔ mask U t = mask U s :=
  ⟨fun ⟨_, h, e⟩ => by cases h; exact e, fun h => ⟨t, rfl, h⟩⟩

/-- A choice of outcomes. -/
theorem goes_ite {U : Units} {c : Prop} {_ : Decidable c} {s : State} {a b : Host.Outcome State Fault Refusal}
    (ha : Goes U s a) (hb : Goes U s b) : Goes U s (if c then a else b) := by
  split <;> assumption

end Sys2Proof.Machine
end

