-- ==== Sys2Proof/Laws/FrameOps.lean ====
section
/-!
SUPPORT. Which units each operation of Machine/Ops.lean can touch. A command's lemma says too that it always
answers a next state.
-/
set_option linter.unusedSimpArgs false
set_option linter.unusedVariables false
namespace Sys2Proof.Machine

@[simp] theorem tick_mask {U : Units} (h_now : U.now = true) (dt : Nat) (s : State) :
    mask U (tick dt s) = mask U s := by
  unfold tick
  simp [h_now]

@[simp] theorem reach_mask {U : Units} (h_now : U.now = true) (t : Nat) (s : State) :
    mask U (reach t s) = mask U s := by
  unfold reach
  simp [h_now]

@[simp] theorem reachEl_mask {U : Units} (h_now : U.now = true) (t : Nat) (s : State) :
    mask U (reachEl t s) = mask U s := by
  unfold reachEl
  simp [h_now]

@[simp] theorem drawn_mask {U : Units} (h_now : U.now = true) (s : State) :
    mask U (drawn s) = mask U s := by
  unfold drawn
  simp [h_now]

@[simp] theorem ask_mask {U : Units} (h_hub : U.hub = true) (a : HubAct) (s : State) :
    mask U (ask a s) = mask U s := by
  unfold ask
  simp [h_hub]

@[simp] theorem issue_mask {U : Units} (h_hub : U.hub = true) (x : OutItem) (s : State) :
    mask U (issue x s) = mask U s := by
  unfold issue
  simp [h_hub]

@[simp] theorem emitFull_mask {U : Units} (h_hub : U.hub = true) (kind cls src fl : Nat) (owner : Option Nat)
    (corr acc eff : Nat) (body : List Byte) (bulk : Option (List Byte)) (s : State) :
    mask U (emitFull kind cls src fl owner corr acc eff body bulk s) = mask U s := by
  unfold emitFull
  split <;> simp [h_hub]

@[simp] theorem emit_mask {U : Units} (h_hub : U.hub = true) (kind cls src fl acc eff : Nat) (body : List Byte)
    (s : State) :
    mask U (emit kind cls src fl acc eff body s) = mask U s := by
  unfold emit
  simp [h_hub]

@[simp] theorem raiseX_mask {U : Units} (h_hub : U.hub = true) (src inst code sev : Nat) (data : List Byte)
    (acc eff : Nat) (s : State) :
    mask U (raiseX src inst code sev data acc eff s) = mask U s := by
  unfold raiseX
  simp [h_hub]

@[simp] theorem raise_mask {U : Units} (h_hub : U.hub = true) (src inst code : Nat) (s : State) :
    mask U (raise src inst code s) = mask U s := by
  unfold raise
  simp [h_hub]

@[simp] theorem completeX_mask {U : Units} (h_hub : U.hub = true) (kind src : Nat) (p : Post) (acc : Nat) (d : Done)
    (holdOf : Option Nat) (s : State) :
    mask U (completeX kind src p acc d holdOf s) = mask U s := by
  unfold completeX
  split <;> simp [h_hub]

@[simp] theorem complete_mask {U : Units} (h_hub : U.hub = true) (kind src : Nat) (p : Post) (acc : Nat) (d : Done)
    (s : State) :
    mask U (complete kind src p acc d s) = mask U s := by
  unfold complete
  simp [h_hub]

@[simp] theorem takeStamp_mask {U : Units} (h_hub : U.hub = true) (p : Post) (s : State) :
    mask U (takeStamp p s) = mask U s := by
  unfold takeStamp
  simp [h_hub]

@[simp] theorem arrive_mask {U : Units} (h_now : U.now = true) (h_hub : U.hub = true) (dt : Nat) (kind unit : Nat)
    (p : Post) (at_ : Nat → Nat) (s : State) :
    mask U (arrive dt kind unit p at_ s).1 = mask U s := by
  unfold arrive
  simp [h_now, h_hub]

@[simp] theorem Sub.refuse_mask {U : Units} (h_hub : U.hub = true) (u : Sub) (reason d16 : Nat) (s : State) :
    mask U (Sub.refuse u reason d16 s) = mask U s := by
  unfold Sub.refuse
  simp [h_hub]

@[simp] theorem Sub.accept_mask {U : Units} (h_hub : U.hub = true) (u : Sub) (d32 : Nat) (s : State) :
    mask U (Sub.accept u d32 s) = mask U s := by
  unfold Sub.accept
  simp [h_hub]

@[simp] theorem command_mask {U : Units} (h_now : U.now = true) (h_hub : U.hub = true) (dt kind unit : Nat)
    (p : Post) (sc : RecSchema) (guarded : Bool) (at_ : Nat → Nat) (act : Sub → State → State) (s : State)
    (h_act : ∀ x0 s, mask U (act x0 s) = mask U s) :
    mask U (command dt kind unit p sc guarded at_ act s) = mask U s := by
  unfold command
  (repeat' first
    | (simp [h_now, h_hub, h_act]; done)
    | simp [h_now, h_hub, h_act]
    | split)

@[simp] theorem publish_mask {U : Units} (h_sig : U.sig = true) (n : Nat) (stamp : Nat) (val : Int) (s : State) :
    mask U (publish n stamp val s) = mask U s := by
  unfold publish
  simp [h_sig]

@[simp] theorem inputIn_mask {U : Units} (h_sig : U.sig = true) (x : PendIn) (s : State) :
    mask U (inputIn x s) = mask U s := by
  unfold inputIn
  simp [h_sig]

@[simp] theorem input_mask {U : Units} (h_sig : U.sig = true) (n : Nat) (stamp : Nat) (val : Int) (s : State) :
    mask U (input n stamp val s) = mask U s := by
  unfold input
  simp [h_sig]

@[simp] theorem inputAt_mask {U : Units} (h_sig : U.sig = true) (n : Nat) (stamp : Nat) (cmp val : Int) (s : State) :
    mask U (inputAt n stamp cmp val s) = mask U s := by
  unfold inputAt
  simp [h_sig]

end Sys2Proof.Machine
end

