-- ==== Sys2Proof/Laws/FramePassOps.lean ====
section
/-!
SUPPORT. Which units each operation of Machine/PassOps.lean can touch. A command's lemma says too that it always
answers a next state.
-/
set_option linter.unusedSimpArgs false
set_option linter.unusedVariables false
namespace Sys2Proof.Machine

@[simp] theorem odoSettle_mask {U : Units} (h_pas : U.pas = true) (t : Int) (s : State) :
    mask U (odoSettle t s) = mask U s := by
  unfold odoSettle
  (repeat' split) <;> simp [h_pas]

@[simp] theorem upHead_mask {U : Units} (h_pas : U.pas = true) (f : Slice → Slice) (s : State) :
    mask U (upHead f s) = mask U s := by
  unfold upHead
  simp [h_pas]

@[simp] theorem setPass_mask {U : Units} (h_hub : U.hub = true) (h_pas : U.pas = true) (st : PassState) (s : State) :
    mask U (setPass st s) = mask U s := by
  unfold setPass
  simp [h_hub, h_pas]

@[simp] theorem passStatus_mask {U : Units} (h_hub : U.hub = true) (st : PassState) (t : Nat) (s : State) :
    mask U (passStatus st t s) = mask U s := by
  unfold passStatus
  simp [h_hub]

@[simp] theorem finaliseSlice_mask {U : Units} (h_hub : U.hub = true) (h_pas : U.pas = true) (t n : Nat)
    (stepNow : Bool) (s : State) :
    mask U (finaliseSlice t n stepNow s) = mask U s := by
  unfold finaliseSlice
  repeat' first
      | (simp [h_hub, h_pas]; done)
      | (with_reducible refine (mask_foldl _ (fun _ _ => ?_) _ _).trans ?_)
      | (with_reducible refine (mask_foldl_fst _ (fun _ _ => ?_) _ _).trans ?_)
      | with_reducible apply command_mask
      | intro _
      | (simp +zetaDelta [h_hub, h_pas]; done)
      | simp [h_hub, h_pas]
      | with_reducible refine mask_ite ?_ ?_
      | with_reducible refine goes_ite ?_ ?_
      | split
      | simp +zetaDelta [h_hub, h_pas]

@[simp] theorem openSlice_mask {U : Units} (h_pas : U.pas = true) (t n : Nat) (s : State) :
    mask U (openSlice t n s) = mask U s := by
  unfold openSlice
  simp [h_pas]

@[simp] theorem publishSpeeds_mask {U : Units} (h_sig : U.sig = true) (t : Nat) (s : State) :
    mask U (publishSpeeds t s) = mask U s := by
  unfold publishSpeeds
  first
  | (simp [h_sig]; done)
  | (repeat' split) <;> (simp [h_sig]; done)
  | (repeat' first
      | (simp [h_sig]; done)
      | (with_reducible refine (mask_foldl _ (fun _ _ => ?_) _ _).trans ?_)
      | (with_reducible refine (mask_foldl_fst _ (fun _ _ => ?_) _ _).trans ?_)
      | simp [h_sig]
      | split)

@[simp] theorem rebuildKernels_mask {U : Units} (h_hub : U.hub = true) (h_pas : U.pas = true) (t : Int) (s : State) :
    mask U (rebuildKernels t s) = mask U s := by
  unfold rebuildKernels
  first
  | (simp [h_hub, h_pas]; done)
  | (repeat' split) <;> (simp [h_hub, h_pas]; done)
  | (repeat' first
      | (simp [h_hub, h_pas]; done)
      | (with_reducible refine (mask_foldl _ (fun _ _ => ?_) _ _).trans ?_)
      | (with_reducible refine (mask_foldl_fst _ (fun _ _ => ?_) _ _).trans ?_)
      | simp [h_hub, h_pas]
      | split)

@[simp] theorem orphanTake_mask {U : Units} (h_pas : U.pas = true) (t : Nat) (ty : Nat) (tv : TapVal) (v : F64)
    (s : State) :
    mask U (orphanTake t ty tv v s) = mask U s := by
  unfold orphanTake
  simp [h_pas]

@[simp] theorem attributeTap_mask {U : Units} (h_pas : U.pas = true) (kernels : List Kernel) (t : Nat) (a b : Int)
    (ch : Nat) (c : List Byte) (s : State) :
    mask U (attributeTap kernels t a b ch c s) = mask U s := by
  unfold attributeTap
  (repeat' first
    | (simp [h_pas]; done)
    | simp [h_pas]
    | split)

@[simp] theorem deliverAttr_mask {U : Units} (h_hub : U.hub = true) (t : Nat) (part : Bool) (r : AttrRec) (s : State) :
    mask U (deliverAttr t part r s) = mask U s := by
  unfold deliverAttr
  split <;> simp [h_hub]

@[simp] theorem settle_mask {U : Units} (h_hub : U.hub = true) (h_pas : U.pas = true) (t n : Nat) (s : State) :
    mask U (settle t n s).1 = mask U s := by
  unfold settle
  first
  | (simp [h_hub, h_pas]; done)
  | (repeat' split) <;> (simp [h_hub, h_pas]; done)
  | (repeat' first
      | (simp [h_hub, h_pas]; done)
      | (with_reducible refine (mask_foldl _ (fun _ _ => ?_) _ _).trans ?_)
      | (with_reducible refine (mask_foldl_fst _ (fun _ _ => ?_) _ _).trans ?_)
      | simp [h_hub, h_pas]
      | split)

@[simp] theorem closeOrphan_mask {U : Units} (h_hub : U.hub = true) (h_pas : U.pas = true) (t : Nat) (part : Bool)
    (s : State) :
    mask U (closeOrphan t part s).1 = mask U s := by
  unfold closeOrphan
  (repeat' first
    | (simp [h_hub, h_pas]; done)
    | simp [h_hub, h_pas]
    | split)

@[simp] theorem preview_mask {U : Units} (h_now : U.now = true) (h_hub : U.hub = true) (h_sig : U.sig = true)
    (t n : Nat) (last : Seg) (v : F64) (s : State) :
    mask U (preview t n last v s) = mask U s := by
  unfold preview
  first
  | (simp [h_now, h_hub, h_sig]; done)
  | (repeat' split) <;> (simp [h_now, h_hub, h_sig]; done)
  | (repeat' first
      | (simp [h_now, h_hub, h_sig]; done)
      | (with_reducible refine (mask_foldl _ (fun _ _ => ?_) _ _).trans ?_)
      | (with_reducible refine (mask_foldl_fst _ (fun _ _ => ?_) _ _).trans ?_)
      | simp [h_now, h_hub, h_sig]
      | split)

end Sys2Proof.Machine
end

