-- ==== Sys2Proof/Laws/FrameMapOps.lean ====
section
/-!
SUPPORT. Which units each operation of Machine/MapOps.lean can touch. A command's lemma says too that it always
answers a next state.
-/
set_option linter.unusedSimpArgs false
set_option linter.unusedVariables false
namespace Sys2Proof.Machine

@[simp] theorem mapFlush_mask {U : Units} (h_hub : U.hub = true) (h_map : U.map = true) (s : State) :
    mask U (mapFlush s).1 = mask U s := by
  unfold mapFlush
  (repeat' first
    | (simp [h_hub, h_map]; done)
    | simp [h_hub, h_map]
    | split)

@[simp] theorem deliverTile_mask {U : Units} (h_hub : U.hub = true) (g : MapGeom) (reason t : Nat) (x : MapTile)
    (s : State) :
    mask U (deliverTile g reason t x s) = mask U s := by
  unfold deliverTile
  simp [h_hub]

@[simp] theorem deliverTiles_mask {U : Units} (h_hub : U.hub = true) (g : MapGeom) (reason t : Nat)
    (ts : List MapTile) (s : State) :
    mask U (deliverTiles g reason t ts s) = mask U s := by
  unfold deliverTiles
  first
  | (simp [h_hub]; done)
  | (repeat' split) <;> (simp [h_hub]; done)
  | (repeat' first
      | (simp [h_hub]; done)
      | (with_reducible refine (mask_foldl _ (fun _ _ => ?_) _ _).trans ?_)
      | (with_reducible refine (mask_foldl_fst _ (fun _ _ => ?_) _ _).trans ?_)
      | simp [h_hub]
      | split)

@[simp] theorem openSummary_mask {U : Units} (h_hub : U.hub = true) (t : Nat) (s : State) :
    mask U (openSummary t s) = mask U s := by
  unfold openSummary
  split <;> simp [h_hub]

@[simp] theorem upSums_mask {U : Units} (h_map : U.map = true) (f : MapSums → MapSums) (s : State) :
    mask U (upSums f s) = mask U s := by
  unfold upSums
  simp [h_map]

@[simp] theorem mapUnplaced_mask {U : Units} (h_hub : U.hub = true) (h_map : U.map = true) (wet : F64) (s : State) :
    mask U (mapUnplaced wet s) = mask U s := by
  unfold mapUnplaced
  split <;> simp [h_hub, h_map]

@[simp] theorem releaseCarry_mask {U : Units} (h_hub : U.hub = true) (h_map : U.map = true) (s : State) :
    mask U (releaseCarry s) = mask U s := by
  unfold releaseCarry
  split <;> simp [h_hub, h_map]

@[simp] theorem joinCarry_mask {U : Units} (h_hub : U.hub = true) (h_map : U.map = true) (idx epoch : Nat)
    (g : Group5) (s : State) :
    mask U (joinCarry idx epoch g s) = mask U s := by
  unfold joinCarry
  (repeat' first
    | (simp [h_hub, h_map]; done)
    | simp [h_hub, h_map]
    | split)

@[simp] theorem placeGroup_mask {U : Units} (h_now : U.now = true) (h_map : U.map = true) (t : Nat) (r : AttrRec)
    (geom : MapGeom) (g : Group5) (nF : Nat) (nw : List (Int × Int)) (s : State) :
    mask U (placeGroup t r geom g nF nw s) = mask U s := by
  unfold placeGroup
  first
  | (simp [h_now, h_map]; done)
  | (repeat' split) <;> (simp [h_now, h_map]; done)
  | (repeat' first
      | (simp [h_now, h_map]; done)
      | (with_reducible refine (mask_foldl _ (fun _ _ => ?_) _ _).trans ?_)
      | (with_reducible refine (mask_foldl_fst _ (fun _ _ => ?_) _ _).trans ?_)
      | simp [h_now, h_map]
      | split)

@[simp] theorem fullNoted_mask {U : Units} (h_hub : U.hub = true) (was : Bool) (s : State) :
    mask U (fullNoted was s) = mask U s := by
  unfold fullNoted
  split <;> simp [h_hub]

@[simp] theorem badUnits_mask {U : Units} (h_hub : U.hub = true) (n : Nat) (s : State) : mask U
    (badUnits n s) = mask U s := by
  induction n generalizing s with
  | zero => rfl
  | succ n ih => unfold badUnits; simp [ih, h_hub]

@[simp] theorem breakCarry_mask {U : Units} (h_hub : U.hub = true) (h_map : U.map = true) (r : AttrRec) (s : State) :
    mask U (breakCarry r s) = mask U s := by
  unfold breakCarry
  (repeat' first
    | (simp [h_hub, h_map]; done)
    | simp [h_hub, h_map]
    | split)

@[simp] theorem mapOffField_mask {U : Units} (h_hub : U.hub = true) (h_map : U.map = true) (wet : F64) (s : State) :
    mask U (mapOffField wet s) = mask U s := by
  unfold mapOffField
  (repeat' first
    | (simp [h_hub, h_map]; done)
    | simp [h_hub, h_map]
    | split)

@[simp] theorem mapPlace_mask {U : Units} (h_now : U.now = true) (h_hub : U.hub = true) (h_map : U.map = true)
    (t : Nat) (r : AttrRec) (sl : Slice) (geom : MapGeom) (fp : List (Int × Int)) (s : State) :
    mask U (mapPlace t r sl geom fp s) = mask U s := by
  unfold mapPlace
  extract_lets wet tiles y m1 s1
  clear_value wet
  clear_value tiles
  clear_value y
  clear_value m1
  clear_value s1
  repeat' first
      | (simp [h_now, h_hub, h_map]; done)
      | (with_reducible refine (mask_foldl _ (fun _ _ => ?_) _ _).trans ?_)
      | (with_reducible refine (mask_foldl_fst _ (fun _ _ => ?_) _ _).trans ?_)
      | with_reducible apply command_mask
      | intro _
      | (simp +zetaDelta [h_now, h_hub, h_map]; done)
      | simp [h_now, h_hub, h_map]
      | with_reducible refine mask_ite ?_ ?_
      | with_reducible refine goes_ite ?_ ?_
      | split
      | simp +zetaDelta [h_now, h_hub, h_map]

@[simp] theorem mapRecord_mask {U : Units} (h_now : U.now = true) (h_hub : U.hub = true) (h_map : U.map = true)
    (t : Nat) (r : AttrRec) (s : State) :
    mask U (mapRecord t r s) = mask U s := by
  unfold mapRecord
  extract_lets wet s1
  have q1 : mask U s1 = mask U s := by simp [s1, h_now, h_hub, h_map]
  clear_value s1
  split
  · simp [h_map]
  · split
    · simp [h_hub, h_map, q1]
    · extract_lets next qs ext inside
      split
      · simp [h_now, h_hub, h_map, q1]
      · split
        · simp [h_now, h_hub, h_map, q1]
        · simp [h_now, h_hub, h_map, q1]

@[simp] theorem mapDone_mask {U : Units} (h_hub : U.hub = true) (c : MapCmd) (d : Done) (s : State) :
    mask U (mapDone c d s) = mask U s := by
  unfold mapDone
  simp [h_hub]

@[simp] theorem mapOpen_mask {U : Units} (h_hub : U.hub = true) (h_map : U.map = true) (c : MapCmd) (t : Nat)
    (s : State) :
    mask U (mapOpen c t s) = mask U s := by
  unfold mapOpen
  (repeat' first
    | (simp [h_hub, h_map]; done)
    | simp [h_hub, h_map]
    | split)

@[simp] theorem mapClose_mask {U : Units} (h_hub : U.hub = true) (h_map : U.map = true) (c : MapCmd) (t : Nat)
    (s : State) :
    mask U (mapClose c t s) = mask U s := by
  unfold mapClose
  first
  | (simp [h_hub, h_map]; done)
  | (repeat' split) <;> (simp [h_hub, h_map]; done)
  | (repeat' first
      | (simp [h_hub, h_map]; done)
      | (with_reducible refine (mask_foldl _ (fun _ _ => ?_) _ _).trans ?_)
      | (with_reducible refine (mask_foldl_fst _ (fun _ _ => ?_) _ _).trans ?_)
      | simp [h_hub, h_map]
      | split)

@[simp] theorem mapField_mask {U : Units} (h_hub : U.hub = true) (h_map : U.map = true) (c : MapCmd) (t : Nat)
    (s : State) :
    mask U (mapField c t s) = mask U s := by
  unfold mapField
  (repeat' first
    | (simp [h_hub, h_map]; done)
    | simp [h_hub, h_map]
    | split)

@[simp] theorem mapRequest_mask {U : Units} (h_hub : U.hub = true) (c : MapCmd) (t : Nat) (s : State) :
    mask U (mapRequest c t s) = mask U s := by
  unfold mapRequest
  first
  | (simp [h_hub]; done)
  | (repeat' split) <;> (simp [h_hub]; done)
  | (repeat' first
      | (simp [h_hub]; done)
      | (with_reducible refine (mask_foldl _ (fun _ _ => ?_) _ _).trans ?_)
      | (with_reducible refine (mask_foldl_fst _ (fun _ _ => ?_) _ _).trans ?_)
      | simp [h_hub]
      | split)

@[simp] theorem mapSettings_mask {U : Units} (h_hub : U.hub = true) (h_map : U.map = true) (t : Nat) (s : State) :
    mask U (mapSettings t s) = mask U s := by
  unfold mapSettings
  (repeat' first
    | (simp [h_hub, h_map]; done)
    | simp [h_hub, h_map]
    | split)

@[simp] theorem mapTap_mask {U : Units} (h_now : U.now = true) (h_hub : U.hub = true) (h_map : U.map = true)
    (t : Nat) (bad : List MapUnit) (recs : List AttrRec) (s : State) :
    mask U (mapTap t bad recs s) = mask U s := by
  unfold mapTap
  extract_lets s1 due s2 s3 s4
  have q_s1 : mask U s1 = mask U s := by
    simp [s1, h_now, h_hub, h_map]
  clear_value s1
  clear_value due
  have q_s2 : mask U s2 = mask U s := by
    simp [s2, h_now, h_hub, h_map, q_s1]
  clear_value s2
  have q_s3 : mask U s3 = mask U s := by
    simp only [s3]
    repeat' first
      | (simp [h_now, h_hub, h_map, q_s1, q_s2]; done)
      | (with_reducible refine (mask_foldl _ (fun _ _ => ?_) _ _).trans ?_)
      | (with_reducible refine (mask_foldl_fst _ (fun _ _ => ?_) _ _).trans ?_)
      | with_reducible apply command_mask
      | intro _
      | (simp +zetaDelta [h_now, h_hub, h_map, q_s1, q_s2]; done)
      | simp [h_now, h_hub, h_map, q_s1, q_s2]
      | with_reducible refine mask_ite ?_ ?_
      | with_reducible refine goes_ite ?_ ?_
      | split
      | simp +zetaDelta [h_now, h_hub, h_map, q_s1, q_s2]
  clear_value s3
  have q_s4 : mask U s4 = mask U s := by
    simp only [s4]
    repeat' first
      | (simp [h_now, h_hub, h_map, q_s1, q_s2, q_s3]; done)
      | (with_reducible refine (mask_foldl _ (fun _ _ => ?_) _ _).trans ?_)
      | (with_reducible refine (mask_foldl_fst _ (fun _ _ => ?_) _ _).trans ?_)
      | with_reducible apply command_mask
      | intro _
      | (simp +zetaDelta [h_now, h_hub, h_map, q_s1, q_s2, q_s3]; done)
      | simp [h_now, h_hub, h_map, q_s1, q_s2, q_s3]
      | with_reducible refine mask_ite ?_ ?_
      | with_reducible refine goes_ite ?_ ?_
      | split
      | simp +zetaDelta [h_now, h_hub, h_map, q_s1, q_s2, q_s3]
  clear_value s4
  repeat' first
      | (simp [h_now, h_hub, h_map, q_s1, q_s2, q_s3, q_s4]; done)
      | (with_reducible refine (mask_foldl _ (fun _ _ => ?_) _ _).trans ?_)
      | (with_reducible refine (mask_foldl_fst _ (fun _ _ => ?_) _ _).trans ?_)
      | with_reducible apply command_mask
      | intro _
      | (simp +zetaDelta [h_now, h_hub, h_map, q_s1, q_s2, q_s3, q_s4]; done)
      | simp [h_now, h_hub, h_map, q_s1, q_s2, q_s3, q_s4]
      | with_reducible refine mask_ite ?_ ?_
      | with_reducible refine goes_ite ?_ ?_
      | split
      | simp +zetaDelta [h_now, h_hub, h_map, q_s1, q_s2, q_s3, q_s4]

@[simp] theorem mapKeyoff_mask {U : Units} (h_hub : U.hub = true) (h_map : U.map = true) (s : State) :
    mask U (mapKeyoff s) = mask U s := by
  unfold mapKeyoff
  simp [h_hub, h_map]

@[simp] theorem mapRestart_mask {U : Units} (h_map : U.map = true) (lossy : Bool) (s : State) :
    mask U (mapRestart lossy s) = mask U s := by
  unfold mapRestart
  simp [h_map]

end Sys2Proof.Machine
end

