-- ==== Sys2Proof/Laws/FrameEstimate.lean ====
section
/-!
SUPPORT. Which units each operation of Machine/Estimate.lean can touch. A command's lemma says too that it always
answers a next state.
-/
set_option linter.unusedSimpArgs false
set_option linter.unusedVariables false
namespace Sys2Proof.Machine

@[simp] theorem estClose_mask {U : Units} (h_hub : U.hub = true) (h_pas : U.pas = true) (n t next : Nat) (s : State) :
    mask U (estClose n t next s) = mask U s := by
  unfold estClose
  extract_lets h mode newWin
  have q : ∀ s, mask U (newWin s) = mask U s := fun s => by simp [newWin, h_pas]
  clear_value newWin
  (repeat' first
      | (simp [q, h_hub, h_pas]; done)
      | with_reducible refine mask_ite ?_ ?_
      | simp [q, h_hub, h_pas]
      | split
      | simp +zetaDelta [q, h_hub, h_pas])

@[simp] theorem hopTap_mask {U : Units} (h_pas : U.pas = true) (t : Int) (s : State) :
    mask U (hopTap t s) = mask U s := by
  unfold hopTap
  simp [h_pas]

end Sys2Proof.Machine
end

