-- ==== Sys2Proof/Laws/FramePassage.lean ====
section
/-!
SUPPORT. Which units each operation of Machine/Passage.lean can touch. A command's lemma says too that it always
answers a next state.
-/
set_option linter.unusedSimpArgs false
set_option linter.unusedVariables false
namespace Sys2Proof.Machine

@[simp] theorem recordTap_mask {U : Units} (h_pas : U.pas = true) (t n : Nat) (s : State) :
    mask U (recordTap t n s).1 = mask U s := by
  unfold recordTap
  (repeat' first
    | (simp [h_pas]; done)
    | simp [h_pas]
    | split)

@[simp] theorem densityTap_mask {U : Units} (h_pas : U.pas = true) (t : Nat) (v : F64) (s : State) :
    mask U (densityTap t v s) = mask U s := by
  unfold densityTap
  simp [h_pas]

@[simp] theorem tapSlice_mask {U : Units} (h_hub : U.hub = true) (h_pas : U.pas = true) (t n : Nat) (s : State) :
    mask U (tapSlice t n s) = mask U s := by
  unfold tapSlice
  (repeat' split) <;> simp [h_hub, h_pas]

@[simp] theorem tapEmpty_mask {U : Units} (h_hub : U.hub = true) (h_pas : U.pas = true) (n : Nat) (s : State) :
    mask U (tapEmpty n s) = mask U s := by
  unfold tapEmpty
  (repeat' first
    | (simp [h_hub, h_pas]; done)
    | simp [h_hub, h_pas]
    | split)

@[simp] theorem tapSettle_mask {U : Units} (h_hub : U.hub = true) (h_pas : U.pas = true) (st0 : PassState)
    (t n : Nat) (s : State) :
    mask U (tapSettle st0 t n s).1 = mask U s := by
  unfold tapSettle
  (repeat' first
    | (simp [h_hub, h_pas]; done)
    | simp [h_hub, h_pas]
    | split)

@[simp] theorem passNoted_mask {U : Units} (h_hub : U.hub = true) (st0 st1 : PassState) (t : Nat) (s : State) :
    mask U (passNoted st0 st1 t s) = mask U s := by
  unfold passNoted
  (repeat' first
    | (simp [h_hub]; done)
    | simp [h_hub]
    | split)

@[simp] theorem tapWork_mask {U : Units} (h_now : U.now = true) (h_hub : U.hub = true) (h_sig : U.sig = true)
    (h_pas : U.pas = true) (h_map : U.map = true) (bad : List MapUnit) (t n : Nat) (s : State) :
    mask U (tapWork bad t n s) = mask U s := by
  unfold tapWork
  first
  | (simp [h_now, h_hub, h_sig, h_pas, h_map]; done)
  | (repeat' split) <;> (simp [h_now, h_hub, h_sig, h_pas, h_map]; done)
  | (repeat' first
      | (simp [h_now, h_hub, h_sig, h_pas, h_map]; done)
      | (with_reducible refine (mask_foldl _ (fun _ _ => ?_) _ _).trans ?_)
      | (with_reducible refine (mask_foldl_fst _ (fun _ _ => ?_) _ _).trans ?_)
      | simp [h_now, h_hub, h_sig, h_pas, h_map]
      | split)

@[simp] theorem execTapInstant_mask {U : Units} (h_now : U.now = true) (h_hub : U.hub = true) (h_sig : U.sig = true)
    (h_pas : U.pas = true) (h_map : U.map = true) (bad : List MapUnit) (s : State) :
    Goes U s (execTapInstant bad s) := by
  unfold execTapInstant
  (repeat' first
    | (simp [h_now, h_hub, h_sig, h_pas, h_map]; done)
    | simp [h_now, h_hub, h_sig, h_pas, h_map]
    | split)

@[simp] theorem execOrphanTimeout_mask {U : Units} (h_now : U.now = true) (h_hub : U.hub = true)
    (h_pas : U.pas = true) (h_map : U.map = true) (s : State) :
    Goes U s (execOrphanTimeout s) := by
  unfold execOrphanTimeout
  repeat' first
      | (simp [h_now, h_hub, h_pas, h_map]; done)
      | (with_reducible refine (mask_foldl _ (fun _ _ => ?_) _ _).trans ?_)
      | (with_reducible refine (mask_foldl_fst _ (fun _ _ => ?_) _ _).trans ?_)
      | with_reducible apply command_mask
      | intro _
      | (simp +zetaDelta [h_now, h_hub, h_pas, h_map]; done)
      | simp [h_now, h_hub, h_pas, h_map]
      | with_reducible refine mask_ite ?_ ?_
      | with_reducible refine goes_ite ?_ ?_
      | split
      | simp +zetaDelta [h_now, h_hub, h_pas, h_map]

@[simp] theorem execEstWindowEnd_mask {U : Units} (h_now : U.now = true) (h_hub : U.hub = true)
    (h_pas : U.pas = true) (n : Fin 7) (s : State) :
    Goes U s (execEstWindowEnd n s) := by
  unfold execEstWindowEnd
  extract_lets k h t
  clear_value k
  clear_value h
  clear_value t
  simp [h_now, h_hub, h_pas]

@[simp] theorem execKdCropChange_mask {U : Units} (h_now : U.now = true) (h_hub : U.hub = true)
    (h_pas : U.pas = true) (dt : Nat) (p : Post) (s : State) :
    Goes U s (execKdCropChange dt p s) := by
  unfold execKdCropChange
  repeat' first
      | (simp [h_now, h_hub, h_pas]; done)
      | (with_reducible refine (mask_foldl _ (fun _ _ => ?_) _ _).trans ?_)
      | (with_reducible refine (mask_foldl_fst _ (fun _ _ => ?_) _ _).trans ?_)
      | with_reducible apply command_mask
      | intro _
      | (simp +zetaDelta [h_now, h_hub, h_pas]; done)
      | simp [h_now, h_hub, h_pas]
      | with_reducible refine mask_ite ?_ ?_
      | with_reducible refine goes_ite ?_ ?_
      | split
      | simp +zetaDelta [h_now, h_hub, h_pas]

@[simp] theorem execPassageStatusPeriod_mask {U : Units} (h_now : U.now = true) (h_hub : U.hub = true)
    (h_pas : U.pas = true) (s : State) :
    Goes U s (execPassageStatusPeriod s) := by
  unfold execPassageStatusPeriod
  simp [h_now, h_hub, h_pas]

@[simp] theorem passCommit_mask {U : Units} (h_pas : U.pas = true) (old : Nat → Nat → List Byte) (hops : List Nat)
    (full : Bool) (s : State) :
    mask U (passCommit old hops full s) = mask U s := by
  unfold passCommit
  simp [h_pas]

@[simp] theorem passRestore_mask {U : Units} (h_pas : U.pas = true) (s : State) :
    mask U (passRestore s) = mask U s := by
  unfold passRestore
  simp [h_pas]

@[simp] theorem passKeyoff_mask {U : Units} (h_now : U.now = true) (h_hub : U.hub = true) (h_pas : U.pas = true)
    (h_map : U.map = true) (s : State) :
    mask U (passKeyoff s) = mask U s := by
  unfold passKeyoff
  extract_lets t due s1 o s2
  clear_value t
  clear_value due
  have q_s1 : mask U s1 = mask U s := by
    simp only [s1]
    repeat' first
      | (simp [h_now, h_hub, h_pas, h_map]; done)
      | (with_reducible refine (mask_foldl _ (fun _ _ => ?_) _ _).trans ?_)
      | (with_reducible refine (mask_foldl_fst _ (fun _ _ => ?_) _ _).trans ?_)
      | with_reducible apply command_mask
      | intro _
      | (simp +zetaDelta [h_now, h_hub, h_pas, h_map]; done)
      | simp [h_now, h_hub, h_pas, h_map]
      | with_reducible refine mask_ite ?_ ?_
      | with_reducible refine goes_ite ?_ ?_
      | split
      | simp +zetaDelta [h_now, h_hub, h_pas, h_map]
  clear_value s1
  have q_o : mask U o.1 = mask U s := by
    simp [o, h_now, h_hub, h_pas, h_map, q_s1]
  clear_value o
  have q_s2 : mask U s2 = mask U s := by
    simp only [s2]
    repeat' first
      | (simp [h_now, h_hub, h_pas, h_map, q_s1, q_o]; done)
      | (with_reducible refine (mask_foldl _ (fun _ _ => ?_) _ _).trans ?_)
      | (with_reducible refine (mask_foldl_fst _ (fun _ _ => ?_) _ _).trans ?_)
      | with_reducible apply command_mask
      | intro _
      | (simp +zetaDelta [h_now, h_hub, h_pas, h_map, q_s1, q_o]; done)
      | simp [h_now, h_hub, h_pas, h_map, q_s1, q_o]
      | with_reducible refine mask_ite ?_ ?_
      | with_reducible refine goes_ite ?_ ?_
      | split
      | simp +zetaDelta [h_now, h_hub, h_pas, h_map, q_s1, q_o]
  clear_value s2
  simp [h_now, h_hub, h_pas, h_map, q_s1, q_o, q_s2]

@[simp] theorem passStart_mask {U : Units} (h_pas : U.pas = true) (s : State) :
    mask U (passStart s) = mask U s := by
  unfold passStart
  simp [h_pas]

@[simp] theorem stepOrphan_mask {U : Units} (h_now : U.now = true) (h_hub : U.hub = true) (h_pas : U.pas = true)
    (h_map : U.map = true) (t : Nat) (s : State) :
    mask U (stepOrphan t s) = mask U s := by
  unfold stepOrphan
  first
  | (simp [h_now, h_hub, h_pas, h_map]; done)
  | (repeat' split) <;> (simp [h_now, h_hub, h_pas, h_map]; done)
  | (repeat' first
      | (simp [h_now, h_hub, h_pas, h_map]; done)
      | (with_reducible refine (mask_foldl _ (fun _ _ => ?_) _ _).trans ?_)
      | (with_reducible refine (mask_foldl_fst _ (fun _ _ => ?_) _ _).trans ?_)
      | simp [h_now, h_hub, h_pas, h_map]
      | split)

@[simp] theorem passStep_mask {U : Units} (h_now : U.now = true) (h_hub : U.hub = true) (h_pas : U.pas = true)
    (h_map : U.map = true) (d : Int) (t : Nat) (s : State) :
    mask U (passStep d t s) = mask U s := by
  unfold passStep
  extract_lets new gridAt s1 s2
  clear_value new
  clear_value gridAt
  have q_s1 : mask U s1 = mask U s := by
    simp [s1, h_now, h_hub, h_pas, h_map]
  clear_value s1
  have q_s2 : mask U s2 = mask U s := by
    simp only [s2]
    repeat' first
      | (simp [h_now, h_hub, h_pas, h_map, q_s1]; done)
      | (with_reducible refine (mask_foldl _ (fun _ _ => ?_) _ _).trans ?_)
      | (with_reducible refine (mask_foldl_fst _ (fun _ _ => ?_) _ _).trans ?_)
      | with_reducible apply command_mask
      | intro _
      | (simp +zetaDelta [h_now, h_hub, h_pas, h_map, q_s1]; done)
      | simp [h_now, h_hub, h_pas, h_map, q_s1]
      | with_reducible refine mask_ite ?_ ?_
      | with_reducible refine goes_ite ?_ ?_
      | split
      | simp +zetaDelta [h_now, h_hub, h_pas, h_map, q_s1]
  clear_value s2
  simp [h_now, h_hub, h_pas, h_map, q_s1, q_s2]

end Sys2Proof.Machine
end

