-- ==== Sys2Proof/Laws/Clock.lean ====
section
/-!
SUPPORT. A record that the map engine takes, and the step of the passage engine, leave Field Time and elapsed time
as they are, though they may draw a free value.
-/
namespace Sys2Proof.Machine

/-- Where no unit but the host link, the passage engine and the map engine differs, the clocks are the same. -/
theorem clock_of_mask {s u : State}
    (h : mask { hub := true, pas := true, map := true } u = mask { hub := true, pas := true, map := true } s) :
    u.now.ft = s.now.ft ∧ u.now.el = s.now.el :=
  ⟨congrArg (·.ft) (mask_now h rfl), congrArg (·.el) (mask_now h rfl)⟩

/-- Placing a group leaves the clocks, though it may draw a free value. -/
theorem placeGroup_clock (t : Nat) (r : AttrRec) (geom : MapGeom) (g : Group5) (nF : Nat) (nw : List (Int × Int))
    (s : State) :
    (placeGroup t r geom g nF nw s).now.ft = s.now.ft ∧ (placeGroup t r geom g nF nw s).now.el = s.now.el := by
  unfold placeGroup
  extract_lets mode cnt k subs keys s1 d s2 sub
  have h1 : s1.now = s.now := by
    have q1 : mask {map := true} s1 = mask {map := true} s := by
      refine (mask_foldl _ (fun _ _ => ?_) _ _); simp
    exact mask_now q1 rfl
  have h2 : s2.now.ft = s.now.ft ∧ s2.now.el = s.now.el := by
    simp only [s2]; split
    · exact ⟨congrArg (·.ft) h1, congrArg (·.el) h1⟩
    · exact ⟨congrArg (·.ft) h1, congrArg (·.el) h1⟩
  exact h2

/-- Placing a record leaves the clocks. -/
theorem mapPlace_clock (t : Nat) (r : AttrRec) (sl : Slice) (geom : MapGeom) (fp : List (Int × Int)) (s : State) :
    (mapPlace t r sl geom fp s).now.ft = s.now.ft ∧ (mapPlace t r sl geom fp s).now.el = s.now.el := by
  unfold mapPlace
  extract_lets wet tiles y y1 m1 s1 nw g
  have q1 : mask { hub := true, pas := true, map := true } s1 = mask { hub := true, pas := true, map := true } s := by
    simp [s1]
  have h1 := clock_of_mask q1
  clear_value s1
  repeat' split
  case isFalse.isFalse.isFalse =>
    have h := placeGroup_clock t r geom (g.withCarry s1.map.carry) fp.length nw s1
    exact ⟨h.1.trans h1.1, h.2.trans h1.2⟩
  all_goals exact clock_of_mask (by simp [q1])

/-- A record that the map engine takes leaves the clocks. -/
theorem mapRecord_clock (t : Nat) (r : AttrRec) (s : State) :
    (mapRecord t r s).now.ft = s.now.ft ∧ (mapRecord t r s).now.el = s.now.el := by
  unfold mapRecord
  extract_lets wet s1
  have q1 : mask { hub := true, pas := true, map := true } s1 = mask { hub := true, pas := true, map := true } s := by
    simp [s1]
  clear_value s1
  split
  · exact clock_of_mask (by simp)
  · split
    · exact clock_of_mask (by simp [q1])
    · extract_lets next qs ext inside
      split
      · exact clock_of_mask (by simp [q1])
      · split
        · exact clock_of_mask (by simp [q1])
        · exact ⟨(mapPlace_clock ..).1.trans (clock_of_mask q1).1, (mapPlace_clock ..).2.trans (clock_of_mask q1).2⟩

/-- A fold leaves the clocks where each of its steps does. -/
theorem foldl_clock {α : Type} (f : State → α → State)
    (h : ∀ s a, (f s a).now.ft = s.now.ft ∧ (f s a).now.el = s.now.el) (l : List α) (s : State) :
    (l.foldl f s).now.ft = s.now.ft ∧ (l.foldl f s).now.el = s.now.el := by
  induction l generalizing s with
  | nil => exact ⟨rfl, rfl⟩
  | cons a r ih => exact ⟨(ih _).1.trans (h s a).1, (ih _).2.trans (h s a).2⟩

/-- Closing the orphan accumulation leaves the clocks. -/
theorem stepOrphan_clock (t : Nat) (s : State) :
    (stepOrphan t s).now.ft = s.now.ft ∧ (stepOrphan t s).now.el = s.now.el := by
  unfold stepOrphan
  extract_lets x
  have h := foldl_clock _ (fun s r => mapRecord_clock t r s) x.2 x.1
  have q : x.1.now = s.now := mask_now (U := { hub := true, pas := true }) (by simp [x]) rfl
  exact ⟨h.1.trans (congrArg (·.ft) q), h.2.trans (congrArg (·.el) q)⟩

/-- The step of the passage engine leaves the clocks. -/
theorem passStep_clock (d : Int) (t : Nat) (s : State) :
    (passStep d t s).now.ft = s.now.ft ∧ (passStep d t s).now.el = s.now.el := by
  unfold passStep
  extract_lets new gridAt s1 s2
  have q : mask { hub := true, pas := true } s2 = mask { hub := true, pas := true } s := by
    have : mask { hub := true, pas := true } s1 = mask { hub := true, pas := true } s := by simp [s1]
    refine Eq.trans ?_ this
    simp only [s2]
    exact mask_foldl _ (fun _ _ => by simp) _ _
  have h := stepOrphan_clock t s2
  have n : s2.now = s.now := mask_now q rfl
  clear_value s2
  rw [State.upPas_now]
  exact ⟨h.1.trans (congrArg (·.ft) n), h.2.trans (congrArg (·.el) n)⟩

end Sys2Proof.Machine
end

