-- ==== Sys2Proof/Laws/Command.lean ====
section
/-!
SUPPORT. What a submission does once it passes the checks of R106, and when it does not.
-/
namespace Sys2Proof.Machine

/-- A submission that passes does what its kind does. -/
theorem command_passes {dt kind unit : Nat} {p : Post} {sc : RecSchema} {g : Bool} {at_ : Nat → Nat}
    {act : Sub → State → State} {s : State} (h : Passes sc g p s) :
    command dt kind unit p sc g at_ act s
      = act (arrive dt kind unit p at_ s).2 (arrive dt kind unit p at_ s).1 := by
  obtain ⟨hs, hc, hk⟩ := h
  unfold command
  simp only [hs, hc]
  cases g
  · simp
  · simp [hk rfl]

/-- A submission that fails a check of R106 is refused, at the boundary of R544, and does nothing else. -/
theorem command_refused {dt kind unit r d : Nat} {p : Post} {sc : RecSchema} {g : Bool} {at_ : Nat → Nat}
    {act : Sub → State → State} {s : State} (hs : s.pow.state = .serving)
    (hc : checkBody (some sc) 0x20 0 false (expectedSeq s p) p = some (r, d)) :
    command dt kind unit p sc g at_ act s
      = (arrive dt kind unit p decideAt s).2.refuse r d (arrive dt kind unit p decideAt s).1 := by
  unfold command
  simp [hs, hc]

/-- A guarded submission that arrives in a key-off is refused with KEYOFF (R473), at the boundary of R544. -/
theorem command_keyoff {dt kind unit : Nat} {p : Post} {sc : RecSchema} {at_ : Nat → Nat}
    {act : Sub → State → State} {s : State} (hs : s.pow.state = .serving) (hk : keyoff s = true)
    (hc : checkBody (some sc) 0x20 0 false (expectedSeq s p) p = none) :
    command dt kind unit p sc true at_ act s
      = (arrive dt kind unit p decideAt s).2.refuse 0x1201 0 (arrive dt kind unit p decideAt s).1 := by
  unfold command
  simp [hs, hc, hk]

end Sys2Proof.Machine
end

