-- ==== Sys2Proof/Laws/FrameFusionOps.lean ====
section
/-!
SUPPORT. Which units each operation of Machine/FusionOps.lean can touch. A command's lemma says too that it always
answers a next state.
-/
set_option linter.unusedSimpArgs false
set_option linter.unusedVariables false
namespace Sys2Proof.Machine

@[simp] theorem imuTake_mask {U : Units} (h_fus : U.fus = true) (i : Nat) (x : ImuSample) (el : Nat) (s : State) :
    mask U (imuTake i x el s) = mask U s := by
  unfold imuTake
  simp [h_fus]

end Sys2Proof.Machine
end

