-- ==== Sys2Proof/Laws/FrameTimeOps.lean ====
section
/-!
SUPPORT. Which units each operation of Machine/TimeOps.lean can touch. A command's lemma says too that it always
answers a next state.
-/
set_option linter.unusedSimpArgs false
set_option linter.unusedVariables false
namespace Sys2Proof.Machine

@[simp] theorem timeStatus_mask {U : Units} (h_hub : U.hub = true) (at_ : Nat) (s : State) :
    mask U (timeStatus at_ s) = mask U s := by
  unfold timeStatus
  simp [h_hub]

@[simp] theorem timeChanged_mask {U : Units} (h_hub : U.hub = true) (s : State) :
    mask U (timeChanged s) = mask U s := by
  unfold timeChanged
  split <;> simp [h_hub]

@[simp] theorem timeNoted_mask {U : Units} (h_hub : U.hub = true) (was : TimeU) (s : State) :
    mask U (timeNoted was s) = mask U s := by
  unfold timeNoted
  split <;> simp [h_hub]

@[simp] theorem timeTo_mask {U : Units} (h_time : U.time = true) (h_hub : U.hub = true) (st : TimeState) (s : State) :
    mask U (timeTo st s) = mask U s := by
  unfold timeTo
  simp [h_time, h_hub]

@[simp] theorem accrue_mask {U : Units} (h_gnss : U.gnss = true) (s : State) :
    mask U (accrue s) = mask U s := by
  unfold accrue
  simp [h_gnss]

@[simp] theorem loseLock_mask {U : Units} (h_time : U.time = true) (h_hub : U.hub = true) (h_gnss : U.gnss = true)
    (s : State) :
    mask U (loseLock s) = mask U s := by
  unfold loseLock
  simp [h_time, h_hub, h_gnss]

@[simp] theorem clockFailed_mask {U : Units} (h_time : U.time = true) (h_hub : U.hub = true)
    (h_gnss : U.gnss = true) (s : State) :
    mask U (clockFailed s) = mask U s := by
  unfold clockFailed
  split <;> simp [h_time, h_hub, h_gnss]

@[simp] theorem clockPassed_mask {U : Units} (h_time : U.time = true) (s : State) :
    mask U (clockPassed s) = mask U s := by
  unfold clockPassed
  simp [h_time]

end Sys2Proof.Machine
end

