-- ==== Sys2Proof/Laws/FramePosOps.lean ====
section
/-!
SUPPORT. Which units each operation of Machine/PosOps.lean can touch. A command's lemma says too that it always
answers a next state.
-/
set_option linter.unusedSimpArgs false
set_option linter.unusedVariables false
namespace Sys2Proof.Machine

@[simp] theorem baseComplete_mask {U : Units} (h_pos : U.pos = true) (host : Bool) (s : State) :
    mask U (baseComplete host s) = mask U s := by
  unfold baseComplete
  (repeat' first
    | (simp [h_pos]; done)
    | simp [h_pos]
    | split)

@[simp] theorem rtcmTake_mask {U : Units} (h_pos : U.pos = true) (host : Bool) (fr : List Byte) (stamp : Nat)
    (s : State) :
    mask U (rtcmTake host fr stamp s).1 = mask U s := by
  unfold rtcmTake
  (repeat' first
    | (simp [h_pos]; done)
    | simp [h_pos]
    | split)

@[simp] theorem baseTimeout_mask {U : Units} (h_now : U.now = true) (h_pos : U.pos = true) (host : Bool) (s : State) :
    mask U (baseTimeout host s) = mask U s := by
  unfold baseTimeout
  split <;> simp [h_now, h_pos]

@[simp] theorem posCheck_mask {U : Units} (h_hub : U.hub = true) (h_pos : U.pos = true) (v : PosSol) (s : State) :
    mask U (posCheck v s) = mask U s := by
  unfold posCheck
  (repeat' first
    | (simp [h_hub, h_pos]; done)
    | simp [h_hub, h_pos]
    | split)

@[simp] theorem posEpoch_mask {U : Units} (h_hub : U.hub = true) (h_pos : U.pos = true) (h_fus : U.fus = true)
    (sol : Option PosSol) (at_ : Nat) (s : State) :
    mask U (posEpoch sol at_ s) = mask U s := by
  unfold posEpoch
  (repeat' first
    | (simp [h_hub, h_pos, h_fus]; done)
    | simp [h_hub, h_pos, h_fus]
    | split)

end Sys2Proof.Machine
end

