-- ==== Sys2Proof/Laws/FrameFusion.lean ====
section
/-!
SUPPORT. Which units each operation of Machine/Fusion.lean can touch. A command's lemma says too that it always
answers a next state.
-/
set_option linter.unusedSimpArgs false
set_option linter.unusedVariables false
namespace Sys2Proof.Machine

@[simp] theorem rtcmAll_mask {U : Units} (h_pos : U.pos = true) (host : Bool) (stamp : Nat) (l : List (List Byte))
    (s : State) :
    mask U (rtcmAll host stamp l s).1 = mask U s := by
  induction l generalizing s with
  | nil => rfl
  | cons f r ih =>
    unfold rtcmAll
    split
    · exact (ih _).trans (rtcmTake_mask h_pos _ _ _ _)
    · exact ih s

@[simp] theorem execKdRtcmIn_mask {U : Units} (h_now : U.now = true) (h_hub : U.hub = true) (h_pos : U.pos = true)
    (dt : Nat) (p : Post) (s : State) :
    Goes U s (execKdRtcmIn dt p s) := by
  unfold execKdRtcmIn
  (repeat' split) <;> simp [h_now, h_hub, h_pos]

@[simp] theorem execBaseEpochTimeout_mask {U : Units} (h_now : U.now = true) (h_pos : U.pos = true) (host : Bool)
    (s : State) :
    Goes U s (execBaseEpochTimeout host s) := by
  unfold execBaseEpochTimeout
  simp [h_now, h_pos]

@[simp] theorem execCorrSourceBackup_mask {U : Units} (h_now : U.now = true) (h_pos : U.pos = true) (s : State) :
    Goes U s (execCorrSourceBackup s) := by
  unfold execCorrSourceBackup
  split <;> simp [h_now, h_pos]

@[simp] theorem poseSignals_mask {U : Units} (h_sig : U.sig = true) (e : PoseEst) (vel : Bool) (t : Nat) (s : State) :
    mask U (poseSignals e vel t s) = mask U s := by
  unfold poseSignals
  first
  | (simp [h_sig]; done)
  | (repeat' split) <;> (simp [h_sig]; done)
  | (repeat' first
      | (simp [h_sig]; done)
      | (with_reducible refine (mask_foldl _ (fun _ _ => ?_) _ _).trans ?_)
      | (with_reducible refine (mask_foldl_fst _ (fun _ _ => ?_) _ _).trans ?_)
      | simp [h_sig]
      | split)

@[simp] theorem setPoseValid_mask {U : Units} (h_hub : U.hub = true) (h_fus : U.fus = true) (v : Bool) (s : State) :
    mask U (setPoseValid v s) = mask U s := by
  unfold setPoseValid
  split <;> simp [h_hub, h_fus]

@[simp] theorem setDead_mask {U : Units} (h_hub : U.hub = true) (h_fus : U.fus = true) (v : Bool) (s : State) :
    mask U (setDead v s) = mask U s := by
  unfold setDead
  split <;> simp [h_hub, h_fus]

@[simp] theorem fusionRecords_mask {U : Units} (h_pos : U.pos = true) (h_fus : U.fus = true) (s : State) :
    mask U (fusionRecords s) = mask U s := by
  unfold fusionRecords
  (repeat' first
    | (simp [h_pos, h_fus]; done)
    | simp [h_pos, h_fus]
    | split)

@[simp] theorem execFusionOutput_mask {U : Units} (h_now : U.now = true) (h_hub : U.hub = true)
    (h_sig : U.sig = true) (h_pos : U.pos = true) (h_fus : U.fus = true) (x : FusionIn) (s : State) :
    Goes U s (execFusionOutput x s) := by
  unfold execFusionOutput
  extract_lets t s0 el f gnss s1 s2 e
  clear_value t
  have q_s0 : mask U s0 = mask U s := by
    simp [s0, h_now, h_hub, h_sig, h_pos, h_fus]
  clear_value s0
  clear_value el
  clear_value f
  clear_value gnss
  have q_s1 : mask U s1 = mask U s := by
    simp [s1, h_now, h_hub, h_sig, h_pos, h_fus, q_s0]
  clear_value s1
  have q_s2 : mask U s2 = mask U s := by
    simp only [s2]
    repeat' first
      | (simp [h_now, h_hub, h_sig, h_pos, h_fus, q_s0, q_s1]; done)
      | with_reducible refine mask_ite ?_ ?_
      | simp [h_now, h_hub, h_sig, h_pos, h_fus, q_s0, q_s1]
      | split
  clear_value s2
  clear_value e
  repeat' first
      | (simp [h_now, h_hub, h_sig, h_pos, h_fus, q_s0, q_s1, q_s2]; done)
      | (with_reducible refine (mask_foldl _ (fun _ _ => ?_) _ _).trans ?_)
      | (with_reducible refine (mask_foldl_fst _ (fun _ _ => ?_) _ _).trans ?_)
      | with_reducible apply command_mask
      | intro _
      | (simp +zetaDelta [h_now, h_hub, h_sig, h_pos, h_fus, q_s0, q_s1, q_s2]; done)
      | simp [h_now, h_hub, h_sig, h_pos, h_fus, q_s0, q_s1, q_s2]
      | with_reducible refine mask_ite ?_ ?_
      | with_reducible refine goes_ite ?_ ?_
      | split
      | simp +zetaDelta [h_now, h_hub, h_sig, h_pos, h_fus, q_s0, q_s1, q_s2]

@[simp] theorem execDeadReckoningTimeout_mask {U : Units} (h_now : U.now = true) (h_hub : U.hub = true)
    (h_fus : U.fus = true) (s : State) :
    Goes U s (execDeadReckoningTimeout s) := by
  unfold execDeadReckoningTimeout
  split <;> simp [h_now, h_hub, h_fus]

@[simp] theorem execEdgeHoldExpiry_mask {U : Units} (h_now : U.now = true) (h_fus : U.fus = true) (s : State) :
    Goes U s (execEdgeHoldExpiry s) := by
  unfold execEdgeHoldExpiry
  split <;> simp [h_now, h_fus]

@[simp] theorem execFusionCheckEpoch_mask {U : Units} (h_now : U.now = true) (h_hub : U.hub = true)
    (h_fus : U.fus = true) (s : State) :
    Goes U s (execFusionCheckEpoch s) := by
  unfold execFusionCheckEpoch
  first
  | (simp [h_now, h_hub, h_fus]; done)
  | (repeat' split) <;> (simp [h_now, h_hub, h_fus]; done)
  | (repeat' first
      | (simp [h_now, h_hub, h_fus]; done)
      | (with_reducible refine (mask_foldl _ (fun _ _ => ?_) _ _).trans ?_)
      | (with_reducible refine (mask_foldl_fst _ (fun _ _ => ?_) _ _).trans ?_)
      | simp [h_now, h_hub, h_fus]
      | split)

@[simp] theorem execSourceAbsent_mask {U : Units} (h_now : U.now = true) (h_fus : U.fus = true) (src : Fin 15)
    (s : State) :
    Goes U s (execSourceAbsent src s) := by
  unfold execSourceAbsent
  split <;> simp [h_now, h_fus]

@[simp] theorem execKdHostFix_mask {U : Units} (h_now : U.now = true) (h_hub : U.hub = true) (h_fus : U.fus = true)
    (dt : Nat) (p : Post) (s : State) :
    Goes U s (execKdHostFix dt p s) := by
  unfold execKdHostFix
  repeat' first
      | (simp [h_now, h_hub, h_fus]; done)
      | (with_reducible refine (mask_foldl _ (fun _ _ => ?_) _ _).trans ?_)
      | (with_reducible refine (mask_foldl_fst _ (fun _ _ => ?_) _ _).trans ?_)
      | with_reducible apply command_mask
      | intro _
      | (simp +zetaDelta [h_now, h_hub, h_fus]; done)
      | simp [h_now, h_hub, h_fus]
      | with_reducible refine mask_ite ?_ ?_
      | with_reducible refine goes_ite ?_ ?_
      | split
      | simp +zetaDelta [h_now, h_hub, h_fus]

@[simp] theorem execImu0DataReady_mask {U : Units} (h_now : U.now = true) (h_fus : U.fus = true) (dt : Nat)
    (x : ImuSample) (s : State) :
    Goes U s (execImu0DataReady dt x s) := by
  unfold execImu0DataReady
  simp [h_now, h_fus]

@[simp] theorem execImuDrdy_mask {U : Units} (h_now : U.now = true) (h_fus : U.fus = true) (dt : Nat)
    (rising : Bool) (s : State) :
    Goes U s (execImuDrdy dt rising s) := by
  unfold execImuDrdy
  (repeat' first
    | (simp [h_now, h_fus]; done)
    | simp [h_now, h_fus]
    | split)

@[simp] theorem execImuTransferEnd_mask {U : Units} (h_now : U.now = true) (h_fus : U.fus = true) (dt : Nat)
    (frame : List Byte) (s : State) :
    Goes U s (execImuTransferEnd dt frame s) := by
  unfold execImuTransferEnd
  (repeat' first
    | (simp [h_now, h_fus]; done)
    | simp [h_now, h_fus]
    | split)

@[simp] theorem closeRate_mask {U : Units} (h_hub : U.hub = true) (h_fus : U.fus = true) (start next : Nat)
    (s : State) :
    mask U (closeRate start next s) = mask U s := by
  unfold closeRate
  (repeat' first
    | (simp [h_hub, h_fus]; done)
    | simp [h_hub, h_fus]
    | split)

@[simp] theorem execImu1RateWindow_mask {U : Units} (h_now : U.now = true) (h_hub : U.hub = true)
    (h_fus : U.fus = true) (s : State) :
    Goes U s (execImu1RateWindow s) := by
  unfold execImu1RateWindow
  (repeat' first
    | (simp [h_now, h_hub, h_fus]; done)
    | simp [h_now, h_hub, h_fus]
    | split)

@[simp] theorem fusFeature_mask {U : Units} (h_fus : U.fus = true) (p : Nat) (s : State) :
    mask U (fusFeature p s) = mask U s := by
  unfold fusFeature
  simp [h_fus]

@[simp] theorem fusSkew_mask {U : Units} (h_hub : U.hub = true) (h_fus : U.fus = true) (p : Nat) (bad : Bool)
    (s : State) :
    mask U (fusSkew p bad s) = mask U s := by
  unfold fusSkew
  split <;> simp [h_hub, h_fus]

@[simp] theorem modemRtcm_mask {U : Units} (h_pos : U.pos = true) (fr : List Byte) (stamp : Nat) (s : State) :
    mask U (modemRtcm fr stamp s) = mask U s := by
  unfold modemRtcm
  simp [h_pos]

end Sys2Proof.Machine
end

