-- ==== Sys2Proof/Laws/FrameCamOps.lean ====
section
/-!
SUPPORT. Which units each operation of Machine/CamOps.lean can touch. A command's lemma says too that it always
answers a next state.
-/
set_option linter.unusedSimpArgs false
set_option linter.unusedVariables false
namespace Sys2Proof.Machine

@[simp] theorem upPipe_mask {U : Units} (h_cam : U.cam = true) (p : Nat) (f : Pipe → Pipe) (s : State) :
    mask U (upPipe p f s) = mask U s := by
  unfold upPipe
  simp [h_cam]

@[simp] theorem upPort_mask {U : Units} (h_cam : U.cam = true) (n : Nat) (f : CamPort → CamPort) (s : State) :
    mask U (upPort n f s) = mask U s := by
  unfold upPort
  simp [h_cam]

@[simp] theorem noteMarks_mask {U : Units} (h_hub : U.hub = true) (h_cam : U.cam = true) (p marks : Nat)
    (data : List Byte) (s : State) :
    mask U (noteMarks p marks data s) = mask U s := by
  unfold noteMarks
  first
  | (simp [h_hub, h_cam]; done)
  | (repeat' split) <;> (simp [h_hub, h_cam]; done)
  | (repeat' first
      | (simp [h_hub, h_cam]; done)
      | (with_reducible refine (mask_foldl _ (fun _ _ => ?_) _ _).trans ?_)
      | (with_reducible refine (mask_foldl_fst _ (fun _ _ => ?_) _ _).trans ?_)
      | simp [h_hub, h_cam]
      | split)

@[simp] theorem missedRecord_mask {U : Units} (h_hub : U.hub = true) (h_cam : U.cam = true) (p : Nat) (s : State) :
    mask U (missedRecord p s) = mask U s := by
  unfold missedRecord
  (repeat' first
    | (simp [h_hub, h_cam]; done)
    | simp [h_hub, h_cam]
    | split)

@[simp] theorem checkSkew_mask {U : Units} (h_hub : U.hub = true) (h_fus : U.fus = true) (h_cam : U.cam = true)
    (p : Nat) (f : OpenFrame) (s : State) :
    mask U (checkSkew p f s).1 = mask U s := by
  unfold checkSkew
  (repeat' first
    | (simp [h_hub, h_fus, h_cam]; done)
    | simp [h_hub, h_fus, h_cam]
    | split)

@[simp] theorem fullRecord_mask {U : Units} (h_hub : U.hub = true) (p : Nat) (f : StoredFrame) (part : Bool)
    (s : State) :
    mask U (fullRecord p f part s) = mask U s := by
  unfold fullRecord
  simp [h_hub]

@[simp] theorem scaledRecord_mask {U : Units} (h_hub : U.hub = true) (p : Nat) (f : OpenFrame) (im : Image)
    (part : Bool) (s : State) :
    mask U (scaledRecord p f im part s) = mask U s := by
  unfold scaledRecord
  simp [h_hub]

@[simp] theorem statsRecord_mask {U : Units} (h_hub : U.hub = true) (p : Nat) (f : OpenFrame) (im : Image)
    (part : Bool) (s : State) :
    mask U (statsRecord p f im part s) = mask U s := by
  unfold statsRecord
  simp [h_hub]

@[simp] theorem frameSignals_mask {U : Units} (h_sig : U.sig = true) (p : Nat) (f : OpenFrame) (im : Image)
    (counted : Nat) (fracs : List Nat) (s : State) :
    mask U (frameSignals p f im counted fracs s) = mask U s := by
  unfold frameSignals
  first
  | (simp [h_sig]; done)
  | (repeat' split) <;> (simp [h_sig]; done)
  | (repeat' first
      | (simp [h_sig]; done)
      | (with_reducible refine (mask_foldl _ (fun _ _ => ?_) _ _).trans ?_)
      | (with_reducible refine (mask_foldl_fst _ (fun _ _ => ?_) _ _).trans ?_)
      | simp [h_sig]
      | split)

@[simp] theorem frameFeature_mask {U : Units} (h_fus : U.fus = true) (h_cam : U.cam = true) (p : Nat)
    (f : OpenFrame) (t : Feature) (s : State) :
    mask U (frameFeature p f t s) = mask U s := by
  unfold frameFeature
  (repeat' first
    | (simp [h_fus, h_cam]; done)
    | simp [h_fus, h_cam]
    | split)

@[simp] theorem analyse_mask {U : Units} (h_now : U.now = true) (h_hub : U.hub = true) (h_sig : U.sig = true)
    (h_pas : U.pas = true) (h_fus : U.fus = true) (h_cam : U.cam = true) (p : Nat) (f : OpenFrame)
    (im : Image) (part : Bool) (s : State) :
    mask U (analyse p f im part s) = mask U s := by
  unfold analyse
  extract_lets ana on r marked cc fracs mode pts fit usable open_ t s0 s1 s2 s3
  clear_value ana
  clear_value on
  clear_value r
  clear_value marked
  clear_value cc
  clear_value fracs
  clear_value mode
  clear_value pts
  clear_value fit
  clear_value usable
  clear_value open_
  clear_value t
  have q_s0 : mask U s0 = mask U s := by
    simp only [s0]
    repeat' first
      | (simp [h_now, h_hub, h_sig, h_pas, h_fus, h_cam]; done)
      | with_reducible refine mask_ite ?_ ?_
      | simp [h_now, h_hub, h_sig, h_pas, h_fus, h_cam]
      | split
  clear_value s0
  have q_s1 : mask U s1 = mask U s := by
    simp only [s1]
    repeat' first
      | (simp [h_now, h_hub, h_sig, h_pas, h_fus, h_cam, q_s0]; done)
      | with_reducible refine mask_ite ?_ ?_
      | simp [h_now, h_hub, h_sig, h_pas, h_fus, h_cam, q_s0]
      | split
  clear_value s1
  have q_s2 : mask U s2 = mask U s := by
    simp only [s2]
    repeat' first
      | (simp [h_now, h_hub, h_sig, h_pas, h_fus, h_cam, q_s0, q_s1]; done)
      | with_reducible refine mask_ite ?_ ?_
      | simp [h_now, h_hub, h_sig, h_pas, h_fus, h_cam, q_s0, q_s1]
      | split
  clear_value s2
  have q_s3 : mask U s3 = mask U s := by
    simp only [s3]
    repeat' first
      | (simp [h_now, h_hub, h_sig, h_pas, h_fus, h_cam, q_s0, q_s1, q_s2]; done)
      | with_reducible refine mask_ite ?_ ?_
      | simp [h_now, h_hub, h_sig, h_pas, h_fus, h_cam, q_s0, q_s1, q_s2]
      | split
  clear_value s3
  simp [h_now, h_hub, h_sig, h_pas, h_fus, h_cam, q_s0, q_s1, q_s2, q_s3]

@[simp] theorem closeFrame_mask {U : Units} (h_now : U.now = true) (h_hub : U.hub = true) (h_sig : U.sig = true)
    (h_pas : U.pas = true) (h_fus : U.fus = true) (h_cam : U.cam = true) (p extra : Nat) (part : Bool)
    (s : State) :
    mask U (closeFrame p extra part s) = mask U s := by
  unfold closeFrame
  extract_lets x
  clear_value x
  repeat' first
      | (simp [h_now, h_hub, h_sig, h_pas, h_fus, h_cam]; done)
      | (with_reducible refine (mask_foldl _ (fun _ _ => ?_) _ _).trans ?_)
      | (with_reducible refine (mask_foldl_fst _ (fun _ _ => ?_) _ _).trans ?_)
      | with_reducible apply command_mask
      | intro _
      | (simp +zetaDelta [h_now, h_hub, h_sig, h_pas, h_fus, h_cam]; done)
      | simp [h_now, h_hub, h_sig, h_pas, h_fus, h_cam]
      | with_reducible refine mask_ite ?_ ?_
      | with_reducible refine goes_ite ?_ ?_
      | split
      | simp +zetaDelta [h_now, h_hub, h_sig, h_pas, h_fus, h_cam]

@[simp] theorem startWrites_mask {U : Units} (h_cam : U.cam = true) (p : Nat) (s : State) :
    mask U (startWrites p s) = mask U s := by
  unfold startWrites
  (repeat' first
    | (simp [h_cam]; done)
    | simp [h_cam]
    | split)

@[simp] theorem setPipe_mask {U : Units} (h_hub : U.hub = true) (h_cam : U.cam = true) (p : Nat) (st : PipeState)
    (s : State) :
    mask U (setPipe p st s) = mask U s := by
  unfold setPipe
  split <;> simp [h_hub, h_cam]

@[simp] theorem enterPipeStarting_mask {U : Units} (h_hub : U.hub = true) (h_cam : U.cam = true) (p : Nat) (s : State) :
    mask U (enterPipeStarting p s) = mask U s := by
  unfold enterPipeStarting
  simp [h_hub, h_cam]

@[simp] theorem startPipe_mask {U : Units} (h_hub : U.hub = true) (h_cam : U.cam = true) (p : Nat) (s : State) :
    mask U (startPipe p s) = mask U s := by
  unfold startPipe
  split <;> simp [h_hub, h_cam]

@[simp] theorem fallBack_mask {U : Units} (h_now : U.now = true) (h_hub : U.hub = true) (h_sig : U.sig = true)
    (h_pas : U.pas = true) (h_fus : U.fus = true) (h_cam : U.cam = true) (p : Nat) (s : State) :
    mask U (fallBack p s) = mask U s := by
  unfold fallBack
  split <;> simp [h_now, h_hub, h_sig, h_pas, h_fus, h_cam]

@[simp] theorem stopPipe_mask {U : Units} (h_now : U.now = true) (h_hub : U.hub = true) (h_sig : U.sig = true)
    (h_pas : U.pas = true) (h_fus : U.fus = true) (h_cam : U.cam = true) (p : Nat) (s : State) :
    mask U (stopPipe p s) = mask U s := by
  unfold stopPipe
  first
  | (simp [h_now, h_hub, h_sig, h_pas, h_fus, h_cam]; done)
  | (repeat' split) <;> (simp [h_now, h_hub, h_sig, h_pas, h_fus, h_cam]; done)
  | (repeat' first
      | (simp [h_now, h_hub, h_sig, h_pas, h_fus, h_cam]; done)
      | (with_reducible refine (mask_foldl _ (fun _ _ => ?_) _ _).trans ?_)
      | (with_reducible refine (mask_foldl_fst _ (fun _ _ => ?_) _ _).trans ?_)
      | simp [h_now, h_hub, h_sig, h_pas, h_fus, h_cam]
      | split)

@[simp] theorem camBeat_mask {U : Units} (h_hub : U.hub = true) (h_cam : U.cam = true) (b : Nat) (s : State) :
    mask U (camBeat b s) = mask U s := by
  unfold camBeat
  first
  | (simp [h_hub, h_cam]; done)
  | (repeat' split) <;> (simp [h_hub, h_cam]; done)
  | (repeat' first
      | (simp [h_hub, h_cam]; done)
      | (with_reducible refine (mask_foldl _ (fun _ _ => ?_) _ _).trans ?_)
      | (with_reducible refine (mask_foldl_fst _ (fun _ _ => ?_) _ _).trans ?_)
      | simp [h_hub, h_cam]
      | split)

@[simp] theorem camShutdown_mask {U : Units} (h_now : U.now = true) (h_hub : U.hub = true) (h_sig : U.sig = true)
    (h_pas : U.pas = true) (h_fus : U.fus = true) (h_cam : U.cam = true) (s : State) :
    mask U (camShutdown s) = mask U s := by
  unfold camShutdown
  first
  | (simp [h_now, h_hub, h_sig, h_pas, h_fus, h_cam]; done)
  | (repeat' split) <;> (simp [h_now, h_hub, h_sig, h_pas, h_fus, h_cam]; done)
  | (repeat' first
      | (simp [h_now, h_hub, h_sig, h_pas, h_fus, h_cam]; done)
      | (with_reducible refine (mask_foldl _ (fun _ _ => ?_) _ _).trans ?_)
      | (with_reducible refine (mask_foldl_fst _ (fun _ _ => ?_) _ _).trans ?_)
      | simp [h_now, h_hub, h_sig, h_pas, h_fus, h_cam]
      | split)

@[simp] theorem pipeCommit_mask {U : Units} (h_now : U.now = true) (h_hub : U.hub = true) (h_sig : U.sig = true)
    (h_pas : U.pas = true) (h_fus : U.fus = true) (h_cam : U.cam = true) (p : Nat) (old : List Byte)
    (s : State) :
    mask U (pipeCommit p old s) = mask U s := by
  unfold pipeCommit
  (repeat' first
    | (simp [h_now, h_hub, h_sig, h_pas, h_fus, h_cam]; done)
    | simp [h_now, h_hub, h_sig, h_pas, h_fus, h_cam]
    | split)

@[simp] theorem linkLost_mask {U : Units} (h_now : U.now = true) (h_hub : U.hub = true) (h_sig : U.sig = true)
    (h_pas : U.pas = true) (h_fus : U.fus = true) (h_cam : U.cam = true) (n : Nat) (s : State) :
    mask U (linkLost n s) = mask U s := by
  unfold linkLost
  first
  | (simp [h_now, h_hub, h_sig, h_pas, h_fus, h_cam]; done)
  | (repeat' split) <;> (simp [h_now, h_hub, h_sig, h_pas, h_fus, h_cam]; done)
  | (repeat' first
      | (simp [h_now, h_hub, h_sig, h_pas, h_fus, h_cam]; done)
      | (with_reducible refine (mask_foldl _ (fun _ _ => ?_) _ _).trans ?_)
      | (with_reducible refine (mask_foldl_fst _ (fun _ _ => ?_) _ _).trans ?_)
      | simp [h_now, h_hub, h_sig, h_pas, h_fus, h_cam]
      | split)

@[simp] theorem setPoc_mask {U : Units} (h_hub : U.hub = true) (h_cam : U.cam = true) (n st : Nat) (s : State) :
    mask U (setPoc n st s) = mask U s := by
  unfold setPoc
  split <;> simp [h_hub, h_cam]

@[simp] theorem portCommit_mask {U : Units} (h_now : U.now = true) (h_hub : U.hub = true) (h_sig : U.sig = true)
    (h_pas : U.pas = true) (h_fus : U.fus = true) (h_cam : U.cam = true) (n : Nat) (old : List Byte)
    (s : State) :
    mask U (portCommit n old s) = mask U s := by
  unfold portCommit
  (repeat' first
    | (simp [h_now, h_hub, h_sig, h_pas, h_fus, h_cam]; done)
    | simp [h_now, h_hub, h_sig, h_pas, h_fus, h_cam]
    | split)

@[simp] theorem expSettle_mask {U : Units} (h_hub : U.hub = true) (h_cam : U.cam = true) (p : Nat) (s : State) :
    mask U (expSettle p s) = mask U s := by
  unfold expSettle
  (repeat' first
    | (simp [h_hub, h_cam]; done)
    | simp [h_hub, h_cam]
    | split)

@[simp] theorem expTrigger_mask {U : Units} (h_hub : U.hub = true) (h_cam : U.cam = true) (p t : Nat) (s : State) :
    mask U (expTrigger p t s) = mask U s := by
  unfold expTrigger
  (repeat' first
    | (simp [h_hub, h_cam]; done)
    | simp [h_hub, h_cam]
    | split)

@[simp] theorem expAccept_mask {U : Units} (h_hub : U.hub = true) (h_cam : U.cam = true) (p : Nat) (u : Sub)
    (s : State) :
    mask U (expAccept p u s) = mask U s := by
  unfold expAccept
  (repeat' first
    | (simp [h_hub, h_cam]; done)
    | simp [h_hub, h_cam]
    | split)

@[simp] theorem writeAnswered_mask {U : Units} (h_hub : U.hub = true) (h_cam : U.cam = true) (p : Nat) (ack : Bool)
    (s : State) :
    mask U (writeAnswered p ack s) = mask U s := by
  unfold writeAnswered
  (repeat' first
    | (simp [h_hub, h_cam]; done)
    | simp [h_hub, h_cam]
    | split)

@[simp] theorem unboundPacket_mask {U : Units} (h_hub : U.hub = true) (h_cam : U.cam = true) (n : Nat) (s : State) :
    mask U (unboundPacket n s) = mask U s := by
  unfold unboundPacket
  (repeat' first
    | (simp [h_hub, h_cam]; done)
    | simp [h_hub, h_cam]
    | split)

@[simp] theorem upFrame_mask {U : Units} (h_cam : U.cam = true) (p : Nat) (f : OpenFrame → OpenFrame) (s : State) :
    mask U (upFrame p f s) = mask U s := by
  unfold upFrame
  simp [h_cam]

@[simp] theorem portStatus_mask {U : Units} (h_hub : U.hub = true) (n ma mv t : Nat) (s : State) :
    mask U (portStatus n ma mv t s) = mask U s := by
  unfold portStatus
  simp [h_hub]

end Sys2Proof.Machine
end

