-- ==== Sys2Proof/Laws/FrameCamera.lean ====
section
/-!
SUPPORT. Which units each operation of Machine/Camera.lean can touch. A command's lemma says too that it always
answers a next state.
-/
set_option linter.unusedSimpArgs false
set_option linter.unusedVariables false
namespace Sys2Proof.Machine

@[simp] theorem execCamTrigger_mask {U : Units} (h_now : U.now = true) (h_hub : U.hub = true) (h_cam : U.cam = true)
    (p : Fin 6) (s : State) :
    Goes U s (execCamTrigger p s) := by
  unfold execCamTrigger
  (repeat' first
    | (simp [h_now, h_hub, h_cam]; done)
    | simp [h_now, h_hub, h_cam]
    | split)

@[simp] theorem execCamTriggerEnd_mask {U : Units} (h_now : U.now = true) (h_cam : U.cam = true) (p : Fin 6)
    (s : State) :
    Goes U s (execCamTriggerEnd p s) := by
  unfold execCamTriggerEnd
  split <;> simp [h_now, h_cam]

@[simp] theorem execFrameStart_mask {U : Units} (h_now : U.now = true) (h_hub : U.hub = true) (h_sig : U.sig = true)
    (h_pas : U.pas = true) (h_fus : U.fus = true) (h_cam : U.cam = true) (port : Fin 6) (dt vc : Nat)
    (eccFix : Bool) (s : State) :
    Goes U s (execFrameStart port dt vc eccFix s) := by
  unfold execFrameStart
  (repeat' first
    | (simp [h_now, h_hub, h_sig, h_pas, h_fus, h_cam]; done)
    | simp [h_now, h_hub, h_sig, h_pas, h_fus, h_cam]
    | split)

@[simp] theorem execCsi2Packet_mask {U : Units} (h_now : U.now = true) (h_hub : U.hub = true) (h_cam : U.cam = true)
    (port : Fin 6) (dt vc type : Nat) (pay : List Byte) (crcOk : Bool) (ecc : Fin 3) (s : State) :
    Goes U s (execCsi2Packet port dt vc type pay crcOk ecc s) := by
  unfold execCsi2Packet
  first
  | (simp [h_now, h_hub, h_cam]; done)
  | (repeat' split) <;> (simp [h_now, h_hub, h_cam]; done)
  | (repeat' first
      | (simp [h_now, h_hub, h_cam]; done)
      | (with_reducible refine (mask_foldl _ (fun _ _ => ?_) _ _).trans ?_)
      | (with_reducible refine (mask_foldl_fst _ (fun _ _ => ?_) _ _).trans ?_)
      | simp [h_now, h_hub, h_cam]
      | split)

@[simp] theorem execFrameEnd_mask {U : Units} (h_now : U.now = true) (h_hub : U.hub = true) (h_sig : U.sig = true)
    (h_pas : U.pas = true) (h_fus : U.fus = true) (h_cam : U.cam = true) (port : Fin 6) (dt vc : Nat)
    (eccFix : Bool) (s : State) :
    Goes U s (execFrameEnd port dt vc eccFix s) := by
  unfold execFrameEnd
  (repeat' first
    | (simp [h_now, h_hub, h_sig, h_pas, h_fus, h_cam]; done)
    | simp [h_now, h_hub, h_sig, h_pas, h_fus, h_cam]
    | split)

@[simp] theorem execFrameEndTimeout_mask {U : Units} (h_now : U.now = true) (h_hub : U.hub = true)
    (h_sig : U.sig = true) (h_pas : U.pas = true) (h_fus : U.fus = true) (h_cam : U.cam = true) (p : Fin 6)
    (s : State) :
    Goes U s (execFrameEndTimeout p s) := by
  unfold execFrameEndTimeout
  split <;> simp [h_now, h_hub, h_sig, h_pas, h_fus, h_cam]

@[simp] theorem execCamLinkLock_mask {U : Units} (h_now : U.now = true) (h_hub : U.hub = true)
    (h_cam : U.cam = true) (port : Fin 6) (dt : Nat) (s : State) :
    Goes U s (execCamLinkLock port dt s) := by
  unfold execCamLinkLock
  first
  | (simp [h_now, h_hub, h_cam]; done)
  | (repeat' split) <;> (simp [h_now, h_hub, h_cam]; done)
  | (repeat' first
      | (simp [h_now, h_hub, h_cam]; done)
      | (with_reducible refine (mask_foldl _ (fun _ _ => ?_) _ _).trans ?_)
      | (with_reducible refine (mask_foldl_fst _ (fun _ _ => ?_) _ _).trans ?_)
      | simp [h_now, h_hub, h_cam]
      | split)

@[simp] theorem execCamLinkLoss_mask {U : Units} (h_now : U.now = true) (h_hub : U.hub = true)
    (h_sig : U.sig = true) (h_pas : U.pas = true) (h_fus : U.fus = true) (h_cam : U.cam = true)
    (port : Fin 6) (dt : Nat) (s : State) :
    Goes U s (execCamLinkLoss port dt s) := by
  unfold execCamLinkLoss
  simp [h_now, h_hub, h_sig, h_pas, h_fus, h_cam]

@[simp] theorem execCamLinkRetry_mask {U : Units} (h_now : U.now = true) (h_cam : U.cam = true) (port : Fin 6)
    (s : State) :
    Goes U s (execCamLinkRetry port s) := by
  unfold execCamLinkRetry
  (repeat' first
    | (simp [h_now, h_cam]; done)
    | simp [h_now, h_cam]
    | split)

@[simp] theorem execUplinkReply_mask {U : Units} (h_now : U.now = true) (h_hub : U.hub = true)
    (h_cam : U.cam = true) (p : Fin 6) (dt : Nat) (ack : Bool) (s : State) :
    Goes U s (execUplinkReply p dt ack s) := by
  unfold execUplinkReply
  (repeat' first
    | (simp [h_now, h_hub, h_cam]; done)
    | simp [h_now, h_hub, h_cam]
    | split)

@[simp] theorem execUplinkTimeout_mask {U : Units} (h_now : U.now = true) (h_hub : U.hub = true)
    (h_cam : U.cam = true) (p : Fin 6) (s : State) :
    Goes U s (execUplinkTimeout p s) := by
  unfold execUplinkTimeout
  split <;> simp [h_now, h_hub, h_cam]

@[simp] theorem execPocOk_mask {U : Units} (h_now : U.now = true) (h_hub : U.hub = true) (h_cam : U.cam = true)
    (port : Fin 6) (dt : Nat) (s : State) :
    Goes U s (execPocOk port dt s) := by
  unfold execPocOk
  simp [h_now, h_hub, h_cam]

@[simp] theorem execPocOpen_mask {U : Units} (h_now : U.now = true) (h_hub : U.hub = true) (h_cam : U.cam = true)
    (port : Fin 6) (dt : Nat) (s : State) :
    Goes U s (execPocOpen port dt s) := by
  unfold execPocOpen
  simp [h_now, h_hub, h_cam]

@[simp] theorem execPocOvercurrent_mask {U : Units} (h_now : U.now = true) (h_hub : U.hub = true)
    (h_cam : U.cam = true) (port : Fin 6) (dt : Nat) (s : State) :
    Goes U s (execPocOvercurrent port dt s) := by
  unfold execPocOvercurrent
  simp [h_now, h_hub, h_cam]

@[simp] theorem execPocRetry_mask {U : Units} (h_now : U.now = true) (h_cam : U.cam = true) (port : Fin 6) (s : State) :
    Goes U s (execPocRetry port s) := by
  unfold execPocRetry
  (repeat' first
    | (simp [h_now, h_cam]; done)
    | simp [h_now, h_cam]
    | split)

@[simp] theorem execKdExposure_mask {U : Units} (h_now : U.now = true) (h_hub : U.hub = true) (h_cam : U.cam = true)
    (dt : Nat) (p : Post) (s : State) :
    Goes U s (execKdExposure dt p s) := by
  unfold execKdExposure
  repeat' first
      | (simp [h_now, h_hub, h_cam]; done)
      | (with_reducible refine (mask_foldl _ (fun _ _ => ?_) _ _).trans ?_)
      | (with_reducible refine (mask_foldl_fst _ (fun _ _ => ?_) _ _).trans ?_)
      | with_reducible apply command_mask
      | intro _
      | (simp +zetaDelta [h_now, h_hub, h_cam]; done)
      | simp [h_now, h_hub, h_cam]
      | with_reducible refine mask_ite ?_ ?_
      | with_reducible refine goes_ite ?_ ?_
      | split
      | simp +zetaDelta [h_now, h_hub, h_cam]

@[simp] theorem execExposureWrites_mask {U : Units} (h_now : U.now = true) (h_hub : U.hub = true)
    (h_cam : U.cam = true) (p : Fin 6) (s : State) :
    Goes U s (execExposureWrites p s) := by
  unfold execExposureWrites
  split <;> simp [h_now, h_hub, h_cam]

@[simp] theorem execPipeDisable_mask {U : Units} (h_now : U.now = true) (h_hub : U.hub = true)
    (h_sig : U.sig = true) (h_pas : U.pas = true) (h_fus : U.fus = true) (h_cam : U.cam = true) (dt : Nat)
    (p : Post) (s : State) :
    Goes U s (execPipeDisable dt p s) := by
  unfold execPipeDisable
  simp [h_now, h_hub, h_sig, h_pas, h_fus, h_cam]

@[simp] theorem execPipeEnable_mask {U : Units} (h_now : U.now = true) (h_hub : U.hub = true) (h_cam : U.cam = true)
    (dt : Nat) (p : Post) (s : State) :
    Goes U s (execPipeEnable dt p s) := by
  unfold execPipeEnable
  repeat' first
      | (simp [h_now, h_hub, h_cam]; done)
      | (with_reducible refine (mask_foldl _ (fun _ _ => ?_) _ _).trans ?_)
      | (with_reducible refine (mask_foldl_fst _ (fun _ _ => ?_) _ _).trans ?_)
      | with_reducible apply command_mask
      | intro _
      | (simp +zetaDelta [h_now, h_hub, h_cam]; done)
      | simp [h_now, h_hub, h_cam]
      | with_reducible refine mask_ite ?_ ?_
      | with_reducible refine goes_ite ?_ ?_
      | split
      | simp +zetaDelta [h_now, h_hub, h_cam]

@[simp] theorem execPipeDeliverFull_mask {U : Units} (h_now : U.now = true) (h_hub : U.hub = true) (dt : Nat)
    (p : Post) (s : State) :
    Goes U s (execPipeDeliverFull dt p s) := by
  unfold execPipeDeliverFull
  repeat' first
      | (simp [h_now, h_hub]; done)
      | (with_reducible refine (mask_foldl _ (fun _ _ => ?_) _ _).trans ?_)
      | (with_reducible refine (mask_foldl_fst _ (fun _ _ => ?_) _ _).trans ?_)
      | with_reducible apply command_mask
      | intro _
      | (simp +zetaDelta [h_now, h_hub]; done)
      | simp [h_now, h_hub]
      | with_reducible refine mask_ite ?_ ?_
      | with_reducible refine goes_ite ?_ ?_
      | split
      | simp +zetaDelta [h_now, h_hub]

@[simp] theorem execPipeInitRetry_mask {U : Units} (h_now : U.now = true) (h_cam : U.cam = true) (p : Fin 6)
    (s : State) :
    Goes U s (execPipeInitRetry p s) := by
  unfold execPipeInitRetry
  split <;> simp [h_now, h_cam]

@[simp] theorem execCamPortStatus_mask {U : Units} (h_now : U.now = true) (h_hub : U.hub = true)
    (h_cam : U.cam = true) (meas : List (Nat × Nat)) (s : State) :
    Goes U s (execCamPortStatus meas s) := by
  unfold execCamPortStatus
  first
  | (simp [h_now, h_hub, h_cam]; done)
  | (repeat' split) <;> (simp [h_now, h_hub, h_cam]; done)
  | (repeat' first
      | (simp [h_now, h_hub, h_cam]; done)
      | (with_reducible refine (mask_foldl _ (fun _ _ => ?_) _ _).trans ?_)
      | (with_reducible refine (mask_foldl_fst _ (fun _ _ => ?_) _ _).trans ?_)
      | simp [h_now, h_hub, h_cam]
      | split)

end Sys2Proof.Machine
end

