-- ==== Sys2Proof/Laws/FrameValveOps.lean ====
section
/-!
SUPPORT. Which units each operation of Machine/ValveOps.lean can touch. A command's lemma says too that it always
answers a next state.
-/
set_option linter.unusedSimpArgs false
set_option linter.unusedVariables false
namespace Sys2Proof.Machine

@[simp] theorem upVch_mask {U : Units} (h_valve : U.valve = true) (n : Nat) (f : VChan → VChan) (s : State) :
    mask U (upVch n f s) = mask U s := by
  unfold upVch
  simp [h_valve]

@[simp] theorem upVbank_mask {U : Units} (h_valve : U.valve = true) (b : Nat) (f : VBank → VBank) (s : State) :
    mask U (upVbank b f s) = mask U s := by
  unfold upVbank
  simp [h_valve]

@[simp] theorem provePath_mask {U : Units} (h_lanes : U.lanes = true) (p : OutPath) (s : State) :
    mask U (provePath p s) = mask U s := by
  unfold provePath
  simp [h_lanes]

@[simp] theorem valveStatus_mask {U : Units} (h_hub : U.hub = true) (s : State) :
    mask U (valveStatus s) = mask U s := by
  unfold valveStatus
  simp [h_hub]

@[simp] theorem watchDip_mask {U : Units} (h_valve : U.valve = true) (n : Nat) (w : List Sense) (s : State) :
    mask U (watchDip n w s) = mask U s := by
  unfold watchDip
  simp [h_valve]

@[simp] theorem armature_mask {U : Units} (h_hub : U.hub = true) (h_valve : U.valve = true) (n : Nat) (s : State) :
    mask U (armature n s) = mask U s := by
  unfold armature
  (repeat' first
    | (simp [h_hub, h_valve]; done)
    | simp [h_hub, h_valve]
    | split)

@[simp] theorem boostEnds_mask {U : Units} (h_hub : U.hub = true) (h_valve : U.valve = true) (n : Nat) (s : State) :
    mask U (boostEnds n s) = mask U s := by
  unfold boostEnds
  split <;> simp [h_hub, h_valve]

@[simp] theorem reqDone_mask {U : Units} (h_hub : U.hub = true) (r : VReq) (d : Done) (s : State) :
    mask U (reqDone r d s) = mask U s := by
  unfold reqDone
  split <;> simp [h_hub]

@[simp] theorem startProfile_mask {U : Units} (h_hub : U.hub = true) (h_valve : U.valve = true) (n : Nat) (r : VReq)
    (s : State) :
    mask U (startProfile n r s) = mask U s := by
  unfold startProfile
  simp [h_hub, h_valve]

@[simp] theorem runQueue_mask {U : Units} (h_hub : U.hub = true) (h_valve : U.valve = true)
    (k b : Nat) (s : State) : mask U (runQueue k b s) = mask U s := by
  induction k generalizing s with
  | zero => rfl
  | succ k ih =>
    unfold runQueue
    split
    · rfl
    · split
      · simp [ih, h_valve]
      · split
        · simp [ih, h_hub, h_valve]
        · rfl

@[simp] theorem needSlot_mask {U : Units} (h_hub : U.hub = true) (h_valve : U.valve = true) (n : Nat) (r : VReq)
    (s : State) :
    mask U (needSlot n r s) = mask U s := by
  unfold needSlot
  (repeat' first
    | (simp [h_hub, h_valve]; done)
    | simp [h_hub, h_valve]
    | split)

@[simp] theorem enterQuench_mask {U : Units} (h_hub : U.hub = true) (h_valve : U.valve = true) (n : Nat)
    (fast : Bool) (s : State) :
    mask U (enterQuench n fast s) = mask U s := by
  unfold enterQuench
  simp [h_hub, h_valve]

@[simp] theorem quench_mask {U : Units} (h_hub : U.hub = true) (h_valve : U.valve = true) (n : Nat) (fast : Bool)
    (s : State) :
    mask U (quench n fast s) = mask U s := by
  unfold quench
  repeat' first
      | (simp [h_hub, h_valve]; done)
      | (with_reducible refine (mask_foldl _ (fun _ _ => ?_) _ _).trans ?_)
      | (with_reducible refine (mask_foldl_fst _ (fun _ _ => ?_) _ _).trans ?_)
      | with_reducible apply command_mask
      | intro _
      | (simp +zetaDelta [h_hub, h_valve]; done)
      | simp [h_hub, h_valve]
      | with_reducible refine mask_ite ?_ ?_
      | with_reducible refine goes_ite ?_ ?_
      | split
      | simp +zetaDelta [h_hub, h_valve]

@[simp] theorem faultQuench_mask {U : Units} (h_hub : U.hub = true) (h_valve : U.valve = true) (n : Nat) (s : State) :
    mask U (faultQuench n s) = mask U s := by
  unfold faultQuench
  (repeat' first
    | (simp [h_hub, h_valve]; done)
    | simp [h_hub, h_valve]
    | split)

@[simp] theorem cancelWait_mask {U : Units} (h_hub : U.hub = true) (h_valve : U.valve = true) (n : Nat) (d : Done)
    (s : State) :
    mask U (cancelWait n d s) = mask U s := by
  unfold cancelWait
  split <;> simp [h_hub, h_valve]

@[simp] theorem quenchOver_mask {U : Units} (h_hub : U.hub = true) (h_ctl : U.ctl = true) (h_valve : U.valve = true)
    (n : Nat) (timeout : Bool) (s : State) :
    mask U (quenchOver n timeout s) = mask U s := by
  unfold quenchOver
  (repeat' first
    | (simp [h_hub, h_ctl, h_valve]; done)
    | simp [h_hub, h_ctl, h_valve]
    | split)

@[simp] theorem latchFaults_mask {U : Units} (h_hub : U.hub = true) (h_valve : U.valve = true) (ns : List Nat)
    (b case_ : Nat) (s : State) :
    mask U (latchFaults ns b case_ s) = mask U s := by
  unfold latchFaults
  first
  | (simp [h_hub, h_valve]; done)
  | (repeat' split) <;> (simp [h_hub, h_valve]; done)
  | (repeat' first
      | (simp [h_hub, h_valve]; done)
      | (with_reducible refine (mask_foldl _ (fun _ _ => ?_) _ _).trans ?_)
      | (with_reducible refine (mask_foldl_fst _ (fun _ _ => ?_) _ _).trans ?_)
      | simp [h_hub, h_valve]
      | split)

@[simp] theorem diagnose_mask {U : Units} (h_hub : U.hub = true) (h_valve : U.valve = true) (n case_ : Nat)
    (hs : Bool) (m : ValveMeas) (s : State) :
    mask U (diagnose n case_ hs m s) = mask U s := by
  unfold diagnose
  (repeat' first
    | (simp [h_hub, h_valve]; done)
    | simp [h_hub, h_valve]
    | split)

@[simp] theorem detect_mask {U : Units} (h_hub : U.hub = true) (h_valve : U.valve = true) (n case_ : Nat)
    (m : ValveMeas) (s : State) :
    mask U (detect n case_ m s) = mask U s := by
  unfold detect
  (repeat' first
    | (simp [h_hub, h_valve]; done)
    | simp [h_hub, h_valve]
    | split)

@[simp] theorem bankLineFault_mask {U : Units} (h_hub : U.hub = true) (h_valve : U.valve = true) (b : Nat)
    (m : ValveMeas) (s : State) :
    mask U (bankLineFault b m s) = mask U s := by
  unfold bankLineFault
  first
  | (simp [h_hub, h_valve]; done)
  | (repeat' split) <;> (simp [h_hub, h_valve]; done)
  | (repeat' first
      | (simp [h_hub, h_valve]; done)
      | (with_reducible refine (mask_foldl _ (fun _ _ => ?_) _ _).trans ?_)
      | (with_reducible refine (mask_foldl_fst _ (fun _ _ => ?_) _ _).trans ?_)
      | simp [h_hub, h_valve]
      | split)

@[simp] theorem valveIssue_mask {U : Units} (h_lanes : U.lanes = true) (h_hub : U.hub = true) (type n ihold : Nat)
    (s : State) :
    mask U (valveIssue type n ihold s) = mask U s := by
  unfold valveIssue
  simp [h_lanes, h_hub]

@[simp] theorem acceptProfile_mask {U : Units} (h_lanes : U.lanes = true) (h_hub : U.hub = true)
    (h_valve : U.valve = true) (n : Nat) (r : VReq) (corr : Nat) (s : State) :
    mask U (acceptProfile n r corr s) = mask U s := by
  unfold acceptProfile
  (repeat' first
    | (simp [h_lanes, h_hub, h_valve]; done)
    | simp [h_lanes, h_hub, h_valve]
    | split)

@[simp] theorem acceptTrim_mask {U : Units} (h_lanes : U.lanes = true) (h_hub : U.hub = true)
    (h_valve : U.valve = true) (n ihold : Nat) (s : State) :
    mask U (acceptTrim n ihold s) = mask U s := by
  unfold acceptTrim
  split <;> simp [h_lanes, h_hub, h_valve]

@[simp] theorem acceptOff_mask {U : Units} (h_lanes : U.lanes = true) (h_hub : U.hub = true)
    (h_valve : U.valve = true) (n q : Nat) (clear : Bool) (corr : Nat) (s : State) :
    mask U (acceptOff n q clear corr s) = mask U s := by
  unfold acceptOff
  (repeat' first
    | (simp [h_lanes, h_hub, h_valve]; done)
    | simp [h_lanes, h_hub, h_valve]
    | split)

@[simp] theorem valveStart_mask {U : Units} (h_lanes : U.lanes = true) (h_hub : U.hub = true)
    (h_valve : U.valve = true) (n kind ihold ipk : Nat) (post : Option (Post × Nat)) (reqEl corr : Nat)
    (s : State) :
    mask U (valveStart n kind ihold ipk post reqEl corr s).1 = mask U s := by
  unfold valveStart
  (repeat' first
    | (simp [h_lanes, h_hub, h_valve]; done)
    | simp [h_lanes, h_hub, h_valve]
    | split)

@[simp] theorem decideHost_mask {U : Units} (h_lanes : U.lanes = true) (h_hub : U.hub = true)
    (h_valve : U.valve = true) (h : VHost) (t : Nat) (s : State) :
    mask U (decideHost h t s) = mask U s := by
  unfold decideHost
  (repeat' first
    | (simp [h_lanes, h_hub, h_valve]; done)
    | simp [h_lanes, h_hub, h_valve]
    | split)

@[simp] theorem decideChannel_mask {U : Units} (h_lanes : U.lanes = true) (h_hub : U.hub = true)
    (h_valve : U.valve = true) (t n : Nat) (due : List VHost) (s : State) :
    mask U (decideChannel t n due s) = mask U s := by
  unfold decideChannel
  first
  | (simp [h_lanes, h_hub, h_valve]; done)
  | (repeat' split) <;> (simp [h_lanes, h_hub, h_valve]; done)
  | (repeat' first
      | (simp [h_lanes, h_hub, h_valve]; done)
      | (with_reducible refine (mask_foldl _ (fun _ _ => ?_) _ _).trans ?_)
      | (with_reducible refine (mask_foldl_fst _ (fun _ _ => ?_) _ _).trans ?_)
      | simp [h_lanes, h_hub, h_valve]
      | split)

@[simp] theorem valveLoop_mask {U : Units} (h_lanes : U.lanes = true) (h_hub : U.hub = true)
    (h_valve : U.valve = true) (profile : Bool) (n scale : Nat) (v : Int) (s : State) :
    mask U (valveLoop profile n scale v s).1 = mask U s := by
  unfold valveLoop
  (repeat' first
    | (simp [h_lanes, h_hub, h_valve]; done)
    | simp [h_lanes, h_hub, h_valve]
    | split)

@[simp] theorem emptyQueues_mask {U : Units} (h_hub : U.hub = true) (h_valve : U.valve = true) (reason : Nat)
    (s : State) :
    mask U (emptyQueues reason s) = mask U s := by
  unfold emptyQueues
  first
  | (simp [h_hub, h_valve]; done)
  | (repeat' split) <;> (simp [h_hub, h_valve]; done)
  | (repeat' first
      | (simp [h_hub, h_valve]; done)
      | (with_reducible refine (mask_foldl _ (fun _ _ => ?_) _ _).trans ?_)
      | (with_reducible refine (mask_foldl_fst _ (fun _ _ => ?_) _ _).trans ?_)
      | simp [h_hub, h_valve]
      | split)

@[simp] theorem allOffFast_mask {U : Units} (h_hub : U.hub = true) (h_valve : U.valve = true) (s : State) :
    mask U (allOffFast s) = mask U s := by
  unfold allOffFast
  first
  | (simp [h_hub, h_valve]; done)
  | (repeat' split) <;> (simp [h_hub, h_valve]; done)
  | (repeat' first
      | (simp [h_hub, h_valve]; done)
      | (with_reducible refine (mask_foldl _ (fun _ _ => ?_) _ _).trans ?_)
      | (with_reducible refine (mask_foldl_fst _ (fun _ _ => ?_) _ _).trans ?_)
      | simp [h_hub, h_valve]
      | split)

@[simp] theorem markTakeover_mask {U : Units} (h_valve : U.valve = true) (s : State) :
    mask U (markTakeover s) = mask U s := by
  unfold markTakeover
  simp [h_valve]

end Sys2Proof.Machine
end

