-- ==== Sys2Proof/Laws/FrameFieldOps.lean ====
section
/-!
SUPPORT. Which units each operation of Machine/FieldOps.lean can touch. A command's lemma says too that it always
answers a next state.
-/
set_option linter.unusedSimpArgs false
set_option linter.unusedVariables false
namespace Sys2Proof.Machine

@[simp] theorem upDq_mask {U : Units} (h_field : U.field = true) (n : Nat) (f : Dq → Dq) (s : State) :
    mask U (upDq n f s) = mask U s := by
  unfold upDq
  simp [h_field]

@[simp] theorem fieldStatus_mask {U : Units} (h_hub : U.hub = true) (s : State) :
    mask U (fieldStatus s) = mask U s := by
  unfold fieldStatus
  simp [h_hub]

@[simp] theorem diReport_mask {U : Units} (h_hub : U.hub = true) (n : Nat) (c : DiChange) (levelEnd : Bool)
    (s : State) :
    mask U (diReport n c levelEnd s) = mask U s := by
  unfold diReport
  simp [h_hub]

@[simp] theorem dqApply_mask {U : Units} (h_hub : U.hub = true) (h_sig : U.sig = true) (h_field : U.field = true)
    (n duty : Nat) (newPeriod : Bool) (s : State) :
    mask U (dqApply n duty newPeriod s) = mask U s := by
  unfold dqApply
  (repeat' first
    | (simp [h_hub, h_sig, h_field]; done)
    | simp [h_hub, h_sig, h_field]
    | split)

@[simp] theorem dqOff_mask {U : Units} (h_hub : U.hub = true) (h_sig : U.sig = true) (h_field : U.field = true)
    (n : Nat) (s : State) :
    mask U (dqOff n s) = mask U s := by
  unfold dqOff
  (repeat' first
    | (simp [h_hub, h_sig, h_field]; done)
    | simp [h_hub, h_sig, h_field]
    | split)

@[simp] theorem dqDone_mask {U : Units} (h_hub : U.hub = true) (w : DqDuty) (d : Done) (s : State) :
    mask U (dqDone w d s) = mask U s := by
  unfold dqDone
  split <;> simp [h_hub]

@[simp] theorem dqCancel_mask {U : Units} (h_hub : U.hub = true) (h_field : U.field = true) (n : Nat) (d : Done)
    (s : State) :
    mask U (dqCancel n d s) = mask U s := by
  unfold dqCancel
  split <;> simp [h_hub, h_field]

@[simp] theorem dqTake_mask {U : Units} (h_lanes : U.lanes = true) (h_hub : U.hub = true) (h_sig : U.sig = true)
    (h_field : U.field = true) (n duty : Nat) (post : Option (Post × Nat)) (s : State) :
    mask U (dqTake n duty post s) = mask U s := by
  unfold dqTake
  (repeat' first
    | (simp [h_lanes, h_hub, h_sig, h_field]; done)
    | simp [h_lanes, h_hub, h_sig, h_field]
    | split)

@[simp] theorem dqCommit_mask {U : Units} (h_hub : U.hub = true) (h_sig : U.sig = true) (h_field : U.field = true)
    (n : Nat) (old : List Byte) (s : State) :
    mask U (dqCommit n old s) = mask U s := by
  unfold dqCommit
  (repeat' first
    | (simp [h_hub, h_sig, h_field]; done)
    | simp [h_hub, h_sig, h_field]
    | split)

@[simp] theorem dqLoop_mask {U : Units} (h_lanes : U.lanes = true) (h_hub : U.hub = true) (h_sig : U.sig = true)
    (h_field : U.field = true) (n : Nat) (v : Int) (s : State) :
    mask U (dqLoop n v s).1 = mask U s := by
  unfold dqLoop
  split <;> simp [h_lanes, h_hub, h_sig, h_field]

@[simp] theorem dqAllOff_mask {U : Units} (h_hub : U.hub = true) (h_sig : U.sig = true) (h_field : U.field = true)
    (reason : Nat) (s : State) :
    mask U (dqAllOff reason s) = mask U s := by
  unfold dqAllOff
  first
  | (simp [h_hub, h_sig, h_field]; done)
  | (repeat' split) <;> (simp [h_hub, h_sig, h_field]; done)
  | (repeat' first
      | (simp [h_hub, h_sig, h_field]; done)
      | (with_reducible refine (mask_foldl _ (fun _ _ => ?_) _ _).trans ?_)
      | (with_reducible refine (mask_foldl_fst _ (fun _ _ => ?_) _ _).trans ?_)
      | simp [h_hub, h_sig, h_field]
      | split)

@[simp] theorem upCnt_mask {U : Units} (h_field : U.field = true) (n : Nat) (f : Counter → Counter) (s : State) :
    mask U (upCnt n f s) = mask U s := by
  unfold upCnt
  simp [h_field]

@[simp] theorem closeGate_mask {U : Units} (h_hub : U.hub = true) (h_sig : U.sig = true) (h_field : U.field = true)
    (n fl next : Nat) (s : State) :
    mask U (closeGate n fl next s) = mask U s := by
  unfold closeGate
  (repeat' first
    | (simp [h_hub, h_sig, h_field]; done)
    | simp [h_hub, h_sig, h_field]
    | split)

@[simp] theorem fieldBeat_mask {U : Units} (h_hub : U.hub = true) (h_sig : U.sig = true) (h_field : U.field = true)
    (b : Nat) (s : State) :
    mask U (fieldBeat b s) = mask U s := by
  unfold fieldBeat
  first
  | (simp [h_hub, h_sig, h_field]; done)
  | (repeat' split) <;> (simp [h_hub, h_sig, h_field]; done)
  | (repeat' first
      | (simp [h_hub, h_sig, h_field]; done)
      | (with_reducible refine (mask_foldl _ (fun _ _ => ?_) _ _).trans ?_)
      | (with_reducible refine (mask_foldl_fst _ (fun _ _ => ?_) _ _).trans ?_)
      | simp [h_hub, h_sig, h_field]
      | split)

@[simp] theorem closeAi_mask {U : Units} (h_hub : U.hub = true) (h_field : U.field = true) (fl next : Nat) (s : State) :
    mask U (closeAi fl next s) = mask U s := by
  unfold closeAi
  simp [h_hub, h_field]

end Sys2Proof.Machine
end

