-- ==== Sys2Proof/Laws/FrameCanOps.lean ====
section
/-!
SUPPORT. Which units each operation of Machine/CanOps.lean can touch. A command's lemma says too that it always
answers a next state.
-/
set_option linter.unusedSimpArgs false
set_option linter.unusedVariables false
namespace Sys2Proof.Machine

@[simp] theorem upCtlr_mask {U : Units} (h_can : U.can = true) (c : Nat) (f : CanCtl → CanCtl) (s : State) :
    mask U (upCtlr c f s) = mask U s := by
  unfold upCtlr
  simp [h_can]

@[simp] theorem canStatus_mask {U : Units} (h_hub : U.hub = true) (h_can : U.can = true) (c : Nat) (s : State) :
    mask U (canStatus c s) = mask U s := by
  unfold canStatus
  simp [h_hub, h_can]

@[simp] theorem canRaise_mask {U : Units} (h_hub : U.hub = true) (src c code : Nat) (s : State) :
    mask U (canRaise src c code s) = mask U s := by
  unfold canRaise
  simp [h_hub]

@[simp] theorem canSetState_mask {U : Units} (h_hub : U.hub = true) (h_can : U.can = true) (c : Nat) (st : CanState)
    (s : State) :
    mask U (canSetState c st s) = mask U s := by
  unfold canSetState
  (repeat' first
    | (simp [h_hub, h_can]; done)
    | simp [h_hub, h_can]
    | split)

@[simp] theorem canByCounters_mask {U : Units} (h_hub : U.hub = true) (h_can : U.can = true) (c : Nat) (s : State) :
    mask U (canByCounters c s) = mask U s := by
  unfold canByCounters
  (repeat' first
    | (simp [h_hub, h_can]; done)
    | simp [h_hub, h_can]
    | split)

@[simp] theorem canRxError_mask {U : Units} (h_hub : U.hub = true) (h_can : U.can = true) (c : Nat) (e : CanErr)
    (eight : Bool) (s : State) :
    mask U (canRxError c e eight s) = mask U s := by
  unfold canRxError
  simp [h_hub, h_can]

@[simp] theorem canPush_mask {U : Units} (h_hub : U.hub = true) (h_can : U.can = true) (c : Nat) (e : CanEntry)
    (s : State) :
    mask U (canPush c e s) = mask U s := by
  unfold canPush
  simp [h_hub, h_can]

@[simp] theorem objEnqueue_mask {U : Units} (h_hub : U.hub = true) (h_can : U.can = true) (o : Nat) (s : State) :
    mask U (objEnqueue o s) = mask U s := by
  unfold objEnqueue
  (repeat' first
    | (simp [h_hub, h_can]; done)
    | simp [h_hub, h_can]
    | split)

@[simp] theorem objWrite_mask {U : Units} (h_lanes : U.lanes = true) (h_hub : U.hub = true) (h_can : U.can = true)
    (o : Nat) (v : Int) (s : State) :
    mask U (objWrite o v s) = mask U s := by
  unfold objWrite
  (repeat' first
    | (simp [h_lanes, h_hub, h_can]; done)
    | simp [h_lanes, h_hub, h_can]
    | split)

@[simp] theorem objLoop_mask {U : Units} (h_lanes : U.lanes = true) (h_hub : U.hub = true) (h_can : U.can = true)
    (o scale : Nat) (v : Int) (s : State) :
    mask U (objLoop o scale v s).1 = mask U s := by
  unfold objLoop
  split <;> simp [h_lanes, h_hub, h_can]

@[simp] theorem entryDone_mask {U : Units} (h_hub : U.hub = true) (e : CanEntry) (d : Done) (s : State) :
    mask U (entryDone e d s) = mask U s := by
  unfold entryDone
  split <;> simp [h_hub]

@[simp] theorem canEmpty_mask {U : Units} (h_hub : U.hub = true) (h_can : U.can = true) (c : Nat) (keepHead : Bool)
    (s : State) :
    mask U (canEmpty c keepHead s) = mask U s := by
  unfold canEmpty
  first
  | (simp [h_hub, h_can]; done)
  | (repeat' split) <;> (simp [h_hub, h_can]; done)
  | (repeat' first
      | (simp [h_hub, h_can]; done)
      | (with_reducible refine (mask_foldl _ (fun _ _ => ?_) _ _).trans ?_)
      | (with_reducible refine (mask_foldl_fst _ (fun _ _ => ?_) _ _).trans ?_)
      | simp [h_hub, h_can]
      | split)

@[simp] theorem canShutdown_mask {U : Units} (h_hub : U.hub = true) (h_can : U.can = true) (c : Nat) (again : Bool)
    (s : State) :
    mask U (canShutdown c again s) = mask U s := by
  unfold canShutdown
  split <;> simp [h_hub, h_can]

@[simp] theorem canCommit_mask {U : Units} (h_hub : U.hub = true) (h_can : U.can = true) (c : Nat) (old : List Byte)
    (s : State) :
    mask U (canCommit c old s) = mask U s := by
  unfold canCommit
  (repeat' first
    | (simp [h_hub, h_can]; done)
    | simp [h_hub, h_can]
    | split)

@[simp] theorem canStop_mask {U : Units} (h_can : U.can = true) (s : State) :
    mask U (canStop s) = mask U s := by
  unfold canStop
  simp [h_can]

@[simp] theorem canTakeover_mask {U : Units} (h_can : U.can = true) (s : State) :
    mask U (canTakeover s) = mask U s := by
  unfold canTakeover
  simp [h_can]

@[simp] theorem canOverlapEnd_mask {U : Units} (h_can : U.can = true) (s : State) :
    mask U (canOverlapEnd s).1 = mask U s := by
  unfold canOverlapEnd
  simp [h_can]

@[simp] theorem canDecide_mask {U : Units} (h_lanes : U.lanes = true) (h_hub : U.hub = true) (h_can : U.can = true)
    (h : CanHost) (s : State) :
    mask U (canDecide h s) = mask U s := by
  unfold canDecide
  (repeat' first
    | (simp [h_lanes, h_hub, h_can]; done)
    | simp [h_lanes, h_hub, h_can]
    | split)

@[simp] theorem canCommand_mask {U : Units} (h_now : U.now = true) (h_lanes : U.lanes = true) (h_hub : U.hub = true)
    (h_can : U.can = true) (dt : Nat) (object : Bool) (p : Post) (s : State) :
    mask U (canCommand dt object p s) = mask U s := by
  unfold canCommand
  extract_lets at_
  clear_value at_
  repeat' first
      | (simp [h_now, h_lanes, h_hub, h_can]; done)
      | (with_reducible refine (mask_foldl _ (fun _ _ => ?_) _ _).trans ?_)
      | (with_reducible refine (mask_foldl_fst _ (fun _ _ => ?_) _ _).trans ?_)
      | with_reducible apply command_mask
      | intro _
      | (simp +zetaDelta [h_now, h_lanes, h_hub, h_can]; done)
      | simp [h_now, h_lanes, h_hub, h_can]
      | with_reducible refine mask_ite ?_ ?_
      | with_reducible refine goes_ite ?_ ?_
      | split
      | simp +zetaDelta [h_now, h_lanes, h_hub, h_can]

@[simp] theorem canBeat_mask {U : Units} (h_lanes : U.lanes = true) (h_hub : U.hub = true) (h_can : U.can = true)
    (b : Nat) (s : State) :
    mask U (canBeat b s) = mask U s := by
  unfold canBeat
  first
  | (simp [h_lanes, h_hub, h_can]; done)
  | (repeat' split) <;> (simp [h_lanes, h_hub, h_can]; done)
  | (repeat' first
      | (simp [h_lanes, h_hub, h_can]; done)
      | (with_reducible refine (mask_foldl _ (fun _ _ => ?_) _ _).trans ?_)
      | (with_reducible refine (mask_foldl_fst _ (fun _ _ => ?_) _ _).trans ?_)
      | simp [h_lanes, h_hub, h_can]
      | split)

@[simp] theorem canBatch_mask {U : Units} (h_hub : U.hub = true) (h_ctl : U.ctl = true) (h_can : U.can = true)
    (s : State) :
    mask U (canBatch s) = mask U s := by
  unfold canBatch
  first
  | (simp [h_hub, h_ctl, h_can]; done)
  | (repeat' split) <;> (simp [h_hub, h_ctl, h_can]; done)
  | (repeat' first
      | (simp [h_hub, h_ctl, h_can]; done)
      | (with_reducible refine (mask_foldl _ (fun _ _ => ?_) _ _).trans ?_)
      | (with_reducible refine (mask_foldl_fst _ (fun _ _ => ?_) _ _).trans ?_)
      | simp [h_hub, h_ctl, h_can]
      | split)

end Sys2Proof.Machine
end

