-- ==== Sys2Proof/Laws/FrameCan.lean ====
section
/-!
SUPPORT. Which units each operation of Machine/Can.lean can touch. A command's lemma says too that it always
answers a next state.
-/
set_option linter.unusedSimpArgs false
set_option linter.unusedVariables false
namespace Sys2Proof.Machine

@[simp] theorem canEntry_mask {U : Units} (h_sig : U.sig = true) (h_can : U.can = true) (c obj : Nat)
    (r : List Byte) (f : CanFrame) (stamp cmp : Nat) (s : State) (n : Nat) :
    mask U (canEntry c obj r f stamp cmp s n) = mask U s := by
  unfold canEntry
  (repeat' first
    | (simp [h_sig, h_can]; done)
    | simp [h_sig, h_can]
    | split)

@[simp] theorem execCanFrameReceived_mask {U : Units} (h_now : U.now = true) (h_hub : U.hub = true)
    (h_sig : U.sig = true) (h_can : U.can = true) (c : Fin 6) (dt ago : Nat) (f : CanFrame) (own : Bool)
    (s : State) :
    Goes U s (execCanFrameReceived c dt ago f own s) := by
  unfold execCanFrameReceived
  first
  | (simp [h_now, h_hub, h_sig, h_can]; done)
  | (repeat' split) <;> (simp [h_now, h_hub, h_sig, h_can]; done)
  | (repeat' first
      | (simp [h_now, h_hub, h_sig, h_can]; done)
      | (with_reducible refine (mask_foldl _ (fun _ _ => ?_) _ _).trans ?_)
      | (with_reducible refine (mask_foldl_fst _ (fun _ _ => ?_) _ _).trans ?_)
      | simp [h_now, h_hub, h_sig, h_can]
      | split)

@[simp] theorem execCanRxError_mask {U : Units} (h_now : U.now = true) (h_hub : U.hub = true) (h_can : U.can = true)
    (c : Fin 6) (dt : Nat) (e : CanErr) (eight : Bool) (s : State) :
    Goes U s (execCanRxError c dt e eight s) := by
  unfold execCanRxError
  (repeat' first
    | (simp [h_now, h_hub, h_can]; done)
    | simp [h_now, h_hub, h_can]
    | split)

@[simp] theorem execCanTxSuccess_mask {U : Units} (h_now : U.now = true) (h_hub : U.hub = true)
    (h_can : U.can = true) (c : Fin 6) (dt ago tdc : Nat) (s : State) :
    Goes U s (execCanTxSuccess c dt ago tdc s) := by
  unfold execCanTxSuccess
  (repeat' first
    | (simp [h_now, h_hub, h_can]; done)
    | simp [h_now, h_hub, h_can]
    | split)

@[simp] theorem execCanTxError_mask {U : Units} (h_now : U.now = true) (h_hub : U.hub = true) (h_can : U.can = true)
    (c : Fin 6) (dt : Nat) (e : CanErr) (exempt : Bool) (s : State) :
    Goes U s (execCanTxError c dt e exempt s) := by
  unfold execCanTxError
  (repeat' first
    | (simp [h_now, h_hub, h_can]; done)
    | simp [h_now, h_hub, h_can]
    | split)

@[simp] theorem execCanTxLifetime_mask {U : Units} (h_now : U.now = true) (h_hub : U.hub = true)
    (h_can : U.can = true) (c : Fin 6) (s : State) :
    Goes U s (execCanTxLifetime c s) := by
  unfold execCanTxLifetime
  first
  | (simp [h_now, h_hub, h_can]; done)
  | (repeat' split) <;> (simp [h_now, h_hub, h_can]; done)
  | (repeat' first
      | (simp [h_now, h_hub, h_can]; done)
      | (with_reducible refine (mask_foldl _ (fun _ _ => ?_) _ _).trans ?_)
      | (with_reducible refine (mask_foldl_fst _ (fun _ _ => ?_) _ _).trans ?_)
      | simp [h_now, h_hub, h_can]
      | split)

@[simp] theorem execCanTxFrame_mask {U : Units} (h_now : U.now = true) (h_lanes : U.lanes = true)
    (h_hub : U.hub = true) (h_can : U.can = true) (dt : Nat) (p : Post) (s : State) :
    Goes U s (execCanTxFrame dt p s) := by
  unfold execCanTxFrame
  simp [h_now, h_lanes, h_hub, h_can]

@[simp] theorem execCanObjectWrite_mask {U : Units} (h_now : U.now = true) (h_lanes : U.lanes = true)
    (h_hub : U.hub = true) (h_can : U.can = true) (dt : Nat) (p : Post) (s : State) :
    Goes U s (execCanObjectWrite dt p s) := by
  unfold execCanObjectWrite
  simp [h_now, h_lanes, h_hub, h_can]

@[simp] theorem execCanSetpointPeriod_mask {U : Units} (h_now : U.now = true) (h_hub : U.hub = true)
    (h_can : U.can = true) (o : Fin 192) (s : State) :
    Goes U s (execCanSetpointPeriod o s) := by
  unfold execCanSetpointPeriod
  (repeat' first
    | (simp [h_now, h_hub, h_can]; done)
    | simp [h_now, h_hub, h_can]
    | split)

@[simp] theorem execCanIntegrated_mask {U : Units} (h_now : U.now = true) (h_hub : U.hub = true)
    (h_can : U.can = true) (c : Fin 6) (dt : Nat) (s : State) :
    Goes U s (execCanIntegrated c dt s) := by
  unfold execCanIntegrated
  (repeat' first
    | (simp [h_now, h_hub, h_can]; done)
    | simp [h_now, h_hub, h_can]
    | split)

@[simp] theorem execCanBusoffDelay_mask {U : Units} (h_now : U.now = true) (h_hub : U.hub = true)
    (h_can : U.can = true) (c : Fin 6) (s : State) :
    Goes U s (execCanBusoffDelay c s) := by
  unfold execCanBusoffDelay
  (repeat' first
    | (simp [h_now, h_hub, h_can]; done)
    | simp [h_now, h_hub, h_can]
    | split)

@[simp] theorem execCanRecovered_mask {U : Units} (h_now : U.now = true) (h_hub : U.hub = true)
    (h_can : U.can = true) (c : Fin 6) (dt : Nat) (s : State) :
    Goes U s (execCanRecovered c dt s) := by
  unfold execCanRecovered
  (repeat' first
    | (simp [h_now, h_hub, h_can]; done)
    | simp [h_now, h_hub, h_can]
    | split)

@[simp] theorem execCanShutdownEnd_mask {U : Units} (h_now : U.now = true) (h_hub : U.hub = true)
    (h_can : U.can = true) (c : Fin 6) (dt : Nat) (s : State) :
    Goes U s (execCanShutdownEnd c dt s) := by
  unfold execCanShutdownEnd
  (repeat' first
    | (simp [h_now, h_hub, h_can]; done)
    | simp [h_now, h_hub, h_can]
    | split)

@[simp] theorem execCanStatusPeriod_mask {U : Units} (h_now : U.now = true) (h_hub : U.hub = true)
    (h_can : U.can = true) (c : Fin 6) (s : State) :
    Goes U s (execCanStatusPeriod c s) := by
  unfold execCanStatusPeriod
  (repeat' first
    | (simp [h_now, h_hub, h_can]; done)
    | simp [h_now, h_hub, h_can]
    | split)

end Sys2Proof.Machine
end

