-- ==== Sys2Proof/Laws/FrameDisplayOps.lean ====
section
/-!
SUPPORT. Which units each operation of Machine/DisplayOps.lean can touch. A command's lemma says too that it always
answers a next state.
-/
set_option linter.unusedSimpArgs false
set_option linter.unusedVariables false
namespace Sys2Proof.Machine

@[simp] theorem dispStatus_mask {U : Units} (h_hub : U.hub = true) (h_disp : U.disp = true) (s : State) :
    mask U (dispStatus s) = mask U s := by
  unfold dispStatus
  simp [h_hub, h_disp]

@[simp] theorem dispState_mask {U : Units} (h_hub : U.hub = true) (h_disp : U.disp = true) (st : DispState)
    (s : State) :
    mask U (dispState st s) = mask U s := by
  unfold dispState
  simp [h_hub, h_disp]

@[simp] theorem dispRails_mask {U : Units} (h_hub : U.hub = true) (h_disp : U.disp = true) (s : State) :
    mask U (dispRails s) = mask U s := by
  unfold dispRails
  simp [h_hub, h_disp]

@[simp] theorem dispEn1Low_mask {U : Units} (h_disp : U.disp = true) (s : State) :
    mask U (dispEn1Low s) = mask U s := by
  unfold dispEn1Low
  simp [h_disp]

@[simp] theorem dispShutdown_mask {U : Units} (h_hub : U.hub = true) (h_disp : U.disp = true) (s : State) :
    mask U (dispShutdown s) = mask U s := by
  unfold dispShutdown
  (repeat' first
    | (simp [h_hub, h_disp]; done)
    | simp [h_hub, h_disp]
    | split)

@[simp] theorem dispCommit_mask {U : Units} (h_hub : U.hub = true) (h_disp : U.disp = true) (s : State) :
    mask U (dispCommit s) = mask U s := by
  unfold dispCommit
  (repeat' first
    | (simp [h_hub, h_disp]; done)
    | simp [h_hub, h_disp]
    | split)

@[simp] theorem dispLoss_mask {U : Units} (h_hub : U.hub = true) (h_disp : U.disp = true) (s : State) :
    mask U (dispLoss s) = mask U s := by
  unfold dispLoss
  split <;> simp [h_hub, h_disp]

@[simp] theorem dispSilence_mask {U : Units} (h_hub : U.hub = true) (h_disp : U.disp = true) (s : State) :
    mask U (dispSilence s) = mask U s := by
  unfold dispSilence
  (repeat' first
    | (simp [h_hub, h_disp]; done)
    | simp [h_hub, h_disp]
    | split)

@[simp] theorem displayTemp_mask {U : Units} (h_disp : U.disp = true) (c : Int) (s : State) :
    mask U (displayTemp c s) = mask U s := by
  unfold displayTemp
  simp [h_disp]

@[simp] theorem displayBeat_mask {U : Units} (h_hub : U.hub = true) (h_disp : U.disp = true) (fixed : Bool)
    (s : State) :
    mask U (displayBeat fixed s) = mask U s := by
  unfold displayBeat
  split <;> simp [h_hub, h_disp]

end Sys2Proof.Machine
end

