-- ==== Sys2Proof/Laws/FrameDest.lean ====
section
/-!
SUPPORT. Which units each operation of Machine/Dest.lean can touch. A command's lemma says too that it always
answers a next state.
-/
set_option linter.unusedSimpArgs false
set_option linter.unusedVariables false
namespace Sys2Proof.Machine

@[simp] theorem destRefuse_mask {U : Units} (h_ctl : U.ctl = true) (n : Nat) (s : State) :
    mask U (destRefuse n s) = mask U s := by
  unfold destRefuse
  split <;> simp [h_ctl]

@[simp] theorem destHand_mask {U : Units} (h_lanes : U.lanes = true) (h_hub : U.hub = true) (h_sig : U.sig = true)
    (h_ctl : U.ctl = true) (h_valve : U.valve = true) (h_field : U.field = true) (h_can : U.can = true)
    (n dt di scale : Nat) (v : Int) (t : Nat) (s : State) :
    mask U (destHand n dt di scale v t s) = mask U s := by
  unfold destHand
  (repeat' first
    | (simp [h_lanes, h_hub, h_sig, h_ctl, h_valve, h_field, h_can]; done)
    | simp [h_lanes, h_hub, h_sig, h_ctl, h_valve, h_field, h_can]
    | split)

end Sys2Proof.Machine
end

