-- ==== Sys2Proof/Laws/FrameLoops.lean ====
section
/-!
SUPPORT. Which units each operation of Machine/Loops.lean can touch. A command's lemma says too that it always
answers a next state.
-/
set_option linter.unusedSimpArgs false
set_option linter.unusedVariables false
namespace Sys2Proof.Machine

@[simp] theorem upLoop_mask {U : Units} (h_ctl : U.ctl = true) (n : Nat) (f : Loop → Loop) (s : State) :
    mask U (upLoop n f s) = mask U s := by
  unfold upLoop
  simp [h_ctl]

@[simp] theorem upGroup_mask {U : Units} (h_ctl : U.ctl = true) (g : Nat) (f : Group → Group) (s : State) :
    mask U (upGroup g f s) = mask U s := by
  unfold upGroup
  simp [h_ctl]

@[simp] theorem loopStatus_mask {U : Units} (h_hub : U.hub = true) (n t t1 : Nat) (s : State) :
    mask U (loopStatus n t t1 s) = mask U s := by
  unfold loopStatus
  simp [h_hub]

@[simp] theorem loopRaise_mask {U : Units} (h_hub : U.hub = true) (src n code t : Nat) (s : State) :
    mask U (loopRaise src n code t s) = mask U s := by
  unfold loopRaise
  simp [h_hub]

@[simp] theorem loopStateChange_mask {U : Units} (h_hub : U.hub = true) (n t t1 : Nat) (s : State) :
    mask U (loopStateChange n t t1 s) = mask U s := by
  unfold loopStateChange
  simp [h_hub]

@[simp] theorem spTrace_mask {U : Units} (h_hub : U.hub = true) (n : Nat) (o : Order) (outcome : Nat) (t : Nat)
    (s : State) :
    mask U (spTrace n o outcome t s) = mask U s := by
  unfold spTrace
  simp [h_hub]

@[simp] theorem orderDone_mask {U : Units} (h_hub : U.hub = true) (o : Order) (d : Done) (s : State) :
    mask U (orderDone o d s) = mask U s := by
  unfold orderDone
  split <;> simp [h_hub]

@[simp] theorem refuseOrder_mask {U : Units} (h_hub : U.hub = true) (h_ctl : U.ctl = true) (n t : Nat) (o : Order)
    (notOwner : Bool) (s : State) :
    mask U (refuseOrder n t o notOwner s) = mask U s := by
  unfold refuseOrder
  (repeat' split) <;> simp [h_hub, h_ctl]

@[simp] theorem supersedeOrder_mask {U : Units} (h_hub : U.hub = true) (h_ctl : U.ctl = true) (n t : Nat)
    (o : Order) (s : State) :
    mask U (supersedeOrder n t o s) = mask U s := by
  unfold supersedeOrder
  split <;> simp [h_hub, h_ctl]

@[simp] theorem putOrder_mask {U : Units} (h_ctl : U.ctl = true) (n : Nat) (o : Order) (v : Int) (s : State) :
    mask U (putOrder n o v s) = mask U s := by
  unfold putOrder
  simp [h_ctl]

@[simp] theorem reportOrder_mask {U : Units} (h_hub : U.hub = true) (n t : Nat) (o : Order) (clipped : Bool)
    (s : State) :
    mask U (reportOrder n t o clipped s) = mask U s := by
  unfold reportOrder
  (repeat' split) <;> simp [h_hub]

@[simp] theorem takeOrders_mask {U : Units} (h_hub : U.hub = true) (h_ctl : U.ctl = true) (n t : Nat) (s : State) :
    mask U (takeOrders n t s).1 = mask U s := by
  unfold takeOrders
  first
  | (simp [h_hub, h_ctl]; done)
  | (repeat' split) <;> (simp [h_hub, h_ctl]; done)
  | (repeat' first
      | (simp [h_hub, h_ctl]; done)
      | (with_reducible refine (mask_foldl _ (fun _ _ => ?_) _ _).trans ?_)
      | (with_reducible refine (mask_foldl_fst _ (fun _ _ => ?_) _ _).trans ?_)
      | simp [h_hub, h_ctl]
      | split)

@[simp] theorem releaseAction_mask {U : Units} (h_hub : U.hub = true) (h_ctl : U.ctl = true) (h_pas : U.pas = true)
    (n t : Nat) (s : State) :
    mask U (releaseAction n t s) = mask U s := by
  unfold releaseAction
  (repeat' first
    | (simp [h_hub, h_ctl, h_pas]; done)
    | simp [h_hub, h_ctl, h_pas]
    | split)

@[simp] theorem enterStarting_mask {U : Units} (h_hub : U.hub = true) (h_ctl : U.ctl = true) (h_pas : U.pas = true)
    (n : Nat) (s : State) :
    mask U (enterStarting n s) = mask U s := by
  unfold enterStarting
  (repeat' first
    | (simp [h_hub, h_ctl, h_pas]; done)
    | simp [h_hub, h_ctl, h_pas]
    | split)

@[simp] theorem goOff_mask {U : Units} (h_hub : U.hub = true) (h_ctl : U.ctl = true) (n t t1 : Nat) (mode : Nat)
    (s : State) :
    mask U (goOff n t t1 mode s) = mask U s := by
  unfold goOff
  split <;> simp [h_hub, h_ctl]

@[simp] theorem takeCmds_mask {U : Units} (h_hub : U.hub = true) (h_ctl : U.ctl = true) (h_pas : U.pas = true)
    (l : List LoopCmd)
    (n t t1 : Nat) (s : State) : mask U (takeCmds l n t t1 s) = mask U s := by
  induction l generalizing s with
  | nil => rfl
  | cons c r ih =>
    unfold takeCmds
    (repeat' first
      | (simp [ih, h_hub, h_ctl, h_pas]; done)
      | with_reducible refine mask_ite ?_ ?_
      | split
      | (simp +zetaDelta [ih, h_hub, h_ctl, h_pas]))

@[simp] theorem takeRecords_mask {U : Units} (h_hub : U.hub = true) (h_ctl : U.ctl = true) (h_pas : U.pas = true)
    (n : Nat) (s : State) :
    mask U (takeRecords n s) = mask U s := by
  unfold takeRecords
  (repeat' first
    | (simp [h_hub, h_ctl, h_pas]; done)
    | simp [h_hub, h_ctl, h_pas]
    | split)

@[simp] theorem sampleMember_mask {U : Units} (h_hub : U.hub = true) (h_ctl : U.ctl = true) (n t t1 : Nat)
    (gid : Option Nat) (s : State) :
    mask U (sampleMember n t t1 gid s).1 = mask U s := by
  unfold sampleMember
  (repeat' first
    | (simp [h_hub, h_ctl]; done)
    | simp [h_hub, h_ctl]
    | split)

@[simp] theorem finishMember_mask {U : Units} (h_hub : U.hub = true) (h_sig : U.sig = true) (h_ctl : U.ctl = true)
    (m : Member) (t t1 : Nat) (gid : Option Nat) (won : Bool) (g : Int) (clipped : Bool) (s : State) :
    mask U (finishMember m t t1 gid won g clipped s) = mask U s := by
  unfold finishMember
  (repeat' first
    | (simp [h_hub, h_sig, h_ctl]; done)
    | simp [h_hub, h_sig, h_ctl]
    | split)

@[simp] theorem finishGroup_mask {U : Units} (h_hub : U.hub = true) (h_sig : U.sig = true) (h_ctl : U.ctl = true)
    (gid t t1 : Nat) (ms : List Member) (win : Option Member) (fbStamp : Nat) (stepped : Bool) (s : State) :
    mask U (finishGroup gid t t1 ms win fbStamp stepped s) = mask U s := by
  unfold finishGroup
  (repeat' first
    | (simp [h_hub, h_sig, h_ctl]; done)
    | simp [h_hub, h_sig, h_ctl]
    | split)

@[simp] theorem handTo_mask {U : Units} (h_lanes : U.lanes = true) (h_hub : U.hub = true) (h_sig : U.sig = true)
    (h_ctl : U.ctl = true) (h_valve : U.valve = true) (h_field : U.field = true) (h_can : U.can = true)
    (n : Nat) (o : Owed) (s : State) :
    mask U (handTo n o s) = mask U s := by
  unfold handTo
  (repeat' first
    | (simp [h_lanes, h_hub, h_sig, h_ctl, h_valve, h_field, h_can]; done)
    | simp [h_lanes, h_hub, h_sig, h_ctl, h_valve, h_field, h_can]
    | split)

@[simp] theorem handOwn_mask {U : Units} (h_lanes : U.lanes = true) (h_hub : U.hub = true) (h_sig : U.sig = true)
    (h_ctl : U.ctl = true) (h_valve : U.valve = true) (h_field : U.field = true) (h_can : U.can = true)
    (n t : Nat) (s : State) :
    mask U (handOwn n t s) = mask U s := by
  unfold handOwn
  (repeat' first
    | (simp [h_lanes, h_hub, h_sig, h_ctl, h_valve, h_field, h_can]; done)
    | simp [h_lanes, h_hub, h_sig, h_ctl, h_valve, h_field, h_can]
    | split)

@[simp] theorem noteEff_mask {U : Units} (h_ctl : U.ctl = true) (n : Nat) (v : Option Int) (s : State) :
    mask U (noteEff n v s) = mask U s := by
  unfold noteEff
  simp [h_ctl]

@[simp] theorem applyDue_mask {U : Units} (h_lanes : U.lanes = true) (h_hub : U.hub = true) (h_sig : U.sig = true)
    (h_ctl : U.ctl = true) (h_valve : U.valve = true) (h_field : U.field = true) (h_can : U.can = true)
    (n t : Nat) (s : State) :
    mask U (applyDue n t s) = mask U s := by
  unfold applyDue
  (repeat' first
    | (simp [h_lanes, h_hub, h_sig, h_ctl, h_valve, h_field, h_can]; done)
    | simp [h_lanes, h_hub, h_sig, h_ctl, h_valve, h_field, h_can]
    | split)

@[simp] theorem applyGroupDue_mask {U : Units} (h_lanes : U.lanes = true) (h_hub : U.hub = true)
    (h_sig : U.sig = true) (h_ctl : U.ctl = true) (h_valve : U.valve = true) (h_field : U.field = true)
    (h_can : U.can = true) (gid : Nat) (members : List Nat) (t : Nat) (s : State) :
    mask U (applyGroupDue gid members t s) = mask U s := by
  unfold applyGroupDue
  first
  | (simp [h_lanes, h_hub, h_sig, h_ctl, h_valve, h_field, h_can]; done)
  | (repeat' split) <;> (simp [h_lanes, h_hub, h_sig, h_ctl, h_valve, h_field, h_can]; done)
  | (repeat' first
      | (simp [h_lanes, h_hub, h_sig, h_ctl, h_valve, h_field, h_can]; done)
      | (with_reducible refine (mask_foldl _ (fun _ _ => ?_) _ _).trans ?_)
      | (with_reducible refine (mask_foldl_fst _ (fun _ _ => ?_) _ _).trans ?_)
      | simp [h_lanes, h_hub, h_sig, h_ctl, h_valve, h_field, h_can]
      | split)

@[simp] theorem canOrders_mask {U : Units} (h_ctl : U.ctl = true) (h_can : U.can = true) (n : Nat) (s : State) :
    mask U (canOrders n s) = mask U s := by
  unfold canOrders
  simp [h_ctl, h_can]

@[simp] theorem slotBefore_mask {U : Units} (h_hub : U.hub = true) (h_ctl : U.ctl = true) (h_pas : U.pas = true)
    (h_can : U.can = true) (n t t1 : Nat) (s : State) :
    mask U (slotBefore n t t1 s).1 = mask U s := by
  unfold slotBefore
  extract_lets s1 cmds s2
  have q_s1 : mask U s1 = mask U s := by
    simp [s1, h_hub, h_ctl, h_pas, h_can]
  clear_value s1
  clear_value cmds
  have q_s2 : mask U s2 = mask U s := by
    simp [s2, h_hub, h_ctl, h_pas, h_can, q_s1]
  clear_value s2
  simp [h_hub, h_ctl, h_pas, h_can, q_s1, q_s2]

@[simp] theorem slotAfter_mask {U : Units} (h_sig : U.sig = true) (h_ctl : U.ctl = true) (n t t1 : Nat) (s : State) :
    mask U (slotAfter n t t1 s) = mask U s := by
  unfold slotAfter
  (repeat' first
    | (simp [h_sig, h_ctl]; done)
    | simp [h_sig, h_ctl]
    | split)

@[simp] theorem groupGoverns_mask {U : Units} (h_ctl : U.ctl = true) (members : List Nat) (s : State) :
    mask U (groupGoverns members s) = mask U s := by
  unfold groupGoverns
  first
  | (simp [h_ctl]; done)
  | (repeat' split) <;> (simp [h_ctl]; done)
  | (repeat' first
      | (simp [h_ctl]; done)
      | (with_reducible refine (mask_foldl _ (fun _ _ => ?_) _ _).trans ?_)
      | (with_reducible refine (mask_foldl_fst _ (fun _ _ => ?_) _ _).trans ?_)
      | simp [h_ctl]
      | split)

@[simp] theorem sampleSlots_mask {U : Units} (h_lanes : U.lanes = true) (h_hub : U.hub = true)
    (h_sig : U.sig = true) (h_ctl : U.ctl = true) (h_pas : U.pas = true) (h_valve : U.valve = true)
    (h_field : U.field = true) (h_can : U.can = true) (members : List Nat) (gid : Option Nat) (t t1 : Nat)
    (s : State) :
    mask U (sampleSlots members gid t t1 s) = mask U s := by
  unfold sampleSlots
  first
  | (simp [h_lanes, h_hub, h_sig, h_ctl, h_pas, h_valve, h_field, h_can]; done)
  | (repeat' split) <;> (simp [h_lanes, h_hub, h_sig, h_ctl, h_pas, h_valve, h_field, h_can]; done)
  | (repeat' first
      | (simp [h_lanes, h_hub, h_sig, h_ctl, h_pas, h_valve, h_field, h_can]; done)
      | (with_reducible refine (mask_foldl _ (fun _ _ => ?_) _ _).trans ?_)
      | (with_reducible refine (mask_foldl_fst _ (fun _ _ => ?_) _ _).trans ?_)
      | simp [h_lanes, h_hub, h_sig, h_ctl, h_pas, h_valve, h_field, h_can]
      | split)

@[simp] theorem waitSlots_mask {U : Units} (h_lanes : U.lanes = true) (h_hub : U.hub = true) (h_sig : U.sig = true)
    (h_ctl : U.ctl = true) (h_pas : U.pas = true) (h_valve : U.valve = true) (h_field : U.field = true)
    (h_can : U.can = true) (members : List Nat) (t t1 : Nat) (s : State) :
    mask U (waitSlots members t t1 s) = mask U s := by
  unfold waitSlots
  first
  | (simp [h_lanes, h_hub, h_sig, h_ctl, h_pas, h_valve, h_field, h_can]; done)
  | (repeat' split) <;> (simp [h_lanes, h_hub, h_sig, h_ctl, h_pas, h_valve, h_field, h_can]; done)
  | (repeat' first
      | (simp [h_lanes, h_hub, h_sig, h_ctl, h_pas, h_valve, h_field, h_can]; done)
      | (with_reducible refine (mask_foldl _ (fun _ _ => ?_) _ _).trans ?_)
      | (with_reducible refine (mask_foldl_fst _ (fun _ _ => ?_) _ _).trans ?_)
      | simp [h_lanes, h_hub, h_sig, h_ctl, h_pas, h_valve, h_field, h_can]
      | split)

@[simp] theorem slotToChannel_mask {U : Units} (h_lanes : U.lanes = true) (h_hub : U.hub = true)
    (h_sig : U.sig = true) (h_ctl : U.ctl = true) (h_valve : U.valve = true) (h_field : U.field = true)
    (h_can : U.can = true) (c t n : Nat) (s : State) :
    mask U (slotToChannel c t n s) = mask U s := by
  unfold slotToChannel
  (repeat' first
    | (simp [h_lanes, h_hub, h_sig, h_ctl, h_valve, h_field, h_can]; done)
    | simp [h_lanes, h_hub, h_sig, h_ctl, h_valve, h_field, h_can]
    | split)

@[simp] theorem decideValves_mask {U : Units} (h_lanes : U.lanes = true) (h_hub : U.hub = true)
    (h_sig : U.sig = true) (h_ctl : U.ctl = true) (h_valve : U.valve = true) (h_field : U.field = true)
    (h_can : U.can = true) (t : Nat) (s : State) :
    mask U (decideValves t s) = mask U s := by
  unfold decideValves
  first
  | (simp [h_lanes, h_hub, h_sig, h_ctl, h_valve, h_field, h_can]; done)
  | (repeat' split) <;> (simp [h_lanes, h_hub, h_sig, h_ctl, h_valve, h_field, h_can]; done)
  | (repeat' first
      | (simp [h_lanes, h_hub, h_sig, h_ctl, h_valve, h_field, h_can]; done)
      | (with_reducible refine (mask_foldl _ (fun _ _ => ?_) _ _).trans ?_)
      | (with_reducible refine (mask_foldl_fst _ (fun _ _ => ?_) _ _).trans ?_)
      | simp [h_lanes, h_hub, h_sig, h_ctl, h_valve, h_field, h_can]
      | split)

@[simp] theorem decideAround_mask {U : Units} (h_lanes : U.lanes = true) (h_hub : U.hub = true)
    (h_sig : U.sig = true) (h_ctl : U.ctl = true) (h_valve : U.valve = true) (h_field : U.field = true)
    (h_can : U.can = true) (n t : Nat) (s : State) :
    mask U (decideAround n t s) = mask U s := by
  unfold decideAround
  split <;> simp [h_lanes, h_hub, h_sig, h_ctl, h_valve, h_field, h_can]

@[simp] theorem sampleAt_mask {U : Units} (h_lanes : U.lanes = true) (h_hub : U.hub = true) (h_sig : U.sig = true)
    (h_ctl : U.ctl = true) (h_pas : U.pas = true) (h_valve : U.valve = true) (h_field : U.field = true)
    (h_can : U.can = true) (n t : Nat) (s : State) :
    mask U (sampleAt n t s) = mask U s := by
  unfold sampleAt
  (repeat' first
    | (simp [h_lanes, h_hub, h_sig, h_ctl, h_pas, h_valve, h_field, h_can]; done)
    | simp [h_lanes, h_hub, h_sig, h_ctl, h_pas, h_valve, h_field, h_can]
    | split)

@[simp] theorem execLoopSample_mask {U : Units} (h_now : U.now = true) (h_lanes : U.lanes = true)
    (h_hub : U.hub = true) (h_sig : U.sig = true) (h_ctl : U.ctl = true) (h_pas : U.pas = true)
    (h_valve : U.valve = true) (h_field : U.field = true) (h_can : U.can = true) (n : Fin 128) (s : State) :
    Goes U s (execLoopSample n s) := by
  unfold execLoopSample
  (repeat' first
    | (simp [h_now, h_lanes, h_hub, h_sig, h_ctl, h_pas, h_valve, h_field, h_can]; done)
    | simp [h_now, h_lanes, h_hub, h_sig, h_ctl, h_pas, h_valve, h_field, h_can]
    | split)

@[simp] theorem execActionHoldExpiry_mask {U : Units} (h_hub : U.hub = true) (h_ctl : U.ctl = true)
    (h_pas : U.pas = true) (n : Fin 128) (s : State) :
    Goes U s (execActionHoldExpiry n s) := by
  unfold execActionHoldExpiry
  (repeat' first
    | (simp [h_hub, h_ctl, h_pas]; done)
    | simp [h_hub, h_ctl, h_pas]
    | split)

@[simp] theorem execKdSetpoint_mask {U : Units} (h_now : U.now = true) (h_hub : U.hub = true) (h_ctl : U.ctl = true)
    (dt : Nat) (p : Post) (s : State) :
    Goes U s (execKdSetpoint dt p s) := by
  unfold execKdSetpoint
  extract_lets at_
  clear_value at_
  repeat' first
      | (simp [h_now, h_hub, h_ctl]; done)
      | (with_reducible refine (mask_foldl _ (fun _ _ => ?_) _ _).trans ?_)
      | (with_reducible refine (mask_foldl_fst _ (fun _ _ => ?_) _ _).trans ?_)
      | with_reducible apply command_mask
      | intro _
      | (simp +zetaDelta [h_now, h_hub, h_ctl]; done)
      | simp [h_now, h_hub, h_ctl]
      | with_reducible refine mask_ite ?_ ?_
      | with_reducible refine goes_ite ?_ ?_
      | split
      | simp +zetaDelta [h_now, h_hub, h_ctl]

@[simp] theorem queueLoopCmd_mask {U : Units} (h_ctl : U.ctl = true) (action : Nat) (u : Sub) (s : State) :
    mask U (queueLoopCmd action u s) = mask U s := by
  unfold queueLoopCmd
  simp [h_ctl]

@[simp] theorem execLoopDisable_mask {U : Units} (h_now : U.now = true) (h_hub : U.hub = true)
    (h_ctl : U.ctl = true) (dt : Nat) (p : Post) (s : State) :
    Goes U s (execLoopDisable dt p s) := by
  unfold execLoopDisable
  repeat' first
      | (simp [h_now, h_hub, h_ctl]; done)
      | (with_reducible refine (mask_foldl _ (fun _ _ => ?_) _ _).trans ?_)
      | (with_reducible refine (mask_foldl_fst _ (fun _ _ => ?_) _ _).trans ?_)
      | with_reducible apply command_mask
      | intro _
      | (simp +zetaDelta [h_now, h_hub, h_ctl]; done)
      | simp [h_now, h_hub, h_ctl]
      | with_reducible refine mask_ite ?_ ?_
      | with_reducible refine goes_ite ?_ ?_
      | split
      | simp +zetaDelta [h_now, h_hub, h_ctl]

@[simp] theorem execLoopEnable_mask {U : Units} (h_now : U.now = true) (h_hub : U.hub = true) (h_ctl : U.ctl = true)
    (dt : Nat) (p : Post) (s : State) :
    Goes U s (execLoopEnable dt p s) := by
  unfold execLoopEnable
  repeat' first
      | (simp [h_now, h_hub, h_ctl]; done)
      | (with_reducible refine (mask_foldl _ (fun _ _ => ?_) _ _).trans ?_)
      | (with_reducible refine (mask_foldl_fst _ (fun _ _ => ?_) _ _).trans ?_)
      | with_reducible apply command_mask
      | intro _
      | (simp +zetaDelta [h_now, h_hub, h_ctl]; done)
      | simp [h_now, h_hub, h_ctl]
      | with_reducible refine mask_ite ?_ ?_
      | with_reducible refine goes_ite ?_ ?_
      | split
      | simp +zetaDelta [h_now, h_hub, h_ctl]

@[simp] theorem execLoopClearSticky_mask {U : Units} (h_now : U.now = true) (h_hub : U.hub = true)
    (h_ctl : U.ctl = true) (dt : Nat) (p : Post) (s : State) :
    Goes U s (execLoopClearSticky dt p s) := by
  unfold execLoopClearSticky
  repeat' first
      | (simp [h_now, h_hub, h_ctl]; done)
      | (with_reducible refine (mask_foldl _ (fun _ _ => ?_) _ _).trans ?_)
      | (with_reducible refine (mask_foldl_fst _ (fun _ _ => ?_) _ _).trans ?_)
      | with_reducible apply command_mask
      | intro _
      | (simp +zetaDelta [h_now, h_hub, h_ctl]; done)
      | simp [h_now, h_hub, h_ctl]
      | with_reducible refine mask_ite ?_ ?_
      | with_reducible refine goes_ite ?_ ?_
      | split
      | simp +zetaDelta [h_now, h_hub, h_ctl]

end Sys2Proof.Machine
end

