-- ==== Sys2Proof/Laws/FrameModemOps.lean ====
section
/-!
SUPPORT. Which units each operation of Machine/ModemOps.lean can touch. A command's lemma says too that it always
answers a next state.
-/
set_option linter.unusedSimpArgs false
set_option linter.unusedVariables false
namespace Sys2Proof.Machine

@[simp] theorem modemStatus_mask {U : Units} (h_hub : U.hub = true) (h_modem : U.modem = true) (s : State) :
    mask U (modemStatus s) = mask U s := by
  unfold modemStatus
  simp [h_hub, h_modem]

@[simp] theorem modemHold_mask {U : Units} (h_hub : U.hub = true) (h_modem : U.modem = true) (s : State) :
    mask U (modemHold s) = mask U s := by
  unfold modemHold
  (repeat' first
    | (simp [h_hub, h_modem]; done)
    | simp [h_hub, h_modem]
    | split)

@[simp] theorem modemLineError_mask {U : Units} (h_hub : U.hub = true) (h_modem : U.modem = true) (s : State) :
    mask U (modemLineError s) = mask U s := by
  unfold modemLineError
  (repeat' first
    | (simp [h_hub, h_modem]; done)
    | simp [h_hub, h_modem]
    | split)

@[simp] theorem modemPass_mask {U : Units} (h_hub : U.hub = true) (h_modem : U.modem = true) (h_pos : U.pos = true)
    (x : MRec) (s : State) :
    mask U (modemPass x s) = mask U s := by
  unfold modemPass
  first
  | (simp [h_hub, h_modem, h_pos]; done)
  | (repeat' split) <;> (simp [h_hub, h_modem, h_pos]; done)
  | (repeat' first
      | (simp [h_hub, h_modem, h_pos]; done)
      | (with_reducible refine (mask_foldl _ (fun _ _ => ?_) _ _).trans ?_)
      | (with_reducible refine (mask_foldl_fst _ (fun _ _ => ?_) _ _).trans ?_)
      | simp [h_hub, h_modem, h_pos]
      | split)

@[simp] theorem modemDone_mask {U : Units} (h_hub : U.hub = true) (x : MTx) (d : Done) (s : State) :
    mask U (modemDone x d s) = mask U s := by
  unfold modemDone
  split <;> simp [h_hub]

@[simp] theorem modemDecide_mask {U : Units} (h_lanes : U.lanes = true) (h_hub : U.hub = true)
    (h_modem : U.modem = true) (h : MHost) (s : State) :
    mask U (modemDecide h s) = mask U s := by
  unfold modemDecide
  (repeat' first
    | (simp [h_lanes, h_hub, h_modem]; done)
    | simp [h_lanes, h_hub, h_modem]
    | split)

@[simp] theorem modemBeat_mask {U : Units} (h_lanes : U.lanes = true) (h_hub : U.hub = true)
    (h_modem : U.modem = true) (b : Nat) (s : State) :
    mask U (modemBeat b s) = mask U s := by
  unfold modemBeat
  first
  | (simp [h_lanes, h_hub, h_modem]; done)
  | (repeat' split) <;> (simp [h_lanes, h_hub, h_modem]; done)
  | (repeat' first
      | (simp [h_lanes, h_hub, h_modem]; done)
      | (with_reducible refine (mask_foldl _ (fun _ _ => ?_) _ _).trans ?_)
      | (with_reducible refine (mask_foldl_fst _ (fun _ _ => ?_) _ _).trans ?_)
      | simp [h_lanes, h_hub, h_modem]
      | split)

@[simp] theorem modemShutdownEnd_mask {U : Units} (h_hub : U.hub = true) (h_modem : U.modem = true) (late : Bool)
    (s : State) :
    mask U (modemShutdownEnd late s) = mask U s := by
  unfold modemShutdownEnd
  first
  | (simp [h_hub, h_modem]; done)
  | (repeat' split) <;> (simp [h_hub, h_modem]; done)
  | (repeat' first
      | (simp [h_hub, h_modem]; done)
      | (with_reducible refine (mask_foldl _ (fun _ _ => ?_) _ _).trans ?_)
      | (with_reducible refine (mask_foldl_fst _ (fun _ _ => ?_) _ _).trans ?_)
      | simp [h_hub, h_modem]
      | split)

@[simp] theorem modemShut_mask {U : Units} (h_hub : U.hub = true) (h_modem : U.modem = true) (s : State) :
    mask U (modemShut s) = mask U s := by
  unfold modemShut
  first
  | (simp [h_hub, h_modem]; done)
  | (repeat' split) <;> (simp [h_hub, h_modem]; done)
  | (repeat' first
      | (simp [h_hub, h_modem]; done)
      | (with_reducible refine (mask_foldl _ (fun _ _ => ?_) _ _).trans ?_)
      | (with_reducible refine (mask_foldl_fst _ (fun _ _ => ?_) _ _).trans ?_)
      | simp [h_hub, h_modem]
      | split)

@[simp] theorem modemCommit_mask {U : Units} (h_hub : U.hub = true) (h_modem : U.modem = true) (s : State) :
    mask U (modemCommit s) = mask U s := by
  unfold modemCommit
  (repeat' first
    | (simp [h_hub, h_modem]; done)
    | simp [h_hub, h_modem]
    | split)

@[simp] theorem modemTakeover_mask {U : Units} (h_modem : U.modem = true) (s : State) :
    mask U (modemTakeover s) = mask U s := by
  unfold modemTakeover
  simp [h_modem]

@[simp] theorem modemOverlapEnd_mask {U : Units} (h_modem : U.modem = true) (s : State) :
    mask U (modemOverlapEnd s).1 = mask U s := by
  unfold modemOverlapEnd
  simp [h_modem]

@[simp] theorem modemStop_mask {U : Units} (h_modem : U.modem = true) (s : State) :
    mask U (modemStop s) = mask U s := by
  unfold modemStop
  simp [h_modem]

end Sys2Proof.Machine
end

