-- ==== Sys2Proof/Laws/FrameMargin.lean ====
section
/-!
SUPPORT. Which units each operation of Machine/Margin.lean can touch. A command's lemma says too that it always
answers a next state.
-/
set_option linter.unusedSimpArgs false
set_option linter.unusedVariables false
namespace Sys2Proof.Machine

@[simp] theorem deliverPlan_mask {U : Units} (h_hub : U.hub = true) (body : List Byte) (eff : Nat) (s : State) :
    mask U (deliverPlan body eff s) = mask U s := by
  unfold deliverPlan
  simp [h_hub]

@[simp] theorem formPlan_mask {U : Units} (h_hub : U.hub = true) (h_mar : U.mar = true) (cause : Nat) (p : PlanMeas)
    (s : State) :
    mask U (formPlan cause p s) = mask U s := by
  unfold formPlan
  extract_lets m a win days hours level past hist life use ladder m1 fl body s1 s2 s3 s4
  clear_value m
  clear_value a
  clear_value win
  clear_value days
  clear_value hours
  clear_value level
  clear_value past
  clear_value hist
  clear_value life
  clear_value use
  clear_value ladder
  clear_value m1
  clear_value fl
  clear_value body
  have q_s1 : mask U s1 = mask U s := by
    simp [s1, h_hub, h_mar]
  clear_value s1
  have q_s2 : mask U s2 = mask U s := by
    simp only [s2]
    repeat' first
      | (simp [h_hub, h_mar, q_s1]; done)
      | (with_reducible refine (mask_foldl _ (fun _ _ => ?_) _ _).trans ?_)
      | (with_reducible refine (mask_foldl_fst _ (fun _ _ => ?_) _ _).trans ?_)
      | with_reducible apply command_mask
      | intro _
      | (simp +zetaDelta [h_hub, h_mar, q_s1]; done)
      | simp [h_hub, h_mar, q_s1]
      | with_reducible refine mask_ite ?_ ?_
      | with_reducible refine goes_ite ?_ ?_
      | split
      | simp +zetaDelta [h_hub, h_mar, q_s1]
  clear_value s2
  have q_s3 : mask U s3 = mask U s := by
    simp only [s3]
    repeat' first
      | (simp [h_hub, h_mar, q_s1, q_s2]; done)
      | (with_reducible refine (mask_foldl _ (fun _ _ => ?_) _ _).trans ?_)
      | (with_reducible refine (mask_foldl_fst _ (fun _ _ => ?_) _ _).trans ?_)
      | with_reducible apply command_mask
      | intro _
      | (simp +zetaDelta [h_hub, h_mar, q_s1, q_s2]; done)
      | simp [h_hub, h_mar, q_s1, q_s2]
      | with_reducible refine mask_ite ?_ ?_
      | with_reducible refine goes_ite ?_ ?_
      | split
      | simp +zetaDelta [h_hub, h_mar, q_s1, q_s2]
  clear_value s3
  have q_s4 : mask U s4 = mask U s := by
    simp only [s4]
    repeat' first
      | (simp [h_hub, h_mar, q_s1, q_s2, q_s3]; done)
      | with_reducible refine mask_ite ?_ ?_
      | simp [h_hub, h_mar, q_s1, q_s2, q_s3]
      | split
  clear_value s4
  split <;> simp [h_hub, h_mar, q_s1, q_s2, q_s3, q_s4]

@[simp] theorem deliverHeldPlan_mask {U : Units} (h_hub : U.hub = true) (h_mar : U.mar = true) (s : State) :
    mask U (deliverHeldPlan s) = mask U s := by
  unfold deliverHeldPlan
  split <;> simp [h_hub, h_mar]

@[simp] theorem applySteps_mask {U : Units} (h_hub : U.hub = true) (h_mar : U.mar = true) (p : Nat × Nat → Bool)
    (s : State) :
    mask U (applySteps p s) = mask U s := by
  unfold applySteps
  first
  | (simp [h_hub, h_mar]; done)
  | (repeat' split) <;> (simp [h_hub, h_mar]; done)
  | (repeat' first
      | (simp [h_hub, h_mar]; done)
      | (with_reducible refine (mask_foldl _ (fun _ _ => ?_) _ _).trans ?_)
      | (with_reducible refine (mask_foldl_fst _ (fun _ _ => ?_) _ _).trans ?_)
      | simp [h_hub, h_mar]
      | split)

@[simp] theorem execMarginPlan_mask {U : Units} (h_now : U.now = true) (h_hub : U.hub = true) (h_mar : U.mar = true)
    (p : PlanMeas) (s : State) :
    Goes U s (execMarginPlan p s) := by
  unfold execMarginPlan
  (repeat' first
    | (simp [h_now, h_hub, h_mar]; done)
    | simp [h_now, h_hub, h_mar]
    | split)

@[simp] theorem execMarginStepApply_mask {U : Units} (h_now : U.now = true) (h_hub : U.hub = true)
    (h_mar : U.mar = true) (s : State) :
    Goes U s (execMarginStepApply s) := by
  unfold execMarginStepApply
  split <;> simp [h_now, h_hub, h_mar]

@[simp] theorem execFlashRefreshDue_mask {U : Units} (h_now : U.now = true) (h_mar : U.mar = true) (s : State) :
    Goes U s (execFlashRefreshDue s) := by
  unfold execFlashRefreshDue
  split <;> simp [h_now, h_mar]

end Sys2Proof.Machine
end

