-- ==== Sys2Proof/Laws/FramePlatformOps.lean ====
section
/-!
SUPPORT. Which units each operation of Machine/PlatformOps.lean can touch. A command's lemma says too that it always
answers a next state.
-/
set_option linter.unusedSimpArgs false
set_option linter.unusedVariables false
namespace Sys2Proof.Machine

@[simp] theorem imageStatus_mask {U : Units} (h_hub : U.hub = true) (cause : Nat) (s : State) :
    mask U (imageStatus cause s) = mask U s := by
  unfold imageStatus
  simp [h_hub]

@[simp] theorem putSlot_mask {U : Units} (h_img : U.img = true) (n : Nat) (st : SlotState) (s : State) :
    mask U (putSlot n st s) = mask U s := by
  unfold putSlot
  simp [h_img]

@[simp] theorem setSlot_mask {U : Units} (h_hub : U.hub = true) (h_img : U.img = true) (n : Nat) (st : SlotState)
    (s : State) :
    mask U (setSlot n st s) = mask U s := by
  unfold setSlot
  simp [h_hub, h_img]

@[simp] theorem confirmSlot_mask {U : Units} (h_hub : U.hub = true) (h_img : U.img = true) (n : Nat) (s : State) :
    mask U (confirmSlot n s) = mask U s := by
  unfold confirmSlot
  (repeat' first
    | (simp [h_hub, h_img]; done)
    | simp [h_hub, h_img]
    | split)

@[simp] theorem powerStatus_mask {U : Units} (h_hub : U.hub = true) (h_pow : U.pow = true) (b : Nat) (s : State) :
    mask U (powerStatus b s) = mask U s := by
  unfold powerStatus
  simp [h_hub, h_pow]

end Sys2Proof.Machine
end

