-- ==== Sys2Proof/Laws/FrameLaneOps.lean ====
section
/-!
SUPPORT. Which units each operation of Machine/LaneOps.lean can touch. A command's lemma says too that it always
answers a next state.
-/
set_option linter.unusedSimpArgs false
set_option linter.unusedVariables false
namespace Sys2Proof.Machine

@[simp] theorem upLane_mask {U : Units} (h_lanes : U.lanes = true) (i : Fin 2) (f : Lane → Lane) (s : State) :
    mask U (upLane i f s) = mask U s := by
  unfold upLane
  simp [h_lanes]

@[simp] theorem laneStatusAt_mask {U : Units} (h_lanes : U.lanes = true) (h_hub : U.hub = true) (b : Nat) (s : State) :
    mask U (laneStatusAt b s) = mask U s := by
  unfold laneStatusAt
  split <;> simp [h_lanes, h_hub]

@[simp] theorem laneStatus_mask {U : Units} (h_lanes : U.lanes = true) (h_hub : U.hub = true) (s : State) :
    mask U (laneStatus s) = mask U s := by
  unfold laneStatus
  simp [h_lanes, h_hub]

@[simp] theorem laneTo_mask {U : Units} (h_lanes : U.lanes = true) (h_hub : U.hub = true) (i : Fin 2)
    (st : LaneState) (s : State) :
    mask U (laneTo i st s) = mask U s := by
  unfold laneTo
  split <;> simp [h_lanes, h_hub]

@[simp] theorem releaseLane_mask {U : Units} (h_lanes : U.lanes = true) (h_hub : U.hub = true)
    (h_mar : U.mar = true) (i : Fin 2) (stored : Bool) (s : State) :
    mask U (releaseLane i stored s) = mask U s := by
  unfold releaseLane
  split <;> simp [h_lanes, h_hub, h_mar]

@[simp] theorem enterRebuild_mask {U : Units} (h_lanes : U.lanes = true) (h_hub : U.hub = true) (i : Fin 2)
    (live : Bool) (s : State) :
    mask U (enterRebuild i live s) = mask U s := by
  unfold enterRebuild
  simp [h_lanes, h_hub]

@[simp] theorem enterShadow_mask {U : Units} (h_lanes : U.lanes = true) (h_hub : U.hub = true) (i : Fin 2) (s : State) :
    mask U (enterShadow i s) = mask U s := by
  unfold enterShadow
  simp [h_lanes, h_hub]

@[simp] theorem rebuildFails_mask {U : Units} (h_lanes : U.lanes = true) (h_hub : U.hub = true) (i : Fin 2)
    (s : State) :
    mask U (rebuildFails i s) = mask U s := by
  unfold rebuildFails
  split <;> simp [h_lanes, h_hub]

@[simp] theorem ctlStart_mask {U : Units} (h_ctl : U.ctl = true) (t : Nat) (s : State) :
    mask U (ctlStart t s) = mask U s := by
  unfold ctlStart
  simp [h_ctl]

@[simp] theorem startLoops_mask {U : Units} (h_hub : U.hub = true) (h_ctl : U.ctl = true) (h_pas : U.pas = true)
    (s : State) :
    mask U (startLoops s) = mask U s := by
  unfold startLoops
  first
  | (simp [h_hub, h_ctl, h_pas]; done)
  | (repeat' split) <;> (simp [h_hub, h_ctl, h_pas]; done)
  | (repeat' first
      | (simp [h_hub, h_ctl, h_pas]; done)
      | (with_reducible refine (mask_foldl _ (fun _ _ => ?_) _ _).trans ?_)
      | (with_reducible refine (mask_foldl_fst _ (fun _ _ => ?_) _ _).trans ?_)
      | simp [h_hub, h_ctl, h_pas]
      | split)

@[simp] theorem enginesStart_mask {U : Units} (h_pas : U.pas = true) (h_map : U.map = true) (lossy : Bool) (s : State) :
    mask U (enginesStart lossy s) = mask U s := by
  unfold enginesStart
  simp [h_pas, h_map]

@[simp] theorem unitsFirst_mask {U : Units} (h_hub : U.hub = true) (h_can : U.can = true) (h_modem : U.modem = true)
    (s : State) :
    mask U (unitsFirst s) = mask U s := by
  unfold unitsFirst
  extract_lets s1
  have q_s1 : mask U s1 = mask U s := by
    simp only [s1]
    repeat' first
      | (simp [h_hub, h_can, h_modem]; done)
      | (with_reducible refine (mask_foldl _ (fun _ _ => ?_) _ _).trans ?_)
      | (with_reducible refine (mask_foldl_fst _ (fun _ _ => ?_) _ _).trans ?_)
      | with_reducible apply command_mask
      | intro _
      | (simp +zetaDelta [h_hub, h_can, h_modem]; done)
      | simp [h_hub, h_can, h_modem]
      | with_reducible refine mask_ite ?_ ?_
      | with_reducible refine goes_ite ?_ ?_
      | split
      | simp +zetaDelta [h_hub, h_can, h_modem]
  clear_value s1
  simp [h_hub, h_can, h_modem, q_s1]

@[simp] theorem firstBeat_mask {U : Units} (h_hub : U.hub = true) (h_ctl : U.ctl = true) (h_pas : U.pas = true)
    (h_pow : U.pow = true) (h_mar : U.mar = true) (h_can : U.can = true) (h_modem : U.modem = true)
    (h_map : U.map = true) (b : Nat) (s : State) :
    mask U (firstBeat b s) = mask U s := by
  unfold firstBeat
  simp [h_hub, h_ctl, h_pas, h_pow, h_mar, h_can, h_modem, h_map]

@[simp] theorem restartBeat_mask {U : Units} (h_hub : U.hub = true) (h_ctl : U.ctl = true) (h_pas : U.pas = true)
    (h_map : U.map = true) (b : Nat) (s : State) :
    mask U (restartBeat b s) = mask U s := by
  unfold restartBeat
  first
  | (simp [h_hub, h_ctl, h_pas, h_map]; done)
  | (repeat' split) <;> (simp [h_hub, h_ctl, h_pas, h_map]; done)
  | (repeat' first
      | (simp [h_hub, h_ctl, h_pas, h_map]; done)
      | (with_reducible refine (mask_foldl _ (fun _ _ => ?_) _ _).trans ?_)
      | (with_reducible refine (mask_foldl_fst _ (fun _ _ => ?_) _ _).trans ?_)
      | simp [h_hub, h_ctl, h_pas, h_map]
      | split)

@[simp] theorem becomeActive_mask {U : Units} (h_now : U.now = true) (h_lanes : U.lanes = true)
    (h_hub : U.hub = true) (h_ctl : U.ctl = true) (h_pas : U.pas = true) (h_pow : U.pow = true)
    (h_mar : U.mar = true) (h_can : U.can = true) (h_modem : U.modem = true) (h_map : U.map = true)
    (i : Fin 2) (s : State) :
    mask U (becomeActive i s) = mask U s := by
  unfold becomeActive
  extract_lets o b powerUp s1 x s2 s3
  clear_value o
  clear_value b
  clear_value powerUp
  have q_s1 : mask U s1 = mask U s := by
    simp [s1, h_now, h_lanes, h_hub, h_ctl, h_pas, h_pow, h_mar, h_can, h_modem, h_map]
  clear_value s1
  clear_value x
  have q_s2 : mask U s2 = mask U s := by
    simp only [s2]
    repeat' first
      | (simp [h_now, h_lanes, h_hub, h_ctl, h_pas, h_pow, h_mar, h_can, h_modem, h_map, q_s1]; done)
      | with_reducible refine mask_ite ?_ ?_
      | simp [h_now, h_lanes, h_hub, h_ctl, h_pas, h_pow, h_mar, h_can, h_modem, h_map, q_s1]
      | split
  clear_value s2
  have q_s3 : mask U s3 = mask U s := by
    simp [s3, h_now, h_lanes, h_hub, h_ctl, h_pas, h_pow, h_mar, h_can, h_modem, h_map, q_s1, q_s2]
  clear_value s3
  split <;> simp [h_now, h_lanes, h_hub, h_ctl, h_pas, h_pow, h_mar, h_can, h_modem, h_map, q_s1, q_s2, q_s3]

@[simp] theorem dropFormats_mask {U : Units} (h_cat : U.cat = true) (s : State) :
    mask U (dropFormats s) = mask U s := by
  unfold dropFormats
  (repeat' first
    | (simp [h_cat]; done)
    | simp [h_cat]
    | split)

@[simp] theorem startReports_mask {U : Units} (h_hub : U.hub = true) (i : Fin 2) (was : Nat) (s : State) :
    mask U (startReports i was s) = mask U s := by
  unfold startReports
  (repeat' first
    | (simp [h_hub]; done)
    | simp [h_hub]
    | split)

@[simp] theorem laneStarts_mask {U : Units} (h_now : U.now = true) (h_lanes : U.lanes = true) (h_hub : U.hub = true)
    (h_cat : U.cat = true) (h_ctl : U.ctl = true) (h_pas : U.pas = true) (h_pow : U.pow = true)
    (h_mar : U.mar = true) (h_can : U.can = true) (h_modem : U.modem = true) (h_map : U.map = true)
    (i : Fin 2) (v : Version) (s : State) :
    mask U (laneStarts i v s) = mask U s := by
  unfold laneStarts
  (repeat' first
    | (simp [h_now, h_lanes, h_hub, h_cat, h_ctl, h_pas, h_pow, h_mar, h_can, h_modem, h_map]; done)
    | simp [h_now, h_lanes, h_hub, h_cat, h_ctl, h_pas, h_pow, h_mar, h_can, h_modem, h_map]
    | split)

@[simp] theorem startFails_mask {U : Units} (h_lanes : U.lanes = true) (h_hub : U.hub = true) (h_img : U.img = true)
    (h_mar : U.mar = true) (i : Fin 2) (s : State) :
    mask U (startFails i s) = mask U s := by
  unfold startFails
  (repeat' first
    | (simp [h_lanes, h_hub, h_img, h_mar]; done)
    | simp [h_lanes, h_hub, h_img, h_mar]
    | split)

@[simp] theorem orderSwitch_mask {U : Units} (h_lanes : U.lanes = true) (why : SwitchWhy) (dest : Fin 2)
    (post : Option (Post × Nat)) (s : State) :
    mask U (orderSwitch why dest post s) = mask U s := by
  unfold orderSwitch
  simp [h_lanes]

@[simp] theorem resetLane_mask {U : Units} (h_lanes : U.lanes = true) (h_hub : U.hub = true) (h_mar : U.mar = true)
    (i : Fin 2) (s : State) :
    mask U (resetLane i s) = mask U s := by
  unfold resetLane
  simp [h_lanes, h_hub, h_mar]

@[simp] theorem takeShadow_mask {U : Units} (h_now : U.now = true) (h_sig : U.sig = true) (h_ctl : U.ctl = true)
    (h_pas : U.pas = true) (h_pos : U.pos = true) (h_fus : U.fus = true) (h_map : U.map = true)
    (s : State) :
    mask U (takeShadow s) = mask U s := by
  unfold takeShadow
  extract_lets e s1 s2 s3
  have q1 : mask U s1 = mask U s := mask_upCtl h_ctl _ _
  have q2 : mask U s2 = mask U s := (mask_upSig h_sig _ _).trans q1
  have q3 : mask U s3 = mask U s :=
    (mask_upFus h_fus _ _).trans ((mask_upPos h_pos _ _).trans ((mask_upPas h_pas _ _).trans q2))
  exact (drawn_mask h_now _).trans ((mask_upMap h_map _ _).trans q3)

@[simp] theorem noLane_mask {U : Units} (h_lanes : U.lanes = true) (h_hub : U.hub = true) (h_mar : U.mar = true)
    (i : Fin 2) (lost : Bool) (s : State) :
    mask U (noLane i lost s) = mask U s := by
  unfold noLane
  split <;> simp [h_lanes, h_hub, h_mar]

@[simp] theorem refuseSwitch_mask {U : Units} (h_hub : U.hub = true) (w : Switch) (s : State) :
    mask U (refuseSwitch w s) = mask U s := by
  unfold refuseSwitch
  split <;> simp [h_hub]

@[simp] theorem switchFails_mask {U : Units} (h_lanes : U.lanes = true) (h_hub : U.hub = true)
    (h_mar : U.mar = true) (w : Switch) (s : State) :
    mask U (switchFails w s) = mask U s := by
  unfold switchFails
  (repeat' first
    | (simp [h_lanes, h_hub, h_mar]; done)
    | simp [h_lanes, h_hub, h_mar]
    | split)

@[simp] theorem laneFails_mask {U : Units} (h_lanes : U.lanes = true) (h_hub : U.hub = true) (h_mar : U.mar = true)
    (i : Fin 2) (lost : Bool) (s : State) :
    mask U (laneFails i lost s) = mask U s := by
  unfold laneFails
  (repeat' first
    | (simp [h_lanes, h_hub, h_mar]; done)
    | simp [h_lanes, h_hub, h_mar]
    | split)

@[simp] theorem applyVerdicts_mask {U : Units} (h_lanes : U.lanes = true) (h_hub : U.hub = true)
    (h_mar : U.mar = true) (s : State) :
    mask U (applyVerdicts s) = mask U s := by
  unfold applyVerdicts
  (repeat' first
    | (simp [h_lanes, h_hub, h_mar]; done)
    | simp [h_lanes, h_hub, h_mar]
    | split)

end Sys2Proof.Machine
end

