-- ==== Sys2Proof/Laws/FrameCommit.lean ====
section
/-!
SUPPORT. Which units each operation of Machine/Commit.lean can touch. A command's lemma says too that it always
answers a next state.
-/
set_option linter.unusedSimpArgs false
set_option linter.unusedVariables false
namespace Sys2Proof.Machine

@[simp] theorem loopDrop_mask {U : Units} (h_hub : U.hub = true) (h_ctl : U.ctl = true) (n : Nat) (s : State) :
    mask U (loopDrop n s) = mask U s := by
  unfold loopDrop
  first
  | (simp [h_hub, h_ctl]; done)
  | (repeat' split) <;> (simp [h_hub, h_ctl]; done)
  | (repeat' first
      | (simp [h_hub, h_ctl]; done)
      | (with_reducible refine (mask_foldl _ (fun _ _ => ?_) _ _).trans ?_)
      | (with_reducible refine (mask_foldl_fst _ (fun _ _ => ?_) _ _).trans ?_)
      | simp [h_hub, h_ctl]
      | split)

@[simp] theorem loopCommit_mask {U : Units} (h_hub : U.hub = true) (h_ctl : U.ctl = true) (n : Nat) (s : State) :
    mask U (loopCommit n s) = mask U s := by
  unfold loopCommit
  (repeat' first
    | (simp [h_hub, h_ctl]; done)
    | simp [h_hub, h_ctl]
    | split)

@[simp] theorem groupCommit_mask {U : Units} (h_ctl : U.ctl = true) (g : Nat) (s : State) :
    mask U (groupCommit g s) = mask U s := by
  unfold groupCommit
  (repeat' first
    | (simp [h_ctl]; done)
    | simp [h_ctl]
    | split)

@[simp] theorem closeWindows_mask {U : Units} (h_hub : U.hub = true) (h_sig : U.sig = true)
    (h_field : U.field = true) (names : List RecName) (new : Nat → Nat → List Byte) (s : State) :
    mask U (closeWindows names new s) = mask U s := by
  unfold closeWindows
  first
  | (simp [h_hub, h_sig, h_field]; done)
  | (repeat' split) <;> (simp [h_hub, h_sig, h_field]; done)
  | (repeat' first
      | (simp [h_hub, h_sig, h_field]; done)
      | (with_reducible refine (mask_foldl _ (fun _ _ => ?_) _ _).trans ?_)
      | (with_reducible refine (mask_foldl_fst _ (fun _ _ => ?_) _ _).trans ?_)
      | simp [h_hub, h_sig, h_field]
      | split)

@[simp] theorem recordChanged_mask {U : Units} (h_now : U.now = true) (h_hub : U.hub = true) (h_sig : U.sig = true)
    (h_ctl : U.ctl = true) (h_pas : U.pas = true) (h_pow : U.pow = true) (h_valve : U.valve = true)
    (h_field : U.field = true) (h_can : U.can = true) (h_modem : U.modem = true) (h_disp : U.disp = true)
    (h_fus : U.fus = true) (h_cam : U.cam = true) (old : Nat → Nat → List Byte) (x : RecName) (s : State) :
    mask U (recordChanged old x s) = mask U s := by
  unfold recordChanged
  (repeat' first
    | (simp [h_now, h_hub, h_sig, h_ctl, h_pas, h_pow, h_valve, h_field, h_can, h_modem, h_disp, h_fus, h_cam]; done)
    | simp [h_now, h_hub, h_sig, h_ctl, h_pas, h_pow, h_valve, h_field, h_can, h_modem, h_disp, h_fus, h_cam]
    | split)

@[simp] theorem unitsFollow_mask {U : Units} (h_now : U.now = true) (h_hub : U.hub = true) (h_sig : U.sig = true)
    (h_ctl : U.ctl = true) (h_pas : U.pas = true) (h_pow : U.pow = true) (h_valve : U.valve = true)
    (h_field : U.field = true) (h_can : U.can = true) (h_modem : U.modem = true) (h_disp : U.disp = true)
    (h_fus : U.fus = true) (h_cam : U.cam = true) (old : Nat → Nat → List Byte) (names : List RecName)
    (hops : List Nat) (full : Bool) (s : State) :
    mask U (unitsFollow old names hops full s) = mask U s := by
  unfold unitsFollow
  first
  | (simp [h_now, h_hub, h_sig, h_ctl, h_pas, h_pow, h_valve, h_field, h_can, h_modem, h_disp, h_fus, h_cam]; done)
  | (repeat' split) <;> (simp [h_now, h_hub, h_sig, h_ctl, h_pas, h_pow, h_valve, h_field, h_can, h_modem, h_disp, h_fus, h_cam]; done)
  | (repeat' first
      | (simp [h_now, h_hub, h_sig, h_ctl, h_pas, h_pow, h_valve, h_field, h_can, h_modem, h_disp, h_fus, h_cam]; done)
      | (with_reducible refine (mask_foldl _ (fun _ _ => ?_) _ _).trans ?_)
      | (with_reducible refine (mask_foldl_fst _ (fun _ _ => ?_) _ _).trans ?_)
      | simp [h_now, h_hub, h_sig, h_ctl, h_pas, h_pow, h_valve, h_field, h_can, h_modem, h_disp, h_fus, h_cam]
      | split)

@[simp] theorem upCatalog_mask {U : Units} (h_cat : U.cat = true) (format : Nat) (f : Catalog → Catalog) (s : State) :
    mask U (upCatalog format f s) = mask U s := by
  unfold upCatalog
  simp [h_cat]

@[simp] theorem applySched_mask {U : Units} (h_now : U.now = true) (h_hub : U.hub = true) (h_cat : U.cat = true)
    (h_sig : U.sig = true) (h_ctl : U.ctl = true) (h_pas : U.pas = true) (h_pow : U.pow = true)
    (h_valve : U.valve = true) (h_field : U.field = true) (h_can : U.can = true) (h_modem : U.modem = true)
    (h_disp : U.disp = true) (h_fus : U.fus = true) (h_cam : U.cam = true) (x : Sched) (s : State) :
    mask U (applySched x s) = mask U s := by
  unfold applySched
  (repeat' first
    | (simp [h_now, h_hub, h_cat, h_sig, h_ctl, h_pas, h_pow, h_valve, h_field, h_can, h_modem, h_disp, h_fus, h_cam]; done)
    | simp [h_now, h_hub, h_cat, h_sig, h_ctl, h_pas, h_pow, h_valve, h_field, h_can, h_modem, h_disp, h_fus, h_cam]
    | split)

@[simp] theorem formatChanged_mask {U : Units} (h_now : U.now = true) (h_hub : U.hub = true) (h_sig : U.sig = true)
    (h_ctl : U.ctl = true) (h_pas : U.pas = true) (h_pow : U.pow = true) (h_valve : U.valve = true)
    (h_field : U.field = true) (h_can : U.can = true) (h_modem : U.modem = true) (h_disp : U.disp = true)
    (h_fus : U.fus = true) (h_cam : U.cam = true) (old : Catalog) (s : State) :
    mask U (formatChanged old s) = mask U s := by
  unfold formatChanged
  (repeat' first
    | (simp [h_now, h_hub, h_sig, h_ctl, h_pas, h_pow, h_valve, h_field, h_can, h_modem, h_disp, h_fus, h_cam]; done)
    | simp [h_now, h_hub, h_sig, h_ctl, h_pas, h_pow, h_valve, h_field, h_can, h_modem, h_disp, h_fus, h_cam]
    | split)

end Sys2Proof.Machine
end

