-- ==== Sys2Proof/Laws/FrameDisplay.lean ====
section
/-!
SUPPORT. Which units each operation of Machine/Display.lean can touch. A command's lemma says too that it always
answers a next state.
-/
set_option linter.unusedSimpArgs false
set_option linter.unusedVariables false
namespace Sys2Proof.Machine

@[simp] theorem execDisplayLcdEn1_mask {U : Units} (h_now : U.now = true) (h_disp : U.disp = true) (s : State) :
    Goes U s (execDisplayLcdEn1 s) := by
  unfold execDisplayLcdEn1
  split <;> simp [h_now, h_disp]

@[simp] theorem execDisplayRailsDone_mask {U : Units} (h_now : U.now = true) (h_hub : U.hub = true)
    (h_disp : U.disp = true) (s : State) :
    Goes U s (execDisplayRailsDone s) := by
  unfold execDisplayRailsDone
  split <;> simp [h_now, h_hub, h_disp]

@[simp] theorem takeBand_mask {U : Units} (h_hub : U.hub = true) (h_disp : U.disp = true) (s : State) :
    mask U (takeBand s) = mask U s := by
  unfold takeBand
  (repeat' first
    | (simp [h_hub, h_disp]; done)
    | simp [h_hub, h_disp]
    | split)

@[simp] theorem showFrame_mask {U : Units} (h_hub : U.hub = true) (h_disp : U.disp = true) (s : State) :
    mask U (showFrame s) = mask U s := by
  unfold showFrame
  split <;> simp [h_hub, h_disp]

@[simp] theorem execDisplayFrame_mask {U : Units} (h_now : U.now = true) (h_hub : U.hub = true)
    (h_disp : U.disp = true) (s : State) :
    Goes U s (execDisplayFrame s) := by
  unfold execDisplayFrame
  (repeat' first
    | (simp [h_now, h_hub, h_disp]; done)
    | simp [h_now, h_hub, h_disp]
    | split)

@[simp] theorem execDisplayShutdownEn0_mask {U : Units} (h_now : U.now = true) (h_disp : U.disp = true) (s : State) :
    Goes U s (execDisplayShutdownEn0 s) := by
  unfold execDisplayShutdownEn0
  split <;> simp [h_now, h_disp]

@[simp] theorem execDisplayShutdownEnd_mask {U : Units} (h_now : U.now = true) (h_hub : U.hub = true)
    (h_disp : U.disp = true) (s : State) :
    Goes U s (execDisplayShutdownEnd s) := by
  unfold execDisplayShutdownEnd
  (repeat' first
    | (simp [h_now, h_hub, h_disp]; done)
    | simp [h_now, h_hub, h_disp]
    | split)

@[simp] theorem execKdSegmentMap_mask {U : Units} (h_now : U.now = true) (h_hub : U.hub = true)
    (h_disp : U.disp = true) (dt : Nat) (p : Post) (s : State) :
    Goes U s (execKdSegmentMap dt p s) := by
  unfold execKdSegmentMap
  repeat' first
      | (simp [h_now, h_hub, h_disp]; done)
      | (with_reducible refine (mask_foldl _ (fun _ _ => ?_) _ _).trans ?_)
      | (with_reducible refine (mask_foldl_fst _ (fun _ _ => ?_) _ _).trans ?_)
      | with_reducible apply command_mask
      | intro _
      | (simp +zetaDelta [h_now, h_hub, h_disp]; done)
      | simp [h_now, h_hub, h_disp]
      | with_reducible refine mask_ite ?_ ?_
      | with_reducible refine goes_ite ?_ ?_
      | split
      | simp +zetaDelta [h_now, h_hub, h_disp]

@[simp] theorem execDisplayHostTimeout_mask {U : Units} (h_now : U.now = true) (h_hub : U.hub = true)
    (h_disp : U.disp = true) (s : State) :
    Goes U s (execDisplayHostTimeout s) := by
  unfold execDisplayHostTimeout
  (repeat' first
    | (simp [h_now, h_hub, h_disp]; done)
    | simp [h_now, h_hub, h_disp]
    | split)

@[simp] theorem execDisplayStatusPeriod_mask {U : Units} (h_now : U.now = true) (h_hub : U.hub = true)
    (h_disp : U.disp = true) (s : State) :
    Goes U s (execDisplayStatusPeriod s) := by
  unfold execDisplayStatusPeriod
  (repeat' first
    | (simp [h_now, h_hub, h_disp]; done)
    | simp [h_now, h_hub, h_disp]
    | split)

end Sys2Proof.Machine
end

