-- ==== Sys2Proof/Laws/FrameField.lean ====
section
/-!
SUPPORT. Which units each operation of Machine/Field.lean can touch. A command's lemma says too that it always
answers a next state.
-/
set_option linter.unusedSimpArgs false
set_option linter.unusedVariables false
namespace Sys2Proof.Machine

@[simp] theorem execDiChange_mask {U : Units} (h_now : U.now = true) (h_sig : U.sig = true)
    (h_field : U.field = true) (n : Fin 48) (dt : Nat) (level : Bool) (s : State) :
    Goes U s (execDiChange n dt level s) := by
  unfold execDiChange
  (repeat' first
    | (simp [h_now, h_sig, h_field]; done)
    | simp [h_now, h_sig, h_field]
    | split)

@[simp] theorem execCounterEdge_mask {U : Units} (h_now : U.now = true) (h_field : U.field = true) (n : Fin 16)
    (dt : Nat) (rising : Bool) (widthNs : Nat) (s : State) :
    Goes U s (execCounterEdge n dt rising widthNs s) := by
  unfold execCounterEdge
  (repeat' first
    | (simp [h_now, h_field]; done)
    | simp [h_now, h_field]
    | split)

@[simp] theorem execGateClose_mask {U : Units} (h_now : U.now = true) (h_hub : U.hub = true) (h_sig : U.sig = true)
    (h_field : U.field = true) (n : Fin 16) (s : State) :
    Goes U s (execGateClose n s) := by
  unfold execGateClose
  simp [h_now, h_hub, h_sig, h_field]

@[simp] theorem aiSampleOne_mask {U : Units} (h_hub : U.hub = true) (h_sig : U.sig = true)
    (h_field : U.field = true) (n : Nat) (x : Int) (s : State) :
    mask U (aiSampleOne n x s) = mask U s := by
  unfold aiSampleOne
  (repeat' first
    | (simp [h_hub, h_sig, h_field]; done)
    | simp [h_hub, h_sig, h_field]
    | split)

@[simp] theorem execAiSample_mask {U : Units} (h_now : U.now = true) (h_hub : U.hub = true) (h_sig : U.sig = true)
    (h_field : U.field = true) (xs : List Int) (s : State) :
    Goes U s (execAiSample xs s) := by
  unfold execAiSample
  first
  | (simp [h_now, h_hub, h_sig, h_field]; done)
  | (repeat' split) <;> (simp [h_now, h_hub, h_sig, h_field]; done)
  | (repeat' first
      | (simp [h_now, h_hub, h_sig, h_field]; done)
      | (with_reducible refine (mask_foldl _ (fun _ _ => ?_) _ _).trans ?_)
      | (with_reducible refine (mask_foldl_fst _ (fun _ _ => ?_) _ _).trans ?_)
      | simp [h_now, h_hub, h_sig, h_field]
      | split)

@[simp] theorem execAiShuntOpen_mask {U : Units} (h_now : U.now = true) (h_field : U.field = true) (n : Fin 16)
    (dt : Nat) (s : State) :
    Goes U s (execAiShuntOpen n dt s) := by
  unfold execAiShuntOpen
  (repeat' first
    | (simp [h_now, h_field]; done)
    | simp [h_now, h_field]
    | split)

@[simp] theorem execAiShuntReclose_mask {U : Units} (h_now : U.now = true) (h_field : U.field = true) (n : Fin 16)
    (s : State) :
    Goes U s (execAiShuntReclose n s) := by
  unfold execAiShuntReclose
  (repeat' first
    | (simp [h_now, h_field]; done)
    | simp [h_now, h_field]
    | split)

@[simp] theorem execAiReport_mask {U : Units} (h_now : U.now = true) (h_hub : U.hub = true)
    (h_field : U.field = true) (s : State) :
    Goes U s (execAiReport s) := by
  unfold execAiReport
  (repeat' first
    | (simp [h_now, h_hub, h_field]; done)
    | simp [h_now, h_hub, h_field]
    | split)

@[simp] theorem dqCommand_mask {U : Units} (h_now : U.now = true) (h_hub : U.hub = true) (h_field : U.field = true)
    (dt : Nat) (p : Post) (s : State) :
    mask U (dqCommand dt p s) = mask U s := by
  unfold dqCommand
  repeat' first
      | (simp [h_now, h_hub, h_field]; done)
      | (with_reducible refine (mask_foldl _ (fun _ _ => ?_) _ _).trans ?_)
      | (with_reducible refine (mask_foldl_fst _ (fun _ _ => ?_) _ _).trans ?_)
      | with_reducible apply command_mask
      | intro _
      | (simp +zetaDelta [h_now, h_hub, h_field]; done)
      | simp [h_now, h_hub, h_field]
      | with_reducible refine mask_ite ?_ ?_
      | with_reducible refine goes_ite ?_ ?_
      | split
      | simp +zetaDelta [h_now, h_hub, h_field]

@[simp] theorem execDqSet_mask {U : Units} (h_now : U.now = true) (h_hub : U.hub = true) (h_field : U.field = true)
    (dt : Nat) (p : Post) (s : State) :
    Goes U s (execDqSet dt p s) := by
  unfold execDqSet
  simp [h_now, h_hub, h_field]

@[simp] theorem execDqClearOnly_mask {U : Units} (h_now : U.now = true) (h_hub : U.hub = true)
    (h_field : U.field = true) (dt : Nat) (p : Post) (s : State) :
    Goes U s (execDqClearOnly dt p s) := by
  unfold execDqClearOnly
  simp [h_now, h_hub, h_field]

@[simp] theorem dqDecide_mask {U : Units} (h_lanes : U.lanes = true) (h_hub : U.hub = true) (h_sig : U.sig = true)
    (h_field : U.field = true) (h : DqHost) (s : State) :
    mask U (dqDecide h s) = mask U s := by
  unfold dqDecide
  (repeat' first
    | (simp [h_lanes, h_hub, h_sig, h_field]; done)
    | simp [h_lanes, h_hub, h_sig, h_field]
    | split)

@[simp] theorem dqWaitEnds_mask {U : Units} (h_now : U.now = true) (h_hub : U.hub = true) (h_sig : U.sig = true)
    (h_field : U.field = true) (n : Nat) (s : State) :
    mask U (dqWaitEnds n s) = mask U s := by
  unfold dqWaitEnds
  (repeat' first
    | (simp [h_now, h_hub, h_sig, h_field]; done)
    | simp [h_now, h_hub, h_sig, h_field]
    | split)

@[simp] theorem execDqDutyEffect_mask {U : Units} (h_now : U.now = true) (h_lanes : U.lanes = true)
    (h_hub : U.hub = true) (h_sig : U.sig = true) (h_field : U.field = true) (n : Fin 24) (s : State) :
    Goes U s (execDqDutyEffect n s) := by
  unfold execDqDutyEffect
  extract_lets d mine first waitAt hostTurn
  clear_value d
  clear_value mine
  clear_value first
  clear_value waitAt
  clear_value hostTurn
  repeat' first
      | (simp [h_now, h_lanes, h_hub, h_sig, h_field]; done)
      | (with_reducible refine (mask_foldl _ (fun _ _ => ?_) _ _).trans ?_)
      | (with_reducible refine (mask_foldl_fst _ (fun _ _ => ?_) _ _).trans ?_)
      | with_reducible apply command_mask
      | intro _
      | (simp +zetaDelta [h_now, h_lanes, h_hub, h_sig, h_field]; done)
      | simp [h_now, h_lanes, h_hub, h_sig, h_field]
      | with_reducible refine mask_ite ?_ ?_
      | with_reducible refine goes_ite ?_ ?_
      | split
      | simp +zetaDelta [h_now, h_lanes, h_hub, h_sig, h_field]

@[simp] theorem execDqOverload_mask {U : Units} (h_now : U.now = true) (h_hub : U.hub = true) (h_sig : U.sig = true)
    (h_field : U.field = true) (n : Fin 24) (dt : Nat) (s : State) :
    Goes U s (execDqOverload n dt s) := by
  unfold execDqOverload
  (repeat' first
    | (simp [h_now, h_hub, h_sig, h_field]; done)
    | simp [h_now, h_hub, h_sig, h_field]
    | split)

@[simp] theorem execDqOpenLoad_mask {U : Units} (h_now : U.now = true) (h_hub : U.hub = true)
    (h_field : U.field = true) (n : Fin 24) (dt : Nat) (s : State) :
    Goes U s (execDqOpenLoad n dt s) := by
  unfold execDqOpenLoad
  (repeat' first
    | (simp [h_now, h_hub, h_field]; done)
    | simp [h_now, h_hub, h_field]
    | split)

@[simp] theorem execDqSupplyShort_mask {U : Units} (h_now : U.now = true) (h_hub : U.hub = true)
    (h_field : U.field = true) (n : Fin 24) (dt : Nat) (s : State) :
    Goes U s (execDqSupplyShort n dt s) := by
  unfold execDqSupplyShort
  (repeat' first
    | (simp [h_now, h_hub, h_field]; done)
    | simp [h_now, h_hub, h_field]
    | split)

@[simp] theorem inhibitReport_mask {U : Units} (h_hub : U.hub = true) (v : Bool) (s : State) :
    mask U (inhibitReport v s) = mask U s := by
  unfold inhibitReport
  simp [h_hub]

@[simp] theorem execOutInhibitAssert_mask {U : Units} (h_now : U.now = true) (h_hub : U.hub = true)
    (h_sig : U.sig = true) (h_valve : U.valve = true) (h_field : U.field = true) (dt : Nat) (s : State) :
    Goes U s (execOutInhibitAssert dt s) := by
  unfold execOutInhibitAssert
  (repeat' first
    | (simp [h_now, h_hub, h_sig, h_valve, h_field]; done)
    | simp [h_now, h_hub, h_sig, h_valve, h_field]
    | split)

@[simp] theorem execOutInhibitRelease_mask {U : Units} (h_now : U.now = true) (h_hub : U.hub = true)
    (h_valve : U.valve = true) (dt : Nat) (s : State) :
    Goes U s (execOutInhibitRelease dt s) := by
  unfold execOutInhibitRelease
  (repeat' first
    | (simp [h_now, h_hub, h_valve]; done)
    | simp [h_now, h_hub, h_valve]
    | split)

@[simp] theorem execSensorSupplyFault_mask {U : Units} (h_now : U.now = true) (h_hub : U.hub = true)
    (h_field : U.field = true) (i : Fin 2) (dt : Nat) (s : State) :
    Goes U s (execSensorSupplyFault i dt s) := by
  unfold execSensorSupplyFault
  (repeat' first
    | (simp [h_now, h_hub, h_field]; done)
    | simp [h_now, h_hub, h_field]
    | split)

@[simp] theorem execSensorSupplyRetry_mask {U : Units} (h_now : U.now = true) (h_hub : U.hub = true)
    (h_field : U.field = true) (i : Fin 2) (ok : Bool) (s : State) :
    Goes U s (execSensorSupplyRetry i ok s) := by
  unfold execSensorSupplyRetry
  (repeat' first
    | (simp [h_now, h_hub, h_field]; done)
    | simp [h_now, h_hub, h_field]
    | split)

@[simp] theorem execVdqLowSet_mask {U : Units} (h_now : U.now = true) (h_hub : U.hub = true)
    (h_field : U.field = true) (dt mv : Nat) (s : State) :
    Goes U s (execVdqLowSet dt mv s) := by
  unfold execVdqLowSet
  (repeat' first
    | (simp [h_now, h_hub, h_field]; done)
    | simp [h_now, h_hub, h_field]
    | split)

@[simp] theorem execVdqLowClear_mask {U : Units} (h_now : U.now = true) (h_hub : U.hub = true)
    (h_field : U.field = true) (dt mv : Nat) (s : State) :
    Goes U s (execVdqLowClear dt mv s) := by
  unfold execVdqLowClear
  (repeat' first
    | (simp [h_now, h_hub, h_field]; done)
    | simp [h_now, h_hub, h_field]
    | split)

@[simp] theorem execFieldStatusPeriod_mask {U : Units} (h_now : U.now = true) (h_hub : U.hub = true)
    (h_field : U.field = true) (vdq v5 v10 i5 i10 : Nat) (s : State) :
    Goes U s (execFieldStatusPeriod vdq v5 v10 i5 i10 s) := by
  unfold execFieldStatusPeriod
  (repeat' first
    | (simp [h_now, h_hub, h_field]; done)
    | simp [h_now, h_hub, h_field]
    | split)

end Sys2Proof.Machine
end

