-- ==== Sys2Proof/Laws/FrameGnss.lean ====
section
/-!
SUPPORT. Which units each operation of Machine/Gnss.lean can touch. A command's lemma says too that it always
answers a next state.
-/
set_option linter.unusedSimpArgs false
set_option linter.unusedVariables false
namespace Sys2Proof.Machine

@[simp] theorem upChan_mask {U : Units} (h_gnss : U.gnss = true) (c : Nat) (f : GChan → GChan) (s : State) :
    mask U (upChan c f s) = mask U s := by
  unfold upChan
  simp [h_gnss]

@[simp] theorem execChannelLock_mask {U : Units} (h_now : U.now = true) (h_gnss : U.gnss = true) (c : Fin 192)
    (dt : Nat) (sv : Nat) (code carrier slip : Bool) (s : State) :
    Goes U s (execChannelLock c dt sv code carrier slip s) := by
  unfold execChannelLock
  (repeat' first
    | (simp [h_now, h_gnss]; done)
    | simp [h_now, h_gnss]
    | split)

@[simp] theorem gnssClock_mask {U : Units} (h_time : U.time = true) (h_hub : U.hub = true) (h_gnss : U.gnss = true)
    (x : ClockSol) (s : State) :
    mask U (gnssClock x s) = mask U s := by
  unfold gnssClock
  (repeat' first
    | (simp [h_time, h_hub, h_gnss]; done)
    | simp [h_time, h_hub, h_gnss]
    | split)

@[simp] theorem gnssPairs_mask {U : Units} (h_hub : U.hub = true) (h_gnss : U.gnss = true) (s : State) :
    mask U (gnssPairs s) = mask U s := by
  unfold gnssPairs
  (repeat' first
    | (simp [h_hub, h_gnss]; done)
    | simp [h_hub, h_gnss]
    | split)

@[simp] theorem antTo_mask {U : Units} (h_hub : U.hub = true) (h_gnss : U.gnss = true) (st : Nat) (s : State) :
    mask U (antTo st s) = mask U s := by
  unfold antTo
  split <;> simp [h_hub, h_gnss]

@[simp] theorem gnssRecords_mask {U : Units} (h_hub : U.hub = true) (h_gnss : U.gnss = true) (x : GnssEpochIn)
    (at_ fl : Nat) (s : State) :
    mask U (gnssRecords x at_ fl s) = mask U s := by
  unfold gnssRecords
  first
  | (simp [h_hub, h_gnss]; done)
  | (repeat' split) <;> (simp [h_hub, h_gnss]; done)
  | (repeat' first
      | (simp [h_hub, h_gnss]; done)
      | (with_reducible refine (mask_foldl _ (fun _ _ => ?_) _ _).trans ?_)
      | (with_reducible refine (mask_foldl_fst _ (fun _ _ => ?_) _ _).trans ?_)
      | simp [h_hub, h_gnss]
      | split)

@[simp] theorem execGnssEpoch_mask {U : Units} (h_now : U.now = true) (h_time : U.time = true)
    (h_hub : U.hub = true) (h_gnss : U.gnss = true) (h_pos : U.pos = true) (h_fus : U.fus = true)
    (x : GnssEpochIn) (s : State) :
    Goes U s (execGnssEpoch x s) := by
  unfold execGnssEpoch
  repeat' first
      | (simp [h_now, h_time, h_hub, h_gnss, h_pos, h_fus]; done)
      | (with_reducible refine (mask_foldl _ (fun _ _ => ?_) _ _).trans ?_)
      | (with_reducible refine (mask_foldl_fst _ (fun _ _ => ?_) _ _).trans ?_)
      | with_reducible apply command_mask
      | intro _
      | (simp +zetaDelta [h_now, h_time, h_hub, h_gnss, h_pos, h_fus]; done)
      | simp [h_now, h_time, h_hub, h_gnss, h_pos, h_fus]
      | with_reducible refine mask_ite ?_ ?_
      | with_reducible refine goes_ite ?_ ?_
      | split
      | simp +zetaDelta [h_now, h_time, h_hub, h_gnss, h_pos, h_fus]

@[simp] theorem execSuspectHoldExpiry_mask {U : Units} (h_now : U.now = true) (h_gnss : U.gnss = true)
    (bank : Fin 4) (sv : Nat) (s : State) :
    Goes U s (execSuspectHoldExpiry bank sv s) := by
  unfold execSuspectHoldExpiry
  split <;> simp [h_now, h_gnss]

@[simp] theorem execDualPeakFound_mask {U : Units} (h_now : U.now = true) (h_hub : U.hub = true)
    (h_gnss : U.gnss = true) (c : Fin 192) (dt : Nat) (sv ns cn0 : Nat) (s : State) :
    Goes U s (execDualPeakFound c dt sv ns cn0 s) := by
  unfold execDualPeakFound
  (repeat' first
    | (simp [h_now, h_hub, h_gnss]; done)
    | simp [h_now, h_hub, h_gnss]
    | split)

@[simp] theorem execNavMessage_mask {U : Units} (h_now : U.now = true) (h_hub : U.hub = true)
    (h_gnss : U.gnss = true) (c : Fin 192) (dt accAgo effAgo : Nat) (d29 d30 : Bool) (data : List Byte)
    (s : State) :
    Goes U s (execNavMessage c dt accAgo effAgo d29 d30 data s) := by
  unfold execNavMessage
  (repeat' first
    | (simp [h_now, h_hub, h_gnss]; done)
    | simp [h_now, h_hub, h_gnss]
    | split)

@[simp] theorem execAntennaOk_mask {U : Units} (h_now : U.now = true) (h_hub : U.hub = true)
    (h_gnss : U.gnss = true) (dt ma : Nat) (s : State) :
    Goes U s (execAntennaOk dt ma s) := by
  unfold execAntennaOk
  (repeat' first
    | (simp [h_now, h_hub, h_gnss]; done)
    | simp [h_now, h_hub, h_gnss]
    | split)

@[simp] theorem execAntennaOpen_mask {U : Units} (h_now : U.now = true) (h_hub : U.hub = true)
    (h_gnss : U.gnss = true) (dt : Nat) (s : State) :
    Goes U s (execAntennaOpen dt s) := by
  unfold execAntennaOpen
  (repeat' first
    | (simp [h_now, h_hub, h_gnss]; done)
    | simp [h_now, h_hub, h_gnss]
    | split)

@[simp] theorem execAntennaOvercurrent_mask {U : Units} (h_now : U.now = true) (h_hub : U.hub = true)
    (h_gnss : U.gnss = true) (dt : Nat) (s : State) :
    Goes U s (execAntennaOvercurrent dt s) := by
  unfold execAntennaOvercurrent
  (repeat' first
    | (simp [h_now, h_hub, h_gnss]; done)
    | simp [h_now, h_hub, h_gnss]
    | split)

@[simp] theorem execAntennaRetry_mask {U : Units} (h_now : U.now = true) (h_gnss : U.gnss = true) (s : State) :
    Goes U s (execAntennaRetry s) := by
  unfold execAntennaRetry
  split <;> simp [h_now, h_gnss]

end Sys2Proof.Machine
end

