-- ==== Sys2Proof/Laws/FrameLinkOps.lean ====
section
/-!
SUPPORT. Which units each operation of Machine/LinkOps.lean can touch. A command's lemma says too that it always
answers a next state.
-/
set_option linter.unusedSimpArgs false
set_option linter.unusedVariables false
namespace Sys2Proof.Machine

@[simp] theorem upLink_mask {U : Units} (h_hub : U.hub = true) (f : Link → Link) (s : State) :
    mask U (upLink f s) = mask U s := by
  unfold upLink
  simp [h_hub]

@[simp] theorem upSr_mask {U : Units} (h_hub : U.hub = true) (n : Nat) (f : Sr → Sr) (s : State) :
    mask U (upSr n f s) = mask U s := by
  unfold upSr
  simp [h_hub]

@[simp] theorem upDr_mask {U : Units} (h_hub : U.hub = true) (n : Nat) (f : Dr → Dr) (s : State) :
    mask U (upDr n f s) = mask U s := by
  unfold upDr
  simp [h_hub]

@[simp] theorem linkStatus_mask {U : Units} (h_hub : U.hub = true) (cause b : Nat) (s : State) :
    mask U (linkStatus cause b s) = mask U s := by
  unfold linkStatus
  simp [h_hub]

@[simp] theorem setRing_mask {U : Units} (h_hub : U.hub = true) (n : Nat) (st : RingState) (s : State) :
    mask U (setRing n st s) = mask U s := by
  unfold setRing
  split <;> simp [h_hub]

@[simp] theorem faultRing_mask {U : Units} (h_hub : U.hub = true) (ev n : Nat) (s : State) :
    mask U (faultRing ev n s) = mask U s := by
  unfold faultRing
  split <;> simp [h_hub]

@[simp] theorem linkReset_mask {U : Units} (h_hub : U.hub = true) (h_bar : U.bar = true) (up : Bool) (s : State) :
    mask U (linkReset up s) = mask U s := by
  unfold linkReset
  simp [h_hub, h_bar]

@[simp] theorem endDoze_mask {U : Units} (h_hub : U.hub = true) (s : State) :
    mask U (endDoze s) = mask U s := by
  unfold endDoze
  (repeat' first
    | (simp [h_hub]; done)
    | simp [h_hub]
    | split)

@[simp] theorem takeWord_mask {U : Units} (h_hub : U.hub = true) (k n w : Nat) (s : State) :
    mask U (takeWord k n w s) = mask U s := by
  unfold takeWord
  (repeat' first
    | (simp [h_hub]; done)
    | simp [h_hub]
    | split)

@[simp] theorem takeWords_mask {U : Units} (h_hub : U.hub = true) (k : Nat) (ws : List Nat) (s : State) :
    mask U (takeWords k ws s) = mask U s := by
  unfold takeWords
  first
  | (simp [h_hub]; done)
  | (repeat' split) <;> (simp [h_hub]; done)
  | (repeat' first
      | (simp [h_hub]; done)
      | (with_reducible refine (mask_foldl _ (fun _ _ => ?_) _ _).trans ?_)
      | (with_reducible refine (mask_foldl_fst _ (fun _ _ => ?_) _ _).trans ?_)
      | simp [h_hub]
      | split)

@[simp] theorem noteAer_mask {U : Units} (h_hub : U.hub = true) (c : DmaCause) (s : State) :
    mask U (noteAer c s) = mask U s := by
  unfold noteAer
  split <;> simp [h_hub]

@[simp] theorem deliverOne_mask {U : Units} (h_now : U.now = true) (h_hub : U.hub = true) (n : Nat) (s : State) :
    mask U (deliverOne n s) = mask U s := by
  unfold deliverOne
  (repeat' first
    | (simp [h_now, h_hub]; done)
    | simp [h_now, h_hub]
    | split)

end Sys2Proof.Machine
end

