-- ==== Sys2Proof/Laws/FrameHostLink.lean ====
section
/-!
SUPPORT. Which units each operation of Machine/HostLink.lean can touch. A command's lemma says too that it always
answers a next state.
-/
set_option linter.unusedSimpArgs false
set_option linter.unusedVariables false
namespace Sys2Proof.Machine

@[simp] theorem execLinkUp_mask {U : Units} (h_now : U.now = true) (h_hub : U.hub = true) (dt speed width : Nat)
    (l1 : Bool) (s : State) :
    Goes U s (execLinkUp dt speed width l1 s) := by
  unfold execLinkUp
  (repeat' first
    | (simp [h_now, h_hub]; done)
    | simp [h_now, h_hub]
    | split)

@[simp] theorem execLinkLoss_mask {U : Units} (h_now : U.now = true) (h_hub : U.hub = true) (h_bar : U.bar = true)
    (dt : Nat) (s : State) :
    Goes U s (execLinkLoss dt s) := by
  unfold execLinkLoss
  (repeat' first
    | (simp [h_now, h_hub, h_bar]; done)
    | simp [h_now, h_hub, h_bar]
    | split)

@[simp] theorem execHotReset_mask {U : Units} (h_now : U.now = true) (h_hub : U.hub = true) (h_bar : U.bar = true)
    (dt : Nat) (s : State) :
    Goes U s (execHotReset dt s) := by
  unfold execHotReset
  (repeat' first
    | (simp [h_now, h_hub, h_bar]; done)
    | simp [h_now, h_hub, h_bar]
    | split)

@[simp] theorem execFunctionLevelReset_mask {U : Units} (h_now : U.now = true) (h_hub : U.hub = true)
    (h_bar : U.bar = true) (dt : Nat) (s : State) :
    Goes U s (execFunctionLevelReset dt s) := by
  unfold execFunctionLevelReset
  (repeat' first
    | (simp [h_now, h_hub, h_bar]; done)
    | simp [h_now, h_hub, h_bar]
    | split)

@[simp] theorem execD3hot_mask {U : Units} (h_now : U.now = true) (h_hub : U.hub = true) (h_bar : U.bar = true)
    (dt : Nat) (s : State) :
    Goes U s (execD3hot dt s) := by
  unfold execD3hot
  (repeat' first
    | (simp [h_now, h_hub, h_bar]; done)
    | simp [h_now, h_hub, h_bar]
    | split)

@[simp] theorem execLinkRateChange_mask {U : Units} (h_now : U.now = true) (h_hub : U.hub = true)
    (dt speed width : Nat) (l1 : Bool) (s : State) :
    Goes U s (execLinkRateChange dt speed width l1 s) := by
  unfold execLinkRateChange
  (repeat' first
    | (simp [h_now, h_hub]; done)
    | simp [h_now, h_hub]
    | split)

@[simp] theorem execDoorbellPoll_mask {U : Units} (h_now : U.now = true) (h_hub : U.hub = true) (dt : Nat) (s : State) :
    Goes U s (execDoorbellPoll dt s) := by
  unfold execDoorbellPoll
  (repeat' first
    | (simp [h_now, h_hub]; done)
    | simp [h_now, h_hub]
    | split)

@[simp] theorem execDoorbellReadComplete_mask {U : Units} (h_now : U.now = true) (h_hub : U.hub = true) (dt : Nat)
    (r : PageRead) (s : State) :
    Goes U s (execDoorbellReadComplete dt r s) := by
  unfold execDoorbellReadComplete
  (repeat' first
    | (simp [h_now, h_hub]; done)
    | simp [h_now, h_hub]
    | split)

@[simp] theorem execDoorbellReadFail_mask {U : Units} (h_now : U.now = true) (h_hub : U.hub = true) (dt : Nat)
    (cause : DmaCause) (s : State) :
    Goes U s (execDoorbellReadFail dt cause s) := by
  unfold execDoorbellReadFail
  (repeat' first
    | (simp [h_now, h_hub]; done)
    | simp [h_now, h_hub]
    | split)

@[simp] theorem execRingReadComplete_mask {U : Units} (h_now : U.now = true) (h_hub : U.hub = true) (dt : Nat)
    (n : Fin 32) (entries : Nat) (s : State) :
    Goes U s (execRingReadComplete dt n entries s) := by
  unfold execRingReadComplete
  (repeat' first
    | (simp [h_now, h_hub]; done)
    | simp [h_now, h_hub]
    | split)

@[simp] theorem execDmaError_mask {U : Units} (h_now : U.now = true) (h_hub : U.hub = true) (dt : Nat) (n : Fin 64)
    (cause : DmaCause) (s : State) :
    Goes U s (execDmaError dt n cause s) := by
  unfold execDmaError
  (repeat' first
    | (simp [h_now, h_hub]; done)
    | simp [h_now, h_hub]
    | split)

@[simp] theorem execDozeTimeout_mask {U : Units} (h_now : U.now = true) (h_hub : U.hub = true) (s : State) :
    Goes U s (execDozeTimeout s) := by
  unfold execDozeTimeout
  (repeat' first
    | (simp [h_now, h_hub]; done)
    | simp [h_now, h_hub]
    | split)

@[simp] theorem execDozeCheckRead_mask {U : Units} (h_now : U.now = true) (h_hub : U.hub = true) (dt : Nat)
    (words : List Nat) (s : State) :
    Goes U s (execDozeCheckRead dt words s) := by
  unfold execDozeCheckRead
  (repeat' first
    | (simp [h_now, h_hub]; done)
    | simp [h_now, h_hub]
    | split)

@[simp] theorem execWake_mask {U : Units} (h_now : U.now = true) (h_hub : U.hub = true) (dt value : Nat) (s : State) :
    Goes U s (execWake dt value s) := by
  unfold execWake
  (repeat' first
    | (simp [h_now, h_hub]; done)
    | simp [h_now, h_hub]
    | split)

@[simp] theorem ringGo_mask {U : Units} (h_hub : U.hub = true) (s : State) :
    mask U (ringGo s) = mask U s := by
  unfold ringGo
  (repeat' first
    | (simp [h_hub]; done)
    | simp [h_hub]
    | split)

@[simp] theorem execRingGo_mask {U : Units} (h_now : U.now = true) (h_hub : U.hub = true) (dt value : Nat) (s : State) :
    Goes U s (execRingGo dt value s) := by
  unfold execRingGo
  (repeat' first
    | (simp [h_now, h_hub]; done)
    | simp [h_now, h_hub]
    | split)

@[simp] theorem execRingSetup_mask {U : Units} (h_now : U.now = true) (h_hub : U.hub = true) (dt : Nat)
    (table : List RingEntry) (s : State) :
    Goes U s (execRingSetup dt table s) := by
  unfold execRingSetup
  (repeat' first
    | (simp [h_now, h_hub]; done)
    | simp [h_now, h_hub]
    | split)

@[simp] theorem execDbPoll_mask {U : Units} (h_now : U.now = true) (h_bar : U.bar = true) (dt value : Nat) (s : State) :
    Goes U s (execDbPoll dt value s) := by
  unfold execDbPoll
  (repeat' first
    | (simp [h_now, h_bar]; done)
    | simp [h_now, h_bar]
    | split)

@[simp] theorem execLgCursor_mask {U : Units} (h_now : U.now = true) (h_hub : U.hub = true) (dt value : Nat)
    (s : State) :
    Goes U s (execLgCursor dt value s) := by
  unfold execLgCursor
  (repeat' first
    | (simp [h_now, h_hub]; done)
    | simp [h_now, h_hub]
    | split)

@[simp] theorem execFtSnap_mask {U : Units} (h_now : U.now = true) (h_time : U.time = true) (dt : Nat) (s : State) :
    Goes U s (execFtSnap dt s) := by
  unfold execFtSnap
  (repeat' first
    | (simp [h_now, h_time]; done)
    | simp [h_now, h_time]
    | split)

@[simp] theorem barWrite_mask {U : Units} (h_hub : U.hub = true) (h_bar : U.bar = true) (off value : Nat) (s : State) :
    mask U (barWrite off value s) = mask U s := by
  unfold barWrite
  (repeat' split) <;> simp [h_hub, h_bar]

@[simp] theorem execRegisterWrite_mask {U : Units} (h_now : U.now = true) (h_hub : U.hub = true)
    (h_bar : U.bar = true) (dt off size value : Nat) (s : State) :
    Goes U s (execRegisterWrite dt off size value s) := by
  unfold execRegisterWrite
  (repeat' first
    | (simp [h_now, h_hub, h_bar]; done)
    | simp [h_now, h_hub, h_bar]
    | split)

@[simp] theorem execMsixUnmask_mask {U : Units} (h_now : U.now = true) (h_hub : U.hub = true) (dt : Nat)
    (v : Fin 64) (s : State) :
    Goes U s (execMsixUnmask dt v s) := by
  unfold execMsixUnmask
  (repeat' first
    | (simp [h_now, h_hub]; done)
    | simp [h_now, h_hub]
    | split)

@[simp] theorem execRecordDelivery_mask {U : Units} (h_now : U.now = true) (h_hub : U.hub = true) (dt : Nat)
    (n : Fin 32) (s : State) :
    Goes U s (execRecordDelivery dt n s) := by
  unfold execRecordDelivery
  (repeat' first
    | (simp [h_now, h_hub]; done)
    | simp [h_now, h_hub]
    | split)

@[simp] theorem execCoalTime_mask {U : Units} (h_now : U.now = true) (h_hub : U.hub = true) (n : Fin 32) (s : State) :
    Goes U s (execCoalTime n s) := by
  unfold execCoalTime
  (repeat' first
    | (simp [h_now, h_hub]; done)
    | simp [h_now, h_hub]
    | split)

@[simp] theorem execKdRingReset_mask {U : Units} (h_now : U.now = true) (h_hub : U.hub = true) (dt : Nat) (p : Post)
    (e : RingEntry) (s : State) :
    Goes U s (execKdRingReset dt p e s) := by
  unfold execKdRingReset
  repeat' first
      | (simp [h_now, h_hub]; done)
      | (with_reducible refine (mask_foldl _ (fun _ _ => ?_) _ _).trans ?_)
      | (with_reducible refine (mask_foldl_fst _ (fun _ _ => ?_) _ _).trans ?_)
      | with_reducible apply command_mask
      | intro _
      | (simp +zetaDelta [h_now, h_hub]; done)
      | simp [h_now, h_hub]
      | with_reducible refine mask_ite ?_ ?_
      | with_reducible refine goes_ite ?_ ?_
      | split
      | simp +zetaDelta [h_now, h_hub]

@[simp] theorem execLinkStatusPeriod_mask {U : Units} (h_now : U.now = true) (h_hub : U.hub = true) (s : State) :
    Goes U s (execLinkStatusPeriod s) := by
  unfold execLinkStatusPeriod
  split <;> simp [h_now, h_hub]

@[simp] theorem execClassCountsPeriod_mask {U : Units} (h_now : U.now = true) (h_hub : U.hub = true) (s : State) :
    Goes U s (execClassCountsPeriod s) := by
  unfold execClassCountsPeriod
  split <;> simp [h_now, h_hub]

@[simp] theorem bufptrAct_mask {U : Units} (h_hub : U.hub = true) (p : Post) (u : Sub) (s : State) :
    mask U (bufptrAct p u s) = mask U s := by
  unfold bufptrAct
  (repeat' first
    | (simp [h_hub]; done)
    | simp [h_hub]
    | split)

@[simp] theorem execBufptrSupply_mask {U : Units} (h_now : U.now = true) (h_hub : U.hub = true) (dt : Nat)
    (p : Post) (s : State) :
    Goes U s (execBufptrSupply dt p s) := by
  unfold execBufptrSupply
  simp [h_now, h_hub]

@[simp] theorem execBufptrSegmentStray_mask {U : Units} (h_now : U.now = true) (h_hub : U.hub = true) (dt : Nat)
    (p : Post) (s : State) :
    Goes U s (execBufptrSegmentStray dt p s) := by
  unfold execBufptrSegmentStray
  simp [h_now, h_hub]

@[simp] theorem refuseKind_mask {U : Units} (h_now : U.now = true) (h_hub : U.hub = true) (dt kind reason : Nat)
    (p : Post) (s : State) :
    mask U (refuseKind dt kind reason p s) = mask U s := by
  unfold refuseKind
  split <;> simp [h_now, h_hub]

@[simp] theorem execUnknownKind_mask {U : Units} (h_now : U.now = true) (h_hub : U.hub = true) (dt kind : Nat)
    (p : Post) (s : State) :
    Goes U s (execUnknownKind dt kind p s) := by
  unfold execUnknownKind
  simp [h_now, h_hub]

@[simp] theorem execDeliveryKindPosted_mask {U : Units} (h_now : U.now = true) (h_hub : U.hub = true)
    (dt kind : Nat) (p : Post) (s : State) :
    Goes U s (execDeliveryKindPosted dt kind p s) := by
  unfold execDeliveryKindPosted
  simp [h_now, h_hub]

end Sys2Proof.Machine
end

