-- ==== Sys2Proof/Laws/FrameImages.lean ====
section
/-!
SUPPORT. Which units each operation of Machine/Images.lean can touch. A command's lemma says too that it always
answers a next state.
-/
set_option linter.unusedSimpArgs false
set_option linter.unusedVariables false
namespace Sys2Proof.Machine

@[simp] theorem imageCarry_mask {U : Units} (h_lanes : U.lanes = true) (h_hub : U.hub = true) (h_img : U.img = true)
    (h_mar : U.mar = true) (c : ImgCmd) (b : Nat) (s : State) :
    mask U (imageCarry c b s) = mask U s := by
  unfold imageCarry
  (repeat' first
    | (simp [h_lanes, h_hub, h_img, h_mar]; done)
    | simp [h_lanes, h_hub, h_img, h_mar]
    | split)

@[simp] theorem imageNext_mask {U : Units} (h_lanes : U.lanes = true) (h_hub : U.hub = true) (h_img : U.img = true)
    (h_mar : U.mar = true) (k : Nat) (s : State) :
    mask U (imageNext k s) = mask U s := by
  induction k generalizing s with
  | zero => rfl
  | succ k ih =>
    unfold imageNext
    split
    · rw [ih]; simp [h_lanes, h_hub, h_img, h_mar]
    · rfl

@[simp] theorem imageQueue_mask {U : Units} (h_lanes : U.lanes = true) (h_hub : U.hub = true) (h_img : U.img = true)
    (h_mar : U.mar = true) (c : ImgCmd) (s : State) :
    mask U (imageQueue c s) = mask U s := by
  unfold imageQueue
  extract_lets s1
  have q_s1 : mask U s1 = mask U s := by
    simp [s1, h_lanes, h_hub, h_img, h_mar]
  clear_value s1
  simp [h_lanes, h_hub, h_img, h_mar, q_s1]

@[simp] theorem passSegments_mask {U : Units} (h_hub : U.hub = true) (p : Post) (segs : List Segment) (s : State) :
    mask U (passSegments p segs s) = mask U s := by
  unfold passSegments
  first
  | (simp [h_hub]; done)
  | (repeat' split) <;> (simp [h_hub]; done)
  | (repeat' first
      | (simp [h_hub]; done)
      | (with_reducible refine (mask_foldl _ (fun _ _ => ?_) _ _).trans ?_)
      | (with_reducible refine (mask_foldl_fst _ (fun _ _ => ?_) _ _).trans ?_)
      | simp [h_hub]
      | split)

@[simp] theorem execImageStore_mask {U : Units} (h_now : U.now = true) (h_lanes : U.lanes = true)
    (h_hub : U.hub = true) (h_img : U.img = true) (h_mar : U.mar = true) (dt : Nat) (p : Post)
    (segs : List Segment) (s : State) :
    Goes U s (execImageStore dt p segs s) := by
  unfold execImageStore
  simp [h_now, h_lanes, h_hub, h_img, h_mar]

@[simp] theorem execImageSelect_mask {U : Units} (h_now : U.now = true) (h_lanes : U.lanes = true)
    (h_hub : U.hub = true) (h_img : U.img = true) (h_mar : U.mar = true) (dt : Nat) (p : Post) (s : State) :
    Goes U s (execImageSelect dt p s) := by
  unfold execImageSelect
  simp [h_now, h_lanes, h_hub, h_img, h_mar]

@[simp] theorem execImageRestart_mask {U : Units} (h_now : U.now = true) (h_lanes : U.lanes = true)
    (h_hub : U.hub = true) (h_img : U.img = true) (h_mar : U.mar = true) (dt : Nat) (p : Post) (s : State) :
    Goes U s (execImageRestart dt p s) := by
  unfold execImageRestart
  repeat' first
      | (simp [h_now, h_lanes, h_hub, h_img, h_mar]; done)
      | (with_reducible refine (mask_foldl _ (fun _ _ => ?_) _ _).trans ?_)
      | (with_reducible refine (mask_foldl_fst _ (fun _ _ => ?_) _ _).trans ?_)
      | with_reducible apply command_mask
      | intro _
      | (simp +zetaDelta [h_now, h_lanes, h_hub, h_img, h_mar]; done)
      | simp [h_now, h_lanes, h_hub, h_img, h_mar]
      | with_reducible refine mask_ite ?_ ?_
      | with_reducible refine goes_ite ?_ ?_
      | split
      | simp +zetaDelta [h_now, h_lanes, h_hub, h_img, h_mar]

@[simp] theorem execImageBodyWritten_mask {U : Units} (h_now : U.now = true) (h_lanes : U.lanes = true)
    (h_hub : U.hub = true) (h_img : U.img = true) (h_mar : U.mar = true) (dt : Nat) (sha : List Byte)
    (s : State) :
    Goes U s (execImageBodyWritten dt sha s) := by
  unfold execImageBodyWritten
  extract_lets s1
  have q_s1 : mask U s1 = mask U s := by
    simp [s1, h_now, h_lanes, h_hub, h_img, h_mar]
  clear_value s1
  repeat' first
      | (simp [h_now, h_lanes, h_hub, h_img, h_mar, q_s1]; done)
      | (with_reducible refine (mask_foldl _ (fun _ _ => ?_) _ _).trans ?_)
      | (with_reducible refine (mask_foldl_fst _ (fun _ _ => ?_) _ _).trans ?_)
      | with_reducible apply command_mask
      | intro _
      | (simp +zetaDelta [h_now, h_lanes, h_hub, h_img, h_mar, q_s1]; done)
      | simp [h_now, h_lanes, h_hub, h_img, h_mar, q_s1]
      | with_reducible refine mask_ite ?_ ?_
      | with_reducible refine goes_ite ?_ ?_
      | split
      | simp +zetaDelta [h_now, h_lanes, h_hub, h_img, h_mar, q_s1]

@[simp] theorem execImageConfirmLane_mask {U : Units} (h_hub : U.hub = true) (h_img : U.img = true) (i : Fin 2)
    (s : State) :
    Goes U s (execImageConfirmLane i s) := by
  unfold execImageConfirmLane
  (repeat' first
    | (simp [h_hub, h_img]; done)
    | simp [h_hub, h_img]
    | split)

@[simp] theorem execImageConfirmTimer_mask {U : Units} (h_now : U.now = true) (h_hub : U.hub = true)
    (h_img : U.img = true) (fe : Bool) (s : State) :
    Goes U s (execImageConfirmTimer fe s) := by
  unfold execImageConfirmTimer
  (repeat' first
    | (simp [h_now, h_hub, h_img]; done)
    | simp [h_now, h_hub, h_img]
    | split)

@[simp] theorem execCuratorStartFallback_mask {U : Units} (h_now : U.now = true) (h_hub : U.hub = true)
    (h_img : U.img = true) (dt : Nat) (fe : Bool) (s : State) :
    Goes U s (execCuratorStartFallback dt fe s) := by
  unfold execCuratorStartFallback
  (repeat' first
    | (simp [h_now, h_hub, h_img]; done)
    | simp [h_now, h_hub, h_img]
    | split)

end Sys2Proof.Machine
end

