-- ==== Sys2Proof/Laws/FrameLanes.lean ====
section
/-!
SUPPORT. Which units each operation of Machine/Lanes.lean can touch. A command's lemma says too that it always
answers a next state.
-/
set_option linter.unusedSimpArgs false
set_option linter.unusedVariables false
namespace Sys2Proof.Machine

@[simp] theorem execHeartbeat_mask {U : Units} (h_now : U.now = true) (h_lanes : U.lanes = true)
    (h_hub : U.hub = true) (h_cat : U.cat = true) (h_ctl : U.ctl = true) (h_pas : U.pas = true)
    (h_pow : U.pow = true) (h_mar : U.mar = true) (h_can : U.can = true) (h_modem : U.modem = true)
    (h_map : U.map = true) (dt : Nat) (i : Fin 2) (h : Heartbeat) (s : State) :
    Goes U s (execHeartbeat dt i h s) := by
  unfold execHeartbeat
  (repeat' first
    | (simp [h_now, h_lanes, h_hub, h_cat, h_ctl, h_pas, h_pow, h_mar, h_can, h_modem, h_map]; done)
    | simp [h_now, h_lanes, h_hub, h_cat, h_ctl, h_pas, h_pow, h_mar, h_can, h_modem, h_map]
    | split)

@[simp] theorem execHeartbeatTimeout_mask {U : Units} (h_now : U.now = true) (h_lanes : U.lanes = true)
    (h_hub : U.hub = true) (h_mar : U.mar = true) (dt : Nat) (i : Fin 2) (s : State) :
    Goes U s (execHeartbeatTimeout dt i s) := by
  unfold execHeartbeatTimeout
  (repeat' first
    | (simp [h_now, h_lanes, h_hub, h_mar]; done)
    | simp [h_now, h_lanes, h_hub, h_mar]
    | split)

@[simp] theorem execPreferredLaneTimeout_mask {U : Units} (h_now : U.now = true) (h_lanes : U.lanes = true)
    (h_hub : U.hub = true) (h_ctl : U.ctl = true) (h_pas : U.pas = true) (h_pow : U.pow = true)
    (h_mar : U.mar = true) (h_can : U.can = true) (h_modem : U.modem = true) (h_map : U.map = true)
    (s : State) :
    Goes U s (execPreferredLaneTimeout s) := by
  unfold execPreferredLaneTimeout
  (repeat' first
    | (simp [h_now, h_lanes, h_hub, h_ctl, h_pas, h_pow, h_mar, h_can, h_modem, h_map]; done)
    | simp [h_now, h_lanes, h_hub, h_ctl, h_pas, h_pow, h_mar, h_can, h_modem, h_map]
    | split)

@[simp] theorem execLaneStartTimeout_mask {U : Units} (h_now : U.now = true) (h_lanes : U.lanes = true)
    (h_hub : U.hub = true) (h_img : U.img = true) (h_mar : U.mar = true) (i : Fin 2) (s : State) :
    Goes U s (execLaneStartTimeout i s) := by
  unfold execLaneStartTimeout
  (repeat' first
    | (simp [h_now, h_lanes, h_hub, h_img, h_mar]; done)
    | simp [h_now, h_lanes, h_hub, h_img, h_mar]
    | split)

@[simp] theorem execLaneImageLoaded_mask {U : Units} (h_now : U.now = true) (h_lanes : U.lanes = true)
    (h_hub : U.hub = true) (h_img : U.img = true) (h_mar : U.mar = true) (dt : Nat) (i : Fin 2) (ok : Bool)
    (s : State) :
    Goes U s (execLaneImageLoaded dt i ok s) := by
  unfold execLaneImageLoaded
  (repeat' first
    | (simp [h_now, h_lanes, h_hub, h_img, h_mar]; done)
    | simp [h_now, h_lanes, h_hub, h_img, h_mar]
    | split)

@[simp] theorem absentBeats_mask {U : Units} (h_lanes : U.lanes = true) (n : Nat) (s : State) :
    mask U (absentBeats n s) = mask U s := by
  unfold absentBeats
  simp [h_lanes]

@[simp] theorem agreeBeat_mask {U : Units} (h_lanes : U.lanes = true) (s : State) :
    mask U (agreeBeat s) = mask U s := by
  unfold agreeBeat
  simp [h_lanes]

@[simp] theorem mismatchBeat_mask {U : Units} (h_lanes : U.lanes = true) (h_hub : U.hub = true) (s : State) :
    mask U (mismatchBeat s) = mask U s := by
  unfold mismatchBeat
  (repeat' first
    | (simp [h_lanes, h_hub]; done)
    | simp [h_lanes, h_hub]
    | split)

@[simp] theorem execSignature_mask {U : Units} (h_now : U.now = true) (h_lanes : U.lanes = true)
    (h_hub : U.hub = true) (dt : Nat) (i : Fin 2) (k sig : Nat) (crcOk : Bool) (s : State) :
    Goes U s (execSignature dt i k sig crcOk s) := by
  unfold execSignature
  (repeat' first
    | (simp [h_now, h_lanes, h_hub]; done)
    | simp [h_now, h_lanes, h_hub]
    | split)

@[simp] theorem execSelfcheckVerdict_mask {U : Units} (h_now : U.now = true) (h_lanes : U.lanes = true)
    (h_hub : U.hub = true) (h_mar : U.mar = true) (dt : Nat) (i : Fin 2) (pass : Bool) (s : State) :
    Goes U s (execSelfcheckVerdict dt i pass s) := by
  unfold execSelfcheckVerdict
  (repeat' first
    | (simp [h_now, h_lanes, h_hub, h_mar]; done)
    | simp [h_now, h_lanes, h_hub, h_mar]
    | split)

@[simp] theorem execSelfcheckTimeout_mask {U : Units} (h_now : U.now = true) (h_lanes : U.lanes = true)
    (h_hub : U.hub = true) (h_mar : U.mar = true) (s : State) :
    Goes U s (execSelfcheckTimeout s) := by
  unfold execSelfcheckTimeout
  split <;> simp [h_now, h_lanes, h_hub, h_mar]

@[simp] theorem execCuratorWatchdog_mask {U : Units} (h_now : U.now = true) (h_lanes : U.lanes = true)
    (h_hub : U.hub = true) (dt : Nat) (s : State) :
    Goes U s (execCuratorWatchdog dt s) := by
  unfold execCuratorWatchdog
  (repeat' first
    | (simp [h_now, h_lanes, h_hub]; done)
    | simp [h_now, h_lanes, h_hub]
    | split)

@[simp] theorem execCuratorStatus_mask {U : Units} (h_now : U.now = true) (h_lanes : U.lanes = true)
    (h_hub : U.hub = true) (h_sig : U.sig = true) (h_pas : U.pas = true) (h_fus : U.fus = true)
    (h_cam : U.cam = true) (dt : Nat) (i : Fin 2) (s : State) :
    Goes U s (execCuratorStatus dt i s) := by
  unfold execCuratorStatus
  simp [h_now, h_lanes, h_hub, h_sig, h_pas, h_fus, h_cam]

@[simp] theorem execCuratorLinkTimeout_mask {U : Units} (h_now : U.now = true) (h_lanes : U.lanes = true)
    (h_hub : U.hub = true) (h_sig : U.sig = true) (h_pas : U.pas = true) (h_fus : U.fus = true)
    (h_cam : U.cam = true) (i : Fin 2) (s : State) :
    Goes U s (execCuratorLinkTimeout i s) := by
  unfold execCuratorLinkTimeout
  (repeat' first
    | (simp [h_now, h_lanes, h_hub, h_sig, h_pas, h_fus, h_cam]; done)
    | simp [h_now, h_lanes, h_hub, h_sig, h_pas, h_fus, h_cam]
    | split)

@[simp] theorem execTakeoverAck_mask {U : Units} (h_now : U.now = true) (h_lanes : U.lanes = true) (dt : Nat)
    (i : Fin 2) (s : State) :
    Goes U s (execTakeoverAck dt i s) := by
  unfold execTakeoverAck
  (repeat' first
    | (simp [h_now, h_lanes]; done)
    | simp [h_now, h_lanes]
    | split)

@[simp] theorem switchTo_mask {U : Units} (h_now : U.now = true) (h_lanes : U.lanes = true) (h_hub : U.hub = true)
    (h_sig : U.sig = true) (h_ctl : U.ctl = true) (h_pas : U.pas = true) (h_pow : U.pow = true)
    (h_valve : U.valve = true) (h_field : U.field = true) (h_can : U.can = true) (h_modem : U.modem = true)
    (h_disp : U.disp = true) (h_pos : U.pos = true) (h_fus : U.fus = true) (h_cam : U.cam = true)
    (h_map : U.map = true) (w : Switch) (kS : Nat) (old : Option (Fin 2)) (s : State) :
    mask U (switchTo w kS old s) = mask U s := by
  unfold switchTo
  (repeat' first
    | (simp [h_now, h_lanes, h_hub, h_sig, h_ctl, h_pas, h_pow, h_valve, h_field, h_can, h_modem, h_disp, h_pos, h_fus, h_cam, h_map]; done)
    | simp [h_now, h_lanes, h_hub, h_sig, h_ctl, h_pas, h_pow, h_valve, h_field, h_can, h_modem, h_disp, h_pos, h_fus, h_cam, h_map]
    | split)

@[simp] theorem execSwitchBeat_mask {U : Units} (h_now : U.now = true) (h_lanes : U.lanes = true)
    (h_hub : U.hub = true) (h_sig : U.sig = true) (h_ctl : U.ctl = true) (h_pas : U.pas = true)
    (h_pow : U.pow = true) (h_mar : U.mar = true) (h_valve : U.valve = true) (h_field : U.field = true)
    (h_can : U.can = true) (h_modem : U.modem = true) (h_disp : U.disp = true) (h_pos : U.pos = true)
    (h_fus : U.fus = true) (h_cam : U.cam = true) (h_map : U.map = true) (s : State) :
    Goes U s (execSwitchBeat s) := by
  unfold execSwitchBeat
  (repeat' first
    | (simp [h_now, h_lanes, h_hub, h_sig, h_ctl, h_pas, h_pow, h_mar, h_valve, h_field, h_can, h_modem, h_disp, h_pos, h_fus, h_cam, h_map]; done)
    | simp [h_now, h_lanes, h_hub, h_sig, h_ctl, h_pas, h_pow, h_mar, h_valve, h_field, h_can, h_modem, h_disp, h_pos, h_fus, h_cam, h_map]
    | split)

@[simp] theorem execOverlapWindowEnd_mask {U : Units} (h_now : U.now = true) (h_lanes : U.lanes = true)
    (h_hub : U.hub = true) (h_mar : U.mar = true) (h_can : U.can = true) (h_modem : U.modem = true)
    (s : State) :
    Goes U s (execOverlapWindowEnd s) := by
  unfold execOverlapWindowEnd
  (repeat' first
    | (simp [h_now, h_lanes, h_hub, h_mar, h_can, h_modem]; done)
    | simp [h_now, h_lanes, h_hub, h_mar, h_can, h_modem]
    | split)

@[simp] theorem execOutputPathCheck_mask {U : Units} (h_now : U.now = true) (h_lanes : U.lanes = true)
    (h_hub : U.hub = true) (dt : Nat) (path : Fin 4) (s : State) :
    Goes U s (execOutputPathCheck dt path s) := by
  unfold execOutputPathCheck
  (repeat' first
    | (simp [h_now, h_lanes, h_hub]; done)
    | simp [h_now, h_lanes, h_hub]
    | split)

@[simp] theorem execKdLaneSwap_mask {U : Units} (h_now : U.now = true) (h_lanes : U.lanes = true)
    (h_hub : U.hub = true) (dt : Nat) (p : Post) (s : State) :
    Goes U s (execKdLaneSwap dt p s) := by
  unfold execKdLaneSwap
  repeat' first
      | (simp [h_now, h_lanes, h_hub]; done)
      | (with_reducible refine (mask_foldl _ (fun _ _ => ?_) _ _).trans ?_)
      | (with_reducible refine (mask_foldl_fst _ (fun _ _ => ?_) _ _).trans ?_)
      | with_reducible apply command_mask
      | intro _
      | (simp +zetaDelta [h_now, h_lanes, h_hub]; done)
      | simp [h_now, h_lanes, h_hub]
      | with_reducible refine mask_ite ?_ ?_
      | with_reducible refine goes_ite ?_ ?_
      | split
      | simp +zetaDelta [h_now, h_lanes, h_hub]

@[simp] theorem execAutoSwap_mask {U : Units} (h_now : U.now = true) (h_lanes : U.lanes = true) (s : State) :
    Goes U s (execAutoSwap s) := by
  unfold execAutoSwap
  split
  · simp
  · with_reducible refine goes_ite (by simp) ?_
    extract_lets s1
    have q : mask U s1 = mask U s := by
      simp only [s1]
      rw [mask_upLanes h_lanes, reachEl_mask h_now]
    clear_value s1
    split
    · simp [q]
    · with_reducible refine goes_ite ?_ ?_ <;> simp [q, h_lanes]

@[simp] theorem execKdLanePromote_mask {U : Units} (h_now : U.now = true) (h_lanes : U.lanes = true)
    (h_hub : U.hub = true) (dt : Nat) (p : Post) (s : State) :
    Goes U s (execKdLanePromote dt p s) := by
  unfold execKdLanePromote
  repeat' first
      | (simp [h_now, h_lanes, h_hub]; done)
      | (with_reducible refine (mask_foldl _ (fun _ _ => ?_) _ _).trans ?_)
      | (with_reducible refine (mask_foldl_fst _ (fun _ _ => ?_) _ _).trans ?_)
      | with_reducible apply command_mask
      | intro _
      | (simp +zetaDelta [h_now, h_lanes, h_hub]; done)
      | simp [h_now, h_lanes, h_hub]
      | with_reducible refine mask_ite ?_ ?_
      | with_reducible refine goes_ite ?_ ?_
      | split
      | simp +zetaDelta [h_now, h_lanes, h_hub]

@[simp] theorem execCheckpointRequest_mask {U : Units} (h_now : U.now = true) (h_lanes : U.lanes = true) (dt : Nat)
    (i : Fin 2) (ahead : Nat) (s : State) :
    Goes U s (execCheckpointRequest dt i ahead s) := by
  unfold execCheckpointRequest
  (repeat' first
    | (simp [h_now, h_lanes]; done)
    | simp [h_now, h_lanes]
    | split)

@[simp] theorem execCheckpointCapture_mask {U : Units} (h_now : U.now = true) (h_lanes : U.lanes = true) (i : Fin 2)
    (s : State) :
    Goes U s (execCheckpointCapture i s) := by
  unfold execCheckpointCapture
  split <;> simp [h_now, h_lanes]

@[simp] theorem execCheckpointReceived_mask {U : Units} (h_now : U.now = true) (h_lanes : U.lanes = true) (dt : Nat)
    (i : Fin 2) (s : State) :
    Goes U s (execCheckpointReceived dt i s) := by
  unfold execCheckpointReceived
  (repeat' first
    | (simp [h_now, h_lanes]; done)
    | simp [h_now, h_lanes]
    | split)

@[simp] theorem execCheckpointLoaded_mask {U : Units} (h_now : U.now = true) (h_lanes : U.lanes = true) (dt : Nat)
    (i : Fin 2) (s : State) :
    Goes U s (execCheckpointLoaded dt i s) := by
  unfold execCheckpointLoaded
  (repeat' first
    | (simp [h_now, h_lanes]; done)
    | simp [h_now, h_lanes]
    | split)

@[simp] theorem execReplayJoinsLive_mask {U : Units} (h_now : U.now = true) (h_lanes : U.lanes = true) (dt : Nat)
    (i : Fin 2) (s : State) :
    Goes U s (execReplayJoinsLive dt i s) := by
  unfold execReplayJoinsLive
  (repeat' first
    | (simp [h_now, h_lanes]; done)
    | simp [h_now, h_lanes]
    | split)

@[simp] theorem execJournalFull_mask {U : Units} (h_now : U.now = true) (h_lanes : U.lanes = true)
    (h_hub : U.hub = true) (dt : Nat) (i : Fin 2) (s : State) :
    Goes U s (execJournalFull dt i s) := by
  unfold execJournalFull
  (repeat' first
    | (simp [h_now, h_lanes, h_hub]; done)
    | simp [h_now, h_lanes, h_hub]
    | split)

@[simp] theorem execRebuildTimeout_mask {U : Units} (h_now : U.now = true) (h_lanes : U.lanes = true)
    (h_hub : U.hub = true) (i : Fin 2) (s : State) :
    Goes U s (execRebuildTimeout i s) := by
  unfold execRebuildTimeout
  (repeat' first
    | (simp [h_now, h_lanes, h_hub]; done)
    | simp [h_now, h_lanes, h_hub]
    | split)

@[simp] theorem execStandbyReady_mask {U : Units} (h_lanes : U.lanes = true) (h_hub : U.hub = true) (i : Fin 2)
    (s : State) :
    Goes U s (execStandbyReady i s) := by
  unfold execStandbyReady
  (repeat' first
    | (simp [h_lanes, h_hub]; done)
    | simp [h_lanes, h_hub]
    | split)

@[simp] theorem execLaneStatusPeriod_mask {U : Units} (h_now : U.now = true) (h_lanes : U.lanes = true)
    (h_hub : U.hub = true) (s : State) :
    Goes U s (execLaneStatusPeriod s) := by
  unfold execLaneStatusPeriod
  split <;> simp [h_now, h_lanes, h_hub]

@[simp] theorem vectorOf_mask {U : Units} (h_lanes : U.lanes = true) (h_hub : U.hub = true) (k : Nat) (s : State) :
    mask U (vectorOf k s) = mask U s := by
  unfold vectorOf
  simp [h_lanes, h_hub]

@[simp] theorem execBeat_mask {U : Units} (h_now : U.now = true) (h_lanes : U.lanes = true) (h_hub : U.hub = true)
    (h_cat : U.cat = true) (h_sig : U.sig = true) (h_field : U.field = true) (h_can : U.can = true)
    (h_modem : U.modem = true) (h_disp : U.disp = true) (h_cam : U.cam = true) (s : State) :
    Goes U s (execBeat s) := by
  unfold execBeat
  repeat' first
      | (simp [h_now, h_lanes, h_hub, h_cat, h_sig, h_field, h_can, h_modem, h_disp, h_cam]; done)
      | (with_reducible refine (mask_foldl _ (fun _ _ => ?_) _ _).trans ?_)
      | (with_reducible refine (mask_foldl_fst _ (fun _ _ => ?_) _ _).trans ?_)
      | with_reducible apply command_mask
      | intro _
      | (simp +zetaDelta [h_now, h_lanes, h_hub, h_cat, h_sig, h_field, h_can, h_modem, h_disp, h_cam]; done)
      | simp [h_now, h_lanes, h_hub, h_cat, h_sig, h_field, h_can, h_modem, h_disp, h_cam]
      | with_reducible refine mask_ite ?_ ?_
      | with_reducible refine goes_ite ?_ ?_
      | split
      | simp +zetaDelta [h_now, h_lanes, h_hub, h_cat, h_sig, h_field, h_can, h_modem, h_disp, h_cam]

@[simp] theorem closeInput_mask {U : Units} (h_sig : U.sig = true) (h_ctl : U.ctl = true) (b : Nat) (x : PendIn)
    (s : State) :
    mask U (closeInput b x s) = mask U s := by
  unfold closeInput
  simp [h_sig, h_ctl]

@[simp] theorem closeBatch_mask {U : Units} (h_hub : U.hub = true) (h_sig : U.sig = true) (h_ctl : U.ctl = true)
    (h_can : U.can = true) (b : Nat) (s : State) :
    mask U (closeBatch b s) = mask U s := by
  unfold closeBatch
  first
  | (simp [h_hub, h_sig, h_ctl, h_can]; done)
  | (repeat' split) <;> (simp [h_hub, h_sig, h_ctl, h_can]; done)
  | (repeat' first
      | (simp [h_hub, h_sig, h_ctl, h_can]; done)
      | (with_reducible refine (mask_foldl _ (fun _ _ => ?_) _ _).trans ?_)
      | (with_reducible refine (mask_foldl_fst _ (fun _ _ => ?_) _ _).trans ?_)
      | simp [h_hub, h_sig, h_ctl, h_can]
      | split)

@[simp] theorem execBeatBatchClose_mask {U : Units} (h_now : U.now = true) (h_hub : U.hub = true)
    (h_sig : U.sig = true) (h_ctl : U.ctl = true) (h_can : U.can = true) (s : State) :
    Goes U s (execBeatBatchClose s) := by
  unfold execBeatBatchClose
  first
  | (simp [h_now, h_hub, h_sig, h_ctl, h_can]; done)
  | (repeat' split) <;> (simp [h_now, h_hub, h_sig, h_ctl, h_can]; done)
  | (repeat' first
      | (simp [h_now, h_hub, h_sig, h_ctl, h_can]; done)
      | (with_reducible refine (mask_foldl _ (fun _ _ => ?_) _ _).trans ?_)
      | (with_reducible refine (mask_foldl_fst _ (fun _ _ => ?_) _ _).trans ?_)
      | simp [h_now, h_hub, h_sig, h_ctl, h_can]
      | split)

end Sys2Proof.Machine
end

