-- ==== Sys2Proof/Laws/FrameLedger.lean ====
section
/-!
SUPPORT. Which units each operation of Machine/Ledger.lean can touch. A command's lemma says too that it always
answers a next state.
-/
set_option linter.unusedSimpArgs false
set_option linter.unusedVariables false
namespace Sys2Proof.Machine

@[simp] theorem upLedger_mask {U : Units} (h_hub : U.hub = true) (f : Ledger → Ledger) (s : State) :
    mask U (upLedger f s) = mask U s := by
  unfold upLedger
  simp [h_hub]

@[simp] theorem writeRecord_mask {U : Units} (h_hub : U.hub = true) (r : LRec) (vec : Option Nat) (s : State) :
    mask U (writeRecord r vec s) = mask U s := by
  unfold writeRecord
  (repeat' first
    | (simp [h_hub]; done)
    | simp [h_hub]
    | split)

@[simp] theorem writeNext_mask {U : Units} (h_hub : U.hub = true) (s : State) :
    mask U (writeNext s) = mask U s := by
  unfold writeNext
  split <;> simp [h_hub]

@[simp] theorem writeAll_mask {U : Units} (h_hub : U.hub = true) (s : State) :
    mask U (writeAll s) = mask U s := by
  unfold writeAll
  first
  | (simp [h_hub]; done)
  | (repeat' split) <;> (simp [h_hub]; done)
  | (repeat' first
      | (simp [h_hub]; done)
      | (with_reducible refine (mask_foldl _ (fun _ _ => ?_) _ _).trans ?_)
      | (with_reducible refine (mask_foldl_fst _ (fun _ _ => ?_) _ _).trans ?_)
      | simp [h_hub]
      | split)

@[simp] theorem execLedgerWriteComplete_mask {U : Units} (h_now : U.now = true) (h_hub : U.hub = true) (dt : Nat)
    (s : State) :
    Goes U s (execLedgerWriteComplete dt s) := by
  unfold execLedgerWriteComplete
  (repeat' first
    | (simp [h_now, h_hub]; done)
    | simp [h_now, h_hub]
    | split)

@[simp] theorem endWindow_mask {U : Units} (h_hub : U.hub = true) (w : Window) (eff start fl : Nat) (s : State) :
    mask U (endWindow w eff start fl s) = mask U s := by
  unfold endWindow
  refine (mask_foldl _ (fun _ _ => ?_) _ _).trans ?_
  · simp [h_hub]
  · split <;> split <;> simp [h_hub]

@[simp] theorem execCoalesceWindowEnd_mask {U : Units} (h_now : U.now = true) (h_hub : U.hub = true)
    (src inst : Nat) (s : State) :
    Goes U s (execCoalesceWindowEnd src inst s) := by
  unfold execCoalesceWindowEnd
  split <;> simp [h_now, h_hub]

@[simp] theorem ledgerNext_mask {U : Units} (h_hub : U.hub = true) (s : State) :
    mask U (ledgerNext s) = mask U s := by
  unfold ledgerNext
  simp [h_hub]

@[simp] theorem ledgerQueue_mask {U : Units} (h_hub : U.hub = true) (c : LgCmd) (s : State) :
    mask U (ledgerQueue c s) = mask U s := by
  unfold ledgerQueue
  simp [h_hub]

@[simp] theorem execKdLedgerCopy_mask {U : Units} (h_now : U.now = true) (h_hub : U.hub = true) (dt : Nat)
    (p : Post) (s : State) :
    Goes U s (execKdLedgerCopy dt p s) := by
  unfold execKdLedgerCopy
  simp [h_now, h_hub]

@[simp] theorem execLedgerCopyDone_mask {U : Units} (h_now : U.now = true) (h_hub : U.hub = true) (dt : Nat)
    (s : State) :
    Goes U s (execLedgerCopyDone dt s) := by
  unfold execLedgerCopyDone
  (repeat' first
    | (simp [h_now, h_hub]; done)
    | simp [h_now, h_hub]
    | split)

@[simp] theorem execKdLedgerClear_mask {U : Units} (h_now : U.now = true) (h_hub : U.hub = true) (dt : Nat)
    (p : Post) (s : State) :
    Goes U s (execKdLedgerClear dt p s) := by
  unfold execKdLedgerClear
  simp [h_now, h_hub]

@[simp] theorem execLedgerClearDone_mask {U : Units} (h_now : U.now = true) (h_hub : U.hub = true) (dt : Nat)
    (s : State) :
    Goes U s (execLedgerClearDone dt s) := by
  unfold execLedgerClearDone
  (repeat' first
    | (simp [h_now, h_hub]; done)
    | simp [h_now, h_hub]
    | split)

end Sys2Proof.Machine
end

