-- ==== Sys2Proof/Laws/FrameMap.lean ====
section
/-!
SUPPORT. Which units each operation of Machine/Map.lean can touch. A command's lemma says too that it always
answers a next state.
-/
set_option linter.unusedSimpArgs false
set_option linter.unusedVariables false
namespace Sys2Proof.Machine

@[simp] theorem fieldCommand_mask {U : Units} (h_now : U.now = true) (h_hub : U.hub = true) (h_map : U.map = true)
    (dt what : Nat) (p : Post) (s : State) :
    mask U (fieldCommand dt what p s) = mask U s := by
  unfold fieldCommand
  simp [h_now, h_hub, h_map]

@[simp] theorem execFieldOpen_mask {U : Units} (h_now : U.now = true) (h_hub : U.hub = true) (h_map : U.map = true)
    (dt : Nat) (p : Post) (s : State) :
    Goes U s (execFieldOpen dt p s) := by
  unfold execFieldOpen
  simp [h_now, h_hub, h_map]

@[simp] theorem execFieldClose_mask {U : Units} (h_now : U.now = true) (h_hub : U.hub = true) (h_map : U.map = true)
    (dt : Nat) (p : Post) (s : State) :
    Goes U s (execFieldClose dt p s) := by
  unfold execFieldClose
  simp [h_now, h_hub, h_map]

@[simp] theorem execFieldDiscard_mask {U : Units} (h_now : U.now = true) (h_hub : U.hub = true)
    (h_map : U.map = true) (dt : Nat) (p : Post) (s : State) :
    Goes U s (execFieldDiscard dt p s) := by
  unfold execFieldDiscard
  simp [h_now, h_hub, h_map]

@[simp] theorem execFieldNew_mask {U : Units} (h_now : U.now = true) (h_hub : U.hub = true) (h_map : U.map = true)
    (dt : Nat) (p : Post) (s : State) :
    Goes U s (execFieldNew dt p s) := by
  unfold execFieldNew
  simp [h_now, h_hub, h_map]

@[simp] theorem execFieldCloseFlushed_mask {U : Units} (h_now : U.now = true) (h_hub : U.hub = true)
    (h_map : U.map = true) (dt : Nat) (s : State) :
    Goes U s (execFieldCloseFlushed dt s) := by
  unfold execFieldCloseFlushed
  (repeat' first
    | (simp [h_now, h_hub, h_map]; done)
    | simp [h_now, h_hub, h_map]
    | split)

@[simp] theorem execMapFlushPeriod_mask {U : Units} (h_now : U.now = true) (h_hub : U.hub = true)
    (h_map : U.map = true) (s : State) :
    Goes U s (execMapFlushPeriod s) := by
  unfold execMapFlushPeriod
  extract_lets t s1
  clear_value t
  have q_s1 : mask U s1 = mask U s := by
    simp [s1, h_now, h_hub, h_map]
  clear_value s1
  repeat' first
      | (simp [h_now, h_hub, h_map, q_s1]; done)
      | (with_reducible refine (mask_foldl _ (fun _ _ => ?_) _ _).trans ?_)
      | (with_reducible refine (mask_foldl_fst _ (fun _ _ => ?_) _ _).trans ?_)
      | with_reducible apply command_mask
      | intro _
      | (simp +zetaDelta [h_now, h_hub, h_map, q_s1]; done)
      | simp [h_now, h_hub, h_map, q_s1]
      | with_reducible refine mask_ite ?_ ?_
      | with_reducible refine goes_ite ?_ ?_
      | split
      | simp +zetaDelta [h_now, h_hub, h_map, q_s1]

@[simp] theorem execMapSummaryPeriod_mask {U : Units} (h_now : U.now = true) (h_hub : U.hub = true)
    (h_map : U.map = true) (s : State) :
    Goes U s (execMapSummaryPeriod s) := by
  unfold execMapSummaryPeriod
  (repeat' first
    | (simp [h_now, h_hub, h_map]; done)
    | simp [h_now, h_hub, h_map]
    | split)

@[simp] theorem tileRequest_mask {U : Units} (h_now : U.now = true) (h_hub : U.hub = true) (h_map : U.map = true)
    (dt what : Nat) (p : Post) (s : State) :
    mask U (tileRequest dt what p s) = mask U s := by
  unfold tileRequest
  simp [h_now, h_hub, h_map]

@[simp] theorem execTileRequestTile_mask {U : Units} (h_now : U.now = true) (h_hub : U.hub = true)
    (h_map : U.map = true) (dt : Nat) (p : Post) (s : State) :
    Goes U s (execTileRequestTile dt p s) := by
  unfold execTileRequestTile
  simp [h_now, h_hub, h_map]

@[simp] theorem execTileRequestSummary_mask {U : Units} (h_now : U.now = true) (h_hub : U.hub = true)
    (h_map : U.map = true) (dt : Nat) (p : Post) (s : State) :
    Goes U s (execTileRequestSummary dt p s) := by
  unfold execTileRequestSummary
  simp [h_now, h_hub, h_map]

@[simp] theorem execTileRequestAll_mask {U : Units} (h_now : U.now = true) (h_hub : U.hub = true)
    (h_map : U.map = true) (dt : Nat) (p : Post) (s : State) :
    Goes U s (execTileRequestAll dt p s) := by
  unfold execTileRequestAll
  simp [h_now, h_hub, h_map]

end Sys2Proof.Machine
end

