-- ==== Sys2Proof/Laws/FrameModem.lean ====
section
/-!
SUPPORT. Which units each operation of Machine/Modem.lean can touch. A command's lemma says too that it always
answers a next state.
-/
set_option linter.unusedSimpArgs false
set_option linter.unusedVariables false
namespace Sys2Proof.Machine

@[simp] theorem execModemCharacter_mask {U : Units} (h_now : U.now = true) (h_hub : U.hub = true)
    (h_modem : U.modem = true) (dt ago : Nat) (b : Byte) (stopLow : Bool) (s : State) :
    Goes U s (execModemCharacter dt ago b stopLow s) := by
  unfold execModemCharacter
  (repeat' first
    | (simp [h_now, h_hub, h_modem]; done)
    | simp [h_now, h_hub, h_modem]
    | split)

@[simp] theorem execModemBreak_mask {U : Units} (h_now : U.now = true) (h_hub : U.hub = true)
    (h_modem : U.modem = true) (dt : Nat) (s : State) :
    Goes U s (execModemBreak dt s) := by
  unfold execModemBreak
  (repeat' first
    | (simp [h_now, h_hub, h_modem]; done)
    | simp [h_now, h_hub, h_modem]
    | split)

@[simp] theorem execModemReaderPass_mask {U : Units} (h_now : U.now = true) (h_hub : U.hub = true)
    (h_modem : U.modem = true) (h_pos : U.pos = true) (dt : Nat) (s : State) :
    Goes U s (execModemReaderPass dt s) := by
  unfold execModemReaderPass
  (repeat' first
    | (simp [h_now, h_hub, h_modem, h_pos]; done)
    | simp [h_now, h_hub, h_modem, h_pos]
    | split)

@[simp] theorem execModemCreditReturn_mask {U : Units} (h_now : U.now = true) (h_modem : U.modem = true) (dt : Nat)
    (s : State) :
    Goes U s (execModemCreditReturn dt s) := by
  unfold execModemCreditReturn
  simp [h_now, h_modem]

@[simp] theorem execKdModemTx_mask {U : Units} (h_now : U.now = true) (h_lanes : U.lanes = true)
    (h_hub : U.hub = true) (h_modem : U.modem = true) (dt : Nat) (p : Post) (s : State) :
    Goes U s (execKdModemTx dt p s) := by
  unfold execKdModemTx
  extract_lets at_
  clear_value at_
  repeat' first
      | (simp [h_now, h_lanes, h_hub, h_modem]; done)
      | (with_reducible refine (mask_foldl _ (fun _ _ => ?_) _ _).trans ?_)
      | (with_reducible refine (mask_foldl_fst _ (fun _ _ => ?_) _ _).trans ?_)
      | with_reducible apply command_mask
      | intro _
      | (simp +zetaDelta [h_now, h_lanes, h_hub, h_modem]; done)
      | simp [h_now, h_lanes, h_hub, h_modem]
      | with_reducible refine mask_ite ?_ ?_
      | with_reducible refine goes_ite ?_ ?_
      | split
      | simp +zetaDelta [h_now, h_lanes, h_hub, h_modem]

@[simp] theorem execMdmReadyChange_mask {U : Units} (h_now : U.now = true) (h_hub : U.hub = true)
    (h_modem : U.modem = true) (dt : Nat) (high : Bool) (s : State) :
    Goes U s (execMdmReadyChange dt high s) := by
  unfold execMdmReadyChange
  (repeat' first
    | (simp [h_now, h_hub, h_modem]; done)
    | simp [h_now, h_hub, h_modem]
    | split)

@[simp] theorem execModemCharacterSent_mask {U : Units} (h_now : U.now = true) (h_hub : U.hub = true)
    (h_modem : U.modem = true) (dt : Nat) (s : State) :
    Goes U s (execModemCharacterSent dt s) := by
  unfold execModemCharacterSent
  (repeat' first
    | (simp [h_now, h_hub, h_modem]; done)
    | simp [h_now, h_hub, h_modem]
    | split)

@[simp] theorem execModemTxStall_mask {U : Units} (h_now : U.now = true) (h_hub : U.hub = true)
    (h_modem : U.modem = true) (s : State) :
    Goes U s (execModemTxStall s) := by
  unfold execModemTxStall
  (repeat' first
    | (simp [h_now, h_hub, h_modem]; done)
    | simp [h_now, h_hub, h_modem]
    | split)

@[simp] theorem execModemTxLifetime_mask {U : Units} (h_now : U.now = true) (h_hub : U.hub = true)
    (h_modem : U.modem = true) (s : State) :
    Goes U s (execModemTxLifetime s) := by
  unfold execModemTxLifetime
  first
  | (simp [h_now, h_hub, h_modem]; done)
  | (repeat' split) <;> (simp [h_now, h_hub, h_modem]; done)
  | (repeat' first
      | (simp [h_now, h_hub, h_modem]; done)
      | (with_reducible refine (mask_foldl _ (fun _ _ => ?_) _ _).trans ?_)
      | (with_reducible refine (mask_foldl_fst _ (fun _ _ => ?_) _ _).trans ?_)
      | simp [h_now, h_hub, h_modem]
      | split)

@[simp] theorem execModemStatusPeriod_mask {U : Units} (h_now : U.now = true) (h_hub : U.hub = true)
    (h_modem : U.modem = true) (ring : Bool) (s : State) :
    Goes U s (execModemStatusPeriod ring s) := by
  unfold execModemStatusPeriod
  (repeat' first
    | (simp [h_now, h_hub, h_modem]; done)
    | simp [h_now, h_hub, h_modem]
    | split)

end Sys2Proof.Machine
end

