-- ==== Sys2Proof/Laws/FrameSettings.lean ====
section
/-!
SUPPORT. Which units each operation of Machine/Settings.lean can touch. A command's lemma says too that it always
answers a next state.
-/
set_option linter.unusedSimpArgs false
set_option linter.unusedVariables false
namespace Sys2Proof.Machine

@[simp] theorem execKdCatOpen_mask {U : Units} (h_now : U.now = true) (h_hub : U.hub = true) (h_cat : U.cat = true)
    (dt : Nat) (p : Post) (s : State) :
    Goes U s (execKdCatOpen dt p s) := by
  unfold execKdCatOpen
  repeat' first
      | (simp [h_now, h_hub, h_cat]; done)
      | (with_reducible refine (mask_foldl _ (fun _ _ => ?_) _ _).trans ?_)
      | (with_reducible refine (mask_foldl_fst _ (fun _ _ => ?_) _ _).trans ?_)
      | with_reducible apply command_mask
      | intro _
      | (simp +zetaDelta [h_now, h_hub, h_cat]; done)
      | simp [h_now, h_hub, h_cat]
      | with_reducible refine mask_ite ?_ ?_
      | with_reducible refine goes_ite ?_ ?_
      | split
      | simp +zetaDelta [h_now, h_hub, h_cat]

@[simp] theorem closeTxn_mask {U : Units} (h_cat : U.cat = true) (s : State) :
    mask U (closeTxn s) = mask U s := by
  unfold closeTxn
  simp [h_cat]

@[simp] theorem schedule_mask {U : Units} (h_cat : U.cat = true) (x : Sched) (s : State) :
    mask U (schedule x s) = mask U s := by
  unfold schedule
  simp [h_cat]

@[simp] theorem execKdCatCommit_mask {U : Units} (h_now : U.now = true) (h_hub : U.hub = true)
    (h_cat : U.cat = true) (dt : Nat) (p : Post) (s : State) :
    Goes U s (execKdCatCommit dt p s) := by
  unfold execKdCatCommit
  repeat' first
      | (simp [h_now, h_hub, h_cat]; done)
      | (with_reducible refine (mask_foldl _ (fun _ _ => ?_) _ _).trans ?_)
      | (with_reducible refine (mask_foldl_fst _ (fun _ _ => ?_) _ _).trans ?_)
      | with_reducible apply command_mask
      | intro _
      | (simp +zetaDelta [h_now, h_hub, h_cat]; done)
      | simp [h_now, h_hub, h_cat]
      | with_reducible refine mask_ite ?_ ?_
      | with_reducible refine goes_ite ?_ ?_
      | split
      | simp +zetaDelta [h_now, h_hub, h_cat]

@[simp] theorem execKdCatAbort_mask {U : Units} (h_now : U.now = true) (h_hub : U.hub = true) (h_cat : U.cat = true)
    (dt : Nat) (p : Post) (s : State) :
    Goes U s (execKdCatAbort dt p s) := by
  unfold execKdCatAbort
  repeat' first
      | (simp [h_now, h_hub, h_cat]; done)
      | (with_reducible refine (mask_foldl _ (fun _ _ => ?_) _ _).trans ?_)
      | (with_reducible refine (mask_foldl_fst _ (fun _ _ => ?_) _ _).trans ?_)
      | with_reducible apply command_mask
      | intro _
      | (simp +zetaDelta [h_now, h_hub, h_cat]; done)
      | simp [h_now, h_hub, h_cat]
      | with_reducible refine mask_ite ?_ ?_
      | with_reducible refine goes_ite ?_ ?_
      | split
      | simp +zetaDelta [h_now, h_hub, h_cat]

@[simp] theorem abortTxn_mask {U : Units} (h_hub : U.hub = true) (h_cat : U.cat = true) (reason eff : Nat) (s : State) :
    mask U (abortTxn reason eff s) = mask U s := by
  unfold abortTxn
  split <;> simp [h_hub, h_cat]

@[simp] theorem execCatTransactionTimeout_mask {U : Units} (h_now : U.now = true) (h_hub : U.hub = true)
    (h_cat : U.cat = true) (s : State) :
    Goes U s (execCatTransactionTimeout s) := by
  unfold execCatTransactionTimeout
  split <;> simp [h_now, h_hub, h_cat]

@[simp] theorem settings_mask {U : Units} (h_now : U.now = true) (h_hub : U.hub = true) (h_cat : U.cat = true)
    (kind dt : Nat) (p : Post) (s : State) :
    mask U (settings kind dt p s) = mask U s := by
  unfold settings
  (repeat' first
    | (simp [h_now, h_hub, h_cat]; done)
    | simp [h_now, h_hub, h_cat]
    | split)

@[simp] theorem execKdTimeSettings_mask {U : Units} (h_now : U.now = true) (h_hub : U.hub = true)
    (h_cat : U.cat = true) (dt : Nat) (p : Post) (s : State) :
    Goes U s (execKdTimeSettings dt p s) := by
  unfold execKdTimeSettings
  simp [h_now, h_hub, h_cat]

@[simp] theorem execKdLaneSettings_mask {U : Units} (h_now : U.now = true) (h_hub : U.hub = true)
    (h_cat : U.cat = true) (dt : Nat) (p : Post) (s : State) :
    Goes U s (execKdLaneSettings dt p s) := by
  unfold execKdLaneSettings
  simp [h_now, h_hub, h_cat]

@[simp] theorem execKdPassageSettings_mask {U : Units} (h_now : U.now = true) (h_hub : U.hub = true)
    (h_cat : U.cat = true) (dt : Nat) (p : Post) (s : State) :
    Goes U s (execKdPassageSettings dt p s) := by
  unfold execKdPassageSettings
  simp [h_now, h_hub, h_cat]

@[simp] theorem execKdCropSettings_mask {U : Units} (h_now : U.now = true) (h_hub : U.hub = true)
    (h_cat : U.cat = true) (dt : Nat) (p : Post) (s : State) :
    Goes U s (execKdCropSettings dt p s) := by
  unfold execKdCropSettings
  simp [h_now, h_hub, h_cat]

@[simp] theorem execKdLoopSettings_mask {U : Units} (h_now : U.now = true) (h_hub : U.hub = true)
    (h_cat : U.cat = true) (dt : Nat) (p : Post) (s : State) :
    Goes U s (execKdLoopSettings dt p s) := by
  unfold execKdLoopSettings
  simp [h_now, h_hub, h_cat]

@[simp] theorem execKdGroupSettings_mask {U : Units} (h_now : U.now = true) (h_hub : U.hub = true)
    (h_cat : U.cat = true) (dt : Nat) (p : Post) (s : State) :
    Goes U s (execKdGroupSettings dt p s) := by
  unfold execKdGroupSettings
  simp [h_now, h_hub, h_cat]

@[simp] theorem execKdValveSettings_mask {U : Units} (h_now : U.now = true) (h_hub : U.hub = true)
    (h_cat : U.cat = true) (dt : Nat) (p : Post) (s : State) :
    Goes U s (execKdValveSettings dt p s) := by
  unfold execKdValveSettings
  simp [h_now, h_hub, h_cat]

@[simp] theorem execKdMapSettings_mask {U : Units} (h_now : U.now = true) (h_hub : U.hub = true)
    (h_cat : U.cat = true) (dt : Nat) (p : Post) (s : State) :
    Goes U s (execKdMapSettings dt p s) := by
  unfold execKdMapSettings
  simp [h_now, h_hub, h_cat]

@[simp] theorem execKdGnssSettings_mask {U : Units} (h_now : U.now = true) (h_hub : U.hub = true)
    (h_cat : U.cat = true) (dt : Nat) (p : Post) (s : State) :
    Goes U s (execKdGnssSettings dt p s) := by
  unfold execKdGnssSettings
  simp [h_now, h_hub, h_cat]

@[simp] theorem execKdFusionSettings_mask {U : Units} (h_now : U.now = true) (h_hub : U.hub = true)
    (h_cat : U.cat = true) (dt : Nat) (p : Post) (s : State) :
    Goes U s (execKdFusionSettings dt p s) := by
  unfold execKdFusionSettings
  simp [h_now, h_hub, h_cat]

@[simp] theorem execKdCameraSettings_mask {U : Units} (h_now : U.now = true) (h_hub : U.hub = true)
    (h_cat : U.cat = true) (dt : Nat) (p : Post) (s : State) :
    Goes U s (execKdCameraSettings dt p s) := by
  unfold execKdCameraSettings
  simp [h_now, h_hub, h_cat]

@[simp] theorem execKdFieldSettings_mask {U : Units} (h_now : U.now = true) (h_hub : U.hub = true)
    (h_cat : U.cat = true) (dt : Nat) (p : Post) (s : State) :
    Goes U s (execKdFieldSettings dt p s) := by
  unfold execKdFieldSettings
  simp [h_now, h_hub, h_cat]

@[simp] theorem execKdCanSettings_mask {U : Units} (h_now : U.now = true) (h_hub : U.hub = true)
    (h_cat : U.cat = true) (dt : Nat) (p : Post) (s : State) :
    Goes U s (execKdCanSettings dt p s) := by
  unfold execKdCanSettings
  simp [h_now, h_hub, h_cat]

@[simp] theorem execKdCanObjectSettings_mask {U : Units} (h_now : U.now = true) (h_hub : U.hub = true)
    (h_cat : U.cat = true) (dt : Nat) (p : Post) (s : State) :
    Goes U s (execKdCanObjectSettings dt p s) := by
  unfold execKdCanObjectSettings
  simp [h_now, h_hub, h_cat]

@[simp] theorem execKdModemSettings_mask {U : Units} (h_now : U.now = true) (h_hub : U.hub = true)
    (h_cat : U.cat = true) (dt : Nat) (p : Post) (s : State) :
    Goes U s (execKdModemSettings dt p s) := by
  unfold execKdModemSettings
  simp [h_now, h_hub, h_cat]

@[simp] theorem execKdDisplaySettings_mask {U : Units} (h_now : U.now = true) (h_hub : U.hub = true)
    (h_cat : U.cat = true) (dt : Nat) (p : Post) (s : State) :
    Goes U s (execKdDisplaySettings dt p s) := by
  unfold execKdDisplaySettings
  simp [h_now, h_hub, h_cat]

@[simp] theorem execKdEventSettings_mask {U : Units} (h_now : U.now = true) (h_hub : U.hub = true)
    (h_cat : U.cat = true) (dt : Nat) (p : Post) (s : State) :
    Goes U s (execKdEventSettings dt p s) := by
  unfold execKdEventSettings
  simp [h_now, h_hub, h_cat]

@[simp] theorem execKdCalUser_mask {U : Units} (h_now : U.now = true) (h_hub : U.hub = true) (h_cat : U.cat = true)
    (dt : Nat) (p : Post) (s : State) :
    Goes U s (execKdCalUser dt p s) := by
  unfold execKdCalUser
  simp [h_now, h_hub, h_cat]

@[simp] theorem execKdPowerSettings_mask {U : Units} (h_now : U.now = true) (h_hub : U.hub = true)
    (h_cat : U.cat = true) (dt : Nat) (p : Post) (s : State) :
    Goes U s (execKdPowerSettings dt p s) := by
  unfold execKdPowerSettings
  simp [h_now, h_hub, h_cat]

@[simp] theorem execKdCatRead_mask {U : Units} (h_now : U.now = true) (h_hub : U.hub = true) (dt : Nat) (p : Post)
    (s : State) :
    Goes U s (execKdCatRead dt p s) := by
  unfold execKdCatRead
  repeat' first
      | (simp [h_now, h_hub]; done)
      | (with_reducible refine (mask_foldl _ (fun _ _ => ?_) _ _).trans ?_)
      | (with_reducible refine (mask_foldl_fst _ (fun _ _ => ?_) _ _).trans ?_)
      | with_reducible apply command_mask
      | intro _
      | (simp +zetaDelta [h_now, h_hub]; done)
      | simp [h_now, h_hub]
      | with_reducible refine mask_ite ?_ ?_
      | with_reducible refine goes_ite ?_ ?_
      | split
      | simp +zetaDelta [h_now, h_hub]

@[simp] theorem execCommitBoundary_mask {U : Units} (h_now : U.now = true) (h_hub : U.hub = true)
    (h_cat : U.cat = true) (h_sig : U.sig = true) (h_ctl : U.ctl = true) (h_pas : U.pas = true)
    (h_pow : U.pow = true) (h_valve : U.valve = true) (h_field : U.field = true) (h_can : U.can = true)
    (h_modem : U.modem = true) (h_disp : U.disp = true) (h_fus : U.fus = true) (h_cam : U.cam = true)
    (s : State) :
    Goes U s (execCommitBoundary s) := by
  unfold execCommitBoundary
  (repeat' split) <;> simp [h_now, h_hub, h_cat, h_sig, h_ctl, h_pas, h_pow, h_valve, h_field, h_can, h_modem, h_disp, h_fus, h_cam]

@[simp] theorem execKdRestoreFactory_mask {U : Units} (h_now : U.now = true) (h_hub : U.hub = true)
    (h_cat : U.cat = true) (dt : Nat) (p : Post) (s : State) :
    Goes U s (execKdRestoreFactory dt p s) := by
  unfold execKdRestoreFactory
  repeat' first
      | (simp [h_now, h_hub, h_cat]; done)
      | (with_reducible refine (mask_foldl _ (fun _ _ => ?_) _ _).trans ?_)
      | (with_reducible refine (mask_foldl_fst _ (fun _ _ => ?_) _ _).trans ?_)
      | with_reducible apply command_mask
      | intro _
      | (simp +zetaDelta [h_now, h_hub, h_cat]; done)
      | simp [h_now, h_hub, h_cat]
      | with_reducible refine mask_ite ?_ ?_
      | with_reducible refine goes_ite ?_ ?_
      | split
      | simp +zetaDelta [h_now, h_hub, h_cat]

@[simp] theorem execRestoreBoundary_mask {U : Units} (h_now : U.now = true) (h_hub : U.hub = true)
    (h_cat : U.cat = true) (h_sig : U.sig = true) (h_ctl : U.ctl = true) (h_pas : U.pas = true)
    (h_pow : U.pow = true) (h_valve : U.valve = true) (h_field : U.field = true) (h_can : U.can = true)
    (h_modem : U.modem = true) (h_disp : U.disp = true) (h_fus : U.fus = true) (h_cam : U.cam = true)
    (s : State) :
    Goes U s (execRestoreBoundary s) := by
  unfold execRestoreBoundary
  first
  | (simp [h_now, h_hub, h_cat, h_sig, h_ctl, h_pas, h_pow, h_valve, h_field, h_can, h_modem, h_disp, h_fus, h_cam]; done)
  | (repeat' split) <;> (simp [h_now, h_hub, h_cat, h_sig, h_ctl, h_pas, h_pow, h_valve, h_field, h_can, h_modem, h_disp, h_fus, h_cam]; done)
  | (repeat' first
      | (simp [h_now, h_hub, h_cat, h_sig, h_ctl, h_pas, h_pow, h_valve, h_field, h_can, h_modem, h_disp, h_fus, h_cam]; done)
      | (with_reducible refine (mask_foldl _ (fun _ _ => ?_) _ _).trans ?_)
      | (with_reducible refine (mask_foldl_fst _ (fun _ _ => ?_) _ _).trans ?_)
      | simp [h_now, h_hub, h_cat, h_sig, h_ctl, h_pas, h_pow, h_valve, h_field, h_can, h_modem, h_disp, h_fus, h_cam]
      | split)

end Sys2Proof.Machine
end

