-- ==== Sys2Proof/Laws/FramePowerOps.lean ====
section
/-!
SUPPORT. Which units each operation of Machine/PowerOps.lean can touch. A command's lemma says too that it always
answers a next state.
-/
set_option linter.unusedSimpArgs false
set_option linter.unusedVariables false
namespace Sys2Proof.Machine

@[simp] theorem powEl_mask {U : Units} (h_pow : U.pow = true) (f : Power → Nat → Power) (s : State) :
    mask U (powEl f s) = mask U s := by
  unfold powEl
  simp [h_pow]

@[simp] theorem handAon_mask {U : Units} (h_time : U.time = true) (h_gnss : U.gnss = true) (s : State) :
    mask U (handAon s) = mask U s := by
  unfold handAon
  simp [h_time, h_gnss]

@[simp] theorem startTime_mask {U : Units} (h_time : U.time = true) (h_gnss : U.gnss = true) (s : State) :
    mask U (startTime s) = mask U s := by
  unfold startTime
  simp [h_time, h_gnss]

@[simp] theorem wakeTime_mask {U : Units} (h_time : U.time = true) (s : State) :
    mask U (wakeTime s) = mask U s := by
  unfold wakeTime
  simp [h_time]

@[simp] theorem startHub_mask {U : Units} (h_hub : U.hub = true) (h_bar : U.bar = true) (s : State) :
    mask U (startHub s) = mask U s := by
  unfold startHub
  simp [h_hub, h_bar]

@[simp] theorem startValve_mask {U : Units} (h_valve : U.valve = true) (s : State) :
    mask U (startValve s) = mask U s := by
  unfold startValve
  simp [h_valve]

@[simp] theorem startField_mask {U : Units} (h_field : U.field = true) (s : State) :
    mask U (startField s) = mask U s := by
  unfold startField
  simp [h_field]

@[simp] theorem startCan_mask {U : Units} (h_can : U.can = true) (s : State) :
    mask U (startCan s) = mask U s := by
  unfold startCan
  simp [h_can]

@[simp] theorem startModem_mask {U : Units} (h_modem : U.modem = true) (s : State) :
    mask U (startModem s) = mask U s := by
  unfold startModem
  simp [h_modem]

@[simp] theorem startDisp_mask {U : Units} (h_hub : U.hub = true) (h_disp : U.disp = true) (s : State) :
    mask U (startDisp s) = mask U s := by
  unfold startDisp
  simp [h_hub, h_disp]

@[simp] theorem startGnss_mask {U : Units} (h_gnss : U.gnss = true) (s : State) :
    mask U (startGnss s) = mask U s := by
  unfold startGnss
  simp [h_gnss]

@[simp] theorem startFusion_mask {U : Units} (h_pos : U.pos = true) (h_fus : U.fus = true) (s : State) :
    mask U (startFusion s) = mask U s := by
  unfold startFusion
  simp [h_pos, h_fus]

@[simp] theorem startCam_mask {U : Units} (h_cam : U.cam = true) (s : State) :
    mask U (startCam s) = mask U s := by
  unfold startCam
  simp [h_cam]

@[simp] theorem startMap_mask {U : Units} (h_map : U.map = true) (s : State) :
    mask U (startMap s) = mask U s := by
  unfold startMap
  simp [h_map]

@[simp] theorem startLanes_mask {U : Units} (h_lanes : U.lanes = true) (s : State) :
    mask U (startLanes s) = mask U s := by
  unfold startLanes
  simp [h_lanes]

@[simp] theorem startImages_mask {U : Units} (h_img : U.img = true) (warm : Bool) (s : State) :
    mask U (startImages warm s) = mask U s := by
  unfold startImages
  simp [h_img]

@[simp] theorem startCat_mask {U : Units} (h_cat : U.cat = true) (s : State) :
    mask U (startCat s) = mask U s := by
  unfold startCat
  simp [h_cat]

@[simp] theorem startServing_mask {U : Units} (h_time : U.time = true) (h_lanes : U.lanes = true)
    (h_hub : U.hub = true) (h_cat : U.cat = true) (h_sig : U.sig = true) (h_ctl : U.ctl = true)
    (h_pas : U.pas = true) (h_img : U.img = true) (h_pow : U.pow = true) (h_mar : U.mar = true)
    (h_bar : U.bar = true) (h_valve : U.valve = true) (h_field : U.field = true) (h_can : U.can = true)
    (h_modem : U.modem = true) (h_disp : U.disp = true) (h_gnss : U.gnss = true) (h_pos : U.pos = true)
    (h_fus : U.fus = true) (h_cam : U.cam = true) (h_map : U.map = true) (code : Nat) (warm after : Bool)
    (s : State) :
    mask U (startServing code warm after s) = mask U s := by
  unfold startServing
  split <;> simp [h_time, h_lanes, h_hub, h_cat, h_sig, h_ctl, h_pas, h_img, h_pow, h_mar, h_bar, h_valve, h_field, h_can, h_modem, h_disp, h_gnss, h_pos, h_fus, h_cam, h_map]

@[simp] theorem wake_mask {U : Units} (h_time : U.time = true) (h_lanes : U.lanes = true) (h_hub : U.hub = true)
    (h_cat : U.cat = true) (h_sig : U.sig = true) (h_ctl : U.ctl = true) (h_pas : U.pas = true)
    (h_img : U.img = true) (h_pow : U.pow = true) (h_mar : U.mar = true) (h_bar : U.bar = true)
    (h_valve : U.valve = true) (h_field : U.field = true) (h_can : U.can = true) (h_modem : U.modem = true)
    (h_disp : U.disp = true) (h_gnss : U.gnss = true) (h_pos : U.pos = true) (h_fus : U.fus = true)
    (h_cam : U.cam = true) (h_map : U.map = true) (code : Nat) (s : State) :
    mask U (wake code s) = mask U s := by
  unfold wake
  (repeat' split) <;> simp [h_time, h_lanes, h_hub, h_cat, h_sig, h_ctl, h_pas, h_img, h_pow, h_mar, h_bar, h_valve, h_field, h_can, h_modem, h_disp, h_gnss, h_pos, h_fus, h_cam, h_map]

@[simp] theorem releaseBoth_mask {U : Units} (h_lanes : U.lanes = true) (h_hub : U.hub = true)
    (h_mar : U.mar = true) (m : PlanMeas) (s : State) :
    mask U (releaseBoth m s) = mask U s := by
  unfold releaseBoth
  simp [h_lanes, h_hub, h_mar]

@[simp] theorem saveFusion_mask {U : Units} (h_fus : U.fus = true) (standstill : Bool) (s : State) :
    mask U (saveFusion standstill s) = mask U s := by
  unfold saveFusion
  simp [h_fus]

@[simp] theorem savePassage_mask {U : Units} (h_pas : U.pas = true) (s : State) :
    mask U (savePassage s) = mask U s := by
  unfold savePassage
  simp [h_pas]

@[simp] theorem saveAgc_mask {U : Units} (h_gnss : U.gnss = true) (keep : Bool) (s : State) :
    mask U (saveAgc keep s) = mask U s := by
  unfold saveAgc
  simp [h_gnss]

@[simp] theorem saveNone_mask {U : Units} (h_pas : U.pas = true) (h_fus : U.fus = true) (s : State) :
    mask U (saveNone s) = mask U s := by
  unfold saveNone
  simp [h_pas, h_fus]

@[simp] theorem saveAlways_mask {U : Units} (h_time : U.time = true) (h_pow : U.pow = true) (s : State) :
    mask U (saveAlways s) = mask U s := by
  unfold saveAlways
  simp [h_time, h_pow]

@[simp] theorem lanesOff_mask {U : Units} (h_lanes : U.lanes = true) (h_hub : U.hub = true) (s : State) :
    mask U (lanesOff s) = mask U s := by
  unfold lanesOff
  simp [h_lanes, h_hub]

@[simp] theorem drainRings_mask {U : Units} (h_now : U.now = true) (h_hub : U.hub = true) (s : State) :
    mask U (drainRings s) = mask U s := by
  unfold drainRings
  first
  | (simp [h_now, h_hub]; done)
  | (repeat' split) <;> (simp [h_now, h_hub]; done)
  | (repeat' first
      | (simp [h_now, h_hub]; done)
      | (with_reducible refine (mask_foldl _ (fun _ _ => ?_) _ _).trans ?_)
      | (with_reducible refine (mask_foldl_fst _ (fun _ _ => ?_) _ _).trans ?_)
      | simp [h_now, h_hub]
      | split)

@[simp] theorem unitsOff_mask {U : Units} (h_hub : U.hub = true) (h_bar : U.bar = true) (h_can : U.can = true)
    (h_modem : U.modem = true) (h_disp : U.disp = true) (h_cam : U.cam = true) (s : State) :
    mask U (unitsOff s) = mask U s := by
  unfold unitsOff
  simp [h_hub, h_bar, h_can, h_modem, h_disp, h_cam]

@[simp] theorem leaveServing_mask {U : Units} (h_hub : U.hub = true) (h_ctl : U.ctl = true) (h_pas : U.pas = true)
    (h_pow : U.pow = true) (h_mar : U.mar = true) (h_can : U.can = true) (h_modem : U.modem = true)
    (h_map : U.map = true) (st : PowerState) (s : State) :
    mask U (leaveServing st s) = mask U s := by
  unfold leaveServing
  simp [h_hub, h_ctl, h_pas, h_pow, h_mar, h_can, h_modem, h_map]

@[simp] theorem toDormant_mask {U : Units} (h_time : U.time = true) (h_hub : U.hub = true) (h_pow : U.pow = true)
    (h_gnss : U.gnss = true) (s : State) :
    mask U (toDormant s) = mask U s := by
  unfold toDormant
  simp [h_time, h_hub, h_pow, h_gnss]

@[simp] theorem toKeeping_mask {U : Units} (h_hub : U.hub = true) (h_pow : U.pow = true) (h_gnss : U.gnss = true)
    (s : State) :
    mask U (toKeeping s) = mask U s := by
  unfold toKeeping
  simp [h_hub, h_pow, h_gnss]

@[simp] theorem aonLost_mask {U : Units} (h_hub : U.hub = true) (h_pow : U.pow = true) (s : State) :
    mask U (aonLost s) = mask U s := by
  unfold aonLost
  simp [h_hub, h_pow]

@[simp] theorem refuseWaiting_mask {U : Units} (h_hub : U.hub = true) (h_ctl : U.ctl = true)
    (h_valve : U.valve = true) (h_field : U.field = true) (h_can : U.can = true) (h_modem : U.modem = true)
    (s : State) :
    mask U (refuseWaiting s) = mask U s := by
  unfold refuseWaiting
  extract_lets r s1 s2 s3 s4 s5 s6
  clear_value r
  have q_s1 : mask U s1 = mask U s := by
    simp only [s1]
    repeat' first
      | (simp [h_hub, h_ctl, h_valve, h_field, h_can, h_modem]; done)
      | (with_reducible refine (mask_foldl _ (fun _ _ => ?_) _ _).trans ?_)
      | (with_reducible refine (mask_foldl_fst _ (fun _ _ => ?_) _ _).trans ?_)
      | with_reducible apply command_mask
      | intro _
      | (simp +zetaDelta [h_hub, h_ctl, h_valve, h_field, h_can, h_modem]; done)
      | simp [h_hub, h_ctl, h_valve, h_field, h_can, h_modem]
      | with_reducible refine mask_ite ?_ ?_
      | with_reducible refine goes_ite ?_ ?_
      | split
      | simp +zetaDelta [h_hub, h_ctl, h_valve, h_field, h_can, h_modem]
  clear_value s1
  have q_s2 : mask U s2 = mask U s := by
    simp only [s2]
    repeat' first
      | (simp [h_hub, h_ctl, h_valve, h_field, h_can, h_modem, q_s1]; done)
      | (with_reducible refine (mask_foldl _ (fun _ _ => ?_) _ _).trans ?_)
      | (with_reducible refine (mask_foldl_fst _ (fun _ _ => ?_) _ _).trans ?_)
      | with_reducible apply command_mask
      | intro _
      | (simp +zetaDelta [h_hub, h_ctl, h_valve, h_field, h_can, h_modem, q_s1]; done)
      | simp [h_hub, h_ctl, h_valve, h_field, h_can, h_modem, q_s1]
      | with_reducible refine mask_ite ?_ ?_
      | with_reducible refine goes_ite ?_ ?_
      | split
      | simp +zetaDelta [h_hub, h_ctl, h_valve, h_field, h_can, h_modem, q_s1]
  clear_value s2
  have q_s3 : mask U s3 = mask U s := by
    simp only [s3]
    repeat' first
      | (simp [h_hub, h_ctl, h_valve, h_field, h_can, h_modem, q_s1, q_s2]; done)
      | (with_reducible refine (mask_foldl _ (fun _ _ => ?_) _ _).trans ?_)
      | (with_reducible refine (mask_foldl_fst _ (fun _ _ => ?_) _ _).trans ?_)
      | with_reducible apply command_mask
      | intro _
      | (simp +zetaDelta [h_hub, h_ctl, h_valve, h_field, h_can, h_modem, q_s1, q_s2]; done)
      | simp [h_hub, h_ctl, h_valve, h_field, h_can, h_modem, q_s1, q_s2]
      | with_reducible refine mask_ite ?_ ?_
      | with_reducible refine goes_ite ?_ ?_
      | split
      | simp +zetaDelta [h_hub, h_ctl, h_valve, h_field, h_can, h_modem, q_s1, q_s2]
  clear_value s3
  have q_s4 : mask U s4 = mask U s := by
    simp only [s4]
    repeat' first
      | (simp [h_hub, h_ctl, h_valve, h_field, h_can, h_modem, q_s1, q_s2, q_s3]; done)
      | (with_reducible refine (mask_foldl _ (fun _ _ => ?_) _ _).trans ?_)
      | (with_reducible refine (mask_foldl_fst _ (fun _ _ => ?_) _ _).trans ?_)
      | with_reducible apply command_mask
      | intro _
      | (simp +zetaDelta [h_hub, h_ctl, h_valve, h_field, h_can, h_modem, q_s1, q_s2, q_s3]; done)
      | simp [h_hub, h_ctl, h_valve, h_field, h_can, h_modem, q_s1, q_s2, q_s3]
      | with_reducible refine mask_ite ?_ ?_
      | with_reducible refine goes_ite ?_ ?_
      | split
      | simp +zetaDelta [h_hub, h_ctl, h_valve, h_field, h_can, h_modem, q_s1, q_s2, q_s3]
  clear_value s4
  have q_s5 : mask U s5 = mask U s := by
    simp only [s5]
    repeat' first
      | (simp [h_hub, h_ctl, h_valve, h_field, h_can, h_modem, q_s1, q_s2, q_s3, q_s4]; done)
      | (with_reducible refine (mask_foldl _ (fun _ _ => ?_) _ _).trans ?_)
      | (with_reducible refine (mask_foldl_fst _ (fun _ _ => ?_) _ _).trans ?_)
      | with_reducible apply command_mask
      | intro _
      | (simp +zetaDelta [h_hub, h_ctl, h_valve, h_field, h_can, h_modem, q_s1, q_s2, q_s3, q_s4]; done)
      | simp [h_hub, h_ctl, h_valve, h_field, h_can, h_modem, q_s1, q_s2, q_s3, q_s4]
      | with_reducible refine mask_ite ?_ ?_
      | with_reducible refine goes_ite ?_ ?_
      | split
      | simp +zetaDelta [h_hub, h_ctl, h_valve, h_field, h_can, h_modem, q_s1, q_s2, q_s3, q_s4]
  clear_value s5
  have q_s6 : mask U s6 = mask U s := by
    simp [s6, h_hub, h_ctl, h_valve, h_field, h_can, h_modem, q_s1, q_s2, q_s3, q_s4, q_s5]
  clear_value s6
  simp [h_hub, h_ctl, h_valve, h_field, h_can, h_modem, q_s1, q_s2, q_s3, q_s4, q_s5, q_s6]

@[simp] theorem keyoffStep1_mask {U : Units} (h_hub : U.hub = true) (h_sig : U.sig = true) (h_ctl : U.ctl = true)
    (h_valve : U.valve = true) (h_field : U.field = true) (h_can : U.can = true) (h_modem : U.modem = true)
    (b : Nat) (s : State) :
    mask U (keyoffStep1 b s) = mask U s := by
  unfold keyoffStep1
  extract_lets s1
  have q_s1 : mask U s1 = mask U s := by
    simp only [s1]
    repeat' first
      | (simp [h_hub, h_sig, h_ctl, h_valve, h_field, h_can, h_modem]; done)
      | (with_reducible refine (mask_foldl _ (fun _ _ => ?_) _ _).trans ?_)
      | (with_reducible refine (mask_foldl_fst _ (fun _ _ => ?_) _ _).trans ?_)
      | with_reducible apply command_mask
      | intro _
      | (simp +zetaDelta [h_hub, h_sig, h_ctl, h_valve, h_field, h_can, h_modem]; done)
      | simp [h_hub, h_sig, h_ctl, h_valve, h_field, h_can, h_modem]
      | with_reducible refine mask_ite ?_ ?_
      | with_reducible refine goes_ite ?_ ?_
      | split
      | simp +zetaDelta [h_hub, h_sig, h_ctl, h_valve, h_field, h_can, h_modem]
  clear_value s1
  simp [h_hub, h_sig, h_ctl, h_valve, h_field, h_can, h_modem, q_s1]

@[simp] theorem keyoffStep2_mask {U : Units} (h_now : U.now = true) (h_hub : U.hub = true) (h_sig : U.sig = true)
    (h_pas : U.pas = true) (h_can : U.can = true) (h_modem : U.modem = true) (h_disp : U.disp = true)
    (h_fus : U.fus = true) (h_cam : U.cam = true) (h_map : U.map = true) (s : State) :
    mask U (keyoffStep2 s) = mask U s := by
  unfold keyoffStep2
  extract_lets s1
  have q_s1 : mask U s1 = mask U s := by
    simp only [s1]
    repeat' first
      | (simp [h_now, h_hub, h_sig, h_pas, h_can, h_modem, h_disp, h_fus, h_cam, h_map]; done)
      | (with_reducible refine (mask_foldl _ (fun _ _ => ?_) _ _).trans ?_)
      | (with_reducible refine (mask_foldl_fst _ (fun _ _ => ?_) _ _).trans ?_)
      | with_reducible apply command_mask
      | intro _
      | (simp +zetaDelta [h_now, h_hub, h_sig, h_pas, h_can, h_modem, h_disp, h_fus, h_cam, h_map]; done)
      | simp [h_now, h_hub, h_sig, h_pas, h_can, h_modem, h_disp, h_fus, h_cam, h_map]
      | with_reducible refine mask_ite ?_ ?_
      | with_reducible refine goes_ite ?_ ?_
      | split
      | simp +zetaDelta [h_now, h_hub, h_sig, h_pas, h_can, h_modem, h_disp, h_fus, h_cam, h_map]
  clear_value s1
  split <;> simp [h_now, h_hub, h_sig, h_pas, h_can, h_modem, h_disp, h_fus, h_cam, h_map, q_s1]

@[simp] theorem lapseStep_mask {U : Units} (h_time : U.time = true) (h_hub : U.hub = true) (s : State) :
    mask U (lapseStep s) = mask U s := by
  unfold lapseStep
  simp [h_time, h_hub]

@[simp] theorem beginKeyoff_mask {U : Units} (h_now : U.now = true) (h_time : U.time = true) (h_hub : U.hub = true)
    (h_cat : U.cat = true) (h_sig : U.sig = true) (h_ctl : U.ctl = true) (h_pas : U.pas = true)
    (h_pow : U.pow = true) (h_valve : U.valve = true) (h_field : U.field = true) (h_can : U.can = true)
    (h_modem : U.modem = true) (h_disp : U.disp = true) (h_fus : U.fus = true) (h_cam : U.cam = true)
    (h_map : U.map = true) (s : State) :
    mask U (beginKeyoff s) = mask U s := by
  unfold beginKeyoff
  simp [h_now, h_time, h_hub, h_cat, h_sig, h_ctl, h_pas, h_pow, h_valve, h_field, h_can, h_modem, h_disp, h_fus, h_cam, h_map]

@[simp] theorem supplyFall_mask {U : Units} (h_time : U.time = true) (h_hub : U.hub = true) (h_pow : U.pow = true)
    (h_modem : U.modem = true) (h_disp : U.disp = true) (h_gnss : U.gnss = true) (h_cam : U.cam = true)
    (mv us : Nat) (s : State) :
    mask U (supplyFall mv us s) = mask U s := by
  unfold supplyFall
  repeat' first
      | (simp [h_time, h_hub, h_pow, h_modem, h_disp, h_gnss, h_cam]; done)
      | (with_reducible refine (mask_foldl _ (fun _ _ => ?_) _ _).trans ?_)
      | (with_reducible refine (mask_foldl_fst _ (fun _ _ => ?_) _ _).trans ?_)
      | with_reducible apply command_mask
      | intro _
      | (simp +zetaDelta [h_time, h_hub, h_pow, h_modem, h_disp, h_gnss, h_cam]; done)
      | simp [h_time, h_hub, h_pow, h_modem, h_disp, h_gnss, h_cam]
      | with_reducible refine mask_ite ?_ ?_
      | with_reducible refine goes_ite ?_ ?_
      | split
      | simp +zetaDelta [h_time, h_hub, h_pow, h_modem, h_disp, h_gnss, h_cam]

@[simp] theorem holdupDeadline_mask {U : Units} (h_time : U.time = true) (h_lanes : U.lanes = true)
    (h_hub : U.hub = true) (h_sig : U.sig = true) (h_pas : U.pas = true) (h_pow : U.pow = true)
    (h_valve : U.valve = true) (h_field : U.field = true) (h_can : U.can = true) (h_modem : U.modem = true)
    (h_gnss : U.gnss = true) (h_fus : U.fus = true) (h_map : U.map = true) (standstill : Bool) (s : State) :
    mask U (holdupDeadline standstill s) = mask U s := by
  unfold holdupDeadline
  extract_lets s1 s2 s3 s4
  have q_s1 : mask U s1 = mask U s := by
    simp [s1, h_time, h_lanes, h_hub, h_sig, h_pas, h_pow, h_valve, h_field, h_can, h_modem, h_gnss, h_fus, h_map]
  clear_value s1
  have q_s2 : mask U s2 = mask U s := by
    simp [s2, h_time, h_lanes, h_hub, h_sig, h_pas, h_pow, h_valve, h_field, h_can, h_modem, h_gnss, h_fus, h_map, q_s1]
  clear_value s2
  have q_s3 : mask U s3 = mask U s := by
    simp only [s3]
    repeat' first
      | (simp [h_time, h_lanes, h_hub, h_sig, h_pas, h_pow, h_valve, h_field, h_can, h_modem, h_gnss, h_fus, h_map, q_s1, q_s2]; done)
      | with_reducible refine mask_ite ?_ ?_
      | simp [h_time, h_lanes, h_hub, h_sig, h_pas, h_pow, h_valve, h_field, h_can, h_modem, h_gnss, h_fus, h_map, q_s1, q_s2]
      | split
  clear_value s3
  have q_s4 : mask U s4 = mask U s := by
    simp [s4, h_time, h_lanes, h_hub, h_sig, h_pas, h_pow, h_valve, h_field, h_can, h_modem, h_gnss, h_fus, h_map, q_s1, q_s2, q_s3]
  clear_value s4
  repeat' first
      | (simp [h_time, h_lanes, h_hub, h_sig, h_pas, h_pow, h_valve, h_field, h_can, h_modem, h_gnss, h_fus, h_map, q_s1, q_s2, q_s3, q_s4]; done)
      | (with_reducible refine (mask_foldl _ (fun _ _ => ?_) _ _).trans ?_)
      | (with_reducible refine (mask_foldl_fst _ (fun _ _ => ?_) _ _).trans ?_)
      | with_reducible apply command_mask
      | intro _
      | (simp +zetaDelta [h_time, h_lanes, h_hub, h_sig, h_pas, h_pow, h_valve, h_field, h_can, h_modem, h_gnss, h_fus, h_map, q_s1, q_s2, q_s3, q_s4]; done)
      | simp [h_time, h_lanes, h_hub, h_sig, h_pas, h_pow, h_valve, h_field, h_can, h_modem, h_gnss, h_fus, h_map, q_s1, q_s2, q_s3, q_s4]
      | with_reducible refine mask_ite ?_ ?_
      | with_reducible refine goes_ite ?_ ?_
      | split
      | simp +zetaDelta [h_time, h_lanes, h_hub, h_sig, h_pas, h_pow, h_valve, h_field, h_can, h_modem, h_gnss, h_fus, h_map, q_s1, q_s2, q_s3, q_s4]

end Sys2Proof.Machine
end

