-- ==== Sys2Proof/Laws/FramePower.lean ====
section
/-!
SUPPORT. Which units each operation of Machine/Power.lean can touch. A command's lemma says too that it always
answers a next state.
-/
set_option linter.unusedSimpArgs false
set_option linter.unusedVariables false
namespace Sys2Proof.Machine

@[simp] theorem execVbatConnect_mask {U : Units} (h_now : U.now = true) (h_time : U.time = true)
    (h_lanes : U.lanes = true) (h_hub : U.hub = true) (h_cat : U.cat = true) (h_sig : U.sig = true)
    (h_ctl : U.ctl = true) (h_pas : U.pas = true) (h_img : U.img = true) (h_pow : U.pow = true)
    (h_mar : U.mar = true) (h_bar : U.bar = true) (h_valve : U.valve = true) (h_field : U.field = true)
    (h_can : U.can = true) (h_modem : U.modem = true) (h_disp : U.disp = true) (h_gnss : U.gnss = true)
    (h_pos : U.pos = true) (h_fus : U.fus = true) (h_cam : U.cam = true) (h_map : U.map = true)
    (dt mv : Nat) (ign : Bool) (s : State) :
    Goes U s (execVbatConnect dt mv ign s) := by
  unfold execVbatConnect
  (repeat' first
    | (simp [h_now, h_time, h_lanes, h_hub, h_cat, h_sig, h_ctl, h_pas, h_img, h_pow, h_mar, h_bar, h_valve, h_field, h_can, h_modem, h_disp, h_gnss, h_pos, h_fus, h_cam, h_map]; done)
    | simp [h_now, h_time, h_lanes, h_hub, h_cat, h_sig, h_ctl, h_pas, h_img, h_pow, h_mar, h_bar, h_valve, h_field, h_can, h_modem, h_disp, h_gnss, h_pos, h_fus, h_cam, h_map]
    | split)

@[simp] theorem execVbatLost_mask {U : Units} (h_now : U.now = true) (h_hub : U.hub = true) (h_pow : U.pow = true)
    (dt : Nat) (s : State) :
    Goes U s (execVbatLost dt s) := by
  unfold execVbatLost
  (repeat' first
    | (simp [h_now, h_hub, h_pow]; done)
    | simp [h_now, h_hub, h_pow]
    | split)

@[simp] theorem execSupplyCrank_mask {U : Units} (h_now : U.now = true) (h_hub : U.hub = true)
    (h_pow : U.pow = true) (dt mv us : Nat) (s : State) :
    Goes U s (execSupplyCrank dt mv us s) := by
  unfold execSupplyCrank
  simp [h_now, h_hub, h_pow]

@[simp] theorem execSupplyUndervolt_mask {U : Units} (h_now : U.now = true) (h_hub : U.hub = true)
    (h_pow : U.pow = true) (dt mv us : Nat) (s : State) :
    Goes U s (execSupplyUndervolt dt mv us s) := by
  unfold execSupplyUndervolt
  simp [h_now, h_hub, h_pow]

@[simp] theorem execSupplyOvervolt_mask {U : Units} (h_now : U.now = true) (h_hub : U.hub = true)
    (h_pow : U.pow = true) (dt mv us : Nat) (s : State) :
    Goes U s (execSupplyOvervolt dt mv us s) := by
  unfold execSupplyOvervolt
  simp [h_now, h_hub, h_pow]

@[simp] theorem execSupplyFall_mask {U : Units} (h_now : U.now = true) (h_time : U.time = true)
    (h_hub : U.hub = true) (h_pow : U.pow = true) (h_modem : U.modem = true) (h_disp : U.disp = true)
    (h_gnss : U.gnss = true) (h_cam : U.cam = true) (dt mv us : Nat) (s : State) :
    Goes U s (execSupplyFall dt mv us s) := by
  unfold execSupplyFall
  simp [h_now, h_time, h_hub, h_pow, h_modem, h_disp, h_gnss, h_cam]

@[simp] theorem execSupplyReturn_mask {U : Units} (h_now : U.now = true) (h_time : U.time = true)
    (h_lanes : U.lanes = true) (h_hub : U.hub = true) (h_cat : U.cat = true) (h_sig : U.sig = true)
    (h_ctl : U.ctl = true) (h_pas : U.pas = true) (h_img : U.img = true) (h_pow : U.pow = true)
    (h_mar : U.mar = true) (h_bar : U.bar = true) (h_valve : U.valve = true) (h_field : U.field = true)
    (h_can : U.can = true) (h_modem : U.modem = true) (h_disp : U.disp = true) (h_gnss : U.gnss = true)
    (h_pos : U.pos = true) (h_fus : U.fus = true) (h_cam : U.cam = true) (h_map : U.map = true)
    (dt mv : Nat) (m : PlanMeas) (s : State) :
    Goes U s (execSupplyReturn dt mv m s) := by
  unfold execSupplyReturn
  extract_lets s1
  have q_s1 : mask U s1 = mask U s := by
    simp [s1, h_now, h_time, h_lanes, h_hub, h_cat, h_sig, h_ctl, h_pas, h_img, h_pow, h_mar, h_bar, h_valve, h_field, h_can, h_modem, h_disp, h_gnss, h_pos, h_fus, h_cam, h_map]
  clear_value s1
  repeat' first
      | (simp [h_now, h_time, h_lanes, h_hub, h_cat, h_sig, h_ctl, h_pas, h_img, h_pow, h_mar, h_bar, h_valve, h_field, h_can, h_modem, h_disp, h_gnss, h_pos, h_fus, h_cam, h_map, q_s1]; done)
      | (with_reducible refine (mask_foldl _ (fun _ _ => ?_) _ _).trans ?_)
      | (with_reducible refine (mask_foldl_fst _ (fun _ _ => ?_) _ _).trans ?_)
      | with_reducible apply command_mask
      | intro _
      | (simp +zetaDelta [h_now, h_time, h_lanes, h_hub, h_cat, h_sig, h_ctl, h_pas, h_img, h_pow, h_mar, h_bar, h_valve, h_field, h_can, h_modem, h_disp, h_gnss, h_pos, h_fus, h_cam, h_map, q_s1]; done)
      | simp [h_now, h_time, h_lanes, h_hub, h_cat, h_sig, h_ctl, h_pas, h_img, h_pow, h_mar, h_bar, h_valve, h_field, h_can, h_modem, h_disp, h_gnss, h_pos, h_fus, h_cam, h_map, q_s1]
      | with_reducible refine mask_ite ?_ ?_
      | with_reducible refine goes_ite ?_ ?_
      | split
      | simp +zetaDelta [h_now, h_time, h_lanes, h_hub, h_cat, h_sig, h_ctl, h_pas, h_img, h_pow, h_mar, h_bar, h_valve, h_field, h_can, h_modem, h_disp, h_gnss, h_pos, h_fus, h_cam, h_map, q_s1]

@[simp] theorem execHoldupReturnDeadline_mask {U : Units} (h_now : U.now = true) (h_time : U.time = true)
    (h_lanes : U.lanes = true) (h_hub : U.hub = true) (h_sig : U.sig = true) (h_pas : U.pas = true)
    (h_pow : U.pow = true) (h_valve : U.valve = true) (h_field : U.field = true) (h_can : U.can = true)
    (h_modem : U.modem = true) (h_gnss : U.gnss = true) (h_fus : U.fus = true) (h_map : U.map = true)
    (standstill : Bool) (s : State) :
    Goes U s (execHoldupReturnDeadline standstill s) := by
  unfold execHoldupReturnDeadline
  split <;> simp [h_now, h_time, h_lanes, h_hub, h_sig, h_pas, h_pow, h_valve, h_field, h_can, h_modem, h_gnss, h_fus, h_map]

@[simp] theorem execHoldupComplete_mask {U : Units} (h_now : U.now = true) (h_time : U.time = true)
    (h_hub : U.hub = true) (h_ctl : U.ctl = true) (h_pas : U.pas = true) (h_pow : U.pow = true)
    (h_mar : U.mar = true) (h_bar : U.bar = true) (h_can : U.can = true) (h_modem : U.modem = true)
    (h_disp : U.disp = true) (h_gnss : U.gnss = true) (h_cam : U.cam = true) (h_map : U.map = true)
    (dt mv : Nat) (s : State) :
    Goes U s (execHoldupComplete dt mv s) := by
  unfold execHoldupComplete
  (repeat' first
    | (simp [h_now, h_time, h_hub, h_ctl, h_pas, h_pow, h_mar, h_bar, h_can, h_modem, h_disp, h_gnss, h_cam, h_map]; done)
    | simp [h_now, h_time, h_hub, h_ctl, h_pas, h_pow, h_mar, h_bar, h_can, h_modem, h_disp, h_gnss, h_cam, h_map]
    | split)

@[simp] theorem execRailFault_mask {U : Units} (h_now : U.now = true) (h_time : U.time = true)
    (h_lanes : U.lanes = true) (h_hub : U.hub = true) (h_pow : U.pow = true) (h_mar : U.mar = true)
    (h_modem : U.modem = true) (h_disp : U.disp = true) (h_gnss : U.gnss = true) (h_cam : U.cam = true)
    (dt rail code : Nat) (owner : Fin 4) (s : State) :
    Goes U s (execRailFault dt rail code owner s) := by
  unfold execRailFault
  extract_lets s1
  have q_s1 : mask U s1 = mask U s := by
    simp [s1, h_now, h_time, h_lanes, h_hub, h_pow, h_mar, h_modem, h_disp, h_gnss, h_cam]
  clear_value s1
  repeat' first
      | (simp [h_now, h_time, h_lanes, h_hub, h_pow, h_mar, h_modem, h_disp, h_gnss, h_cam, q_s1]; done)
      | (with_reducible refine (mask_foldl _ (fun _ _ => ?_) _ _).trans ?_)
      | (with_reducible refine (mask_foldl_fst _ (fun _ _ => ?_) _ _).trans ?_)
      | with_reducible apply command_mask
      | intro _
      | (simp +zetaDelta [h_now, h_time, h_lanes, h_hub, h_pow, h_mar, h_modem, h_disp, h_gnss, h_cam, q_s1]; done)
      | simp [h_now, h_time, h_lanes, h_hub, h_pow, h_mar, h_modem, h_disp, h_gnss, h_cam, q_s1]
      | with_reducible refine mask_ite ?_ ?_
      | with_reducible refine goes_ite ?_ ?_
      | split
      | simp +zetaDelta [h_now, h_time, h_lanes, h_hub, h_pow, h_mar, h_modem, h_disp, h_gnss, h_cam, q_s1]

@[simp] theorem execRailReturn_mask {U : Units} (h_now : U.now = true) (h_lanes : U.lanes = true)
    (h_hub : U.hub = true) (h_pow : U.pow = true) (h_mar : U.mar = true) (dt rail : Nat) (owner : Fin 4)
    (s : State) :
    Goes U s (execRailReturn dt rail owner s) := by
  unfold execRailReturn
  (repeat' first
    | (simp [h_now, h_lanes, h_hub, h_pow, h_mar]; done)
    | simp [h_now, h_lanes, h_hub, h_pow, h_mar]
    | split)

@[simp] theorem execIgnHigh_mask {U : Units} (h_now : U.now = true) (h_time : U.time = true)
    (h_lanes : U.lanes = true) (h_hub : U.hub = true) (h_cat : U.cat = true) (h_sig : U.sig = true)
    (h_ctl : U.ctl = true) (h_pas : U.pas = true) (h_img : U.img = true) (h_pow : U.pow = true)
    (h_mar : U.mar = true) (h_bar : U.bar = true) (h_valve : U.valve = true) (h_field : U.field = true)
    (h_can : U.can = true) (h_modem : U.modem = true) (h_disp : U.disp = true) (h_gnss : U.gnss = true)
    (h_pos : U.pos = true) (h_fus : U.fus = true) (h_cam : U.cam = true) (h_map : U.map = true) (dt : Nat)
    (s : State) :
    Goes U s (execIgnHigh dt s) := by
  unfold execIgnHigh
  simp [h_now, h_time, h_lanes, h_hub, h_cat, h_sig, h_ctl, h_pas, h_img, h_pow, h_mar, h_bar, h_valve, h_field, h_can, h_modem, h_disp, h_gnss, h_pos, h_fus, h_cam, h_map]

@[simp] theorem execIgnLow_mask {U : Units} (h_now : U.now = true) (h_time : U.time = true) (h_hub : U.hub = true)
    (h_cat : U.cat = true) (h_sig : U.sig = true) (h_ctl : U.ctl = true) (h_pas : U.pas = true)
    (h_pow : U.pow = true) (h_valve : U.valve = true) (h_field : U.field = true) (h_can : U.can = true)
    (h_modem : U.modem = true) (h_disp : U.disp = true) (h_fus : U.fus = true) (h_cam : U.cam = true)
    (h_map : U.map = true) (dt : Nat) (s : State) :
    Goes U s (execIgnLow dt s) := by
  unfold execIgnLow
  (repeat' first
    | (simp [h_now, h_time, h_hub, h_cat, h_sig, h_ctl, h_pas, h_pow, h_valve, h_field, h_can, h_modem, h_disp, h_fus, h_cam, h_map]; done)
    | simp [h_now, h_time, h_hub, h_cat, h_sig, h_ctl, h_pas, h_pow, h_valve, h_field, h_can, h_modem, h_disp, h_fus, h_cam, h_map]
    | split)

@[simp] theorem execHostWake_mask {U : Units} (h_now : U.now = true) (h_time : U.time = true)
    (h_lanes : U.lanes = true) (h_hub : U.hub = true) (h_cat : U.cat = true) (h_sig : U.sig = true)
    (h_ctl : U.ctl = true) (h_pas : U.pas = true) (h_img : U.img = true) (h_pow : U.pow = true)
    (h_mar : U.mar = true) (h_bar : U.bar = true) (h_valve : U.valve = true) (h_field : U.field = true)
    (h_can : U.can = true) (h_modem : U.modem = true) (h_disp : U.disp = true) (h_gnss : U.gnss = true)
    (h_pos : U.pos = true) (h_fus : U.fus = true) (h_cam : U.cam = true) (h_map : U.map = true) (dt : Nat)
    (s : State) :
    Goes U s (execHostWake dt s) := by
  unfold execHostWake
  (repeat' first
    | (simp [h_now, h_time, h_lanes, h_hub, h_cat, h_sig, h_ctl, h_pas, h_img, h_pow, h_mar, h_bar, h_valve, h_field, h_can, h_modem, h_disp, h_gnss, h_pos, h_fus, h_cam, h_map]; done)
    | simp [h_now, h_time, h_lanes, h_hub, h_cat, h_sig, h_ctl, h_pas, h_img, h_pow, h_mar, h_bar, h_valve, h_field, h_can, h_modem, h_disp, h_gnss, h_pos, h_fus, h_cam, h_map]
    | split)

@[simp] theorem execWakeTimer_mask {U : Units} (h_now : U.now = true) (h_time : U.time = true)
    (h_lanes : U.lanes = true) (h_hub : U.hub = true) (h_cat : U.cat = true) (h_sig : U.sig = true)
    (h_ctl : U.ctl = true) (h_pas : U.pas = true) (h_img : U.img = true) (h_pow : U.pow = true)
    (h_mar : U.mar = true) (h_bar : U.bar = true) (h_valve : U.valve = true) (h_field : U.field = true)
    (h_can : U.can = true) (h_modem : U.modem = true) (h_disp : U.disp = true) (h_gnss : U.gnss = true)
    (h_pos : U.pos = true) (h_fus : U.fus = true) (h_cam : U.cam = true) (h_map : U.map = true)
    (s : State) :
    Goes U s (execWakeTimer s) := by
  unfold execWakeTimer
  split <;> simp [h_now, h_time, h_lanes, h_hub, h_cat, h_sig, h_ctl, h_pas, h_img, h_pow, h_mar, h_bar, h_valve, h_field, h_can, h_modem, h_disp, h_gnss, h_pos, h_fus, h_cam, h_map]

@[simp] theorem execCanWakePattern_mask {U : Units} (h_now : U.now = true) (h_time : U.time = true)
    (h_lanes : U.lanes = true) (h_hub : U.hub = true) (h_cat : U.cat = true) (h_sig : U.sig = true)
    (h_ctl : U.ctl = true) (h_pas : U.pas = true) (h_img : U.img = true) (h_pow : U.pow = true)
    (h_mar : U.mar = true) (h_bar : U.bar = true) (h_valve : U.valve = true) (h_field : U.field = true)
    (h_can : U.can = true) (h_modem : U.modem = true) (h_disp : U.disp = true) (h_gnss : U.gnss = true)
    (h_pos : U.pos = true) (h_fus : U.fus = true) (h_cam : U.cam = true) (h_map : U.map = true) (dt : Nat)
    (c : Fin 2) (s : State) :
    Goes U s (execCanWakePattern dt c s) := by
  unfold execCanWakePattern
  (repeat' first
    | (simp [h_now, h_time, h_lanes, h_hub, h_cat, h_sig, h_ctl, h_pas, h_img, h_pow, h_mar, h_bar, h_valve, h_field, h_can, h_modem, h_disp, h_gnss, h_pos, h_fus, h_cam, h_map]; done)
    | simp [h_now, h_time, h_lanes, h_hub, h_cat, h_sig, h_ctl, h_pas, h_img, h_pow, h_mar, h_bar, h_valve, h_field, h_can, h_modem, h_disp, h_gnss, h_pos, h_fus, h_cam, h_map]
    | split)

@[simp] theorem execModemRing_mask {U : Units} (h_now : U.now = true) (h_time : U.time = true)
    (h_lanes : U.lanes = true) (h_hub : U.hub = true) (h_cat : U.cat = true) (h_sig : U.sig = true)
    (h_ctl : U.ctl = true) (h_pas : U.pas = true) (h_img : U.img = true) (h_pow : U.pow = true)
    (h_mar : U.mar = true) (h_bar : U.bar = true) (h_valve : U.valve = true) (h_field : U.field = true)
    (h_can : U.can = true) (h_modem : U.modem = true) (h_disp : U.disp = true) (h_gnss : U.gnss = true)
    (h_pos : U.pos = true) (h_fus : U.fus = true) (h_cam : U.cam = true) (h_map : U.map = true) (dt : Nat)
    (s : State) :
    Goes U s (execModemRing dt s) := by
  unfold execModemRing
  extract_lets s1 on
  have q_s1 : mask U s1 = mask U s := by
    simp [s1, h_now, h_time, h_lanes, h_hub, h_cat, h_sig, h_ctl, h_pas, h_img, h_pow, h_mar, h_bar, h_valve, h_field, h_can, h_modem, h_disp, h_gnss, h_pos, h_fus, h_cam, h_map]
  clear_value s1
  clear_value on
  split <;> simp [h_now, h_time, h_lanes, h_hub, h_cat, h_sig, h_ctl, h_pas, h_img, h_pow, h_mar, h_bar, h_valve, h_field, h_can, h_modem, h_disp, h_gnss, h_pos, h_fus, h_cam, h_map, q_s1]

@[simp] theorem execWakeServeExpiry_mask {U : Units} (h_now : U.now = true) (h_time : U.time = true)
    (h_hub : U.hub = true) (h_cat : U.cat = true) (h_sig : U.sig = true) (h_ctl : U.ctl = true)
    (h_pas : U.pas = true) (h_pow : U.pow = true) (h_valve : U.valve = true) (h_field : U.field = true)
    (h_can : U.can = true) (h_modem : U.modem = true) (h_disp : U.disp = true) (h_fus : U.fus = true)
    (h_cam : U.cam = true) (h_map : U.map = true) (s : State) :
    Goes U s (execWakeServeExpiry s) := by
  unfold execWakeServeExpiry
  with_reducible refine goes_ite (by simp) ?_
  extract_lets s1
  have q : mask U s1 = mask U s := by
    simp only [s1]
    rw [mask_upPow h_pow, reachEl_mask h_now]
  clear_value s1
  rw [goes_next]
  with_reducible refine mask_ite q ?_
  simp [q, h_now, h_time, h_hub, h_cat, h_sig, h_ctl, h_pas, h_pow, h_valve, h_field, h_can, h_modem, h_disp, h_fus, h_cam, h_map]

@[simp] theorem execKeyoffFlushDone_mask {U : Units} (h_now : U.now = true) (h_hub : U.hub = true)
    (h_pow : U.pow = true) (h_map : U.map = true) (dt : Nat) (s : State) :
    Goes U s (execKeyoffFlushDone dt s) := by
  unfold execKeyoffFlushDone
  (repeat' first
    | (simp [h_now, h_hub, h_pow, h_map]; done)
    | simp [h_now, h_hub, h_pow, h_map]
    | split)

@[simp] theorem execKeyoffSaveDone_mask {U : Units} (h_now : U.now = true) (h_time : U.time = true)
    (h_cat : U.cat = true) (h_pow : U.pow = true) (h_mar : U.mar = true) (h_gnss : U.gnss = true)
    (h_fus : U.fus = true) (dt uf esr : Nat) (standstill : Bool) (s : State) :
    Goes U s (execKeyoffSaveDone dt uf esr standstill s) := by
  unfold execKeyoffSaveDone
  (repeat' first
    | (simp [h_now, h_time, h_cat, h_pow, h_mar, h_gnss, h_fus]; done)
    | simp [h_now, h_time, h_cat, h_pow, h_mar, h_gnss, h_fus]
    | split)

@[simp] theorem execKeyoffComplete_mask {U : Units} (h_now : U.now = true) (h_time : U.time = true)
    (h_lanes : U.lanes = true) (h_hub : U.hub = true) (h_cat : U.cat = true) (h_sig : U.sig = true)
    (h_ctl : U.ctl = true) (h_pas : U.pas = true) (h_img : U.img = true) (h_pow : U.pow = true)
    (h_mar : U.mar = true) (h_bar : U.bar = true) (h_valve : U.valve = true) (h_field : U.field = true)
    (h_can : U.can = true) (h_modem : U.modem = true) (h_disp : U.disp = true) (h_gnss : U.gnss = true)
    (h_pos : U.pos = true) (h_fus : U.fus = true) (h_cam : U.cam = true) (h_map : U.map = true)
    (dt mv : Nat) (m : PlanMeas) (s : State) :
    Goes U s (execKeyoffComplete dt mv m s) := by
  unfold execKeyoffComplete
  (repeat' first
    | (simp [h_now, h_time, h_lanes, h_hub, h_cat, h_sig, h_ctl, h_pas, h_img, h_pow, h_mar, h_bar, h_valve, h_field, h_can, h_modem, h_disp, h_gnss, h_pos, h_fus, h_cam, h_map]; done)
    | simp [h_now, h_time, h_lanes, h_hub, h_cat, h_sig, h_ctl, h_pas, h_img, h_pow, h_mar, h_bar, h_valve, h_field, h_can, h_modem, h_disp, h_gnss, h_pos, h_fus, h_cam, h_map]
    | split)

@[simp] theorem execKeepMinExpiry_mask {U : Units} (h_now : U.now = true) (h_time : U.time = true)
    (h_hub : U.hub = true) (h_pow : U.pow = true) (h_gnss : U.gnss = true) (s : State) :
    Goes U s (execKeepMinExpiry s) := by
  unfold execKeepMinExpiry
  split <;> simp [h_now, h_time, h_hub, h_pow, h_gnss]

@[simp] theorem execKeepVbatLow_mask {U : Units} (h_now : U.now = true) (h_time : U.time = true)
    (h_hub : U.hub = true) (h_pow : U.pow = true) (h_gnss : U.gnss = true) (dt : Nat) (s : State) :
    Goes U s (execKeepVbatLow dt s) := by
  unfold execKeepVbatLow
  (repeat' first
    | (simp [h_now, h_time, h_hub, h_pow, h_gnss]; done)
    | simp [h_now, h_time, h_hub, h_pow, h_gnss]
    | split)

@[simp] theorem execHoldupBankCharged_mask {U : Units} (h_now : U.now = true) (h_lanes : U.lanes = true)
    (h_hub : U.hub = true) (h_pow : U.pow = true) (h_mar : U.mar = true) (dt : Nat) (m : PlanMeas)
    (s : State) :
    Goes U s (execHoldupBankCharged dt m s) := by
  unfold execHoldupBankCharged
  (repeat' first
    | (simp [h_now, h_lanes, h_hub, h_pow, h_mar]; done)
    | simp [h_now, h_lanes, h_hub, h_pow, h_mar]
    | split)

@[simp] theorem execPciePerst_mask {U : Units} (h_now : U.now = true) (h_hub : U.hub = true) (h_pow : U.pow = true)
    (h_bar : U.bar = true) (dt : Nat) (asserted : Bool) (s : State) :
    Goes U s (execPciePerst dt asserted s) := by
  unfold execPciePerst
  (repeat' first
    | (simp [h_now, h_hub, h_pow, h_bar]; done)
    | simp [h_now, h_hub, h_pow, h_bar]
    | split)

@[simp] theorem execPowerStatusPeriod_mask {U : Units} (h_now : U.now = true) (h_hub : U.hub = true)
    (h_pow : U.pow = true) (mv : Nat) (vs : List Nat) (plateC : Int) (mw : Nat) (s : State) :
    Goes U s (execPowerStatusPeriod mv vs plateC mw s) := by
  unfold execPowerStatusPeriod
  (repeat' first
    | (simp [h_now, h_hub, h_pow]; done)
    | simp [h_now, h_hub, h_pow]
    | split)

end Sys2Proof.Machine
end

