-- ==== Sys2Proof/Laws/FrameTime.lean ====
section
/-!
SUPPORT. Which units each operation of Machine/Time.lean can touch. A command's lemma says too that it always
answers a next state.
-/
set_option linter.unusedSimpArgs false
set_option linter.unusedVariables false
namespace Sys2Proof.Machine

@[simp] theorem execTimeInEdge_mask {U : Units} (h_now : U.now = true) (h_time : U.time = true)
    (h_hub : U.hub = true) (h_gnss : U.gnss = true) (dt : Nat) (rising : Bool) (s : State) :
    Goes U s (execTimeInEdge dt rising s) := by
  unfold execTimeInEdge
  (repeat' first
    | (simp [h_now, h_time, h_hub, h_gnss]; done)
    | simp [h_now, h_time, h_hub, h_gnss]
    | split)

@[simp] theorem confirmStep_mask {U : Units} (h_time : U.time = true) (h_hub : U.hub = true) (x : Int) (at_ : Nat)
    (s : State) :
    mask U (confirmStep x at_ s) = mask U s := by
  unfold confirmStep
  (repeat' first
    | (simp [h_time, h_hub]; done)
    | simp [h_time, h_hub]
    | split)

@[simp] theorem slewLaw_mask {U : Units} (h_time : U.time = true) (h_hub : U.hub = true) (h_gnss : U.gnss = true)
    (x : Int) (s : State) :
    mask U (slewLaw x s) = mask U s := by
  unfold slewLaw
  (repeat' first
    | (simp [h_time, h_hub, h_gnss]; done)
    | simp [h_time, h_hub, h_gnss]
    | split)

@[simp] theorem noteRate_mask {U : Units} (h_mar : U.mar = true) (s : State) :
    mask U (noteRate s) = mask U s := by
  unfold noteRate
  split <;> simp [h_mar]

@[simp] theorem intervalValid_mask {U : Units} (h_time : U.time = true) (h_hub : U.hub = true)
    (h_gnss : U.gnss = true) (x : Int) (at_ : Nat) (s : State) :
    mask U (intervalValid x at_ s) = mask U s := by
  unfold intervalValid
  extract_lets s1
  have q_s1 : mask U s1 = mask U s := by
    simp [s1, h_time, h_hub, h_gnss]
  clear_value s1
  (repeat' split) <;> simp [h_time, h_hub, h_gnss, q_s1]

@[simp] theorem intervalInvalid_mask {U : Units} (h_time : U.time = true) (h_hub : U.hub = true)
    (h_gnss : U.gnss = true) (s : State) :
    mask U (intervalInvalid s) = mask U s := by
  unfold intervalInvalid
  (repeat' first
    | (simp [h_time, h_hub, h_gnss]; done)
    | simp [h_time, h_hub, h_gnss]
    | split)

@[simp] theorem execDisciplineIntervalEnd_mask {U : Units} (h_now : U.now = true) (h_time : U.time = true)
    (h_hub : U.hub = true) (h_mar : U.mar = true) (h_gnss : U.gnss = true) (s : State) :
    Goes U s (execDisciplineIntervalEnd s) := by
  unfold execDisciplineIntervalEnd
  (repeat' first
    | (simp [h_now, h_time, h_hub, h_mar, h_gnss]; done)
    | simp [h_now, h_time, h_hub, h_mar, h_gnss]
    | split)

@[simp] theorem execTpOutPulse_mask {U : Units} (h_now : U.now = true) (h_time : U.time = true)
    (h_hub : U.hub = true) (s : State) :
    Goes U s (execTpOutPulse s) := by
  unfold execTpOutPulse
  with_reducible refine goes_ite (by simp) ?_
  extract_lets a s1 s2 stepNow
  have q : mask U s2 = mask U s := by simp [s2, s1, h_now, h_time, h_hub]
  clear_value s2
  rw [goes_next]
  with_reducible refine mask_ite q ?_
  simp [q, h_now, h_time, h_hub]

@[simp] theorem execTpOutPulseEnd_mask {U : Units} (h_now : U.now = true) (h_time : U.time = true) (s : State) :
    Goes U s (execTpOutPulseEnd s) := by
  unfold execTpOutPulseEnd
  split <;> simp [h_now, h_time]

@[simp] theorem execHoldoverLimit_mask {U : Units} (h_now : U.now = true) (h_time : U.time = true)
    (h_hub : U.hub = true) (dt : Nat) (s : State) :
    Goes U s (execHoldoverLimit dt s) := by
  unfold execHoldoverLimit
  (repeat' first
    | (simp [h_now, h_time, h_hub]; done)
    | simp [h_now, h_time, h_hub]
    | split)

@[simp] theorem execOcxoWarm_mask {U : Units} (h_now : U.now = true) (h_time : U.time = true) (s : State) :
    Goes U s (execOcxoWarm s) := by
  unfold execOcxoWarm
  split <;> simp [h_now, h_time]

@[simp] theorem execKdTimeStepConfirm_mask {U : Units} (h_now : U.now = true) (h_time : U.time = true)
    (h_hub : U.hub = true) (dt : Nat) (p : Post) (s : State) :
    Goes U s (execKdTimeStepConfirm dt p s) := by
  unfold execKdTimeStepConfirm
  repeat' first
      | (simp [h_now, h_time, h_hub]; done)
      | (with_reducible refine (mask_foldl _ (fun _ _ => ?_) _ _).trans ?_)
      | (with_reducible refine (mask_foldl_fst _ (fun _ _ => ?_) _ _).trans ?_)
      | with_reducible apply command_mask
      | intro _
      | (simp +zetaDelta [h_now, h_time, h_hub]; done)
      | simp [h_now, h_time, h_hub]
      | with_reducible refine mask_ite ?_ ?_
      | with_reducible refine goes_ite ?_ ?_
      | split
      | simp +zetaDelta [h_now, h_time, h_hub]

end Sys2Proof.Machine
end

