-- ==== Sys2Proof/Laws/FrameTimeStep.lean ====
section
/-!
SUPPORT. Which units each operation of Machine/TimeStep.lean can touch. A command's lemma says too that it always
answers a next state.
-/
set_option linter.unusedSimpArgs false
set_option linter.unusedVariables false
namespace Sys2Proof.Machine

@[simp] theorem stepTime_mask {U : Units} (h_now : U.now = true) (h_time : U.time = true) (k : Step) (s : State) :
    mask U (stepTime k s) = mask U s := by
  unfold stepTime
  simp [h_now, h_time]

@[simp] theorem stepSignals_mask {U : Units} (h_hub : U.hub = true) (h_sig : U.sig = true) (h_ctl : U.ctl = true)
    (h_can : U.can = true) (k : Step) (s : State) :
    mask U (stepSignals k s) = mask U s := by
  unfold stepSignals
  first
  | (simp [h_hub, h_sig, h_ctl, h_can]; done)
  | (repeat' split) <;> (simp [h_hub, h_sig, h_ctl, h_can]; done)
  | (repeat' first
      | (simp [h_hub, h_sig, h_ctl, h_can]; done)
      | (with_reducible refine (mask_foldl _ (fun _ _ => ?_) _ _).trans ?_)
      | (with_reducible refine (mask_foldl_fst _ (fun _ _ => ?_) _ _).trans ?_)
      | simp [h_hub, h_sig, h_ctl, h_can]
      | split)

@[simp] theorem stepGnss_mask {U : Units} (h_gnss : U.gnss = true) (k : Step) (s : State) :
    mask U (stepGnss k s) = mask U s := by
  unfold stepGnss
  simp [h_gnss]

@[simp] theorem stepFusion_mask {U : Units} (h_hub : U.hub = true) (h_fus : U.fus = true) (k : Step) (s : State) :
    mask U (stepFusion k s) = mask U s := by
  unfold stepFusion
  split <;> simp [h_hub, h_fus]

@[simp] theorem stepField_mask {U : Units} (h_hub : U.hub = true) (h_sig : U.sig = true) (h_field : U.field = true)
    (k : Step) (s : State) :
    mask U (stepField k s) = mask U s := by
  unfold stepField
  first
  | (simp [h_hub, h_sig, h_field]; done)
  | (repeat' split) <;> (simp [h_hub, h_sig, h_field]; done)
  | (repeat' first
      | (simp [h_hub, h_sig, h_field]; done)
      | (with_reducible refine (mask_foldl _ (fun _ _ => ?_) _ _).trans ?_)
      | (with_reducible refine (mask_foldl_fst _ (fun _ _ => ?_) _ _).trans ?_)
      | simp [h_hub, h_sig, h_field]
      | split)

@[simp] theorem stepFieldGrids_mask {U : Units} (h_field : U.field = true) (k : Step) (s : State) :
    mask U (stepFieldGrids k s) = mask U s := by
  unfold stepFieldGrids
  simp [h_field]

@[simp] theorem stepWindows_mask {U : Units} (h_hub : U.hub = true) (k : Step) (s : State) :
    mask U (stepWindows k s) = mask U s := by
  unfold stepWindows
  first
  | (simp [h_hub]; done)
  | (repeat' split) <;> (simp [h_hub]; done)
  | (repeat' first
      | (simp [h_hub]; done)
      | (with_reducible refine (mask_foldl _ (fun _ _ => ?_) _ _).trans ?_)
      | (with_reducible refine (mask_foldl_fst _ (fun _ _ => ?_) _ _).trans ?_)
      | simp [h_hub]
      | split)

@[simp] theorem stepCam_mask {U : Units} (h_cam : U.cam = true) (k : Step) (s : State) :
    mask U (stepCam k s) = mask U s := by
  unfold stepCam
  simp [h_cam]

@[simp] theorem stepLanes_mask {U : Units} (h_lanes : U.lanes = true) (k : Step) (s : State) :
    mask U (stepLanes k s) = mask U s := by
  unfold stepLanes
  simp [h_lanes]

@[simp] theorem stepHub_mask {U : Units} (h_hub : U.hub = true) (k : Step) (s : State) :
    mask U (stepHub k s) = mask U s := by
  unfold stepHub
  simp [h_hub]

@[simp] theorem stepCat_mask {U : Units} (h_cat : U.cat = true) (k : Step) (s : State) :
    mask U (stepCat k s) = mask U s := by
  unfold stepCat
  simp [h_cat]

@[simp] theorem stepMap_mask {U : Units} (h_map : U.map = true) (k : Step) (s : State) :
    mask U (stepMap k s) = mask U s := by
  unfold stepMap
  simp [h_map]

@[simp] theorem stepGrids_mask {U : Units} (h_pow : U.pow = true) (h_valve : U.valve = true) (h_can : U.can = true)
    (h_modem : U.modem = true) (h_disp : U.disp = true) (k : Step) (s : State) :
    mask U (stepGrids k s) = mask U s := by
  unfold stepGrids
  simp [h_pow, h_valve, h_can, h_modem, h_disp]

@[simp] theorem takeStep_mask {U : Units} (h_now : U.now = true) (h_time : U.time = true) (h_lanes : U.lanes = true)
    (h_hub : U.hub = true) (h_cat : U.cat = true) (h_sig : U.sig = true) (h_ctl : U.ctl = true)
    (h_pas : U.pas = true) (h_pow : U.pow = true) (h_valve : U.valve = true) (h_field : U.field = true)
    (h_can : U.can = true) (h_modem : U.modem = true) (h_disp : U.disp = true) (h_gnss : U.gnss = true)
    (h_fus : U.fus = true) (h_cam : U.cam = true) (h_map : U.map = true) (k : Step) (s : State) :
    mask U (takeStep k s) = mask U s := by
  unfold takeStep
  simp [h_now, h_time, h_lanes, h_hub, h_cat, h_sig, h_ctl, h_pas, h_pow, h_valve, h_field, h_can, h_modem, h_disp, h_gnss, h_fus, h_cam, h_map]

@[simp] theorem execStepInstant_mask {U : Units} (h_now : U.now = true) (h_time : U.time = true)
    (h_lanes : U.lanes = true) (h_hub : U.hub = true) (h_cat : U.cat = true) (h_sig : U.sig = true)
    (h_ctl : U.ctl = true) (h_pas : U.pas = true) (h_pow : U.pow = true) (h_valve : U.valve = true)
    (h_field : U.field = true) (h_can : U.can = true) (h_modem : U.modem = true) (h_disp : U.disp = true)
    (h_gnss : U.gnss = true) (h_fus : U.fus = true) (h_cam : U.cam = true) (h_map : U.map = true)
    (s : State) :
    Goes U s (execStepInstant s) := by
  unfold execStepInstant
  (repeat' split) <;> simp [h_now, h_time, h_lanes, h_hub, h_cat, h_sig, h_ctl, h_pas, h_pow, h_valve, h_field, h_can, h_modem, h_disp, h_gnss, h_fus, h_cam, h_map]

end Sys2Proof.Machine
end

