-- ==== Sys2Proof/Laws/FrameValve.lean ====
section
/-!
SUPPORT. Which units each operation of Machine/Valve.lean can touch. A command's lemma says too that it always
answers a next state.
-/
set_option linter.unusedSimpArgs false
set_option linter.unusedVariables false
namespace Sys2Proof.Machine

@[simp] theorem valveCommand_mask {U : Units} (h_now : U.now = true) (h_hub : U.hub = true)
    (h_valve : U.valve = true) (dt kind : Nat) (sc : RecSchema) (p : Post) (s : State) :
    mask U (valveCommand dt kind sc p s) = mask U s := by
  unfold valveCommand
  repeat' first
      | (simp [h_now, h_hub, h_valve]; done)
      | (with_reducible refine (mask_foldl _ (fun _ _ => ?_) _ _).trans ?_)
      | (with_reducible refine (mask_foldl_fst _ (fun _ _ => ?_) _ _).trans ?_)
      | with_reducible apply command_mask
      | intro _
      | (simp +zetaDelta [h_now, h_hub, h_valve]; done)
      | simp [h_now, h_hub, h_valve]
      | with_reducible refine mask_ite ?_ ?_
      | with_reducible refine goes_ite ?_ ?_
      | split
      | simp +zetaDelta [h_now, h_hub, h_valve]

@[simp] theorem execKdValveProfile_mask {U : Units} (h_now : U.now = true) (h_hub : U.hub = true)
    (h_valve : U.valve = true) (dt : Nat) (p : Post) (s : State) :
    Goes U s (execKdValveProfile dt p s) := by
  unfold execKdValveProfile
  simp [h_now, h_hub, h_valve]

@[simp] theorem execKdValveHoldTrim_mask {U : Units} (h_now : U.now = true) (h_hub : U.hub = true)
    (h_valve : U.valve = true) (dt : Nat) (p : Post) (s : State) :
    Goes U s (execKdValveHoldTrim dt p s) := by
  unfold execKdValveHoldTrim
  simp [h_now, h_hub, h_valve]

@[simp] theorem execKdValveOff_mask {U : Units} (h_now : U.now = true) (h_hub : U.hub = true)
    (h_valve : U.valve = true) (dt : Nat) (p : Post) (s : State) :
    Goes U s (execKdValveOff dt p s) := by
  unfold execKdValveOff
  simp [h_now, h_hub, h_valve]

@[simp] theorem execValveRequestDecide_mask {U : Units} (h_now : U.now = true) (h_lanes : U.lanes = true)
    (h_hub : U.hub = true) (h_sig : U.sig = true) (h_ctl : U.ctl = true) (h_valve : U.valve = true)
    (h_field : U.field = true) (h_can : U.can = true) (s : State) :
    Goes U s (execValveRequestDecide s) := by
  unfold execValveRequestDecide
  first
  | (simp [h_now, h_lanes, h_hub, h_sig, h_ctl, h_valve, h_field, h_can]; done)
  | (repeat' split) <;> (simp [h_now, h_lanes, h_hub, h_sig, h_ctl, h_valve, h_field, h_can]; done)
  | (repeat' first
      | (simp [h_now, h_lanes, h_hub, h_sig, h_ctl, h_valve, h_field, h_can]; done)
      | (with_reducible refine (mask_foldl _ (fun _ _ => ?_) _ _).trans ?_)
      | (with_reducible refine (mask_foldl_fst _ (fun _ _ => ?_) _ _).trans ?_)
      | simp [h_now, h_lanes, h_hub, h_sig, h_ctl, h_valve, h_field, h_can]
      | split)

@[simp] theorem sensed_mask {U : Units} (h_valve : U.valve = true) (n ma : Nat) (w : List Sense) (s : State) :
    mask U (sensed n ma w s) = mask U s := by
  simp [sensed, h_valve]

@[simp] theorem execValveRiseEnd_mask {U : Units} (h_now : U.now = true) (h_hub : U.hub = true)
    (h_valve : U.valve = true) (n : Fin 24) (dt ma : Nat) (w : List Sense) (m : ValveMeas) (s : State) :
    Goes U s (execValveRiseEnd n dt ma w m s) := by
  unfold execValveRiseEnd
  extract_lets c
  clear_value c
  repeat' first
      | (simp [h_now, h_hub, h_valve]; done)
      | (with_reducible refine (mask_foldl _ (fun _ _ => ?_) _ _).trans ?_)
      | (with_reducible refine (mask_foldl_fst _ (fun _ _ => ?_) _ _).trans ?_)
      | with_reducible apply command_mask
      | intro _
      | (simp +zetaDelta [h_now, h_hub, h_valve]; done)
      | simp [h_now, h_hub, h_valve]
      | with_reducible refine mask_ite ?_ ?_
      | with_reducible refine goes_ite ?_ ?_
      | split
      | simp +zetaDelta [h_now, h_hub, h_valve]

@[simp] theorem execValvePeakEnd_mask {U : Units} (h_now : U.now = true) (h_hub : U.hub = true)
    (h_valve : U.valve = true) (n : Fin 24) (ma : Nat) (w : List Sense) (s : State) :
    Goes U s (execValvePeakEnd n ma w s) := by
  unfold execValvePeakEnd
  extract_lets c
  clear_value c
  repeat' first
      | (simp [h_now, h_hub, h_valve]; done)
      | (with_reducible refine (mask_foldl _ (fun _ _ => ?_) _ _).trans ?_)
      | (with_reducible refine (mask_foldl_fst _ (fun _ _ => ?_) _ _).trans ?_)
      | with_reducible apply command_mask
      | intro _
      | (simp +zetaDelta [h_now, h_hub, h_valve]; done)
      | simp [h_now, h_hub, h_valve]
      | with_reducible refine mask_ite ?_ ?_
      | with_reducible refine goes_ite ?_ ?_
      | split
      | simp +zetaDelta [h_now, h_hub, h_valve]

@[simp] theorem execValveQuenchEnd_mask {U : Units} (h_now : U.now = true) (h_hub : U.hub = true)
    (h_ctl : U.ctl = true) (h_valve : U.valve = true) (n : Fin 24) (dt i : Nat) (s : State) :
    Goes U s (execValveQuenchEnd n dt i s) := by
  unfold execValveQuenchEnd
  (repeat' first
    | (simp [h_now, h_hub, h_ctl, h_valve]; done)
    | simp [h_now, h_hub, h_ctl, h_valve]
    | split)

@[simp] theorem execValveBoostDeadline_mask {U : Units} (h_now : U.now = true) (h_hub : U.hub = true)
    (h_valve : U.valve = true) (n : Fin 24) (s : State) :
    Goes U s (execValveBoostDeadline n s) := by
  unfold execValveBoostDeadline
  extract_lets b
  clear_value b
  repeat' first
      | (simp [h_now, h_hub, h_valve]; done)
      | (with_reducible refine (mask_foldl _ (fun _ _ => ?_) _ _).trans ?_)
      | (with_reducible refine (mask_foldl_fst _ (fun _ _ => ?_) _ _).trans ?_)
      | with_reducible apply command_mask
      | intro _
      | (simp +zetaDelta [h_now, h_hub, h_valve]; done)
      | simp [h_now, h_hub, h_valve]
      | with_reducible refine mask_ite ?_ ?_
      | with_reducible refine goes_ite ?_ ?_
      | split
      | simp +zetaDelta [h_now, h_hub, h_valve]

@[simp] theorem takeMean_mask {U : Units} (h_now : U.now = true) (h_valve : U.valve = true) (n : Nat)
    (w : List Sense) (m : ValveMeas) (s : State) :
    mask U (takeMean n w m s) = mask U s := by
  unfold takeMean
  simp [h_now, h_valve]

@[simp] theorem execValveChopPeriodEnd_mask {U : Units} (h_now : U.now = true) (h_hub : U.hub = true)
    (h_sig : U.sig = true) (h_valve : U.valve = true) (n : Fin 24) (w : List Sense) (m : ValveMeas)
    (s : State) :
    Goes U s (execValveChopPeriodEnd n w m s) := by
  unfold execValveChopPeriodEnd
  (repeat' first
    | (simp [h_now, h_hub, h_sig, h_valve]; done)
    | simp [h_now, h_hub, h_sig, h_valve]
    | split)

@[simp] theorem execValveOpenOnCheck_mask {U : Units} (h_now : U.now = true) (h_hub : U.hub = true)
    (h_valve : U.valve = true) (n : Fin 24) (m : ValveMeas) (s : State) :
    Goes U s (execValveOpenOnCheck n m s) := by
  unfold execValveOpenOnCheck
  (repeat' first
    | (simp [h_now, h_hub, h_valve]; done)
    | simp [h_now, h_hub, h_valve]
    | split)

@[simp] theorem execValveScbTrip_mask {U : Units} (h_now : U.now = true) (h_hub : U.hub = true)
    (h_valve : U.valve = true) (n : Fin 24) (dt : Nat) (m : ValveMeas) (s : State) :
    Goes U s (execValveScbTrip n dt m s) := by
  unfold execValveScbTrip
  (repeat' first
    | (simp [h_now, h_hub, h_valve]; done)
    | simp [h_now, h_hub, h_valve]
    | split)

@[simp] theorem execValveBankLine_mask {U : Units} (h_now : U.now = true) (h_hub : U.hub = true)
    (h_valve : U.valve = true) (b : Fin 6) (dt : Nat) (m : ValveMeas) (s : State) :
    Goes U s (execValveBankLine b dt m s) := by
  unfold execValveBankLine
  first
  | (simp [h_now, h_hub, h_valve]; done)
  | (repeat' split) <;> (simp [h_now, h_hub, h_valve]; done)
  | (repeat' first
      | (simp [h_now, h_hub, h_valve]; done)
      | (with_reducible refine (mask_foldl _ (fun _ _ => ?_) _ _).trans ?_)
      | (with_reducible refine (mask_foldl_fst _ (fun _ _ => ?_) _ _).trans ?_)
      | simp [h_now, h_hub, h_valve]
      | split)

@[simp] theorem execValveOffTest_mask {U : Units} (h_now : U.now = true) (h_valve : U.valve = true) (s : State) :
    Goes U s (execValveOffTest s) := by
  unfold execValveOffTest
  simp [h_now, h_valve]

@[simp] theorem execValveOffTestComplete_mask {U : Units} (h_now : U.now = true) (h_hub : U.hub = true)
    (h_valve : U.valve = true) (n : Fin 24) (m : ValveMeas) (s : State) :
    Goes U s (execValveOffTestComplete n m s) := by
  unfold execValveOffTestComplete
  (repeat' first
    | (simp [h_now, h_hub, h_valve]; done)
    | simp [h_now, h_hub, h_valve]
    | split)

@[simp] theorem execValveBankUndervolt_mask {U : Units} (h_now : U.now = true) (h_pow : U.pow = true)
    (h_valve : U.valve = true) (b : Fin 6) (dt vs : Nat) (s : State) :
    Goes U s (execValveBankUndervolt b dt vs s) := by
  unfold execValveBankUndervolt
  first
  | (simp [h_now, h_pow, h_valve]; done)
  | (repeat' split) <;> (simp [h_now, h_pow, h_valve]; done)
  | (repeat' first
      | (simp [h_now, h_pow, h_valve]; done)
      | (with_reducible refine (mask_foldl _ (fun _ _ => ?_) _ _).trans ?_)
      | (with_reducible refine (mask_foldl_fst _ (fun _ _ => ?_) _ _).trans ?_)
      | simp [h_now, h_pow, h_valve]
      | split)

@[simp] theorem execValveStatusPeriod_mask {U : Units} (h_now : U.now = true) (h_hub : U.hub = true)
    (h_valve : U.valve = true) (s : State) :
    Goes U s (execValveStatusPeriod s) := by
  unfold execValveStatusPeriod
  (repeat' first
    | (simp [h_now, h_hub, h_valve]; done)
    | simp [h_now, h_hub, h_valve]
    | split)

@[simp] theorem execPlateTemperature_mask {U : Units} (h_now : U.now = true) (h_pow : U.pow = true)
    (h_valve : U.valve = true) (h_disp : U.disp = true) (c : Int) (s : State) :
    Goes U s (execPlateTemperature c s) := by
  unfold execPlateTemperature
  simp [h_now, h_pow, h_valve, h_disp]

end Sys2Proof.Machine
end

