-- ==== Sys2Proof/Laws/Ops.lean ====
section
/-!
SUPPORT. What passing time leaves alone: every unit but the clocks, and what is read from them.
-/
namespace Sys2Proof.Machine

@[simp] theorem tick_time (dt : Nat) (s : State) : (tick dt s).time = s.time := by rfl
@[simp] theorem tick_lanes (dt : Nat) (s : State) : (tick dt s).lanes = s.lanes := by rfl
@[simp] theorem tick_hub (dt : Nat) (s : State) : (tick dt s).hub = s.hub := by rfl
@[simp] theorem tick_cat (dt : Nat) (s : State) : (tick dt s).cat = s.cat := by rfl
@[simp] theorem tick_sig (dt : Nat) (s : State) : (tick dt s).sig = s.sig := by rfl
@[simp] theorem tick_ctl (dt : Nat) (s : State) : (tick dt s).ctl = s.ctl := by rfl
@[simp] theorem tick_pas (dt : Nat) (s : State) : (tick dt s).pas = s.pas := by rfl
@[simp] theorem tick_img (dt : Nat) (s : State) : (tick dt s).img = s.img := by rfl
@[simp] theorem tick_pow (dt : Nat) (s : State) : (tick dt s).pow = s.pow := by rfl
@[simp] theorem tick_mar (dt : Nat) (s : State) : (tick dt s).mar = s.mar := by rfl
@[simp] theorem tick_bar (dt : Nat) (s : State) : (tick dt s).bar = s.bar := by rfl
@[simp] theorem tick_valve (dt : Nat) (s : State) : (tick dt s).valve = s.valve := by rfl
@[simp] theorem tick_field (dt : Nat) (s : State) : (tick dt s).field = s.field := by rfl
@[simp] theorem tick_can (dt : Nat) (s : State) : (tick dt s).can = s.can := by rfl
@[simp] theorem tick_modem (dt : Nat) (s : State) : (tick dt s).modem = s.modem := by rfl
@[simp] theorem tick_disp (dt : Nat) (s : State) : (tick dt s).disp = s.disp := by rfl
@[simp] theorem tick_gnss (dt : Nat) (s : State) : (tick dt s).gnss = s.gnss := by rfl
@[simp] theorem tick_pos (dt : Nat) (s : State) : (tick dt s).pos = s.pos := by rfl
@[simp] theorem tick_fus (dt : Nat) (s : State) : (tick dt s).fus = s.fus := by rfl
@[simp] theorem tick_cam (dt : Nat) (s : State) : (tick dt s).cam = s.cam := by rfl
@[simp] theorem tick_map (dt : Nat) (s : State) : (tick dt s).map = s.map := by rfl
@[simp] theorem tick_pending (dt : Nat) (s : State) : (tick dt s).pending = s.pending := by rfl
@[simp] theorem linkLive_tick (dt : Nat) (s : State) : linkLive (tick dt s) = linkLive s := by rfl
@[simp] theorem awake_tick (dt : Nat) (s : State) : awake (tick dt s) = awake s := by rfl
@[simp] theorem commanding_tick (dt : Nat) (s : State) : commanding (tick dt s) = commanding s := by rfl
@[simp] theorem keyoff_tick (dt : Nat) (s : State) : keyoff (tick dt s) = keyoff s := by rfl
@[simp] theorem fmtOf_tick (dt : Nat) (s : State) : fmtOf (tick dt s) = fmtOf s := by rfl
@[simp] theorem curCat_tick (dt : Nat) (s : State) : curCat (tick dt s) = curCat s := by rfl
@[simp] theorem antSet_tick (dt : Nat) (s : State) : antSet (tick dt s) = antSet s := by rfl
@[simp] theorem basePs_tick (dt : Nat) (s : State) : basePs (tick dt s) = basePs s := by rfl
@[simp] theorem recBody_tick (dt k n : Nat) (s : State) : recBody (tick dt s) k n = recBody s k n := by rfl
@[simp] theorem cfg_tick (dt k n x z : Nat) (s : State) : cfg (tick dt s) k n x z = cfg s k n x z := by rfl
@[simp] theorem cfgS_tick (dt k n x z : Nat) (s : State) : cfgS (tick dt s) k n x z = cfgS s k n x z := by rfl

@[simp] theorem reach_time (t : Nat) (s : State) : (reach t s).time = s.time := by rfl
@[simp] theorem reach_lanes (t : Nat) (s : State) : (reach t s).lanes = s.lanes := by rfl
@[simp] theorem reach_hub (t : Nat) (s : State) : (reach t s).hub = s.hub := by rfl
@[simp] theorem reach_cat (t : Nat) (s : State) : (reach t s).cat = s.cat := by rfl
@[simp] theorem reach_sig (t : Nat) (s : State) : (reach t s).sig = s.sig := by rfl
@[simp] theorem reach_ctl (t : Nat) (s : State) : (reach t s).ctl = s.ctl := by rfl
@[simp] theorem reach_pas (t : Nat) (s : State) : (reach t s).pas = s.pas := by rfl
@[simp] theorem reach_img (t : Nat) (s : State) : (reach t s).img = s.img := by rfl
@[simp] theorem reach_pow (t : Nat) (s : State) : (reach t s).pow = s.pow := by rfl
@[simp] theorem reach_mar (t : Nat) (s : State) : (reach t s).mar = s.mar := by rfl
@[simp] theorem reach_bar (t : Nat) (s : State) : (reach t s).bar = s.bar := by rfl
@[simp] theorem reach_valve (t : Nat) (s : State) : (reach t s).valve = s.valve := by rfl
@[simp] theorem reach_field (t : Nat) (s : State) : (reach t s).field = s.field := by rfl
@[simp] theorem reach_can (t : Nat) (s : State) : (reach t s).can = s.can := by rfl
@[simp] theorem reach_modem (t : Nat) (s : State) : (reach t s).modem = s.modem := by rfl
@[simp] theorem reach_disp (t : Nat) (s : State) : (reach t s).disp = s.disp := by rfl
@[simp] theorem reach_gnss (t : Nat) (s : State) : (reach t s).gnss = s.gnss := by rfl
@[simp] theorem reach_pos (t : Nat) (s : State) : (reach t s).pos = s.pos := by rfl
@[simp] theorem reach_fus (t : Nat) (s : State) : (reach t s).fus = s.fus := by rfl
@[simp] theorem reach_cam (t : Nat) (s : State) : (reach t s).cam = s.cam := by rfl
@[simp] theorem reach_map (t : Nat) (s : State) : (reach t s).map = s.map := by rfl
@[simp] theorem reach_pending (t : Nat) (s : State) : (reach t s).pending = s.pending := by rfl
@[simp] theorem linkLive_reach (t : Nat) (s : State) : linkLive (reach t s) = linkLive s := by rfl
@[simp] theorem awake_reach (t : Nat) (s : State) : awake (reach t s) = awake s := by rfl
@[simp] theorem commanding_reach (t : Nat) (s : State) : commanding (reach t s) = commanding s := by rfl
@[simp] theorem keyoff_reach (t : Nat) (s : State) : keyoff (reach t s) = keyoff s := by rfl
@[simp] theorem fmtOf_reach (t : Nat) (s : State) : fmtOf (reach t s) = fmtOf s := by rfl
@[simp] theorem curCat_reach (t : Nat) (s : State) : curCat (reach t s) = curCat s := by rfl
@[simp] theorem antSet_reach (t : Nat) (s : State) : antSet (reach t s) = antSet s := by rfl
@[simp] theorem basePs_reach (t : Nat) (s : State) : basePs (reach t s) = basePs s := by rfl
@[simp] theorem recBody_reach (t k n : Nat) (s : State) : recBody (reach t s) k n = recBody s k n := by rfl
@[simp] theorem cfg_reach (t k n x z : Nat) (s : State) : cfg (reach t s) k n x z = cfg s k n x z := by rfl
@[simp] theorem cfgS_reach (t k n x z : Nat) (s : State) : cfgS (reach t s) k n x z = cfgS s k n x z := by rfl

@[simp] theorem reachEl_time (t : Nat) (s : State) : (reachEl t s).time = s.time := by rfl
@[simp] theorem reachEl_lanes (t : Nat) (s : State) : (reachEl t s).lanes = s.lanes := by rfl
@[simp] theorem reachEl_hub (t : Nat) (s : State) : (reachEl t s).hub = s.hub := by rfl
@[simp] theorem reachEl_cat (t : Nat) (s : State) : (reachEl t s).cat = s.cat := by rfl
@[simp] theorem reachEl_sig (t : Nat) (s : State) : (reachEl t s).sig = s.sig := by rfl
@[simp] theorem reachEl_ctl (t : Nat) (s : State) : (reachEl t s).ctl = s.ctl := by rfl
@[simp] theorem reachEl_pas (t : Nat) (s : State) : (reachEl t s).pas = s.pas := by rfl
@[simp] theorem reachEl_img (t : Nat) (s : State) : (reachEl t s).img = s.img := by rfl
@[simp] theorem reachEl_pow (t : Nat) (s : State) : (reachEl t s).pow = s.pow := by rfl
@[simp] theorem reachEl_mar (t : Nat) (s : State) : (reachEl t s).mar = s.mar := by rfl
@[simp] theorem reachEl_bar (t : Nat) (s : State) : (reachEl t s).bar = s.bar := by rfl
@[simp] theorem reachEl_valve (t : Nat) (s : State) : (reachEl t s).valve = s.valve := by rfl
@[simp] theorem reachEl_field (t : Nat) (s : State) : (reachEl t s).field = s.field := by rfl
@[simp] theorem reachEl_can (t : Nat) (s : State) : (reachEl t s).can = s.can := by rfl
@[simp] theorem reachEl_modem (t : Nat) (s : State) : (reachEl t s).modem = s.modem := by rfl
@[simp] theorem reachEl_disp (t : Nat) (s : State) : (reachEl t s).disp = s.disp := by rfl
@[simp] theorem reachEl_gnss (t : Nat) (s : State) : (reachEl t s).gnss = s.gnss := by rfl
@[simp] theorem reachEl_pos (t : Nat) (s : State) : (reachEl t s).pos = s.pos := by rfl
@[simp] theorem reachEl_fus (t : Nat) (s : State) : (reachEl t s).fus = s.fus := by rfl
@[simp] theorem reachEl_cam (t : Nat) (s : State) : (reachEl t s).cam = s.cam := by rfl
@[simp] theorem reachEl_map (t : Nat) (s : State) : (reachEl t s).map = s.map := by rfl
@[simp] theorem reachEl_pending (t : Nat) (s : State) : (reachEl t s).pending = s.pending := by rfl
@[simp] theorem linkLive_reachEl (t : Nat) (s : State) : linkLive (reachEl t s) = linkLive s := by rfl
@[simp] theorem awake_reachEl (t : Nat) (s : State) : awake (reachEl t s) = awake s := by rfl
@[simp] theorem commanding_reachEl (t : Nat) (s : State) : commanding (reachEl t s) = commanding s := by rfl
@[simp] theorem keyoff_reachEl (t : Nat) (s : State) : keyoff (reachEl t s) = keyoff s := by rfl
@[simp] theorem fmtOf_reachEl (t : Nat) (s : State) : fmtOf (reachEl t s) = fmtOf s := by rfl
@[simp] theorem curCat_reachEl (t : Nat) (s : State) : curCat (reachEl t s) = curCat s := by rfl
@[simp] theorem antSet_reachEl (t : Nat) (s : State) : antSet (reachEl t s) = antSet s := by rfl
@[simp] theorem basePs_reachEl (t : Nat) (s : State) : basePs (reachEl t s) = basePs s := by rfl
@[simp] theorem recBody_reachEl (t k n : Nat) (s : State) : recBody (reachEl t s) k n = recBody s k n := by rfl
@[simp] theorem cfg_reachEl (t k n x z : Nat) (s : State) : cfg (reachEl t s) k n x z = cfg s k n x z := by rfl
@[simp] theorem cfgS_reachEl (t k n x z : Nat) (s : State) : cfgS (reachEl t s) k n x z = cfgS s k n x z := by rfl

/-- What passing time does to the clocks is said by `Now.pass` and `Now.goto` alone. -/
@[simp] theorem tick_now (dt : Nat) (s : State) : (tick dt s).now = s.now.pass s.time.r dt := by rfl
@[simp] theorem reach_now (t : Nat) (s : State) : (reach t s).now = s.now.goto s.time.r t := by rfl
@[simp] theorem reachEl_now (t : Nat) (s : State) :
    (reachEl t s).now = s.now.pass s.time.r (t - s.now.el) := by rfl
@[simp] theorem pass_el (r : Int) (d : Nat) (n : Now) : (n.pass r d).el = n.el + d := by rfl
@[simp] theorem pass_free (r : Int) (d : Nat) (n : Now) : (n.pass r d).free = n.free := by rfl
@[simp] theorem goto_ft (r : Int) (t : Nat) (n : Now) : (n.goto r t).ft = max n.ft t % 2 ^ 64 := by rfl
@[simp] theorem goto_free (r : Int) (t : Nat) (n : Now) : (n.goto r t).free = n.free := by rfl
theorem tick_el (dt : Nat) (s : State) : (tick dt s).now.el = s.now.el + dt := by rfl
theorem tick_free (dt : Nat) (s : State) : (tick dt s).now.free = s.now.free := by rfl

/-- What the hub is asked for stays in the hub. -/
@[simp] theorem ask_now (a : HubAct) (s : State) : (ask a s).now = s.now := by rfl
@[simp] theorem ask_time (a : HubAct) (s : State) : (ask a s).time = s.time := by rfl
@[simp] theorem ask_lanes (a : HubAct) (s : State) : (ask a s).lanes = s.lanes := by rfl
@[simp] theorem ask_cat (a : HubAct) (s : State) : (ask a s).cat = s.cat := by rfl
@[simp] theorem ask_sig (a : HubAct) (s : State) : (ask a s).sig = s.sig := by rfl
@[simp] theorem ask_ctl (a : HubAct) (s : State) : (ask a s).ctl = s.ctl := by rfl
@[simp] theorem ask_pas (a : HubAct) (s : State) : (ask a s).pas = s.pas := by rfl
@[simp] theorem ask_img (a : HubAct) (s : State) : (ask a s).img = s.img := by rfl
@[simp] theorem ask_pow (a : HubAct) (s : State) : (ask a s).pow = s.pow := by rfl
@[simp] theorem ask_mar (a : HubAct) (s : State) : (ask a s).mar = s.mar := by rfl
@[simp] theorem ask_bar (a : HubAct) (s : State) : (ask a s).bar = s.bar := by rfl
@[simp] theorem ask_valve (a : HubAct) (s : State) : (ask a s).valve = s.valve := by rfl
@[simp] theorem ask_field (a : HubAct) (s : State) : (ask a s).field = s.field := by rfl
@[simp] theorem ask_can (a : HubAct) (s : State) : (ask a s).can = s.can := by rfl
@[simp] theorem ask_modem (a : HubAct) (s : State) : (ask a s).modem = s.modem := by rfl
@[simp] theorem ask_disp (a : HubAct) (s : State) : (ask a s).disp = s.disp := by rfl
@[simp] theorem ask_gnss (a : HubAct) (s : State) : (ask a s).gnss = s.gnss := by rfl
@[simp] theorem ask_pos (a : HubAct) (s : State) : (ask a s).pos = s.pos := by rfl
@[simp] theorem ask_fus (a : HubAct) (s : State) : (ask a s).fus = s.fus := by rfl
@[simp] theorem ask_cam (a : HubAct) (s : State) : (ask a s).cam = s.cam := by rfl
@[simp] theorem ask_map (a : HubAct) (s : State) : (ask a s).map = s.map := by rfl
@[simp] theorem ask_pending (a : HubAct) (s : State) : (ask a s).pending = s.pending := by rfl

end Sys2Proof.Machine
end

