-- ==== Sys2Proof/Laws/KeepBar.lean ====
section
/-!
SUPPORT. What every operation that touches the unit `bar` keeps of it.
-/
set_option linter.unusedSimpArgs false
set_option linter.unusedVariables false
namespace Sys2Proof.Machine
set_option Elab.async false

/-- Every unit but this one. -/
def barUnits : Units :=
  { now := true, time := true, lanes := true, hub := true, cat := true, sig := true, ctl := true, pas := true, img := true, pow := true, mar := true, valve := true, field := true, can := true, modem := true, disp := true, gnss := true, pos := true, fus := true, cam := true, map := true }

/-- `Bar.inBounds`, field by field. -/
structure BarHolds (rtLo rtHi dbLo dbHi retLo retHi dbPollUs : Nat) : Prop where
  holds : rtLo % 4096 = 0 ∧ dbLo % 4096 = 0 ∧ retLo % 4096 = 0 ∧ rtLo < 2 ^ 32 ∧ rtHi < 2 ^ 32 ∧ dbLo < 2 ^ 32
    ∧ dbHi < 2 ^ 32 ∧ retLo < 2 ^ 32 ∧ retHi < 2 ^ 32 ∧ 2 ≤ dbPollUs ∧ dbPollUs ≤ 1000

/-- The unit in a masked state keeps to it. -/
structure BarKept (m : Masked) : Prop where
  holds : ∀ d, m.bar = some d → BarHolds d.rtLo d.rtHi d.dbLo d.dbHi d.retLo d.retHi d.dbPollUs

/-- An outcome is a next state whose unit keeps to it. -/
structure BarGoes (o : Host.Outcome State Fault Refusal) : Prop where
  goes : ∃ t, o = .next t ∧ BarKept (mask barUnits t)

@[simp] theorem barUnits_now : barUnits.now = true := by rfl
@[simp] theorem barUnits_time : barUnits.time = true := by rfl
@[simp] theorem barUnits_lanes : barUnits.lanes = true := by rfl
@[simp] theorem barUnits_hub : barUnits.hub = true := by rfl
@[simp] theorem barUnits_cat : barUnits.cat = true := by rfl
@[simp] theorem barUnits_sig : barUnits.sig = true := by rfl
@[simp] theorem barUnits_ctl : barUnits.ctl = true := by rfl
@[simp] theorem barUnits_pas : barUnits.pas = true := by rfl
@[simp] theorem barUnits_img : barUnits.img = true := by rfl
@[simp] theorem barUnits_pow : barUnits.pow = true := by rfl
@[simp] theorem barUnits_mar : barUnits.mar = true := by rfl
@[simp] theorem barUnits_valve : barUnits.valve = true := by rfl
@[simp] theorem barUnits_field : barUnits.field = true := by rfl
@[simp] theorem barUnits_can : barUnits.can = true := by rfl
@[simp] theorem barUnits_modem : barUnits.modem = true := by rfl
@[simp] theorem barUnits_disp : barUnits.disp = true := by rfl
@[simp] theorem barUnits_gnss : barUnits.gnss = true := by rfl
@[simp] theorem barUnits_pos : barUnits.pos = true := by rfl
@[simp] theorem barUnits_fus : barUnits.fus = true := by rfl
@[simp] theorem barUnits_cam : barUnits.cam = true := by rfl
@[simp] theorem barUnits_map : barUnits.map = true := by rfl

@[simp] theorem bar_kept_up (f : Bar → Bar) (s : State) :
    BarKept (mask barUnits (s.upBar f)) ↔ BarHolds (f s.bar).rtLo (f s.bar).rtHi (f s.bar).dbLo (f s.bar).dbHi (f s.bar).retLo (f s.bar).retHi (f s.bar).dbPollUs := by
  exact ⟨fun h => h.holds _ rfl, fun h => ⟨fun d e => by cases e; exact h⟩⟩

@[simp] theorem bar_kept (s : State) : BarHolds s.bar.rtLo s.bar.rtHi s.bar.dbLo s.bar.dbHi s.bar.retLo s.bar.retHi s.bar.dbPollUs ↔ BarKept (mask barUnits s) := by
  exact ⟨fun h => ⟨fun d e => by cases e; exact h⟩, fun h => h.holds _ rfl⟩

theorem bar_kept_iff (s : State) : BarKept (mask barUnits s) ↔ s.bar.inBounds := by
  rw [← bar_kept]
  exact ⟨fun h => h.holds, fun h => ⟨h⟩⟩

@[simp] theorem bar_goes_next (t : State) : BarGoes (.next t) ↔ BarKept (mask barUnits t) := by
  exact ⟨fun ⟨_, h, e⟩ => by cases h; exact e, fun h => ⟨t, rfl, h⟩⟩

theorem bar_goes_ite {c : Prop} {_ : Decidable c} {a b : Host.Outcome State Fault Refusal}
    (ha : BarGoes a) (hb : BarGoes b) : BarGoes (if c then a else b) := by
  split <;> assumption

theorem bar_kept_ite {c : Prop} {_ : Decidable c} {a b : State} (ha : BarKept (mask barUnits a))
    (hb : BarKept (mask barUnits b)) : BarKept (mask barUnits (if c then a else b)) := by
  split <;> assumption

/-- A submission keeps what its action keeps. -/
theorem bar_kept_command {dt kind unit : Nat} {p : Post} {sc : RecSchema} {g : Bool} {at_ : Nat → Nat}
    {act : Sub → State → State} {s : State}
    (ha : ∀ x t, BarKept (mask barUnits t) → BarKept (mask barUnits (act x t))) (h : BarKept (mask barUnits s)) :
    BarKept (mask barUnits (command dt kind unit p sc g at_ act s)) := by
  have q : ∀ a, BarKept (mask barUnits (arrive dt kind unit p a s).1) := fun a => by
    rw [arrive_mask barUnits_now barUnits_hub]
    exact h
  have r : ∀ u a b, BarKept (mask barUnits (Sub.refuse u a b (arrive dt kind unit p decideAt s).1)) := fun u a b => by
    rw [Sub.refuse_mask barUnits_hub]
    exact q _
  unfold command
  split
  · simp [h]
  · dsimp only
    split
    · exact r _ _ _
    · split
      · exact r _ _ _
      · exact ha _ _ (q _)

/-- A command that leaves the unit alone keeps it. -/
theorem bar_goes_of_goes {s : State} {o : Host.Outcome State Fault Refusal} (h : BarKept (mask barUnits s))
    (g : Goes barUnits s o) : BarGoes o := by
  obtain ⟨t, e, m⟩ := g
  exact ⟨t, e, m ▸ h⟩

theorem bar_kept_foldl {α : Type} {f : State → α → State} (h : ∀ s x, BarKept (mask barUnits s) → BarKept (mask barUnits (f s x)))
    (l : List α) {s : State} (hs : BarKept (mask barUnits s)) : BarKept (mask barUnits (l.foldl f s)) := by
  induction l generalizing s with
  | nil => exact hs
  | cons a l ih => exact ih (h s a hs)

/-- The registers at reset. -/
@[simp] theorem bar_reset_holds : BarHolds Bar.reset.rtLo Bar.reset.rtHi Bar.reset.dbLo Bar.reset.dbHi
    Bar.reset.retLo Bar.reset.retHi Bar.reset.dbPollUs := by
  exact ⟨by decide⟩

@[simp] theorem linkReset_bar (up : Bool) (s : State) (h : BarKept (mask barUnits s)) :
    BarKept (mask barUnits (linkReset up s)) := by
  unfold linkReset
  repeat' first
    | (simp [*]; done)
    | (with_reducible refine bar_kept_foldl (fun _ _ _ => ?_) _ ?_)
    | (with_reducible refine bar_kept_command (fun _ _ _ => ?_) ?_)
    | (with_reducible refine bar_goes_ite ?_ ?_)
    | (with_reducible refine bar_kept_ite ?_ ?_)
    | intro _
    | split
    | (simp +zetaDelta [*]; done)
    | simp [*]

@[simp] theorem execLinkLoss_bar (dt : Nat) (s : State) (h : BarKept (mask barUnits s)) :
    BarGoes (execLinkLoss dt s) := by
  unfold execLinkLoss
  repeat' first
    | (simp [*]; done)
    | (with_reducible refine bar_kept_foldl (fun _ _ _ => ?_) _ ?_)
    | (with_reducible refine bar_kept_command (fun _ _ _ => ?_) ?_)
    | (with_reducible refine bar_goes_ite ?_ ?_)
    | (with_reducible refine bar_kept_ite ?_ ?_)
    | intro _
    | split
    | (simp +zetaDelta [*]; done)
    | simp [*]

@[simp] theorem execHotReset_bar (dt : Nat) (s : State) (h : BarKept (mask barUnits s)) :
    BarGoes (execHotReset dt s) := by
  unfold execHotReset
  repeat' first
    | (simp [*]; done)
    | (with_reducible refine bar_kept_foldl (fun _ _ _ => ?_) _ ?_)
    | (with_reducible refine bar_kept_command (fun _ _ _ => ?_) ?_)
    | (with_reducible refine bar_goes_ite ?_ ?_)
    | (with_reducible refine bar_kept_ite ?_ ?_)
    | intro _
    | split
    | (simp +zetaDelta [*]; done)
    | simp [*]

@[simp] theorem execFunctionLevelReset_bar (dt : Nat) (s : State) (h : BarKept (mask barUnits s)) :
    BarGoes (execFunctionLevelReset dt s) := by
  unfold execFunctionLevelReset
  repeat' first
    | (simp [*]; done)
    | (with_reducible refine bar_kept_foldl (fun _ _ _ => ?_) _ ?_)
    | (with_reducible refine bar_kept_command (fun _ _ _ => ?_) ?_)
    | (with_reducible refine bar_goes_ite ?_ ?_)
    | (with_reducible refine bar_kept_ite ?_ ?_)
    | intro _
    | split
    | (simp +zetaDelta [*]; done)
    | simp [*]

@[simp] theorem execD3hot_bar (dt : Nat) (s : State) (h : BarKept (mask barUnits s)) :
    BarGoes (execD3hot dt s) := by
  unfold execD3hot
  repeat' first
    | (simp [*]; done)
    | (with_reducible refine bar_kept_foldl (fun _ _ _ => ?_) _ ?_)
    | (with_reducible refine bar_kept_command (fun _ _ _ => ?_) ?_)
    | (with_reducible refine bar_goes_ite ?_ ?_)
    | (with_reducible refine bar_kept_ite ?_ ?_)
    | intro _
    | split
    | (simp +zetaDelta [*]; done)
    | simp [*]

@[simp] theorem execDbPoll_bar (dt value : Nat) (s : State) (h : BarKept (mask barUnits s)) :
    BarGoes (execDbPoll dt value s) := by
  unfold execDbPoll
  extract_lets s1
  have q1 : BarKept (mask barUnits s1) := by simp [s1, h]
  clear_value s1
  obtain ⟨h1, h2, h3, h4, h5, h6, h7, h8, h9, -⟩ := ((bar_kept s1).2 q1).holds
  split
  · simp only [bar_goes_next, bar_kept_up]
    exact ⟨⟨h1, h2, h3, h4, h5, h6, h7, h8, h9, by simp only [pollClamp]; omega, by simp only [pollClamp]; omega⟩⟩
  · simp [q1]

theorem barWrite_bar (off value : Nat) (s : State) (hv : value < 2 ^ 32) (h : BarKept (mask barUnits s)) :
    BarKept (mask barUnits (barWrite off value s)) := by
  unfold barWrite
  obtain ⟨h1, h2, h3, h4, h5, h6, h7, h8, h9, h10, h11⟩ := ((bar_kept s).2 h).holds
  split
  · simp [h]
  · split <;> first
      | (simp only [bar_kept_up]
         refine ⟨⟨?_, ?_, ?_, ?_, ?_, ?_, ?_, ?_, ?_, ?_, ?_⟩⟩ <;> (try simp only [pollClamp]) <;> omega)
      | (simp [h]; done)
      | (split <;> simp [h])

@[simp] theorem execRegisterWrite_bar (dt off size value : Nat) (s : State) (h : BarKept (mask barUnits s)) :
    BarGoes (execRegisterWrite dt off size value s) := by
  unfold execRegisterWrite
  extract_lets s1
  have q1 : BarKept (mask barUnits s1) := by simp [s1, h]
  clear_value s1
  have lt : ∀ n, n % 2 ^ 32 < 2 ^ 32 := fun n => Nat.mod_lt _ (by decide)
  refine bar_goes_ite ?_ (bar_goes_ite ?_ (bar_goes_ite ?_ ?_)) <;> rw [bar_goes_next]
  · exact q1
  · exact barWrite_bar _ _ _ (lt _) q1
  · exact barWrite_bar _ _ _ (lt _) (barWrite_bar _ _ _ (lt _) q1)
  · exact q1

@[simp] theorem startHub_bar (s : State) (h : BarKept (mask barUnits s)) :
    BarKept (mask barUnits (startHub s)) := by
  unfold startHub
  repeat' first
    | (simp [*]; done)
    | (with_reducible refine bar_kept_foldl (fun _ _ _ => ?_) _ ?_)
    | (with_reducible refine bar_kept_command (fun _ _ _ => ?_) ?_)
    | (with_reducible refine bar_goes_ite ?_ ?_)
    | (with_reducible refine bar_kept_ite ?_ ?_)
    | intro _
    | split
    | (simp +zetaDelta [*]; done)
    | simp [*]

@[simp] theorem startServing_bar (code : Nat) (warm after : Bool) (s : State) (h : BarKept (mask barUnits s)) :
    BarKept (mask barUnits (startServing code warm after s)) := by
  unfold startServing
  repeat' first
    | (simp [*]; done)
    | (with_reducible refine bar_kept_foldl (fun _ _ _ => ?_) _ ?_)
    | (with_reducible refine bar_kept_command (fun _ _ _ => ?_) ?_)
    | (with_reducible refine bar_goes_ite ?_ ?_)
    | (with_reducible refine bar_kept_ite ?_ ?_)
    | intro _
    | split
    | (simp +zetaDelta [*]; done)
    | simp [*]

@[simp] theorem wake_bar (code : Nat) (s : State) (h : BarKept (mask barUnits s)) :
    BarKept (mask barUnits (wake code s)) := by
  unfold wake
  repeat' first
    | (simp [*]; done)
    | (with_reducible refine bar_kept_foldl (fun _ _ _ => ?_) _ ?_)
    | (with_reducible refine bar_kept_command (fun _ _ _ => ?_) ?_)
    | (with_reducible refine bar_goes_ite ?_ ?_)
    | (with_reducible refine bar_kept_ite ?_ ?_)
    | intro _
    | split
    | (simp +zetaDelta [*]; done)
    | simp [*]

@[simp] theorem unitsOff_bar (s : State) (h : BarKept (mask barUnits s)) :
    BarKept (mask barUnits (unitsOff s)) := by
  unfold unitsOff
  repeat' first
    | (simp [*]; done)
    | (with_reducible refine bar_kept_foldl (fun _ _ _ => ?_) _ ?_)
    | (with_reducible refine bar_kept_command (fun _ _ _ => ?_) ?_)
    | (with_reducible refine bar_goes_ite ?_ ?_)
    | (with_reducible refine bar_kept_ite ?_ ?_)
    | intro _
    | split
    | (simp +zetaDelta [*]; done)
    | simp [*]

@[simp] theorem execVbatConnect_bar (dt mv : Nat) (ign : Bool) (s : State) (h : BarKept (mask barUnits s)) :
    BarGoes (execVbatConnect dt mv ign s) := by
  unfold execVbatConnect
  repeat' first
    | (simp [*]; done)
    | (with_reducible refine bar_kept_foldl (fun _ _ _ => ?_) _ ?_)
    | (with_reducible refine bar_kept_command (fun _ _ _ => ?_) ?_)
    | (with_reducible refine bar_goes_ite ?_ ?_)
    | (with_reducible refine bar_kept_ite ?_ ?_)
    | intro _
    | split
    | (simp +zetaDelta [*]; done)
    | simp [*]

@[simp] theorem execSupplyReturn_bar (dt mv : Nat) (m : PlanMeas) (s : State) (h : BarKept (mask barUnits s)) :
    BarGoes (execSupplyReturn dt mv m s) := by
  unfold execSupplyReturn
  repeat' first
    | (simp [*]; done)
    | (with_reducible refine bar_kept_foldl (fun _ _ _ => ?_) _ ?_)
    | (with_reducible refine bar_kept_command (fun _ _ _ => ?_) ?_)
    | (with_reducible refine bar_goes_ite ?_ ?_)
    | (with_reducible refine bar_kept_ite ?_ ?_)
    | intro _
    | split
    | (simp +zetaDelta [*]; done)
    | simp [*]

@[simp] theorem execHoldupComplete_bar (dt mv : Nat) (s : State) (h : BarKept (mask barUnits s)) :
    BarGoes (execHoldupComplete dt mv s) := by
  unfold execHoldupComplete
  repeat' first
    | (simp [*]; done)
    | (with_reducible refine bar_kept_foldl (fun _ _ _ => ?_) _ ?_)
    | (with_reducible refine bar_kept_command (fun _ _ _ => ?_) ?_)
    | (with_reducible refine bar_goes_ite ?_ ?_)
    | (with_reducible refine bar_kept_ite ?_ ?_)
    | intro _
    | split
    | (simp +zetaDelta [*]; done)
    | simp [*]

@[simp] theorem execIgnHigh_bar (dt : Nat) (s : State) (h : BarKept (mask barUnits s)) :
    BarGoes (execIgnHigh dt s) := by
  unfold execIgnHigh
  repeat' first
    | (simp [*]; done)
    | (with_reducible refine bar_kept_foldl (fun _ _ _ => ?_) _ ?_)
    | (with_reducible refine bar_kept_command (fun _ _ _ => ?_) ?_)
    | (with_reducible refine bar_goes_ite ?_ ?_)
    | (with_reducible refine bar_kept_ite ?_ ?_)
    | intro _
    | split
    | (simp +zetaDelta [*]; done)
    | simp [*]

@[simp] theorem execHostWake_bar (dt : Nat) (s : State) (h : BarKept (mask barUnits s)) :
    BarGoes (execHostWake dt s) := by
  unfold execHostWake
  repeat' first
    | (simp [*]; done)
    | (with_reducible refine bar_kept_foldl (fun _ _ _ => ?_) _ ?_)
    | (with_reducible refine bar_kept_command (fun _ _ _ => ?_) ?_)
    | (with_reducible refine bar_goes_ite ?_ ?_)
    | (with_reducible refine bar_kept_ite ?_ ?_)
    | intro _
    | split
    | (simp +zetaDelta [*]; done)
    | simp [*]

@[simp] theorem execWakeTimer_bar (s : State) (h : BarKept (mask barUnits s)) :
    BarGoes (execWakeTimer s) := by
  unfold execWakeTimer
  repeat' first
    | (simp [*]; done)
    | (with_reducible refine bar_kept_foldl (fun _ _ _ => ?_) _ ?_)
    | (with_reducible refine bar_kept_command (fun _ _ _ => ?_) ?_)
    | (with_reducible refine bar_goes_ite ?_ ?_)
    | (with_reducible refine bar_kept_ite ?_ ?_)
    | intro _
    | split
    | (simp +zetaDelta [*]; done)
    | simp [*]

@[simp] theorem execCanWakePattern_bar (dt : Nat) (c : Fin 2) (s : State) (h : BarKept (mask barUnits s)) :
    BarGoes (execCanWakePattern dt c s) := by
  unfold execCanWakePattern
  repeat' first
    | (simp [*]; done)
    | (with_reducible refine bar_kept_foldl (fun _ _ _ => ?_) _ ?_)
    | (with_reducible refine bar_kept_command (fun _ _ _ => ?_) ?_)
    | (with_reducible refine bar_goes_ite ?_ ?_)
    | (with_reducible refine bar_kept_ite ?_ ?_)
    | intro _
    | split
    | (simp +zetaDelta [*]; done)
    | simp [*]

@[simp] theorem execModemRing_bar (dt : Nat) (s : State) (h : BarKept (mask barUnits s)) :
    BarGoes (execModemRing dt s) := by
  unfold execModemRing
  repeat' first
    | (simp [*]; done)
    | (with_reducible refine bar_kept_foldl (fun _ _ _ => ?_) _ ?_)
    | (with_reducible refine bar_kept_command (fun _ _ _ => ?_) ?_)
    | (with_reducible refine bar_goes_ite ?_ ?_)
    | (with_reducible refine bar_kept_ite ?_ ?_)
    | intro _
    | split
    | (simp +zetaDelta [*]; done)
    | simp [*]

@[simp] theorem execKeyoffComplete_bar (dt mv : Nat) (m : PlanMeas) (s : State) (h : BarKept (mask barUnits s)) :
    BarGoes (execKeyoffComplete dt mv m s) := by
  unfold execKeyoffComplete
  extract_lets s1 s2 held s3 s4 s5
  have q1 : BarKept (mask barUnits s1) := by simp [s1, h]
  clear_value s1
  have q2 : BarKept (mask barUnits s2) := by simp [s2, q1]
  clear_value s2
  have q4 : BarKept (mask barUnits s4) := by simp [s4, s3, q2]
  clear_value s4
  have q5 : BarKept (mask barUnits s5) := by simp [s5, q4]
  clear_value s5 held
  refine bar_goes_ite ?_ ?_
  · simp [q1]
  · split
    · simp [q4]
    · refine bar_goes_ite ?_ ?_ <;> simp [q5]

@[simp] theorem execPciePerst_bar (dt : Nat) (asserted : Bool) (s : State) (h : BarKept (mask barUnits s)) :
    BarGoes (execPciePerst dt asserted s) := by
  unfold execPciePerst
  repeat' first
    | (simp [*]; done)
    | (with_reducible refine bar_kept_foldl (fun _ _ _ => ?_) _ ?_)
    | (with_reducible refine bar_kept_command (fun _ _ _ => ?_) ?_)
    | (with_reducible refine bar_goes_ite ?_ ?_)
    | (with_reducible refine bar_kept_ite ?_ ?_)
    | intro _
    | split
    | (simp +zetaDelta [*]; done)
    | simp [*]

end Sys2Proof.Machine
end

