-- ==== Sys2Proof/Laws/KeepDisp.lean ====
section
/-!
SUPPORT. What every operation that touches the unit `disp` keeps of it.
-/
set_option linter.unusedSimpArgs false
set_option linter.unusedVariables false
namespace Sys2Proof.Machine
set_option Elab.async false

/-- Every unit but this one. -/
def dispUnits : Units :=
  { now := true, time := true, lanes := true, hub := true, cat := true, sig := true, ctl := true, pas := true, img := true, pow := true, mar := true, bar := true, valve := true, field := true, can := true, modem := true, gnss := true, pos := true, fus := true, cam := true, map := true }

/-- `Display.balanced`, field by field. -/
structure DisplayHolds (plus : Bool) (shown accPlus accMinus : Nat) : Prop where
  holds : ∀ i, i < 480 → (accPlus.testBit i = true → plus = false ∧ shown.testBit i = true)
    ∧ (accMinus.testBit i = true → plus = true ∧ shown.testBit i = true)

/-- The unit in a masked state keeps to it. -/
structure DispKept (m : Masked) : Prop where
  holds : ∀ d, m.disp = some d → DisplayHolds d.plus d.shown d.accPlus d.accMinus

/-- An outcome is a next state whose unit keeps to it. -/
structure DispGoes (o : Host.Outcome State Fault Refusal) : Prop where
  goes : ∃ t, o = .next t ∧ DispKept (mask dispUnits t)

@[simp] theorem dispUnits_now : dispUnits.now = true := by rfl
@[simp] theorem dispUnits_time : dispUnits.time = true := by rfl
@[simp] theorem dispUnits_lanes : dispUnits.lanes = true := by rfl
@[simp] theorem dispUnits_hub : dispUnits.hub = true := by rfl
@[simp] theorem dispUnits_cat : dispUnits.cat = true := by rfl
@[simp] theorem dispUnits_sig : dispUnits.sig = true := by rfl
@[simp] theorem dispUnits_ctl : dispUnits.ctl = true := by rfl
@[simp] theorem dispUnits_pas : dispUnits.pas = true := by rfl
@[simp] theorem dispUnits_img : dispUnits.img = true := by rfl
@[simp] theorem dispUnits_pow : dispUnits.pow = true := by rfl
@[simp] theorem dispUnits_mar : dispUnits.mar = true := by rfl
@[simp] theorem dispUnits_bar : dispUnits.bar = true := by rfl
@[simp] theorem dispUnits_valve : dispUnits.valve = true := by rfl
@[simp] theorem dispUnits_field : dispUnits.field = true := by rfl
@[simp] theorem dispUnits_can : dispUnits.can = true := by rfl
@[simp] theorem dispUnits_modem : dispUnits.modem = true := by rfl
@[simp] theorem dispUnits_gnss : dispUnits.gnss = true := by rfl
@[simp] theorem dispUnits_pos : dispUnits.pos = true := by rfl
@[simp] theorem dispUnits_fus : dispUnits.fus = true := by rfl
@[simp] theorem dispUnits_cam : dispUnits.cam = true := by rfl
@[simp] theorem dispUnits_map : dispUnits.map = true := by rfl

@[simp] theorem disp_kept_up (f : Display → Display) (s : State) :
    DispKept (mask dispUnits (s.upDisp f)) ↔ DisplayHolds (f s.disp).plus (f s.disp).shown (f s.disp).accPlus (f s.disp).accMinus := by
  exact ⟨fun h => h.holds _ rfl, fun h => ⟨fun d e => by cases e; exact h⟩⟩

@[simp] theorem disp_kept (s : State) : DisplayHolds s.disp.plus s.disp.shown s.disp.accPlus s.disp.accMinus ↔ DispKept (mask dispUnits s) := by
  exact ⟨fun h => ⟨fun d e => by cases e; exact h⟩, fun h => h.holds _ rfl⟩

theorem disp_kept_iff (s : State) : DispKept (mask dispUnits s) ↔ s.disp.balanced := by
  rw [← disp_kept]
  exact ⟨fun h => h.holds, fun h => ⟨h⟩⟩

@[simp] theorem disp_goes_next (t : State) : DispGoes (.next t) ↔ DispKept (mask dispUnits t) := by
  exact ⟨fun ⟨_, h, e⟩ => by cases h; exact e, fun h => ⟨t, rfl, h⟩⟩

theorem disp_goes_ite {c : Prop} {_ : Decidable c} {a b : Host.Outcome State Fault Refusal}
    (ha : DispGoes a) (hb : DispGoes b) : DispGoes (if c then a else b) := by
  split <;> assumption

theorem disp_kept_ite {c : Prop} {_ : Decidable c} {a b : State} (ha : DispKept (mask dispUnits a))
    (hb : DispKept (mask dispUnits b)) : DispKept (mask dispUnits (if c then a else b)) := by
  split <;> assumption

/-- A submission keeps what its action keeps. -/
theorem disp_kept_command {dt kind unit : Nat} {p : Post} {sc : RecSchema} {g : Bool} {at_ : Nat → Nat}
    {act : Sub → State → State} {s : State}
    (ha : ∀ x t, DispKept (mask dispUnits t) → DispKept (mask dispUnits (act x t))) (h : DispKept (mask dispUnits s)) :
    DispKept (mask dispUnits (command dt kind unit p sc g at_ act s)) := by
  have q : ∀ a, DispKept (mask dispUnits (arrive dt kind unit p a s).1) := fun a => by
    rw [arrive_mask dispUnits_now dispUnits_hub]
    exact h
  have r : ∀ u a b, DispKept (mask dispUnits (Sub.refuse u a b (arrive dt kind unit p decideAt s).1)) := fun u a b => by
    rw [Sub.refuse_mask dispUnits_hub]
    exact q _
  unfold command
  split
  · simp [h]
  · dsimp only
    split
    · exact r _ _ _
    · split
      · exact r _ _ _
      · exact ha _ _ (q _)

/-- A command that leaves the unit alone keeps it. -/
theorem disp_goes_of_goes {s : State} {o : Host.Outcome State Fault Refusal} (h : DispKept (mask dispUnits s))
    (g : Goes dispUnits s o) : DispGoes o := by
  obtain ⟨t, e, m⟩ := g
  exact ⟨t, e, m ▸ h⟩

theorem disp_kept_foldl {α : Type} {f : State → α → State} (h : ∀ s x, DispKept (mask dispUnits s) → DispKept (mask dispUnits (f s x)))
    (l : List α) {s : State} (hs : DispKept (mask dispUnits s)) : DispKept (mask dispUnits (l.foldl f s)) := by
  induction l generalizing s with
  | nil => exact hs
  | cons a l ih => exact ih (h s a hs)

/-- With nothing accumulated every pixel is balanced. -/
@[simp] theorem disp_empty_holds (plus : Bool) (shown : Nat) : DisplayHolds plus shown 0 0 := by
  exact ⟨fun i _ => by simp⟩

/-- What a frame boundary shows keeps the balance. -/
@[simp] theorem apply_holds (d : Display) (want : Nat) (h : DisplayHolds d.plus d.shown d.accPlus d.accMinus) :
    DisplayHolds (d.apply want).1.plus (d.apply want).1.shown (d.apply want).1.accPlus (d.apply want).1.accMinus := by
  refine ⟨fun i hi => ?_⟩
  have hb := h.holds i hi
  have hm : (2 ^ 480 - 1).testBit i = true := by simp [Nat.testBit_two_pow_sub_one, hi]
  simp only [Display.apply, Nat.testBit_or, Nat.testBit_and, Nat.testBit_xor, hm]
  refine ⟨fun ha => ?_, fun ha => ?_⟩
  · obtain ⟨h1, h2⟩ := hb.1 ha
    refine ⟨h1, ?_⟩
    cases want.testBit i <;> simp [h2, ha]
  · obtain ⟨h1, h2⟩ := hb.2 ha
    refine ⟨h1, ?_⟩
    cases want.testBit i <;> simp [h2, ha]

/-- The frame that ended is accounted, and the next one has the opposite polarity. -/
@[simp] theorem account_holds (d : Display) (h : DisplayHolds d.plus d.shown d.accPlus d.accMinus) :
    DisplayHolds (!d.plus) d.account.shown d.account.accPlus d.account.accMinus := by
  refine ⟨fun i hi => ?_⟩
  have hb := h.holds i hi
  have hm : (2 ^ 480 - 1).testBit i = true := by simp [Nat.testBit_two_pow_sub_one, hi]
  cases hp : d.plus <;> simp only [Display.account, hp, if_true, if_false, Nat.testBit_or, Nat.testBit_and, Nat.testBit_xor, hm,
    Bool.false_eq_true] <;>
    cases ha : d.accPlus.testBit i <;> cases hc : d.accMinus.testBit i <;> cases hs : d.shown.testBit i <;> simp_all

@[simp] theorem dispStatus_disp (s : State) (h : DispKept (mask dispUnits s)) :
    DispKept (mask dispUnits (dispStatus s)) := by
  unfold dispStatus
  repeat' first
    | (simp [*]; done)
    | (with_reducible refine disp_kept_foldl (fun _ _ _ => ?_) _ ?_)
    | (with_reducible refine disp_kept_command (fun _ _ _ => ?_) ?_)
    | (with_reducible refine disp_goes_ite ?_ ?_)
    | (with_reducible refine disp_kept_ite ?_ ?_)
    | intro _
    | split
    | (simp +zetaDelta [*]; done)
    | simp [*]

@[simp] theorem dispState_disp (st : DispState) (s : State) (h : DispKept (mask dispUnits s)) :
    DispKept (mask dispUnits (dispState st s)) := by
  unfold dispState
  repeat' first
    | (simp [*]; done)
    | (with_reducible refine disp_kept_foldl (fun _ _ _ => ?_) _ ?_)
    | (with_reducible refine disp_kept_command (fun _ _ _ => ?_) ?_)
    | (with_reducible refine disp_goes_ite ?_ ?_)
    | (with_reducible refine disp_kept_ite ?_ ?_)
    | intro _
    | split
    | (simp +zetaDelta [*]; done)
    | simp [*]

@[simp] theorem dispRails_disp (s : State) (h : DispKept (mask dispUnits s)) :
    DispKept (mask dispUnits (dispRails s)) := by
  unfold dispRails
  repeat' first
    | (simp [*]; done)
    | (with_reducible refine disp_kept_foldl (fun _ _ _ => ?_) _ ?_)
    | (with_reducible refine disp_kept_command (fun _ _ _ => ?_) ?_)
    | (with_reducible refine disp_goes_ite ?_ ?_)
    | (with_reducible refine disp_kept_ite ?_ ?_)
    | intro _
    | split
    | (simp +zetaDelta [*]; done)
    | simp [*]

@[simp] theorem dispEn1Low_disp (s : State) (h : DispKept (mask dispUnits s)) :
    DispKept (mask dispUnits (dispEn1Low s)) := by
  unfold dispEn1Low
  repeat' first
    | (simp [*]; done)
    | (with_reducible refine disp_kept_foldl (fun _ _ _ => ?_) _ ?_)
    | (with_reducible refine disp_kept_command (fun _ _ _ => ?_) ?_)
    | (with_reducible refine disp_goes_ite ?_ ?_)
    | (with_reducible refine disp_kept_ite ?_ ?_)
    | intro _
    | split
    | (simp +zetaDelta [*]; done)
    | simp [*]

@[simp] theorem dispShutdown_disp (s : State) (h : DispKept (mask dispUnits s)) :
    DispKept (mask dispUnits (dispShutdown s)) := by
  unfold dispShutdown
  repeat' first
    | (simp [*]; done)
    | (with_reducible refine disp_kept_foldl (fun _ _ _ => ?_) _ ?_)
    | (with_reducible refine disp_kept_command (fun _ _ _ => ?_) ?_)
    | (with_reducible refine disp_goes_ite ?_ ?_)
    | (with_reducible refine disp_kept_ite ?_ ?_)
    | intro _
    | split
    | (simp +zetaDelta [*]; done)
    | simp [*]

@[simp] theorem dispCommit_disp (s : State) (h : DispKept (mask dispUnits s)) :
    DispKept (mask dispUnits (dispCommit s)) := by
  unfold dispCommit
  repeat' first
    | (simp [*]; done)
    | (with_reducible refine disp_kept_foldl (fun _ _ _ => ?_) _ ?_)
    | (with_reducible refine disp_kept_command (fun _ _ _ => ?_) ?_)
    | (with_reducible refine disp_goes_ite ?_ ?_)
    | (with_reducible refine disp_kept_ite ?_ ?_)
    | intro _
    | split
    | (simp +zetaDelta [*]; done)
    | simp [*]

@[simp] theorem dispLoss_disp (s : State) (h : DispKept (mask dispUnits s)) :
    DispKept (mask dispUnits (dispLoss s)) := by
  unfold dispLoss
  repeat' first
    | (simp [*]; done)
    | (with_reducible refine disp_kept_foldl (fun _ _ _ => ?_) _ ?_)
    | (with_reducible refine disp_kept_command (fun _ _ _ => ?_) ?_)
    | (with_reducible refine disp_goes_ite ?_ ?_)
    | (with_reducible refine disp_kept_ite ?_ ?_)
    | intro _
    | split
    | (simp +zetaDelta [*]; done)
    | simp [*]

@[simp] theorem dispSilence_disp (s : State) (h : DispKept (mask dispUnits s)) :
    DispKept (mask dispUnits (dispSilence s)) := by
  unfold dispSilence
  repeat' first
    | (simp [*]; done)
    | (with_reducible refine disp_kept_foldl (fun _ _ _ => ?_) _ ?_)
    | (with_reducible refine disp_kept_command (fun _ _ _ => ?_) ?_)
    | (with_reducible refine disp_goes_ite ?_ ?_)
    | (with_reducible refine disp_kept_ite ?_ ?_)
    | intro _
    | split
    | (simp +zetaDelta [*]; done)
    | simp [*]

@[simp] theorem displayTemp_disp (c : Int) (s : State) (h : DispKept (mask dispUnits s)) :
    DispKept (mask dispUnits (displayTemp c s)) := by
  unfold displayTemp
  repeat' first
    | (simp [*]; done)
    | (with_reducible refine disp_kept_foldl (fun _ _ _ => ?_) _ ?_)
    | (with_reducible refine disp_kept_command (fun _ _ _ => ?_) ?_)
    | (with_reducible refine disp_goes_ite ?_ ?_)
    | (with_reducible refine disp_kept_ite ?_ ?_)
    | intro _
    | split
    | (simp +zetaDelta [*]; done)
    | simp [*]

@[simp] theorem displayBeat_disp (fixed : Bool) (s : State) (h : DispKept (mask dispUnits s)) :
    DispKept (mask dispUnits (displayBeat fixed s)) := by
  unfold displayBeat
  repeat' first
    | (simp [*]; done)
    | (with_reducible refine disp_kept_foldl (fun _ _ _ => ?_) _ ?_)
    | (with_reducible refine disp_kept_command (fun _ _ _ => ?_) ?_)
    | (with_reducible refine disp_goes_ite ?_ ?_)
    | (with_reducible refine disp_kept_ite ?_ ?_)
    | intro _
    | split
    | (simp +zetaDelta [*]; done)
    | simp [*]

@[simp] theorem recordChanged_disp (old : Nat → Nat → List Byte) (x : RecName) (s : State) (h : DispKept (mask dispUnits s)) :
    DispKept (mask dispUnits (recordChanged old x s)) := by
  unfold recordChanged
  repeat' first
    | (simp [*]; done)
    | (with_reducible refine disp_kept_foldl (fun _ _ _ => ?_) _ ?_)
    | (with_reducible refine disp_kept_command (fun _ _ _ => ?_) ?_)
    | (with_reducible refine disp_goes_ite ?_ ?_)
    | (with_reducible refine disp_kept_ite ?_ ?_)
    | intro _
    | split
    | (simp +zetaDelta [*]; done)
    | simp [*]

@[simp] theorem unitsFollow_disp (old : Nat → Nat → List Byte) (names : List RecName) (hops : List Nat) (full : Bool) (s : State) (h : DispKept (mask dispUnits s)) :
    DispKept (mask dispUnits (unitsFollow old names hops full s)) := by
  unfold unitsFollow
  repeat' first
    | (simp [*]; done)
    | (with_reducible refine disp_kept_foldl (fun _ _ _ => ?_) _ ?_)
    | (with_reducible refine disp_kept_command (fun _ _ _ => ?_) ?_)
    | (with_reducible refine disp_goes_ite ?_ ?_)
    | (with_reducible refine disp_kept_ite ?_ ?_)
    | intro _
    | split
    | (simp +zetaDelta [*]; done)
    | simp [*]

@[simp] theorem applySched_disp (x : Sched) (s : State) (h : DispKept (mask dispUnits s)) :
    DispKept (mask dispUnits (applySched x s)) := by
  unfold applySched
  repeat' first
    | (simp [*]; done)
    | (with_reducible refine disp_kept_foldl (fun _ _ _ => ?_) _ ?_)
    | (with_reducible refine disp_kept_command (fun _ _ _ => ?_) ?_)
    | (with_reducible refine disp_goes_ite ?_ ?_)
    | (with_reducible refine disp_kept_ite ?_ ?_)
    | intro _
    | split
    | (simp +zetaDelta [*]; done)
    | simp [*]

@[simp] theorem formatChanged_disp (old : Catalog) (s : State) (h : DispKept (mask dispUnits s)) :
    DispKept (mask dispUnits (formatChanged old s)) := by
  unfold formatChanged
  repeat' first
    | (simp [*]; done)
    | (with_reducible refine disp_kept_foldl (fun _ _ _ => ?_) _ ?_)
    | (with_reducible refine disp_kept_command (fun _ _ _ => ?_) ?_)
    | (with_reducible refine disp_goes_ite ?_ ?_)
    | (with_reducible refine disp_kept_ite ?_ ?_)
    | intro _
    | split
    | (simp +zetaDelta [*]; done)
    | simp [*]

@[simp] theorem execDisplayLcdEn1_disp (s : State) (h : DispKept (mask dispUnits s)) :
    DispGoes (execDisplayLcdEn1 s) := by
  unfold execDisplayLcdEn1
  repeat' first
    | (simp [*]; done)
    | (with_reducible refine disp_kept_foldl (fun _ _ _ => ?_) _ ?_)
    | (with_reducible refine disp_kept_command (fun _ _ _ => ?_) ?_)
    | (with_reducible refine disp_goes_ite ?_ ?_)
    | (with_reducible refine disp_kept_ite ?_ ?_)
    | intro _
    | split
    | (simp +zetaDelta [*]; done)
    | simp [*]

@[simp] theorem execDisplayRailsDone_disp (s : State) (h : DispKept (mask dispUnits s)) :
    DispGoes (execDisplayRailsDone s) := by
  unfold execDisplayRailsDone
  repeat' first
    | (simp [*]; done)
    | (with_reducible refine disp_kept_foldl (fun _ _ _ => ?_) _ ?_)
    | (with_reducible refine disp_kept_command (fun _ _ _ => ?_) ?_)
    | (with_reducible refine disp_goes_ite ?_ ?_)
    | (with_reducible refine disp_kept_ite ?_ ?_)
    | intro _
    | split
    | (simp +zetaDelta [*]; done)
    | simp [*]

@[simp] theorem takeBand_disp (s : State) (h : DispKept (mask dispUnits s)) :
    DispKept (mask dispUnits (takeBand s)) := by
  unfold takeBand
  repeat' first
    | (simp [*]; done)
    | (with_reducible refine disp_kept_foldl (fun _ _ _ => ?_) _ ?_)
    | (with_reducible refine disp_kept_command (fun _ _ _ => ?_) ?_)
    | (with_reducible refine disp_goes_ite ?_ ?_)
    | (with_reducible refine disp_kept_ite ?_ ?_)
    | intro _
    | split
    | (simp +zetaDelta [*]; done)
    | simp [*]

@[simp] theorem showFrame_disp (s : State) (h : DispKept (mask dispUnits s)) :
    DispKept (mask dispUnits (showFrame s)) := by
  unfold showFrame
  extract_lets s1 x
  have q1 : DispKept (mask dispUnits s1) := by
    simp only [s1]
    split <;> simp [h]
  have q2 : DispKept (mask dispUnits (s1.upDisp (fun _ => { x.1 with waiting := none }))) := by
    rw [disp_kept_up]
    exact apply_holds s1.disp _ ((disp_kept s1).2 q1)
  split
  · simp only [complete_mask, dispUnits_hub]
    exact q2
  · exact q2

@[simp] theorem execDisplayFrame_disp (s : State) (h : DispKept (mask dispUnits s)) :
    DispGoes (execDisplayFrame s) := by
  unfold execDisplayFrame
  extract_lets d scans t s1 pair s2
  have q1 : DispKept (mask dispUnits s1) := by
    simp only [s1, disp_kept_up, reachEl_disp]
    exact account_holds _ ((disp_kept s).2 h)
  have q2 : DispKept (mask dispUnits s2) := by simp [s2, q1]
  clear_value s1 pair s2
  refine disp_goes_ite ?_ ?_
  · simp [h]
  · split
    · refine disp_goes_ite ?_ ?_
      · simp [q2]
      · rw [disp_goes_next]
        split <;> simp [q1]
    · rw [disp_goes_next]
      split <;> simp [q1]
    · refine disp_goes_ite ?_ ?_
      · simp [q1]
      · simp only [disp_goes_next, disp_kept_up]
        exact apply_holds _ _ ((disp_kept s1).2 q1)

@[simp] theorem execDisplayShutdownEn0_disp (s : State) (h : DispKept (mask dispUnits s)) :
    DispGoes (execDisplayShutdownEn0 s) := by
  unfold execDisplayShutdownEn0
  repeat' first
    | (simp [*]; done)
    | (with_reducible refine disp_kept_foldl (fun _ _ _ => ?_) _ ?_)
    | (with_reducible refine disp_kept_command (fun _ _ _ => ?_) ?_)
    | (with_reducible refine disp_goes_ite ?_ ?_)
    | (with_reducible refine disp_kept_ite ?_ ?_)
    | intro _
    | split
    | (simp +zetaDelta [*]; done)
    | simp [*]

@[simp] theorem execDisplayShutdownEnd_disp (s : State) (h : DispKept (mask dispUnits s)) :
    DispGoes (execDisplayShutdownEnd s) := by
  unfold execDisplayShutdownEnd
  repeat' first
    | (simp [*]; done)
    | (with_reducible refine disp_kept_foldl (fun _ _ _ => ?_) _ ?_)
    | (with_reducible refine disp_kept_command (fun _ _ _ => ?_) ?_)
    | (with_reducible refine disp_goes_ite ?_ ?_)
    | (with_reducible refine disp_kept_ite ?_ ?_)
    | intro _
    | split
    | (simp +zetaDelta [*]; done)
    | simp [*]

@[simp] theorem execKdSegmentMap_disp (dt : Nat) (p : Post) (s : State) (h : DispKept (mask dispUnits s)) :
    DispGoes (execKdSegmentMap dt p s) := by
  unfold execKdSegmentMap
  rw [disp_goes_next]
  refine disp_kept_command (fun u t ht => ?_) h
  split <;> simp [ht]

@[simp] theorem execDisplayHostTimeout_disp (s : State) (h : DispKept (mask dispUnits s)) :
    DispGoes (execDisplayHostTimeout s) := by
  unfold execDisplayHostTimeout
  repeat' first
    | (simp [*]; done)
    | (with_reducible refine disp_kept_foldl (fun _ _ _ => ?_) _ ?_)
    | (with_reducible refine disp_kept_command (fun _ _ _ => ?_) ?_)
    | (with_reducible refine disp_goes_ite ?_ ?_)
    | (with_reducible refine disp_kept_ite ?_ ?_)
    | intro _
    | split
    | (simp +zetaDelta [*]; done)
    | simp [*]

@[simp] theorem execDisplayStatusPeriod_disp (s : State) (h : DispKept (mask dispUnits s)) :
    DispGoes (execDisplayStatusPeriod s) := by
  unfold execDisplayStatusPeriod
  repeat' first
    | (simp [*]; done)
    | (with_reducible refine disp_kept_foldl (fun _ _ _ => ?_) _ ?_)
    | (with_reducible refine disp_kept_command (fun _ _ _ => ?_) ?_)
    | (with_reducible refine disp_goes_ite ?_ ?_)
    | (with_reducible refine disp_kept_ite ?_ ?_)
    | intro _
    | split
    | (simp +zetaDelta [*]; done)
    | simp [*]

@[simp] theorem switchTo_disp (w : Switch) (kS : Nat) (old : Option (Fin 2)) (s : State) (h : DispKept (mask dispUnits s)) :
    DispKept (mask dispUnits (switchTo w kS old s)) := by
  unfold switchTo
  repeat' first
    | (simp [*]; done)
    | (with_reducible refine disp_kept_foldl (fun _ _ _ => ?_) _ ?_)
    | (with_reducible refine disp_kept_command (fun _ _ _ => ?_) ?_)
    | (with_reducible refine disp_goes_ite ?_ ?_)
    | (with_reducible refine disp_kept_ite ?_ ?_)
    | intro _
    | split
    | (simp +zetaDelta [*]; done)
    | simp [*]

@[simp] theorem execSwitchBeat_disp (s : State) (h : DispKept (mask dispUnits s)) :
    DispGoes (execSwitchBeat s) := by
  unfold execSwitchBeat
  repeat' first
    | (simp [*]; done)
    | (with_reducible refine disp_kept_foldl (fun _ _ _ => ?_) _ ?_)
    | (with_reducible refine disp_kept_command (fun _ _ _ => ?_) ?_)
    | (with_reducible refine disp_goes_ite ?_ ?_)
    | (with_reducible refine disp_kept_ite ?_ ?_)
    | intro _
    | split
    | (simp +zetaDelta [*]; done)
    | simp [*]

@[simp] theorem execBeat_disp (s : State) (h : DispKept (mask dispUnits s)) :
    DispGoes (execBeat s) := by
  unfold execBeat
  repeat' first
    | (simp [*]; done)
    | (with_reducible refine disp_kept_foldl (fun _ _ _ => ?_) _ ?_)
    | (with_reducible refine disp_kept_command (fun _ _ _ => ?_) ?_)
    | (with_reducible refine disp_goes_ite ?_ ?_)
    | (with_reducible refine disp_kept_ite ?_ ?_)
    | intro _
    | split
    | (simp +zetaDelta [*]; done)
    | simp [*]

@[simp] theorem execCommitBoundary_disp (s : State) (h : DispKept (mask dispUnits s)) :
    DispGoes (execCommitBoundary s) := by
  unfold execCommitBoundary
  repeat' first
    | (simp [*]; done)
    | (with_reducible refine disp_kept_foldl (fun _ _ _ => ?_) _ ?_)
    | (with_reducible refine disp_kept_command (fun _ _ _ => ?_) ?_)
    | (with_reducible refine disp_goes_ite ?_ ?_)
    | (with_reducible refine disp_kept_ite ?_ ?_)
    | intro _
    | split
    | (simp +zetaDelta [*]; done)
    | simp [*]

@[simp] theorem execRestoreBoundary_disp (s : State) (h : DispKept (mask dispUnits s)) :
    DispGoes (execRestoreBoundary s) := by
  unfold execRestoreBoundary
  repeat' first
    | (simp [*]; done)
    | (with_reducible refine disp_kept_foldl (fun _ _ _ => ?_) _ ?_)
    | (with_reducible refine disp_kept_command (fun _ _ _ => ?_) ?_)
    | (with_reducible refine disp_goes_ite ?_ ?_)
    | (with_reducible refine disp_kept_ite ?_ ?_)
    | intro _
    | split
    | (simp +zetaDelta [*]; done)
    | simp [*]

@[simp] theorem startDisp_disp (s : State) (h : DispKept (mask dispUnits s)) :
    DispKept (mask dispUnits (startDisp s)) := by
  unfold startDisp
  refine dispCommit_disp _ ?_
  rw [disp_kept_up]
  exact disp_empty_holds _ _

@[simp] theorem startServing_disp (code : Nat) (warm after : Bool) (s : State) (h : DispKept (mask dispUnits s)) :
    DispKept (mask dispUnits (startServing code warm after s)) := by
  unfold startServing
  repeat' first
    | (simp [*]; done)
    | (with_reducible refine disp_kept_foldl (fun _ _ _ => ?_) _ ?_)
    | (with_reducible refine disp_kept_command (fun _ _ _ => ?_) ?_)
    | (with_reducible refine disp_goes_ite ?_ ?_)
    | (with_reducible refine disp_kept_ite ?_ ?_)
    | intro _
    | split
    | (simp +zetaDelta [*]; done)
    | simp [*]

@[simp] theorem wake_disp (code : Nat) (s : State) (h : DispKept (mask dispUnits s)) :
    DispKept (mask dispUnits (wake code s)) := by
  unfold wake
  repeat' first
    | (simp [*]; done)
    | (with_reducible refine disp_kept_foldl (fun _ _ _ => ?_) _ ?_)
    | (with_reducible refine disp_kept_command (fun _ _ _ => ?_) ?_)
    | (with_reducible refine disp_goes_ite ?_ ?_)
    | (with_reducible refine disp_kept_ite ?_ ?_)
    | intro _
    | split
    | (simp +zetaDelta [*]; done)
    | simp [*]

@[simp] theorem unitsOff_disp (s : State) (h : DispKept (mask dispUnits s)) :
    DispKept (mask dispUnits (unitsOff s)) := by
  unfold unitsOff
  repeat' first
    | (simp [*]; done)
    | (with_reducible refine disp_kept_foldl (fun _ _ _ => ?_) _ ?_)
    | (with_reducible refine disp_kept_command (fun _ _ _ => ?_) ?_)
    | (with_reducible refine disp_goes_ite ?_ ?_)
    | (with_reducible refine disp_kept_ite ?_ ?_)
    | intro _
    | split
    | (simp +zetaDelta [*]; done)
    | simp [*]

@[simp] theorem keyoffStep2_disp (s : State) (h : DispKept (mask dispUnits s)) :
    DispKept (mask dispUnits (keyoffStep2 s)) := by
  unfold keyoffStep2
  extract_lets s1
  have q1 : DispKept (mask dispUnits s1) :=
    disp_kept_foldl (fun t c ht => disp_kept_ite ht (by simp [ht])) _ h
  clear_value s1
  have q2 : DispKept (mask dispUnits (if s1.modem.enabled then modemShut s1 else s1)) :=
    disp_kept_ite (by simp [q1]) q1
  simp [q2]

@[simp] theorem beginKeyoff_disp (s : State) (h : DispKept (mask dispUnits s)) :
    DispKept (mask dispUnits (beginKeyoff s)) := by
  unfold beginKeyoff
  repeat' first
    | (simp [*]; done)
    | (with_reducible refine disp_kept_foldl (fun _ _ _ => ?_) _ ?_)
    | (with_reducible refine disp_kept_command (fun _ _ _ => ?_) ?_)
    | (with_reducible refine disp_goes_ite ?_ ?_)
    | (with_reducible refine disp_kept_ite ?_ ?_)
    | intro _
    | split
    | (simp +zetaDelta [*]; done)
    | simp [*]

@[simp] theorem supplyFall_disp (mv us : Nat) (s : State) (h : DispKept (mask dispUnits s)) :
    DispKept (mask dispUnits (supplyFall mv us s)) := by
  unfold supplyFall
  repeat' first
    | (simp [*]; done)
    | (with_reducible refine disp_kept_foldl (fun _ _ _ => ?_) _ ?_)
    | (with_reducible refine disp_kept_command (fun _ _ _ => ?_) ?_)
    | (with_reducible refine disp_goes_ite ?_ ?_)
    | (with_reducible refine disp_kept_ite ?_ ?_)
    | intro _
    | split
    | (simp +zetaDelta [*]; done)
    | simp [*]

@[simp] theorem execVbatConnect_disp (dt mv : Nat) (ign : Bool) (s : State) (h : DispKept (mask dispUnits s)) :
    DispGoes (execVbatConnect dt mv ign s) := by
  unfold execVbatConnect
  repeat' first
    | (simp [*]; done)
    | (with_reducible refine disp_kept_foldl (fun _ _ _ => ?_) _ ?_)
    | (with_reducible refine disp_kept_command (fun _ _ _ => ?_) ?_)
    | (with_reducible refine disp_goes_ite ?_ ?_)
    | (with_reducible refine disp_kept_ite ?_ ?_)
    | intro _
    | split
    | (simp +zetaDelta [*]; done)
    | simp [*]

@[simp] theorem execSupplyFall_disp (dt mv us : Nat) (s : State) (h : DispKept (mask dispUnits s)) :
    DispGoes (execSupplyFall dt mv us s) := by
  unfold execSupplyFall
  repeat' first
    | (simp [*]; done)
    | (with_reducible refine disp_kept_foldl (fun _ _ _ => ?_) _ ?_)
    | (with_reducible refine disp_kept_command (fun _ _ _ => ?_) ?_)
    | (with_reducible refine disp_goes_ite ?_ ?_)
    | (with_reducible refine disp_kept_ite ?_ ?_)
    | intro _
    | split
    | (simp +zetaDelta [*]; done)
    | simp [*]

@[simp] theorem execSupplyReturn_disp (dt mv : Nat) (m : PlanMeas) (s : State) (h : DispKept (mask dispUnits s)) :
    DispGoes (execSupplyReturn dt mv m s) := by
  unfold execSupplyReturn
  repeat' first
    | (simp [*]; done)
    | (with_reducible refine disp_kept_foldl (fun _ _ _ => ?_) _ ?_)
    | (with_reducible refine disp_kept_command (fun _ _ _ => ?_) ?_)
    | (with_reducible refine disp_goes_ite ?_ ?_)
    | (with_reducible refine disp_kept_ite ?_ ?_)
    | intro _
    | split
    | (simp +zetaDelta [*]; done)
    | simp [*]

@[simp] theorem execHoldupComplete_disp (dt mv : Nat) (s : State) (h : DispKept (mask dispUnits s)) :
    DispGoes (execHoldupComplete dt mv s) := by
  unfold execHoldupComplete
  repeat' first
    | (simp [*]; done)
    | (with_reducible refine disp_kept_foldl (fun _ _ _ => ?_) _ ?_)
    | (with_reducible refine disp_kept_command (fun _ _ _ => ?_) ?_)
    | (with_reducible refine disp_goes_ite ?_ ?_)
    | (with_reducible refine disp_kept_ite ?_ ?_)
    | intro _
    | split
    | (simp +zetaDelta [*]; done)
    | simp [*]

@[simp] theorem execRailFault_disp (dt rail code : Nat) (owner : Fin 4) (s : State) (h : DispKept (mask dispUnits s)) :
    DispGoes (execRailFault dt rail code owner s) := by
  unfold execRailFault
  repeat' first
    | (simp [*]; done)
    | (with_reducible refine disp_kept_foldl (fun _ _ _ => ?_) _ ?_)
    | (with_reducible refine disp_kept_command (fun _ _ _ => ?_) ?_)
    | (with_reducible refine disp_goes_ite ?_ ?_)
    | (with_reducible refine disp_kept_ite ?_ ?_)
    | intro _
    | split
    | (simp +zetaDelta [*]; done)
    | simp [*]

@[simp] theorem execIgnHigh_disp (dt : Nat) (s : State) (h : DispKept (mask dispUnits s)) :
    DispGoes (execIgnHigh dt s) := by
  unfold execIgnHigh
  repeat' first
    | (simp [*]; done)
    | (with_reducible refine disp_kept_foldl (fun _ _ _ => ?_) _ ?_)
    | (with_reducible refine disp_kept_command (fun _ _ _ => ?_) ?_)
    | (with_reducible refine disp_goes_ite ?_ ?_)
    | (with_reducible refine disp_kept_ite ?_ ?_)
    | intro _
    | split
    | (simp +zetaDelta [*]; done)
    | simp [*]

@[simp] theorem execIgnLow_disp (dt : Nat) (s : State) (h : DispKept (mask dispUnits s)) :
    DispGoes (execIgnLow dt s) := by
  unfold execIgnLow
  repeat' first
    | (simp [*]; done)
    | (with_reducible refine disp_kept_foldl (fun _ _ _ => ?_) _ ?_)
    | (with_reducible refine disp_kept_command (fun _ _ _ => ?_) ?_)
    | (with_reducible refine disp_goes_ite ?_ ?_)
    | (with_reducible refine disp_kept_ite ?_ ?_)
    | intro _
    | split
    | (simp +zetaDelta [*]; done)
    | simp [*]

@[simp] theorem execHostWake_disp (dt : Nat) (s : State) (h : DispKept (mask dispUnits s)) :
    DispGoes (execHostWake dt s) := by
  unfold execHostWake
  repeat' first
    | (simp [*]; done)
    | (with_reducible refine disp_kept_foldl (fun _ _ _ => ?_) _ ?_)
    | (with_reducible refine disp_kept_command (fun _ _ _ => ?_) ?_)
    | (with_reducible refine disp_goes_ite ?_ ?_)
    | (with_reducible refine disp_kept_ite ?_ ?_)
    | intro _
    | split
    | (simp +zetaDelta [*]; done)
    | simp [*]

@[simp] theorem execWakeTimer_disp (s : State) (h : DispKept (mask dispUnits s)) :
    DispGoes (execWakeTimer s) := by
  unfold execWakeTimer
  repeat' first
    | (simp [*]; done)
    | (with_reducible refine disp_kept_foldl (fun _ _ _ => ?_) _ ?_)
    | (with_reducible refine disp_kept_command (fun _ _ _ => ?_) ?_)
    | (with_reducible refine disp_goes_ite ?_ ?_)
    | (with_reducible refine disp_kept_ite ?_ ?_)
    | intro _
    | split
    | (simp +zetaDelta [*]; done)
    | simp [*]

@[simp] theorem execCanWakePattern_disp (dt : Nat) (c : Fin 2) (s : State) (h : DispKept (mask dispUnits s)) :
    DispGoes (execCanWakePattern dt c s) := by
  unfold execCanWakePattern
  repeat' first
    | (simp [*]; done)
    | (with_reducible refine disp_kept_foldl (fun _ _ _ => ?_) _ ?_)
    | (with_reducible refine disp_kept_command (fun _ _ _ => ?_) ?_)
    | (with_reducible refine disp_goes_ite ?_ ?_)
    | (with_reducible refine disp_kept_ite ?_ ?_)
    | intro _
    | split
    | (simp +zetaDelta [*]; done)
    | simp [*]

@[simp] theorem execModemRing_disp (dt : Nat) (s : State) (h : DispKept (mask dispUnits s)) :
    DispGoes (execModemRing dt s) := by
  unfold execModemRing
  repeat' first
    | (simp [*]; done)
    | (with_reducible refine disp_kept_foldl (fun _ _ _ => ?_) _ ?_)
    | (with_reducible refine disp_kept_command (fun _ _ _ => ?_) ?_)
    | (with_reducible refine disp_goes_ite ?_ ?_)
    | (with_reducible refine disp_kept_ite ?_ ?_)
    | intro _
    | split
    | (simp +zetaDelta [*]; done)
    | simp [*]

@[simp] theorem execWakeServeExpiry_disp (s : State) (h : DispKept (mask dispUnits s)) :
    DispGoes (execWakeServeExpiry s) := by
  unfold execWakeServeExpiry
  repeat' first
    | (simp [*]; done)
    | (with_reducible refine disp_kept_foldl (fun _ _ _ => ?_) _ ?_)
    | (with_reducible refine disp_kept_command (fun _ _ _ => ?_) ?_)
    | (with_reducible refine disp_goes_ite ?_ ?_)
    | (with_reducible refine disp_kept_ite ?_ ?_)
    | intro _
    | split
    | (simp +zetaDelta [*]; done)
    | simp [*]

@[simp] theorem execKeyoffComplete_disp (dt mv : Nat) (m : PlanMeas) (s : State) (h : DispKept (mask dispUnits s)) :
    DispGoes (execKeyoffComplete dt mv m s) := by
  unfold execKeyoffComplete
  extract_lets s1 s2 held s3 s4 s5
  have q1 : DispKept (mask dispUnits s1) := by simp [s1, h]
  clear_value s1
  have q2 : DispKept (mask dispUnits s2) := by simp [s2, q1]
  clear_value s2
  have q4 : DispKept (mask dispUnits s4) := by simp [s4, s3, q2]
  clear_value s4
  have q5 : DispKept (mask dispUnits s5) := by simp [s5, q4]
  clear_value s5 held
  refine disp_goes_ite ?_ ?_
  · simp [q1]
  · split
    · simp [q4]
    · refine disp_goes_ite ?_ ?_ <;> simp [q5]

@[simp] theorem stepGrids_disp (k : Step) (s : State) (h : DispKept (mask dispUnits s)) :
    DispKept (mask dispUnits (stepGrids k s)) := by
  unfold stepGrids
  repeat' first
    | (simp [*]; done)
    | (with_reducible refine disp_kept_foldl (fun _ _ _ => ?_) _ ?_)
    | (with_reducible refine disp_kept_command (fun _ _ _ => ?_) ?_)
    | (with_reducible refine disp_goes_ite ?_ ?_)
    | (with_reducible refine disp_kept_ite ?_ ?_)
    | intro _
    | split
    | (simp +zetaDelta [*]; done)
    | simp [*]

@[simp] theorem takeStep_disp (k : Step) (s : State) (h : DispKept (mask dispUnits s)) :
    DispKept (mask dispUnits (takeStep k s)) := by
  unfold takeStep
  repeat' first
    | (simp [*]; done)
    | (with_reducible refine disp_kept_foldl (fun _ _ _ => ?_) _ ?_)
    | (with_reducible refine disp_kept_command (fun _ _ _ => ?_) ?_)
    | (with_reducible refine disp_goes_ite ?_ ?_)
    | (with_reducible refine disp_kept_ite ?_ ?_)
    | intro _
    | split
    | (simp +zetaDelta [*]; done)
    | simp [*]

@[simp] theorem execStepInstant_disp (s : State) (h : DispKept (mask dispUnits s)) :
    DispGoes (execStepInstant s) := by
  unfold execStepInstant
  repeat' first
    | (simp [*]; done)
    | (with_reducible refine disp_kept_foldl (fun _ _ _ => ?_) _ ?_)
    | (with_reducible refine disp_kept_command (fun _ _ _ => ?_) ?_)
    | (with_reducible refine disp_goes_ite ?_ ?_)
    | (with_reducible refine disp_kept_ite ?_ ?_)
    | intro _
    | split
    | (simp +zetaDelta [*]; done)
    | simp [*]

@[simp] theorem execPlateTemperature_disp (c : Int) (s : State) (h : DispKept (mask dispUnits s)) :
    DispGoes (execPlateTemperature c s) := by
  unfold execPlateTemperature
  repeat' first
    | (simp [*]; done)
    | (with_reducible refine disp_kept_foldl (fun _ _ _ => ?_) _ ?_)
    | (with_reducible refine disp_kept_command (fun _ _ _ => ?_) ?_)
    | (with_reducible refine disp_goes_ite ?_ ?_)
    | (with_reducible refine disp_kept_ite ?_ ?_)
    | intro _
    | split
    | (simp +zetaDelta [*]; done)
    | simp [*]

end Sys2Proof.Machine
end

