-- ==== Sys2Proof/Laws/KeepTime.lean ====
section
/-!
SUPPORT. What every operation that touches the unit `time` keeps of it.
-/
set_option linter.unusedSimpArgs false
set_option linter.unusedVariables false
namespace Sys2Proof.Machine
set_option Elab.async false

/-- Every unit but this one. -/
def timeUnits : Units :=
  { now := true, lanes := true, hub := true, cat := true, sig := true, ctl := true, pas := true, img := true, pow := true, mar := true, bar := true, valve := true, field := true, can := true, modem := true, disp := true, gnss := true, pos := true, fus := true, cam := true, map := true }

/-- `TimeU.inBounds`, field by field. -/
structure TimeUHolds (epoch : Nat) (timeOk : Bool) (state : TimeState) (f r : Int) : Prop where
  holds : epoch < 65536 ∧ (timeOk = true → state = .locked) ∧ f.natAbs ≤ 204800 ∧ r.natAbs ≤ 20480000
    ∧ (state = .locked → r.natAbs ≤ 204800)

/-- The unit in a masked state keeps to it. -/
structure TimeKept (m : Masked) : Prop where
  holds : ∀ d, m.time = some d → TimeUHolds d.epoch d.timeOk d.state d.f d.r

/-- An outcome is a next state whose unit keeps to it. -/
structure TimeGoes (o : Host.Outcome State Fault Refusal) : Prop where
  goes : ∃ t, o = .next t ∧ TimeKept (mask timeUnits t)

@[simp] theorem timeUnits_now : timeUnits.now = true := by rfl
@[simp] theorem timeUnits_lanes : timeUnits.lanes = true := by rfl
@[simp] theorem timeUnits_hub : timeUnits.hub = true := by rfl
@[simp] theorem timeUnits_cat : timeUnits.cat = true := by rfl
@[simp] theorem timeUnits_sig : timeUnits.sig = true := by rfl
@[simp] theorem timeUnits_ctl : timeUnits.ctl = true := by rfl
@[simp] theorem timeUnits_pas : timeUnits.pas = true := by rfl
@[simp] theorem timeUnits_img : timeUnits.img = true := by rfl
@[simp] theorem timeUnits_pow : timeUnits.pow = true := by rfl
@[simp] theorem timeUnits_mar : timeUnits.mar = true := by rfl
@[simp] theorem timeUnits_bar : timeUnits.bar = true := by rfl
@[simp] theorem timeUnits_valve : timeUnits.valve = true := by rfl
@[simp] theorem timeUnits_field : timeUnits.field = true := by rfl
@[simp] theorem timeUnits_can : timeUnits.can = true := by rfl
@[simp] theorem timeUnits_modem : timeUnits.modem = true := by rfl
@[simp] theorem timeUnits_disp : timeUnits.disp = true := by rfl
@[simp] theorem timeUnits_gnss : timeUnits.gnss = true := by rfl
@[simp] theorem timeUnits_pos : timeUnits.pos = true := by rfl
@[simp] theorem timeUnits_fus : timeUnits.fus = true := by rfl
@[simp] theorem timeUnits_cam : timeUnits.cam = true := by rfl
@[simp] theorem timeUnits_map : timeUnits.map = true := by rfl

@[simp] theorem time_kept_up (f : TimeU → TimeU) (s : State) :
    TimeKept (mask timeUnits (s.upTime f)) ↔ TimeUHolds (f s.time).epoch (f s.time).timeOk (f s.time).state (f s.time).f (f s.time).r := by
  exact ⟨fun h => h.holds _ rfl, fun h => ⟨fun d e => by cases e; exact h⟩⟩

@[simp] theorem time_kept (s : State) : TimeUHolds s.time.epoch s.time.timeOk s.time.state s.time.f s.time.r ↔ TimeKept (mask timeUnits s) := by
  exact ⟨fun h => ⟨fun d e => by cases e; exact h⟩, fun h => h.holds _ rfl⟩

theorem time_kept_iff (s : State) : TimeKept (mask timeUnits s) ↔ s.time.inBounds := by
  rw [← time_kept]
  exact ⟨fun h => h.holds, fun h => ⟨h⟩⟩

@[simp] theorem time_goes_next (t : State) : TimeGoes (.next t) ↔ TimeKept (mask timeUnits t) := by
  exact ⟨fun ⟨_, h, e⟩ => by cases h; exact e, fun h => ⟨t, rfl, h⟩⟩

theorem time_goes_ite {c : Prop} {_ : Decidable c} {a b : Host.Outcome State Fault Refusal}
    (ha : TimeGoes a) (hb : TimeGoes b) : TimeGoes (if c then a else b) := by
  split <;> assumption

theorem time_kept_ite {c : Prop} {_ : Decidable c} {a b : State} (ha : TimeKept (mask timeUnits a))
    (hb : TimeKept (mask timeUnits b)) : TimeKept (mask timeUnits (if c then a else b)) := by
  split <;> assumption

/-- A submission keeps what its action keeps. -/
theorem time_kept_command {dt kind unit : Nat} {p : Post} {sc : RecSchema} {g : Bool} {at_ : Nat → Nat}
    {act : Sub → State → State} {s : State}
    (ha : ∀ x t, TimeKept (mask timeUnits t) → TimeKept (mask timeUnits (act x t))) (h : TimeKept (mask timeUnits s)) :
    TimeKept (mask timeUnits (command dt kind unit p sc g at_ act s)) := by
  have q : ∀ a, TimeKept (mask timeUnits (arrive dt kind unit p a s).1) := fun a => by
    rw [arrive_mask timeUnits_now timeUnits_hub]
    exact h
  have r : ∀ u a b, TimeKept (mask timeUnits (Sub.refuse u a b (arrive dt kind unit p decideAt s).1)) := fun u a b => by
    rw [Sub.refuse_mask timeUnits_hub]
    exact q _
  unfold command
  split
  · simp [h]
  · dsimp only
    split
    · exact r _ _ _
    · split
      · exact r _ _ _
      · exact ha _ _ (q _)

/-- A command that leaves the unit alone keeps it. -/
theorem time_goes_of_goes {s : State} {o : Host.Outcome State Fault Refusal} (h : TimeKept (mask timeUnits s))
    (g : Goes timeUnits s o) : TimeGoes o := by
  obtain ⟨t, e, m⟩ := g
  exact ⟨t, e, m ▸ h⟩

theorem time_kept_foldl {α : Type} {f : State → α → State} (h : ∀ s x, TimeKept (mask timeUnits s) → TimeKept (mask timeUnits (f s x)))
    (l : List α) {s : State} (hs : TimeKept (mask timeUnits s)) : TimeKept (mask timeUnits (l.foldl f s)) := by
  induction l generalizing s with
  | nil => exact hs
  | cons a l ih => exact ih (h s a hs)

@[simp] theorem accrue_time (s : State) : (accrue s).time = s.time := by rfl

theorem timeTo_time (st : TimeState) (s : State) (h : TimeKept (mask timeUnits s)) (hk : s.time.timeOk = false)
    (hl : st = .locked → s.time.r.natAbs ≤ 204800) : TimeKept (mask timeUnits (timeTo st s)) := by
  obtain ⟨h1, h2, h3, h4, h5⟩ := ((time_kept s).2 h).holds
  unfold timeTo
  simp only [raise_mask, timeUnits_hub, time_kept_up]
  exact ⟨⟨h1, by simp [hk], h3, h4, hl⟩⟩

@[simp] theorem loseLock_time (s : State) (h : TimeKept (mask timeUnits s)) :
    TimeKept (mask timeUnits (loseLock s)) := by
  unfold loseLock
  obtain ⟨h1, h2, h3, h4, h5⟩ := ((time_kept s).2 h).holds
  refine timeTo_time _ _ ?_ rfl ?_
  · rw [time_kept_up]
    simp only [accrue_time]
    exact ⟨⟨h1, by simp, h3, by omega, fun _ => h3⟩⟩
  · split <;> simp

@[simp] theorem clockFailed_time (s : State) (h : TimeKept (mask timeUnits s)) :
    TimeKept (mask timeUnits (clockFailed s)) := by
  unfold clockFailed
  repeat' first
    | (simp [*]; done)
    | (with_reducible refine time_kept_foldl (fun _ _ _ => ?_) _ ?_)
    | (with_reducible refine time_kept_command (fun _ _ _ => ?_) ?_)
    | (with_reducible refine time_goes_ite ?_ ?_)
    | (with_reducible refine time_kept_ite ?_ ?_)
    | intro _
    | split
    | (simp +zetaDelta [*]; done)
    | simp [*]

@[simp] theorem clockPassed_time (s : State) (h : TimeKept (mask timeUnits s)) :
    TimeKept (mask timeUnits (clockPassed s)) := by
  unfold clockPassed
  repeat' first
    | (simp [*]; done)
    | (with_reducible refine time_kept_foldl (fun _ _ _ => ?_) _ ?_)
    | (with_reducible refine time_kept_command (fun _ _ _ => ?_) ?_)
    | (with_reducible refine time_goes_ite ?_ ?_)
    | (with_reducible refine time_kept_ite ?_ ?_)
    | intro _
    | split
    | (simp +zetaDelta [*]; done)
    | simp [*]

@[simp] theorem gnssClock_time (x : ClockSol) (s : State) (h : TimeKept (mask timeUnits s)) :
    TimeKept (mask timeUnits (gnssClock x s)) := by
  unfold gnssClock
  extract_lets v g t s1 c x s2
  have q1 : TimeKept (mask timeUnits s1) := by simp [s1, h]
  clear_value s1
  have q2 : TimeKept (mask timeUnits s2) := by simp [s2, q1]
  clear_value s2
  refine time_kept_ite h (time_kept_ite (by simp [q1]) ?_)
  split <;> simp [q2]

@[simp] theorem execGnssEpoch_time (x : GnssEpochIn) (s : State) (h : TimeKept (mask timeUnits s)) :
    TimeGoes (execGnssEpoch x s) := by
  unfold execGnssEpoch
  extract_lets at_ s0 el recd rate stepNow old sr x s1 s2 s3 s4 s5 s6 s7 s8
  have q0 : TimeKept (mask timeUnits s0) := by simp [s0, h]
  clear_value s0 rate stepNow recd
  have q1 : TimeKept (mask timeUnits s1) := by simp [s1, sr, q0]
  clear_value s1 x
  have q2 : TimeKept (mask timeUnits s2) := by simp [s2, q1]
  clear_value s2
  have q3 : TimeKept (mask timeUnits s3) := by simp only [s3]; split <;> simp [q2]
  clear_value s3
  have q4 : TimeKept (mask timeUnits s4) := time_kept_foldl (fun t c ht => by simp [ht]) _ q3
  clear_value s4
  have q5 : TimeKept (mask timeUnits s5) := by simp [s5, q4]
  clear_value s5
  have q6 : TimeKept (mask timeUnits s6) := by
    simp only [s6]
    split
    · exact time_kept_ite (by simp [q5]) q5
    · exact q5
  clear_value s6
  have q7 : TimeKept (mask timeUnits s7) := by simp [s7, q6]
  clear_value s7
  have q8 : TimeKept (mask timeUnits s8) := time_kept_ite (by simp [q7]) q7
  clear_value s8
  exact time_goes_ite (by simp [h]) (by simp [q8])

@[simp] theorem execFtSnap_time (dt : Nat) (s : State) (h : TimeKept (mask timeUnits s)) :
    TimeGoes (execFtSnap dt s) := by
  unfold execFtSnap
  repeat' first
    | (simp [*]; done)
    | (with_reducible refine time_kept_foldl (fun _ _ _ => ?_) _ ?_)
    | (with_reducible refine time_kept_command (fun _ _ _ => ?_) ?_)
    | (with_reducible refine time_goes_ite ?_ ?_)
    | (with_reducible refine time_kept_ite ?_ ?_)
    | intro _
    | split
    | (simp +zetaDelta [*]; done)
    | simp [*]

@[simp] theorem handAon_time (s : State) (h : TimeKept (mask timeUnits s)) :
    TimeKept (mask timeUnits (handAon s)) := by
  unfold handAon
  extract_lets u
  obtain ⟨h1, h2, h3, h4, h5⟩ := ((time_kept s).2 h).holds
  rw [time_kept_up]
  exact ⟨⟨h1, by simp, h3, by simp, fun _ => by simp⟩⟩

@[simp] theorem startTime_time (s : State) (h : TimeKept (mask timeUnits s)) :
    TimeKept (mask timeUnits (startTime s)) := by
  unfold startTime
  extract_lets el t0
  obtain ⟨h1, h2, h3, h4, h5⟩ := ((time_kept s).2 h).holds
  rw [time_kept_up]
  simp only [accrue_time]
  exact ⟨⟨h1, by decide, by decide, by decide, by decide⟩⟩

@[simp] theorem wakeTime_time (s : State) (h : TimeKept (mask timeUnits s)) :
    TimeKept (mask timeUnits (wakeTime s)) := by
  unfold wakeTime
  repeat' first
    | (simp [*]; done)
    | (with_reducible refine time_kept_foldl (fun _ _ _ => ?_) _ ?_)
    | (with_reducible refine time_kept_command (fun _ _ _ => ?_) ?_)
    | (with_reducible refine time_goes_ite ?_ ?_)
    | (with_reducible refine time_kept_ite ?_ ?_)
    | intro _
    | split
    | (simp +zetaDelta [*]; done)
    | simp [*]

@[simp] theorem startServing_time (code : Nat) (warm after : Bool) (s : State) (h : TimeKept (mask timeUnits s)) :
    TimeKept (mask timeUnits (startServing code warm after s)) := by
  unfold startServing
  repeat' first
    | (simp [*]; done)
    | (with_reducible refine time_kept_foldl (fun _ _ _ => ?_) _ ?_)
    | (with_reducible refine time_kept_command (fun _ _ _ => ?_) ?_)
    | (with_reducible refine time_goes_ite ?_ ?_)
    | (with_reducible refine time_kept_ite ?_ ?_)
    | intro _
    | split
    | (simp +zetaDelta [*]; done)
    | simp [*]

@[simp] theorem wake_time (code : Nat) (s : State) (h : TimeKept (mask timeUnits s)) :
    TimeKept (mask timeUnits (wake code s)) := by
  unfold wake
  repeat' first
    | (simp [*]; done)
    | (with_reducible refine time_kept_foldl (fun _ _ _ => ?_) _ ?_)
    | (with_reducible refine time_kept_command (fun _ _ _ => ?_) ?_)
    | (with_reducible refine time_goes_ite ?_ ?_)
    | (with_reducible refine time_kept_ite ?_ ?_)
    | intro _
    | split
    | (simp +zetaDelta [*]; done)
    | simp [*]

@[simp] theorem saveAlways_time (s : State) (h : TimeKept (mask timeUnits s)) :
    TimeKept (mask timeUnits (saveAlways s)) := by
  unfold saveAlways
  repeat' first
    | (simp [*]; done)
    | (with_reducible refine time_kept_foldl (fun _ _ _ => ?_) _ ?_)
    | (with_reducible refine time_kept_command (fun _ _ _ => ?_) ?_)
    | (with_reducible refine time_goes_ite ?_ ?_)
    | (with_reducible refine time_kept_ite ?_ ?_)
    | intro _
    | split
    | (simp +zetaDelta [*]; done)
    | simp [*]

@[simp] theorem toDormant_time (s : State) (h : TimeKept (mask timeUnits s)) :
    TimeKept (mask timeUnits (toDormant s)) := by
  unfold toDormant
  repeat' first
    | (simp [*]; done)
    | (with_reducible refine time_kept_foldl (fun _ _ _ => ?_) _ ?_)
    | (with_reducible refine time_kept_command (fun _ _ _ => ?_) ?_)
    | (with_reducible refine time_goes_ite ?_ ?_)
    | (with_reducible refine time_kept_ite ?_ ?_)
    | intro _
    | split
    | (simp +zetaDelta [*]; done)
    | simp [*]

@[simp] theorem lapseStep_time (s : State) (h : TimeKept (mask timeUnits s)) :
    TimeKept (mask timeUnits (lapseStep s)) := by
  unfold lapseStep
  obtain ⟨h1, h2, h3, h4, h5⟩ := ((time_kept s).2 h).holds
  simp only [timeNoted_mask, timeUnits_hub, time_kept_up]
  split <;> exact ⟨⟨h1, h2, h3, h4, h5⟩⟩

@[simp] theorem beginKeyoff_time (s : State) (h : TimeKept (mask timeUnits s)) :
    TimeKept (mask timeUnits (beginKeyoff s)) := by
  unfold beginKeyoff
  repeat' first
    | (simp [*]; done)
    | (with_reducible refine time_kept_foldl (fun _ _ _ => ?_) _ ?_)
    | (with_reducible refine time_kept_command (fun _ _ _ => ?_) ?_)
    | (with_reducible refine time_goes_ite ?_ ?_)
    | (with_reducible refine time_kept_ite ?_ ?_)
    | intro _
    | split
    | (simp +zetaDelta [*]; done)
    | simp [*]

@[simp] theorem supplyFall_time (mv us : Nat) (s : State) (h : TimeKept (mask timeUnits s)) :
    TimeKept (mask timeUnits (supplyFall mv us s)) := by
  unfold supplyFall
  repeat' first
    | (simp [*]; done)
    | (with_reducible refine time_kept_foldl (fun _ _ _ => ?_) _ ?_)
    | (with_reducible refine time_kept_command (fun _ _ _ => ?_) ?_)
    | (with_reducible refine time_goes_ite ?_ ?_)
    | (with_reducible refine time_kept_ite ?_ ?_)
    | intro _
    | split
    | (simp +zetaDelta [*]; done)
    | simp [*]

@[simp] theorem holdupDeadline_time (standstill : Bool) (s : State) (h : TimeKept (mask timeUnits s)) :
    TimeKept (mask timeUnits (holdupDeadline standstill s)) := by
  unfold holdupDeadline
  repeat' first
    | (simp [*]; done)
    | (with_reducible refine time_kept_foldl (fun _ _ _ => ?_) _ ?_)
    | (with_reducible refine time_kept_command (fun _ _ _ => ?_) ?_)
    | (with_reducible refine time_goes_ite ?_ ?_)
    | (with_reducible refine time_kept_ite ?_ ?_)
    | intro _
    | split
    | (simp +zetaDelta [*]; done)
    | simp [*]

@[simp] theorem execVbatConnect_time (dt mv : Nat) (ign : Bool) (s : State) (h : TimeKept (mask timeUnits s)) :
    TimeGoes (execVbatConnect dt mv ign s) := by
  unfold execVbatConnect
  repeat' first
    | (simp [*]; done)
    | (with_reducible refine time_kept_foldl (fun _ _ _ => ?_) _ ?_)
    | (with_reducible refine time_kept_command (fun _ _ _ => ?_) ?_)
    | (with_reducible refine time_goes_ite ?_ ?_)
    | (with_reducible refine time_kept_ite ?_ ?_)
    | intro _
    | split
    | (simp +zetaDelta [*]; done)
    | simp [*]

@[simp] theorem execSupplyFall_time (dt mv us : Nat) (s : State) (h : TimeKept (mask timeUnits s)) :
    TimeGoes (execSupplyFall dt mv us s) := by
  unfold execSupplyFall
  repeat' first
    | (simp [*]; done)
    | (with_reducible refine time_kept_foldl (fun _ _ _ => ?_) _ ?_)
    | (with_reducible refine time_kept_command (fun _ _ _ => ?_) ?_)
    | (with_reducible refine time_goes_ite ?_ ?_)
    | (with_reducible refine time_kept_ite ?_ ?_)
    | intro _
    | split
    | (simp +zetaDelta [*]; done)
    | simp [*]

@[simp] theorem execSupplyReturn_time (dt mv : Nat) (m : PlanMeas) (s : State) (h : TimeKept (mask timeUnits s)) :
    TimeGoes (execSupplyReturn dt mv m s) := by
  unfold execSupplyReturn
  repeat' first
    | (simp [*]; done)
    | (with_reducible refine time_kept_foldl (fun _ _ _ => ?_) _ ?_)
    | (with_reducible refine time_kept_command (fun _ _ _ => ?_) ?_)
    | (with_reducible refine time_goes_ite ?_ ?_)
    | (with_reducible refine time_kept_ite ?_ ?_)
    | intro _
    | split
    | (simp +zetaDelta [*]; done)
    | simp [*]

@[simp] theorem execHoldupReturnDeadline_time (standstill : Bool) (s : State) (h : TimeKept (mask timeUnits s)) :
    TimeGoes (execHoldupReturnDeadline standstill s) := by
  unfold execHoldupReturnDeadline
  repeat' first
    | (simp [*]; done)
    | (with_reducible refine time_kept_foldl (fun _ _ _ => ?_) _ ?_)
    | (with_reducible refine time_kept_command (fun _ _ _ => ?_) ?_)
    | (with_reducible refine time_goes_ite ?_ ?_)
    | (with_reducible refine time_kept_ite ?_ ?_)
    | intro _
    | split
    | (simp +zetaDelta [*]; done)
    | simp [*]

@[simp] theorem execHoldupComplete_time (dt mv : Nat) (s : State) (h : TimeKept (mask timeUnits s)) :
    TimeGoes (execHoldupComplete dt mv s) := by
  unfold execHoldupComplete
  repeat' first
    | (simp [*]; done)
    | (with_reducible refine time_kept_foldl (fun _ _ _ => ?_) _ ?_)
    | (with_reducible refine time_kept_command (fun _ _ _ => ?_) ?_)
    | (with_reducible refine time_goes_ite ?_ ?_)
    | (with_reducible refine time_kept_ite ?_ ?_)
    | intro _
    | split
    | (simp +zetaDelta [*]; done)
    | simp [*]

@[simp] theorem execRailFault_time (dt rail code : Nat) (owner : Fin 4) (s : State) (h : TimeKept (mask timeUnits s)) :
    TimeGoes (execRailFault dt rail code owner s) := by
  unfold execRailFault
  repeat' first
    | (simp [*]; done)
    | (with_reducible refine time_kept_foldl (fun _ _ _ => ?_) _ ?_)
    | (with_reducible refine time_kept_command (fun _ _ _ => ?_) ?_)
    | (with_reducible refine time_goes_ite ?_ ?_)
    | (with_reducible refine time_kept_ite ?_ ?_)
    | intro _
    | split
    | (simp +zetaDelta [*]; done)
    | simp [*]

@[simp] theorem execIgnHigh_time (dt : Nat) (s : State) (h : TimeKept (mask timeUnits s)) :
    TimeGoes (execIgnHigh dt s) := by
  unfold execIgnHigh
  repeat' first
    | (simp [*]; done)
    | (with_reducible refine time_kept_foldl (fun _ _ _ => ?_) _ ?_)
    | (with_reducible refine time_kept_command (fun _ _ _ => ?_) ?_)
    | (with_reducible refine time_goes_ite ?_ ?_)
    | (with_reducible refine time_kept_ite ?_ ?_)
    | intro _
    | split
    | (simp +zetaDelta [*]; done)
    | simp [*]

@[simp] theorem execIgnLow_time (dt : Nat) (s : State) (h : TimeKept (mask timeUnits s)) :
    TimeGoes (execIgnLow dt s) := by
  unfold execIgnLow
  repeat' first
    | (simp [*]; done)
    | (with_reducible refine time_kept_foldl (fun _ _ _ => ?_) _ ?_)
    | (with_reducible refine time_kept_command (fun _ _ _ => ?_) ?_)
    | (with_reducible refine time_goes_ite ?_ ?_)
    | (with_reducible refine time_kept_ite ?_ ?_)
    | intro _
    | split
    | (simp +zetaDelta [*]; done)
    | simp [*]

@[simp] theorem execHostWake_time (dt : Nat) (s : State) (h : TimeKept (mask timeUnits s)) :
    TimeGoes (execHostWake dt s) := by
  unfold execHostWake
  repeat' first
    | (simp [*]; done)
    | (with_reducible refine time_kept_foldl (fun _ _ _ => ?_) _ ?_)
    | (with_reducible refine time_kept_command (fun _ _ _ => ?_) ?_)
    | (with_reducible refine time_goes_ite ?_ ?_)
    | (with_reducible refine time_kept_ite ?_ ?_)
    | intro _
    | split
    | (simp +zetaDelta [*]; done)
    | simp [*]

@[simp] theorem execWakeTimer_time (s : State) (h : TimeKept (mask timeUnits s)) :
    TimeGoes (execWakeTimer s) := by
  unfold execWakeTimer
  repeat' first
    | (simp [*]; done)
    | (with_reducible refine time_kept_foldl (fun _ _ _ => ?_) _ ?_)
    | (with_reducible refine time_kept_command (fun _ _ _ => ?_) ?_)
    | (with_reducible refine time_goes_ite ?_ ?_)
    | (with_reducible refine time_kept_ite ?_ ?_)
    | intro _
    | split
    | (simp +zetaDelta [*]; done)
    | simp [*]

@[simp] theorem execCanWakePattern_time (dt : Nat) (c : Fin 2) (s : State) (h : TimeKept (mask timeUnits s)) :
    TimeGoes (execCanWakePattern dt c s) := by
  unfold execCanWakePattern
  repeat' first
    | (simp [*]; done)
    | (with_reducible refine time_kept_foldl (fun _ _ _ => ?_) _ ?_)
    | (with_reducible refine time_kept_command (fun _ _ _ => ?_) ?_)
    | (with_reducible refine time_goes_ite ?_ ?_)
    | (with_reducible refine time_kept_ite ?_ ?_)
    | intro _
    | split
    | (simp +zetaDelta [*]; done)
    | simp [*]

@[simp] theorem execModemRing_time (dt : Nat) (s : State) (h : TimeKept (mask timeUnits s)) :
    TimeGoes (execModemRing dt s) := by
  unfold execModemRing
  repeat' first
    | (simp [*]; done)
    | (with_reducible refine time_kept_foldl (fun _ _ _ => ?_) _ ?_)
    | (with_reducible refine time_kept_command (fun _ _ _ => ?_) ?_)
    | (with_reducible refine time_goes_ite ?_ ?_)
    | (with_reducible refine time_kept_ite ?_ ?_)
    | intro _
    | split
    | (simp +zetaDelta [*]; done)
    | simp [*]

@[simp] theorem execWakeServeExpiry_time (s : State) (h : TimeKept (mask timeUnits s)) :
    TimeGoes (execWakeServeExpiry s) := by
  unfold execWakeServeExpiry
  repeat' first
    | (simp [*]; done)
    | (with_reducible refine time_kept_foldl (fun _ _ _ => ?_) _ ?_)
    | (with_reducible refine time_kept_command (fun _ _ _ => ?_) ?_)
    | (with_reducible refine time_goes_ite ?_ ?_)
    | (with_reducible refine time_kept_ite ?_ ?_)
    | intro _
    | split
    | (simp +zetaDelta [*]; done)
    | simp [*]

@[simp] theorem execKeyoffSaveDone_time (dt uf esr : Nat) (standstill : Bool) (s : State) (h : TimeKept (mask timeUnits s)) :
    TimeGoes (execKeyoffSaveDone dt uf esr standstill s) := by
  unfold execKeyoffSaveDone
  repeat' first
    | (simp [*]; done)
    | (with_reducible refine time_kept_foldl (fun _ _ _ => ?_) _ ?_)
    | (with_reducible refine time_kept_command (fun _ _ _ => ?_) ?_)
    | (with_reducible refine time_goes_ite ?_ ?_)
    | (with_reducible refine time_kept_ite ?_ ?_)
    | intro _
    | split
    | (simp +zetaDelta [*]; done)
    | simp [*]

@[simp] theorem execKeyoffComplete_time (dt mv : Nat) (m : PlanMeas) (s : State) (h : TimeKept (mask timeUnits s)) :
    TimeGoes (execKeyoffComplete dt mv m s) := by
  unfold execKeyoffComplete
  extract_lets s1 s2 held s3 s4 s5
  have q1 : TimeKept (mask timeUnits s1) := by simp [s1, h]
  clear_value s1
  have q2 : TimeKept (mask timeUnits s2) := by simp [s2, q1]
  clear_value s2
  have q4 : TimeKept (mask timeUnits s4) := by simp [s4, s3, q2]
  clear_value s4
  have q5 : TimeKept (mask timeUnits s5) := by simp [s5, q4]
  clear_value s5 held
  refine time_goes_ite ?_ ?_
  · simp [q1]
  · split
    · simp [q4]
    · refine time_goes_ite ?_ ?_ <;> simp [q5]

@[simp] theorem execKeepMinExpiry_time (s : State) (h : TimeKept (mask timeUnits s)) :
    TimeGoes (execKeepMinExpiry s) := by
  unfold execKeepMinExpiry
  repeat' first
    | (simp [*]; done)
    | (with_reducible refine time_kept_foldl (fun _ _ _ => ?_) _ ?_)
    | (with_reducible refine time_kept_command (fun _ _ _ => ?_) ?_)
    | (with_reducible refine time_goes_ite ?_ ?_)
    | (with_reducible refine time_kept_ite ?_ ?_)
    | intro _
    | split
    | (simp +zetaDelta [*]; done)
    | simp [*]

@[simp] theorem execKeepVbatLow_time (dt : Nat) (s : State) (h : TimeKept (mask timeUnits s)) :
    TimeGoes (execKeepVbatLow dt s) := by
  unfold execKeepVbatLow
  repeat' first
    | (simp [*]; done)
    | (with_reducible refine time_kept_foldl (fun _ _ _ => ?_) _ ?_)
    | (with_reducible refine time_kept_command (fun _ _ _ => ?_) ?_)
    | (with_reducible refine time_goes_ite ?_ ?_)
    | (with_reducible refine time_kept_ite ?_ ?_)
    | intro _
    | split
    | (simp +zetaDelta [*]; done)
    | simp [*]

@[simp] theorem execTimeInEdge_time (dt : Nat) (rising : Bool) (s : State) (h : TimeKept (mask timeUnits s)) :
    TimeGoes (execTimeInEdge dt rising s) := by
  unfold execTimeInEdge
  extract_lets s1 r mode ft near gap x s2
  have q1 : TimeKept (mask timeUnits s1) := by simp [s1, h]
  clear_value s1
  obtain ⟨h1, h2, h3, h4, h5⟩ := ((time_kept s1).2 q1).holds
  have q2 : TimeKept (mask timeUnits s2) := by
    simp only [s2, time_kept_up]
    exact ⟨⟨h1, h2, h3, h4, h5⟩⟩
  refine time_goes_ite (by simp [q1]) (time_goes_ite (by simp [q1]) ?_)
  split
  · rw [time_goes_next]
    exact time_kept_ite (by simp [q2]) q2
  · rename_i hn
    refine time_goes_ite ?_ (by simp [q2])
    obtain ⟨g1, g2, g3, g4, g5⟩ := ((time_kept s2).2 q2).holds
    rw [time_goes_next, time_kept_up]
    simp only [accrue_time]
    refine ⟨⟨g1, g2, g3, ?_, fun e => absurd e hn⟩⟩
    simp only [clampI]
    omega

@[simp] theorem confirmStep_time (x : Int) (at_ : Nat) (s : State) (h : TimeKept (mask timeUnits s)) :
    TimeKept (mask timeUnits (confirmStep x at_ s)) := by
  unfold confirmStep
  have q : ∀ s : State, TimeKept (mask timeUnits s) →
      TimeUHolds s.time.epoch s.time.timeOk s.time.state s.time.f s.time.r := fun s h => (time_kept s).2 h
  extract_lets t n s1
  split
  · refine time_kept_ite ?_ ?_ <;> rw [time_kept_up] <;> exact q s h
  · refine time_kept_ite (by rw [time_kept_up]; exact q s h) ?_
    have q1 : TimeKept (mask timeUnits s1) := by
      simp only [s1, time_kept_up]
      exact q s h
    clear_value s1
    refine time_kept_ite q1 (time_kept_ite (by rw [time_kept_up]; exact q s1 q1) ?_)
    simp only [raise_mask, timeUnits_hub, time_kept_up]
    exact q s1 q1

@[simp] theorem slewLaw_time (x : Int) (s : State) (h : TimeKept (mask timeUnits s)) :
    TimeKept (mask timeUnits (slewLaw x s)) := by
  unfold slewLaw
  obtain ⟨h1, h2, h3, h4, h5⟩ := ((time_kept s).2 h).holds
  extract_lets near s1 t
  have e1 : s1.time.epoch = s.time.epoch ∧ s1.time.timeOk = s.time.timeOk ∧ s1.time.state = s.time.state
      ∧ s1.time.f.natAbs ≤ 204800 ∧ s1.time.r.natAbs ≤ 20480000
      ∧ ((s.time.state = .locked ∨ near = true) → s1.time.r.natAbs ≤ 204800)
      ∧ (s1.time.lockRun ≠ 0 → near = true) := by
    simp only [s1, State.upTime_time, accrue_time, TimeU.law, clampI]
    refine ⟨trivial, trivial, trivial, by omega, by split <;> omega, ?_, by cases near <;> simp⟩
    intro hc
    have : (!near && s.time.state != .locked) = false := by
      obtain hc | hc := hc <;> simp [hc]
    simp only [this, Bool.false_eq_true, if_false]
    omega
  obtain ⟨e1, e2, e3, e4, e5, e6, e7⟩ := e1
  have q1 : TimeKept (mask timeUnits s1) := by
    rw [← time_kept, e1, e2, e3]
    exact ⟨⟨h1, h2, e4, e5, fun e => e6 (.inl e)⟩⟩
  split
  · rename_i hc
    obtain ⟨c1, c2, -⟩ := hc
    have hr : s1.time.r.natAbs ≤ 204800 := e6 (.inr (e7 (by simp only [t] at c2; omega)))
    have hk : s1.time.timeOk = false := by
      cases hk : s1.time.timeOk
      · rfl
      · exact absurd (by simp only [t]; rw [e3]; exact h2 (e2 ▸ hk)) c1
    refine timeTo_time _ _ ?_ hk (fun _ => hr)
    rw [time_kept_up]
    exact (time_kept s1).2 q1
  · exact q1

@[simp] theorem intervalValid_time (x : Int) (at_ : Nat) (s : State) (h : TimeKept (mask timeUnits s)) :
    TimeKept (mask timeUnits (intervalValid x at_ s)) := by
  unfold intervalValid
  repeat' first
    | (simp [*]; done)
    | (with_reducible refine time_kept_foldl (fun _ _ _ => ?_) _ ?_)
    | (with_reducible refine time_kept_command (fun _ _ _ => ?_) ?_)
    | (with_reducible refine time_goes_ite ?_ ?_)
    | (with_reducible refine time_kept_ite ?_ ?_)
    | intro _
    | split
    | (simp +zetaDelta [*]; done)
    | simp [*]

@[simp] theorem intervalInvalid_time (s : State) (h : TimeKept (mask timeUnits s)) :
    TimeKept (mask timeUnits (intervalInvalid s)) := by
  unfold intervalInvalid
  extract_lets s1
  have q1 : TimeKept (mask timeUnits s1) := by
    simp only [s1, time_kept_up]
    exact (time_kept s).2 h
  exact time_kept_ite (by simp [q1]) q1

@[simp] theorem execDisciplineIntervalEnd_time (s : State) (h : TimeKept (mask timeUnits s)) :
    TimeGoes (execDisciplineIntervalEnd s) := by
  unfold execDisciplineIntervalEnd
  extract_lets s1 s2
  have q1 : TimeKept (mask timeUnits s1) := by simp [s1, h]
  clear_value s1
  have q2 : TimeKept (mask timeUnits s2) := by simp [s2, q1]
  clear_value s2
  refine time_goes_ite (by simp [h]) ?_
  split <;> simp [q2]

@[simp] theorem execTpOutPulse_time (s : State) (h : TimeKept (mask timeUnits s)) :
    TimeGoes (execTpOutPulse s) := by
  unfold execTpOutPulse
  extract_lets at_ s1 s2 stepNow
  have q1 : TimeKept (mask timeUnits s1) := by simp [s1, h]
  clear_value s1
  obtain ⟨h1, h2, h3, h4, h5⟩ := ((time_kept s1).2 q1).holds
  have q2 : TimeKept (mask timeUnits s2) := by
    simp only [s2, time_kept_up]
    exact ⟨⟨h1, by simp, h3, h4, h5⟩⟩
  clear_value s2 stepNow
  refine time_goes_ite (by simp [h]) ?_
  rw [time_goes_next]
  exact time_kept_ite q2 (by simp [q2])

@[simp] theorem execTpOutPulseEnd_time (s : State) (h : TimeKept (mask timeUnits s)) :
    TimeGoes (execTpOutPulseEnd s) := by
  unfold execTpOutPulseEnd
  repeat' first
    | (simp [*]; done)
    | (with_reducible refine time_kept_foldl (fun _ _ _ => ?_) _ ?_)
    | (with_reducible refine time_kept_command (fun _ _ _ => ?_) ?_)
    | (with_reducible refine time_goes_ite ?_ ?_)
    | (with_reducible refine time_kept_ite ?_ ?_)
    | intro _
    | split
    | (simp +zetaDelta [*]; done)
    | simp [*]

@[simp] theorem execHoldoverLimit_time (dt : Nat) (s : State) (h : TimeKept (mask timeUnits s)) :
    TimeGoes (execHoldoverLimit dt s) := by
  unfold execHoldoverLimit
  extract_lets s1 u
  have q1 : TimeKept (mask timeUnits s1) := by simp [s1, h]
  clear_value s1
  split
  · rename_i hc
    obtain ⟨h1, h2, h3, h4, h5⟩ := ((time_kept s1).2 q1).holds
    rw [time_goes_next]
    simp only [timeChanged_mask, timeUnits_hub]
    refine timeTo_time _ _ ?_ ?_ (by simp)
    · rw [time_kept_up]
      exact ⟨⟨h1, h2, h3, h4, h5⟩⟩
    · simp only [State.upTime_time]
      cases hk : s1.time.timeOk
      · rfl
      · have := h2 hk
        rw [hc.1] at this
        cases this
  · simp [q1]

@[simp] theorem execOcxoWarm_time (s : State) (h : TimeKept (mask timeUnits s)) :
    TimeGoes (execOcxoWarm s) := by
  unfold execOcxoWarm
  repeat' first
    | (simp [*]; done)
    | (with_reducible refine time_kept_foldl (fun _ _ _ => ?_) _ ?_)
    | (with_reducible refine time_kept_command (fun _ _ _ => ?_) ?_)
    | (with_reducible refine time_goes_ite ?_ ?_)
    | (with_reducible refine time_kept_ite ?_ ?_)
    | intro _
    | split
    | (simp +zetaDelta [*]; done)
    | simp [*]

@[simp] theorem execKdTimeStepConfirm_time (dt : Nat) (p : Post) (s : State) (h : TimeKept (mask timeUnits s)) :
    TimeGoes (execKdTimeStepConfirm dt p s) := by
  unfold execKdTimeStepConfirm
  rw [time_goes_next]
  refine time_kept_command (fun u t ht => ?_) h
  split
  · simp [ht]
  · refine time_kept_ite (by simp [ht]) ?_
    extract_lets at_ s1
    have q1 : TimeKept (mask timeUnits s1) := by
      simp only [s1, time_kept_up]
      exact (time_kept t).2 ht
    simp [q1]

@[simp] theorem stepTime_time (k : Step) (s : State) (h : TimeKept (mask timeUnits s)) :
    TimeKept (mask timeUnits (stepTime k s)) := by
  unfold stepTime
  have q1 : TimeKept (mask timeUnits (s.upNow (fun n => { n with ft := ((n.ft : Int) + k.amt).toNat % 2 ^ 64 }))) := by
    simp [h]
  obtain ⟨h1, h2, h3, h4, h5⟩ := ((time_kept _).2 q1).holds
  rw [time_kept_up]
  exact ⟨⟨Nat.mod_lt _ (by decide), h2, h3, h4, h5⟩⟩

@[simp] theorem takeStep_time (k : Step) (s : State) (h : TimeKept (mask timeUnits s)) :
    TimeKept (mask timeUnits (takeStep k s)) := by
  unfold takeStep
  repeat' first
    | (simp [*]; done)
    | (with_reducible refine time_kept_foldl (fun _ _ _ => ?_) _ ?_)
    | (with_reducible refine time_kept_command (fun _ _ _ => ?_) ?_)
    | (with_reducible refine time_goes_ite ?_ ?_)
    | (with_reducible refine time_kept_ite ?_ ?_)
    | intro _
    | split
    | (simp +zetaDelta [*]; done)
    | simp [*]

@[simp] theorem execStepInstant_time (s : State) (h : TimeKept (mask timeUnits s)) :
    TimeGoes (execStepInstant s) := by
  unfold execStepInstant
  repeat' first
    | (simp [*]; done)
    | (with_reducible refine time_kept_foldl (fun _ _ _ => ?_) _ ?_)
    | (with_reducible refine time_kept_command (fun _ _ _ => ?_) ?_)
    | (with_reducible refine time_goes_ite ?_ ?_)
    | (with_reducible refine time_kept_ite ?_ ?_)
    | intro _
    | split
    | (simp +zetaDelta [*]; done)
    | simp [*]

end Sys2Proof.Machine
end

