-- ==== Sys2Proof/Laws/Reads.lean ====
section
/-!
SUPPORT. What is read from the units does not change as time passes.
-/
namespace Sys2Proof.Machine

@[simp] theorem pipeOf_tick (q : Nat) (n : Nat) (s : State) : pipeOf (tick q s) n = pipeOf s n := by rfl
@[simp] theorem pipeOf_reach (q : Nat) (n : Nat) (s : State) : pipeOf (reach q s) n = pipeOf s n := by rfl
@[simp] theorem pipeOf_reachEl (q : Nat) (n : Nat) (s : State) : pipeOf (reachEl q s) n = pipeOf s n := by rfl
@[simp] theorem portOf_tick (q : Nat) (n : Nat) (s : State) : portOf (tick q s) n = portOf s n := by rfl
@[simp] theorem portOf_reach (q : Nat) (n : Nat) (s : State) : portOf (reach q s) n = portOf s n := by rfl
@[simp] theorem portOf_reachEl (q : Nat) (n : Nat) (s : State) : portOf (reachEl q s) n = portOf s n := by rfl
@[simp] theorem pipeRec_tick (q : Nat) (n : Nat) (s : State) : pipeRec (tick q s) n = pipeRec s n := by rfl
@[simp] theorem pipeRec_reach (q : Nat) (n : Nat) (s : State) : pipeRec (reach q s) n = pipeRec s n := by rfl
@[simp] theorem pipeRec_reachEl (q : Nat) (n : Nat) (s : State) : pipeRec (reachEl q s) n = pipeRec s n := by rfl
@[simp] theorem pipePort_tick (q : Nat) (n : Nat) (s : State) : pipePort (tick q s) n = pipePort s n := by rfl
@[simp] theorem pipePort_reach (q : Nat) (n : Nat) (s : State) : pipePort (reach q s) n = pipePort s n := by rfl
@[simp] theorem pipePort_reachEl (q : Nat) (n : Nat) (s : State) : pipePort (reachEl q s) n = pipePort s n := by rfl
@[simp] theorem pipeHasRec_tick (q : Nat) (n : Nat) (s : State) : pipeHasRec (tick q s) n = pipeHasRec s n := by rfl
@[simp] theorem pipeHasRec_reach (q : Nat) (n : Nat) (s : State) : pipeHasRec (reach q s) n = pipeHasRec s n := by rfl
@[simp] theorem pipeHasRec_reachEl (q : Nat) (n : Nat) (s : State) : pipeHasRec (reachEl q s) n = pipeHasRec s n := by rfl
@[simp] theorem boundPipe_tick (q : Nat) (n v : Nat) (s : State) : boundPipe (tick q s) n v = boundPipe s n v := by rfl
@[simp] theorem boundPipe_reach (q : Nat) (n v : Nat) (s : State) : boundPipe (reach q s) n v = boundPipe s n v := by rfl
@[simp] theorem boundPipe_reachEl (q : Nat) (n v : Nat) (s : State) : boundPipe (reachEl q s) n v = boundPipe s n v := by rfl
@[simp] theorem portCfg_tick (q : Nat) (n x z : Nat) (s : State) : portCfg (tick q s) n x z = portCfg s n x z := by rfl
@[simp] theorem portCfg_reach (q : Nat) (n x z : Nat) (s : State) : portCfg (reach q s) n x z = portCfg s n x z := by rfl
@[simp] theorem portCfg_reachEl (q : Nat) (n x z : Nat) (s : State) : portCfg (reachEl q s) n x z = portCfg s n x z := by rfl
@[simp] theorem cctl_tick (q : Nat) (n : Nat) (s : State) : cctl (tick q s) n = cctl s n := by rfl
@[simp] theorem cctl_reach (q : Nat) (n : Nat) (s : State) : cctl (reach q s) n = cctl s n := by rfl
@[simp] theorem cctl_reachEl (q : Nat) (n : Nat) (s : State) : cctl (reachEl q s) n = cctl s n := by rfl
@[simp] theorem canRec_tick (q : Nat) (n : Nat) (s : State) : canRec (tick q s) n = canRec s n := by rfl
@[simp] theorem canRec_reach (q : Nat) (n : Nat) (s : State) : canRec (reach q s) n = canRec s n := by rfl
@[simp] theorem canRec_reachEl (q : Nat) (n : Nat) (s : State) : canRec (reachEl q s) n = canRec s n := by rfl
@[simp] theorem objRec_tick (q : Nat) (n : Nat) (s : State) : objRec (tick q s) n = objRec s n := by rfl
@[simp] theorem objRec_reach (q : Nat) (n : Nat) (s : State) : objRec (reach q s) n = objRec s n := by rfl
@[simp] theorem objRec_reachEl (q : Nat) (n : Nat) (s : State) : objRec (reachEl q s) n = objRec s n := by rfl
@[simp] theorem objEnabled_tick (q : Nat) (n : Nat) (s : State) : objEnabled (tick q s) n = objEnabled s n := by rfl
@[simp] theorem objEnabled_reach (q : Nat) (n : Nat) (s : State) : objEnabled (reach q s) n = objEnabled s n := by rfl
@[simp] theorem objEnabled_reachEl (q : Nat) (n : Nat) (s : State) : objEnabled (reachEl q s) n = objEnabled s n := by rfl
@[simp] theorem dqOf_tick (q : Nat) (n : Nat) (s : State) : dqOf (tick q s) n = dqOf s n := by rfl
@[simp] theorem dqOf_reach (q : Nat) (n : Nat) (s : State) : dqOf (reach q s) n = dqOf s n := by rfl
@[simp] theorem dqOf_reachEl (q : Nat) (n : Nat) (s : State) : dqOf (reachEl q s) n = dqOf s n := by rfl
@[simp] theorem dqRec_tick (q : Nat) (n : Nat) (s : State) : dqRec (tick q s) n = dqRec s n := by rfl
@[simp] theorem dqRec_reach (q : Nat) (n : Nat) (s : State) : dqRec (reach q s) n = dqRec s n := by rfl
@[simp] theorem dqRec_reachEl (q : Nat) (n : Nat) (s : State) : dqRec (reachEl q s) n = dqRec s n := by rfl
@[simp] theorem fieldGen_tick (q : Nat) (n v : Nat) (s : State) : fieldGen (tick q s) n v = fieldGen s n v := by rfl
@[simp] theorem fieldGen_reach (q : Nat) (n v : Nat) (s : State) : fieldGen (reach q s) n v = fieldGen s n v := by rfl
@[simp] theorem fieldGen_reachEl (q : Nat) (n v : Nat) (s : State) : fieldGen (reachEl q s) n v = fieldGen s n v := by rfl
@[simp] theorem dqTests_tick (q : Nat) (s : State) : dqTests (tick q s) = dqTests s := by rfl
@[simp] theorem dqTests_reach (q : Nat) (s : State) : dqTests (reach q s) = dqTests s := by rfl
@[simp] theorem dqTests_reachEl (q : Nat) (s : State) : dqTests (reachEl q s) = dqTests s := by rfl
@[simp] theorem cnt_tick (q : Nat) (n : Nat) (s : State) : cnt (tick q s) n = cnt s n := by rfl
@[simp] theorem cnt_reach (q : Nat) (n : Nat) (s : State) : cnt (reach q s) n = cnt s n := by rfl
@[simp] theorem cnt_reachEl (q : Nat) (n : Nat) (s : State) : cnt (reachEl q s) n = cnt s n := by rfl
@[simp] theorem vch_tick (q : Nat) (n : Nat) (s : State) : vch (tick q s) n = vch s n := by rfl
@[simp] theorem vch_reach (q : Nat) (n : Nat) (s : State) : vch (reach q s) n = vch s n := by rfl
@[simp] theorem vch_reachEl (q : Nat) (n : Nat) (s : State) : vch (reachEl q s) n = vch s n := by rfl
@[simp] theorem vbank_tick (q : Nat) (n : Nat) (s : State) : vbank (tick q s) n = vbank s n := by rfl
@[simp] theorem vbank_reach (q : Nat) (n : Nat) (s : State) : vbank (reach q s) n = vbank s n := by rfl
@[simp] theorem vbank_reachEl (q : Nat) (n : Nat) (s : State) : vbank (reachEl q s) n = vbank s n := by rfl
@[simp] theorem vrec_tick (q : Nat) (n : Nat) (s : State) : vrec (tick q s) n = vrec s n := by rfl
@[simp] theorem vrec_reach (q : Nat) (n : Nat) (s : State) : vrec (reach q s) n = vrec s n := by rfl
@[simp] theorem vrec_reachEl (q : Nat) (n : Nat) (s : State) : vrec (reachEl q s) n = vrec s n := by rfl
@[simp] theorem modemRec_tick (q : Nat) (s : State) : modemRec (tick q s) = modemRec s := by rfl
@[simp] theorem modemRec_reach (q : Nat) (s : State) : modemRec (reach q s) = modemRec s := by rfl
@[simp] theorem modemRec_reachEl (q : Nat) (s : State) : modemRec (reachEl q s) = modemRec s := by rfl
@[simp] theorem modemListens_tick (q : Nat) (s : State) : modemListens (tick q s) = modemListens s := by rfl
@[simp] theorem modemListens_reach (q : Nat) (s : State) : modemListens (reach q s) = modemListens s := by rfl
@[simp] theorem modemListens_reachEl (q : Nat) (s : State) : modemListens (reachEl q s) = modemListens s := by rfl
@[simp] theorem dispRec_tick (q : Nat) (s : State) : dispRec (tick q s) = dispRec s := by rfl
@[simp] theorem dispRec_reach (q : Nat) (s : State) : dispRec (reach q s) = dispRec s := by rfl
@[simp] theorem dispRec_reachEl (q : Nat) (s : State) : dispRec (reachEl q s) = dispRec s := by rfl
@[simp] theorem laneOf_tick (q : Nat) (n : Fin 2) (s : State) : laneOf (tick q s) n = laneOf s n := by rfl
@[simp] theorem laneOf_reach (q : Nat) (n : Fin 2) (s : State) : laneOf (reach q s) n = laneOf s n := by rfl
@[simp] theorem laneOf_reachEl (q : Nat) (n : Fin 2) (s : State) : laneOf (reachEl q s) n = laneOf s n := by rfl

end Sys2Proof.Machine
end

