-- ==== Sys2Proof/Laws/Tables.lean ====
section
/-!
SUPPORT. Reading and changing one element of a table.
-/
namespace Sys2Proof.Machine

/-- Two changes that agree on the element change the table alike. -/
theorem upd_congr {α : Type} {l : List α} {i : Nat} {f g : α → α} (h : ∀ a, l[i]? = some a → f a = g a) :
    upd l i f = upd l i g := by
  apply List.ext_getElem?
  intro j
  simp only [upd, List.getElem?_modify]
  by_cases hj : i = j
  · subst hj
    cases hl : l[i]? with
    | none => rfl
    | some a => simp [h a hl]
  · simp [hj]

/-- Other elements stay. -/
theorem nth_upd_ne {α : Type} (d : α) (l : List α) {i j : Nat} (f : α → α) (h : i ≠ j) :
    nth d (upd l i f) j = nth d l j := by
  simp [nth, upd, h]

/-- The element of the table is changed. -/
theorem nth_upd_self {α : Type} (d : α) (l : List α) {i : Nat} (f : α → α) (h : i < l.length) :
    nth d (upd l i f) i = f (nth d l i) := by
  simp [nth, upd, h]

/-- An element that is there is read. -/
theorem nth_of_getElem? {α : Type} {d a : α} {l : List α} {i : Nat} (h : l[i]? = some a) : nth d l i = a := by
  simp [nth, h]

end Sys2Proof.Machine
end

