-- ==== Sys2Proof/WellFormed.lean ====
section
/-!
DEFINITION. Well-formed commands: every operand within the width or the count that the spec gives it, and a
record of a kind with several rows of the opcode table posted under the row of its ACTION. The meanings are
total: they answer for every command, well-formed or not.
-/
namespace Sys2Proof

/-- A number of `w` bits. -/
def upTo (w n : Nat) : Bool := decide (n < 2 ^ w)

/-- A submission as it lies on a ring (R98): ring 0–31, Slip fields of their widths, LENGTH bytes of body. -/
def Post.wf (p : Post) : Bool :=
  decide (p.ring < 32) && upTo 8 p.source && upTo 8 p.flags && upTo 16 p.length && upTo 16 p.owner
    && upTo 32 p.seq && upTo 32 p.corr && upTo 64 p.acc && upTo 64 p.eff && decide (p.body.length = p.length)

/-- A segment of bulk data (R81): its record is well formed. -/
def Segment.wf (g : Segment) : Bool := g.post.wf

/-- A ring-table entry of 32 bytes (R70). -/
def RingEntry.wf (e : RingEntry) : Bool :=
  upTo 64 e.base && upTo 8 e.log2 && upTo 8 e.vec && upTo 16 e.reserve && upTo 8 e.compRing && upTo 8 e.rsv0
    && upTo 16 e.coalCount && upTo 32 e.coalTime && upTo 32 e.classMask && upTo 64 e.rsv1

/-- A heartbeat (R47). -/
def Heartbeat.wf (h : Heartbeat) : Bool :=
  upTo 64 h.beat && upTo 8 h.major && upTo 8 h.minor && upTo 16 h.patch && upTo 16 h.format
    && decide (h.state ≤ 5)

/-- A CAN frame (R378): an identifier of its format, at most 8 or 64 bytes, no remote CAN FD frame. -/
def CanFrame.wf (f : CanFrame) : Bool :=
  upTo (if f.ide then 29 else 11) f.id && upTo 4 f.dlc && decide (f.data.length ≤ if f.fdf then 64 else 8)
    && !(f.fdf && f.remote)

/-- Currents in mA and voltages in mV of a record (R243). -/
def amps (n : Nat) : Bool := upTo 16 n

/-- What a bank of the valve stage measures (R218). -/
def ValveMeas.wf (m : ValveMeas) : Bool :=
  decide (m.vd.length = 4) && m.vd.all amps && decide (m.il.length = 4) && m.il.all amps && upTo 32 m.ihb
    && amps m.vhb && amps m.vs

/-- A stored unit of the map archive (R248, R266). -/
def MapUnit.wf (u : MapUnit) : Bool :=
  upTo 32 u.id && decide (-128 ≤ u.tx) && decide (u.tx ≤ 127) && decide (-128 ≤ u.ty) && decide (u.ty ≤ 127)

/-- A sample of the current sense (R218). -/
def Sense.wf (x : Sense) : Bool := upTo 32 x.delay && amps x.ma

/-- A plate temperature in °C (R239). -/
def plate (c : Int) : Bool := decide (-128 ≤ c) && decide (c ≤ 127)

/-- A trained rate and width (R95). -/
def rate (speed width : Nat) : Bool := decide (1 ≤ speed) && decide (speed ≤ 4) && [1, 2, 4].contains width

/-- The 64 doorbell words (R73). -/
def words64 (l : List Nat) : Bool := decide (l.length = 64) && l.all (upTo 32)

/-- A CSI-2 virtual channel (R330). -/
def vcOk (vc : Nat) : Bool := decide (vc < 16)

/-- A byte of a record is one of these. -/
def oneOf (p : Post) (off : Nat) (l : List Nat) : Bool := l.contains (Machine.fld p.body off 1)

/-- A byte of a record is none of these. -/
def notOne (p : Post) (off : Nat) (l : List Nat) : Bool := !oneOf p off l

/-- What an epoch latches (R278): channels 0–191, each at most once. -/
def GnssEpochIn.wf (x : GnssEpochIn) : Bool :=
  x.meas.all (fun m => decide (m.ch < 192) && upTo 16 m.cn0) && decide ((x.meas.map (·.ch)).Nodup) && upTo 16 x.antMa

/-- What the filter has at an output instant (R315). -/
def FusionIn.wf (x : FusionIn) : Bool :=
  upTo 32 x.est.heading && upTo 64 x.acc && upTo 32 x.gated && upTo 32 x.late

/-- What the monitors of R484 show. -/
def PlanMeas.wf (m : PlanMeas) : Bool :=
  decide (m.slack.length = 8) && decide (m.gain.length = 4) && decide (m.retention.length = 2)
    && decide (m.fetRise.length = 24)

/-- A well-formed command. -/
def Instr.wf : Instr → Bool
  | .timeInEdge dt _ => upTo 64 dt
  | .disciplineIntervalEnd => true
  | .stepInstant => true
  | .tpOutPulse => true
  | .tpOutPulseEnd => true
  | .holdoverLimit dt => upTo 64 dt
  | .ocxoWarm => true
  | .kdTimeStepConfirm dt p => upTo 64 dt && p.wf
  | .heartbeat dt _ h => upTo 64 dt && h.wf
  | .heartbeatTimeout dt _ => upTo 64 dt
  | .signature dt _ k sig _ => upTo 64 dt && upTo 64 k && upTo 32 sig
  | .selfcheckVerdict dt _ _ => upTo 64 dt
  | .selfcheckTimeout => true
  | .curatorWatchdog dt => upTo 64 dt
  | .curatorStatus dt _ => upTo 64 dt
  | .curatorLinkTimeout _ => true
  | .preferredLaneTimeout => true
  | .laneStartTimeout _ => true
  | .takeoverAck dt _ => upTo 64 dt
  | .switchBeat => true
  | .overlapWindowEnd => true
  | .outputPathCheck dt _ => upTo 64 dt
  | .kdLaneSwap dt p => upTo 64 dt && p.wf
  | .autoSwap => true
  | .kdLanePromote dt p => upTo 64 dt && p.wf
  | .checkpointRequest dt _ ahead => upTo 64 dt && upTo 32 ahead
  | .checkpointCapture _ => true
  | .checkpointReceived dt _ => upTo 64 dt
  | .checkpointLoaded dt _ => upTo 64 dt
  | .replayJoinsLive dt _ => upTo 64 dt
  | .journalFull dt _ => upTo 64 dt
  | .rebuildTimeout _ => true
  | .standbyReady _ => true
  | .laneStatusPeriod => true
  | .railFault dt rail code _ => upTo 64 dt && upTo 8 rail && upTo 8 code
  | .linkLoss dt => upTo 64 dt
  | .hotReset dt => upTo 64 dt
  | .functionLevelReset dt => upTo 64 dt
  | .d3hot dt => upTo 64 dt
  | .linkRateChange dt speed width _ => upTo 64 dt && rate speed width
  | .doorbellPoll dt => upTo 64 dt
  | .doorbellReadComplete dt r => upTo 64 dt && words64 r.words && upTo 16 r.corr
  | .doorbellReadFail dt _ => upTo 64 dt
  | .ringReadComplete dt _ entries => upTo 64 dt && upTo 16 entries
  | .dmaError dt _ _ => upTo 64 dt
  | .dozeTimeout => true
  | .dozeCheckRead dt words => upTo 64 dt && words64 words
  | .wake dt value => upTo 64 dt && upTo 32 value
  | .ringGo dt value => upTo 64 dt && upTo 32 value
  | .ringSetup dt table => upTo 64 dt && decide (table.length = 64) && table.all (·.wf)
  | .dbPoll dt value => upTo 64 dt && upTo 32 value
  | .lgCursor dt value => upTo 64 dt && upTo 32 value
  | .ftSnap dt => upTo 64 dt
  | .registerWrite dt off size value => upTo 64 dt && decide (off < 2 ^ 24)
      && [1, 2, 4, 8].contains size && upTo 64 value
  | .msixUnmask dt _ => upTo 64 dt
  | .recordDelivery dt _ => upTo 64 dt
  | .coalTime _ => true
  | .kdRingReset dt p e => upTo 64 dt && p.wf && e.wf
  | .linkStatusPeriod => true
  | .bufptrSupply dt p => upTo 64 dt && p.wf
  | .bufptrSegmentStray dt p => upTo 64 dt && p.wf
  | .unknownKind dt kind p => upTo 64 dt && p.wf && upTo 16 kind
  | .deliveryKindPosted dt kind p => upTo 64 dt && p.wf && upTo 16 kind
  | .classCountsPeriod => true
  | .kdCatOpen dt p => upTo 64 dt && p.wf
  | .kdCatCommit dt p => upTo 64 dt && p.wf
  | .kdCatAbort dt p => upTo 64 dt && p.wf
  | .kdCatRead dt p => upTo 64 dt && p.wf
  | .catTransactionTimeout => true
  | .commitBoundary => true
  | .kdTimeSettings dt p => upTo 64 dt && p.wf
  | .kdLaneSettings dt p => upTo 64 dt && p.wf
  | .kdPassageSettings dt p => upTo 64 dt && p.wf
  | .kdCropSettings dt p => upTo 64 dt && p.wf
  | .kdLoopSettings dt p => upTo 64 dt && p.wf
  | .kdGroupSettings dt p => upTo 64 dt && p.wf
  | .kdValveSettings dt p => upTo 64 dt && p.wf
  | .kdMapSettings dt p => upTo 64 dt && p.wf
  | .kdGnssSettings dt p => upTo 64 dt && p.wf
  | .kdFusionSettings dt p => upTo 64 dt && p.wf
  | .kdCameraSettings dt p => upTo 64 dt && p.wf
  | .kdFieldSettings dt p => upTo 64 dt && p.wf
  | .kdCanSettings dt p => upTo 64 dt && p.wf
  | .kdCanObjectSettings dt p => upTo 64 dt && p.wf
  | .kdModemSettings dt p => upTo 64 dt && p.wf
  | .kdDisplaySettings dt p => upTo 64 dt && p.wf
  | .kdEventSettings dt p => upTo 64 dt && p.wf
  | .kdCalUser dt p => upTo 64 dt && p.wf
  | .kdPowerSettings dt p => upTo 64 dt && p.wf
  | .tapInstant bad => bad.all (·.wf)
  | .orphanTimeout => true
  | .estWindowEnd _ => true
  | .kdCropChange dt p => upTo 64 dt && p.wf
  | .passageStatusPeriod => true
  | .beatBatchClose => true
  | .loopSample _ => true
  | .actionHoldExpiry _ => true
  | .kdSetpoint dt p => upTo 64 dt && p.wf
  | .loopDisable dt p => upTo 64 dt && p.wf && notOne p 0x21 [1, 2]
  | .loopEnable dt p => upTo 64 dt && p.wf && oneOf p 0x21 [1]
  | .loopClearSticky dt p => upTo 64 dt && p.wf && oneOf p 0x21 [2]
  | .kdValveProfile dt p => upTo 64 dt && p.wf
  | .kdValveHoldTrim dt p => upTo 64 dt && p.wf
  | .kdValveOff dt p => upTo 64 dt && p.wf
  | .valveRequestDecide => true
  | .valveRiseEnd _ dt ma w m => upTo 64 dt && amps ma && w.all (·.wf) && m.wf
  | .valvePeakEnd _ ma w => amps ma && w.all (·.wf)
  | .valveQuenchEnd _ dt ma => upTo 64 dt && amps ma
  | .valveBoostDeadline _ => true
  | .valveOpenOnCheck _ m => m.wf
  | .valveScbTrip _ dt m => upTo 64 dt && m.wf
  | .valveBankLine _ dt m => upTo 64 dt && m.wf
  | .valveOffTest => true
  | .valveOffTestComplete _ m => m.wf
  | .valveStatusPeriod => true
  | .plateTemperature c => plate c
  | .outInhibitAssert dt => upTo 64 dt
  | .outInhibitRelease dt => upTo 64 dt
  | .fieldOpen dt p => upTo 64 dt && p.wf && notOne p 0x20 [1, 2, 3]
  | .fieldClose dt p => upTo 64 dt && p.wf && oneOf p 0x20 [1]
  | .fieldDiscard dt p => upTo 64 dt && p.wf && oneOf p 0x20 [2]
  | .fieldNew dt p => upTo 64 dt && p.wf && oneOf p 0x20 [3]
  | .fieldCloseFlushed dt => upTo 64 dt
  | .mapFlushPeriod => true
  | .mapSummaryPeriod => true
  | .tileRequestTile dt p => upTo 64 dt && p.wf && notOne p 0x20 [1, 2]
  | .tileRequestSummary dt p => upTo 64 dt && p.wf && oneOf p 0x20 [1]
  | .tileRequestAll dt p => upTo 64 dt && p.wf && oneOf p 0x20 [2]
  | .gnssEpoch x => x.wf
  | .suspectHoldExpiry _ sv => decide (sv < 64)
  | .dualPeakFound _ dt sv ns cn0 => upTo 64 dt && decide (sv < 64) && upTo 16 ns && upTo 16 cn0
  | .navMessage _ dt accAgo effAgo _ _ data => upTo 64 dt && upTo 40 accAgo && upTo 40 effAgo
      && decide (data.length = 40)
  | .antennaOk dt ma => upTo 64 dt && upTo 16 ma
  | .antennaOpen dt => upTo 64 dt
  | .antennaOvercurrent dt => upTo 64 dt
  | .antennaRetry => true
  | .kdRtcmIn dt p => upTo 64 dt && p.wf
  | .baseEpochTimeout _ => true
  | .corrSourceBackup => true
  | .fusionOutput x => x.wf
  | .fusionCheckEpoch => true
  | .sourceAbsent _ => true
  | .deadReckoningTimeout => true
  | .edgeHoldExpiry => true
  | .kdHostFix dt p => upTo 64 dt && p.wf
  | .imu0DataReady dt _ => upTo 64 dt
  | .imuDrdy dt _ => upTo 64 dt
  | .imuTransferEnd dt frame => upTo 64 dt && decide (frame.length ≤ 256)
  | .imu1RateWindow => true
  | .camTrigger _ => true
  | .camTriggerEnd _ => true
  | .frameStart _ dt vc _ => upTo 64 dt && vcOk vc
  | .csi2Packet _ dt vc type pay _ _ => upTo 64 dt && vcOk vc && decide (type < 64)
      && decide (pay.length < 65536)
  | .frameEnd _ dt vc _ => upTo 64 dt && vcOk vc
  | .frameEndTimeout _ => true
  | .camLinkLock _ dt => upTo 64 dt
  | .camLinkLoss _ dt => upTo 64 dt
  | .camLinkRetry _ => true
  | .uplinkReply _ dt _ => upTo 64 dt
  | .uplinkTimeout _ => true
  | .pocOk _ dt => upTo 64 dt
  | .pocOpen _ dt => upTo 64 dt
  | .pocOvercurrent _ dt => upTo 64 dt
  | .pocRetry _ => true
  | .kdExposure dt p => upTo 64 dt && p.wf
  | .exposureWrites _ => true
  | .pipeDisable dt p => upTo 64 dt && p.wf && notOne p 0x21 [1, 2]
  | .pipeEnable dt p => upTo 64 dt && p.wf && oneOf p 0x21 [1]
  | .pipeDeliverFull dt p => upTo 64 dt && p.wf && oneOf p 0x21 [2]
  | .pipeInitRetry _ => true
  | .camPortStatus meas => decide (meas.length = 6) && meas.all (fun x => upTo 16 x.1 && upTo 16 x.2)
  | .diChange _ dt _ => upTo 64 dt
  | .counterEdge _ dt _ widthNs => upTo 64 dt && upTo 32 widthNs
  | .gateClose _ => true
  | .aiSample xs => decide (xs.length = 16)
  | .aiShuntOpen _ dt => upTo 64 dt
  | .aiShuntReclose _ => true
  | .aiReport => true
  | .dqSet dt p => upTo 64 dt && p.wf && !(Machine.fld p.body 0x21 1).testBit 1
  | .dqClearOnly dt p => upTo 64 dt && p.wf && (Machine.fld p.body 0x21 1).testBit 1
  | .dqDutyEffect _ => true
  | .dqOverload _ dt => upTo 64 dt
  | .dqOpenLoad _ dt => upTo 64 dt
  | .dqSupplyShort _ dt => upTo 64 dt
  | .sensorSupplyFault _ dt => upTo 64 dt
  | .sensorSupplyRetry _ _ => true
  | .vdqLowSet dt mv => upTo 64 dt && upTo 16 mv
  | .vdqLowClear dt mv => upTo 64 dt && upTo 16 mv
  | .fieldStatusPeriod vdq v5 v10 i5 i10 => [vdq, v5, v10, i5, i10].all (upTo 16)
  | .canFrameReceived _ dt ago f _ => upTo 64 dt && upTo 40 ago && f.wf
  | .canTxSuccess _ dt ago tdc => upTo 64 dt && upTo 40 ago && upTo 8 tdc
  | .canTxError _ dt _ _ => upTo 64 dt
  | .canBusoffDelay _ => true
  | .canRecovered _ dt => upTo 64 dt
  | .canIntegrated _ dt => upTo 64 dt
  | .canShutdownEnd _ dt => upTo 64 dt
  | .canTxFrame dt p => upTo 64 dt && p.wf && oneOf p 0x23 [0xFF]
  | .canObjectWrite dt p => upTo 64 dt && p.wf && notOne p 0x23 [0xFF]
  | .canSetpointPeriod _ => true
  | .canTxLifetime _ => true
  | .canStatusPeriod _ => true
  | .canWakePattern dt _ => upTo 64 dt
  | .modemCharacter dt ago _ _ => upTo 64 dt && upTo 40 ago
  | .modemBreak dt => upTo 64 dt
  | .modemReaderPass dt => upTo 64 dt
  | .modemCreditReturn dt => upTo 64 dt
  | .kdModemTx dt p => upTo 64 dt && p.wf
  | .mdmReadyChange dt _ => upTo 64 dt
  | .modemCharacterSent dt => upTo 64 dt
  | .modemTxStall => true
  | .modemTxLifetime => true
  | .modemRing dt => upTo 64 dt
  | .modemStatusPeriod _ => true
  | .displayFrame => true
  | .displayLcdEn1 => true
  | .displayRailsDone => true
  | .displayShutdownEn0 => true
  | .displayShutdownEnd => true
  | .kdSegmentMap dt p => upTo 64 dt && p.wf
  | .displayHostTimeout => true
  | .displayStatusPeriod => true
  | .coalesceWindowEnd src inst => decide (src < 128) && upTo 16 inst
  | .ledgerWriteComplete dt => upTo 64 dt
  | .kdLedgerCopy dt p => upTo 64 dt && p.wf
  | .ledgerCopyDone dt => upTo 64 dt
  | .kdLedgerClear dt p => upTo 64 dt && p.wf
  | .ledgerClearDone dt => upTo 64 dt
  | .imageStore dt p segs => upTo 64 dt && p.wf && notOne p 0x20 [1, 2] && segs.all (·.wf)
  | .imageBodyWritten dt sha => upTo 64 dt && decide (sha.length = 32)
  | .imageRestart dt p => upTo 64 dt && p.wf && oneOf p 0x20 [1]
  | .imageSelect dt p => upTo 64 dt && p.wf && oneOf p 0x20 [2]
  | .imageConfirmLane _ => true
  | .imageConfirmTimer _ => true
  | .curatorStartFallback dt _ => upTo 64 dt
  | .kdRestoreFactory dt p => upTo 64 dt && p.wf
  | .restoreBoundary => true
  | .vbatConnect dt mv _ => upTo 64 dt && upTo 16 mv
  | .vbatLost dt => upTo 64 dt
  | .supplyCrank dt mv us => upTo 64 dt && upTo 16 mv && upTo 32 us
  | .supplyUndervolt dt mv us => upTo 64 dt && upTo 16 mv && upTo 32 us
  | .supplyOvervolt dt mv us => upTo 64 dt && upTo 16 mv && upTo 32 us
  | .supplyFall dt mv us => upTo 64 dt && upTo 16 mv && upTo 32 us
  | .supplyReturn dt mv m => upTo 64 dt && upTo 16 mv && m.wf
  | .holdupReturnDeadline _ => true
  | .holdupComplete dt mv => upTo 64 dt && upTo 16 mv
  | .ignHigh dt => upTo 64 dt
  | .ignLow dt => upTo 64 dt
  | .keyoffFlushDone dt => upTo 64 dt
  | .keyoffSaveDone dt uf esr _ => upTo 64 dt && upTo 32 uf && upTo 16 esr
  | .keyoffComplete dt mv m => upTo 64 dt && upTo 16 mv && m.wf
  | .keepMinExpiry => true
  | .keepVbatLow dt => upTo 64 dt
  | .hostWake dt => upTo 64 dt
  | .wakeTimer => true
  | .wakeServeExpiry => true
  | .holdupBankCharged dt m => upTo 64 dt && m.wf
  | .pciePerst dt _ => upTo 64 dt
  | .powerStatusPeriod mv vs plateC mw => upTo 16 mv && decide (vs.length = 6) && vs.all (upTo 16)
      && plate plateC && upTo 32 mw
  | .marginPlan p => p.wf
  | .marginStepApply => true
  | .flashRefreshDue => true
  | .beat => true
  | .linkUp dt speed width _ => upTo 64 dt && rate speed width
  | .laneImageLoaded dt _ _ => upTo 64 dt
  | .canRxError _ dt _ _ => upTo 64 dt
  | .channelLock _ dt sv _ _ _ => upTo 64 dt && decide (sv < 64)
  | .valveChopPeriodEnd _ w m => w.all (·.wf) && m.wf
  | .valveBankUndervolt _ dt vs => upTo 64 dt && amps vs
  | .railReturn dt rail _ => upTo 64 dt && upTo 8 rail

/-- A command that is well-formed. -/
def Instr.WellFormed (i : Instr) : Prop := i.wf = true

end Sys2Proof
end

