-- ==== Sys2Proof/Tests/Slice0.lean ====
section
/-!
SUPPORT. Tests: small states and operands that meet the hypotheses of the statements, the checks of WellFormed,
and results worked out from the rules.
-/
namespace Sys2Proof.Machine.Tests
set_option Elab.async false

/-! ## States and operands -/

/-- Serving with the link up, its rings running, Recto Active and commanding, Verso Off. -/
def on : State :=
  upLink (fun l => { l with up := true, running := true })
    ((State.reset.upPow (fun p => { p with state := .serving, firstBeat := true, perst := false })).upLanes (fun l => { l with
      selector := some 0, recto := { l.recto with state := .active, started := true, inReset := false }
      verso := { l.verso with inReset := false } }))

/-- A submission of `n` bytes with these fields (offset, size, value), good in its Slip. -/
def post (n : Nat) (l : List (Nat × Nat × Nat)) : Post :=
  { ring := 0, source := 0, flags := 0, length := n, owner := 1, seq := 0, corr := 7, acc := 0, eff := 0
    body := mkBody n l }

/-- The state with one settings record in force (R111). -/
def withRec (kind key : Nat) (b : List Byte) (s : State) : State :=
  s.upCat (fun c => { c with cats := [⟨fmtOf s, [⟨kind, key, b⟩], 1, 0, 1, []⟩] })

/-- The defaults of a settings record with a field changed. -/
def changed (kind key off size value : Nat) : List Byte := putBytes (defaultBody kind key) off (leBytes size value)

/-- The state with one field of a settings record changed from its default. -/
def withField (kind key off size value : Nat) (s : State) : State :=
  withRec kind key (changed kind key off size value) s

/-! ## Field Time -/

/-- TIME_IN in mode CHECK, with a known uncertainty, `ft` quanta after a second. -/
def edged (mode ft : Nat) (st : TimeState) : State :=
  ((withField 0x0101 0 0x29 1 mode on).upTime (fun t => { t with state := st, unknown := false, u0 := 0 })).upNow
    (fun n => { n with ft := ft })

/-- An edge in mode OFF; an edge just beyond the uncertainty plus 1 µs; one at that limit, in LOCKED and outside. -/
theorem witness_TimeInEdgeEffect :
    cfg on 0x0101 0 0x29 1 = 0
    ∧ (let s := edged 1 4001 .free
       let near := (s.now.ft + qSec / 2) / qSec * qSec
       cfg s 0x0101 0 0x29 1 ≠ 0 ∧ true ≠ decide (cfg s 0x0101 0 0x2A 1 = 1) ∧ awake s = true
       ∧ uncertPs (tick 0 s) + 1000000 < ((s.now.ft : Int) - near).natAbs * 250)
    ∧ (let s := edged 1 4400 .locked
       let near := (s.now.ft + qSec / 2) / qSec * qSec
       cfg s 0x0101 0 0x29 1 ≠ 0 ∧ true ≠ decide (cfg s 0x0101 0 0x2A 1 = 1) ∧ awake s = true
       ∧ ((s.now.ft : Int) - near).natAbs * 250 = uncertPs (tick 0 s) + 1000000 ∧ s.time.state = .locked)
    ∧ (let s := edged 2 4000 .free
       let near := (s.now.ft + qSec / 2) / qSec * qSec
       cfg s 0x0101 0 0x29 1 = 2 ∧ true ≠ decide (cfg s 0x0101 0 0x2A 1 = 1) ∧ awake s = true
       ∧ ((s.now.ft : Int) - near).natAbs * 250 = uncertPs (tick 0 s) + 1000000 ∧ s.time.state ≠ .locked) := by
  decide +kernel

/-- An interval with exactly four satellites, and one with three. -/
theorem witness_DisciplineIntervalEffect :
    (let s := on.upTime (fun t => { t with sol := some ⟨4000000, 4⟩ })
     awake s = true ∧ s.time.sol = some ⟨4000000, 4⟩ ∧ s.time.clockFail = false)
    ∧ (let s := on.upTime (fun t => { t with sol := some ⟨0, 3⟩ })
       awake s = true ∧ s.time.sol = some ⟨0, 3⟩)
    ∧ on.time.sol = none := by
  decide +kernel

/-- A command that confirms a step. -/
def confirm (x : Nat) : Post := post 32 [(0x20, 8, x)]

/-- A pulse at a step instant and at none; a pulse that is high; HOLDOVER beyond its limit; a cold OCXO; a
confirmation within 1 µs, one beyond it, and one with no step pending. -/
theorem witness_PulseAndStepCommands :
    (let s := on.upTime (fun t => { t with fixedStep := some (5, t.tpNext) })
     awake s = true ∧ s.time.fixedStep = some (5, s.time.tpNext))
    ∧ (awake on = true ∧ on.time.fixedStep = none)
    ∧ (on.upTime (fun t => { t with tpOut := true })).time.tpOut = true
    ∧ (let s := on.upTime (fun t => { t with state := .holdover, unknown := false, u0 := 10 ^ 12 })
       s.time.state = .holdover ∧ cfg s 0x0101 0 0x24 4 * 1000 < uncertPs (tick 1 s))
    ∧ (awake on = true ∧ on.time.ocxoWarm = false)
    ∧ (let s := on.upTime (fun t => { t with pending := some 1000 })
       Passes scStepConfirm false (confirm 5000) s ∧ s.time.pending = some 1000
       ∧ (fldS (confirm 5000).body 0x20 8 - 1000).natAbs = 4000)
    ∧ (let s := on.upTime (fun t => { t with pending := some 1000 })
       Passes scStepConfirm false (confirm 5001) s ∧ s.time.pending = some 1000
       ∧ 4000 < (fldS (confirm 5001).body 0x20 8 - 1000).natAbs)
    ∧ (Passes scStepConfirm false (confirm 0) on ∧ on.time.pending = none) := by
  unfold Passes
  decide +kernel

/-- A step down to Field Time 0, and one up to the last value of the counter. -/
theorem witness_StepInstantEffect :
    (let s := on.upTime (fun t => { t with fixedStep := some (-(qSec : Int), qSec) })
     awake s = true ∧ s.time.fixedStep = some (-(qSec : Int), qSec) ∧ s.now.ft ≤ qSec ∧ 0 ≤ (qSec : Int) + -(qSec : Int))
    ∧ (let s := on.upTime (fun t => { t with fixedStep := some (2 ^ 64 - 1 - (qSec : Int), qSec) })
       awake s = true ∧ s.time.fixedStep = some (2 ^ 64 - 1 - (qSec : Int), qSec) ∧ (qSec : Int) + (2 ^ 64 - 1 - qSec) < 2 ^ 64) := by
  decide +kernel

/-- R27: the epoch wraps from 65 535 to 0 at a step, and elapsed time goes on. -/
theorem test_step_wraps_the_epoch :
    (match exec .stepInstant ((on.upTime (fun t => { t with fixedStep := some (-(qSec : Int), qSec), epoch := 65535 })).upNow
        (fun n => { n with el := 9 })) with
      | .next t => (t.time.epoch, t.now.ft, t.now.el) | _ => (1, 1, 1)) = (0, 0, qSec + 9) := by
  decide +kernel

/-! ## Host link -/

/-- The link down with its reset released, the link up, and the link in D3hot. -/
theorem witness_LinkEventsEffect :
    (let s := upLink (fun l => { l with up := false }) on
     s.pow.state = .serving ∧ s.pow.perst = false ∧ s.hub.link.up = false)
    ∧ (let s := upLink (fun l => { l with d3hot := true, trained := (3, 4) }) on
       s.pow.perst = false ∧ s.hub.link.d3hot = true ∧ s.hub.link.trained ≠ (0, 0))
    ∧ linkLive on = true := by
  decide +kernel

/-- Awake; one poll outstanding, after one failure and after two; checking. -/
theorem witness_PollingEffect :
    linkLive on = true ∧ on.hub.link.running = true ∧ on.hub.link.phase = .awake
    ∧ (let s := upLink (fun l => { l with pollsIssued := 1, failRun := 2 }) on
       linkLive s = true ∧ s.hub.link.running = true ∧ s.hub.link.pollsDone < s.hub.link.pollsIssued
       ∧ s.hub.link.failRun = 2)
    ∧ (let s := upLink (fun l => { l with phase := .checking }) on
       linkLive s = true ∧ s.hub.link.running = true ∧ s.hub.link.phase = .checking) := by
  decide +kernel

/-- Submission ring 0 running with 64 entries posted. -/
def posted : State :=
  upSr 0 (fun r => { r with st := .running, entry := { r.entry with log2 := 6 }, p := 64 }) on

/-- A read of as many entries as the ring's limit and the buffer take, and one of more; a ring that runs. -/
theorem witness_RingReadEffect :
    linkLive posted = true
    ∧ (let r := nth default posted.hub.link.sr 0
       r.st = .running ∧ r.hold = none ∧ r.skip = 0 ∧ 0 < sub32 r.p r.c ∧ r.taken < 64
       ∧ fetchPaused posted.hub.link r = false
       ∧ ringLimit r.entry < 65 ∧ 64 ≤ ringLimit r.entry ∧ 64 ≤ sub32 r.p r.c ∧ r.taken + 64 ≤ 64)
    ∧ posted.hub.link.ringState 0 = .running := by
  decide +kernel

/-- A table that every check passes: SR 0 and DR 0 of 64 entries. -/
def goodTable : List RingEntry :=
  ⟨0x10000, 6, 0, 0, 0, 0, 0, 0, 0, 0⟩ :: List.replicate 31 RingEntry.zero
    ++ ⟨0x20000, 6, 0xFF, 0, 0, 0, 1, 0, 0xFFFFFFFF, 0⟩ :: List.replicate 31 RingEntry.zero

/-- Base registers that R511 takes. -/
def based (s : State) : State := s.upBar (fun b => { b with rtLo := 0x1000, dbLo := 0x2000, retLo := 0x3000 })

/-- A submission that resets ring `n`. -/
def ringReset (n : Nat) : Post := post 32 [(0x20, 1, n)]

/-- RING_GO with and without its bit, in a key-off; a set-up that runs, one that waits, with a good table and
with one whose ring 32 is unused; a reset of the ring itself, of an Unused ring, with an entry that breaks a rule,
and of a ring that runs. -/
theorem witness_RingSetupAndResetEffect :
    linkLive on = true ∧ keyoff on = false
    ∧ (let s := on.upPow (fun p => { p with sub := .keyoff })
       linkLive s = true ∧ keyoff s = true)
    ∧ (let s := upLink (fun l => { l with setupRunning := true }) (based on)
       linkLive s = true ∧ s.hub.link.setupRunning = true ∧ tableFault s.bar goodTable = none
       ∧ tableFault s.bar (goodTable.take 32) = some (0, 4))
    ∧ (let s := upLink (fun l => { l with goPending := true }) on
       linkLive s = true ∧ s.hub.link.goPending = true ∧ s.pow.firstBeat = true
       ∧ tableFault s.bar goodTable = some (0xFF, 9))
    ∧ Passes ⟨[32], [fu 0x20 1 0 63 0], fun _ => []⟩ false (ringReset 0) on ∧ fld (ringReset 0).body 0x20 1 = 0
    ∧ Passes ⟨[32], [fu 0x20 1 0 63 0], fun _ => []⟩ false (ringReset 63) on
      ∧ (arrive 0 0x0301 0x0E (ringReset 63) decideAt on).1.hub.link.ringState 63 = .unused
    ∧ (let s := upLink (fun l => l.setup none goodTable 0) on
       let x := (arrive 0 0x0301 0x0E (ringReset 32) decideAt s).1
       Passes ⟨[32], [fu 0x20 1 0 63 0], fun _ => []⟩ false (ringReset 32) s
       ∧ x.hub.link.ringState 32 ≠ .unused
       ∧ tableReason (x.hub.link.table.set 32 (nth default goodTable 32)) 32 = none
       ∧ tableReason (x.hub.link.table.set 32 { nth default goodTable 32 with coalCount := 0 }) 32 = some 10) := by
  unfold Passes
  decide +kernel

/-- A record that waits, without and with bulk data and with one buffer of just its padded length. -/
def waiting (bulk : Option (List Byte)) (bufs : List Buf) (fill : Nat) : State :=
  upDr 3 (fun d => { d with
    st := .running, entry := { d.entry with log2 := 6, coalCount := 1 }, f := fill, supplies := bufs
    backlog := [⟨3, 2, 0x0E, 0, none, 0, 0, 0, 0, List.replicate 32 0, bulk, none, none⟩] }) on

/-- A ring with nothing to deliver; a record that fits the last free entry, one that follows a bulk record, one that does not, one that no buffer takes, and one with a buffer; an
entry whose coalescing time runs. -/
theorem witness_DeliveryEffect :
    (∀ s ∈ [waiting none [] 63, waiting none [] 64, waiting (some [1]) [] 0, waiting (some [1]) [⟨64, 64⟩] 0],
      linkLive s = true ∧ commanding s = true ∧ s.hub.link.running = true
      ∧ (nth default s.hub.link.dr 3).st = .running ∧ (nth default s.hub.link.dr 3).hold = none
      ∧ (nth default s.hub.link.dr 3).backlog.length = 1)
    ∧ (let d := nth default (waiting none [] 63).hub.link.dr 3
       takeBufs 0 d.supplies = some ([], [])
       ∧ sub32 d.f d.h + (nth ⟨0, 0, 0, 0, none, 0, 0, 0, 0, [], none, none, none⟩ d.backlog 0).entries
          = ringLimit d.entry)
    ∧ (let d := nth default (waiting none [] 64).hub.link.dr 3
       ringLimit d.entry < sub32 d.f d.h + 1)
    ∧ takeBufs 64 (nth default (waiting (some [1]) [] 0).hub.link.dr 3).supplies = none
    ∧ takeBufs 64 (nth default (waiting (some [1]) [⟨64, 64⟩] 0).hub.link.dr 3).supplies = some ([⟨64, 64⟩], [])
    ∧ (∀ s ∈ [waiting none [] 63, waiting none [] 64], (nth default s.hub.link.dr 3).chain = [])
    ∧ (let r : DRec := ⟨2, 0, 0x0E, 0, none, 0, 0, 0, 0, List.replicate 32 0, none, none, none⟩
       (nth default (upDr 3 (fun d => { d with chain := [r] }) (waiting none [] 63)).hub.link.dr 3).chain = [r])
    ∧ (let d := nth default (upDr 3 (fun d => { d with backlog := [] }) (waiting none [] 0)).hub.link.dr 3
       d.st = .running ∧ d.chain = [] ∧ d.backlog = [])
    ∧ (nth default (upDr 3 (fun d => { d with unsig := [5] }) on).hub.link.dr 3).unsig = [5] := by
  decide +kernel

/-- A live link, and the sizes and offsets of a register write at their boundaries. -/
theorem witness_BarWritesEffect :
    linkLive on = true ∧ 0x13FC % 4 = 0 ∧ (0x13F8 % 8 = 0 ∧ 0x1000 ≤ 0x13F8 ∧ 0x13F8 < 0x1400)
    ∧ ¬((8 : Nat) = 4 ∧ 0x1400 % 4 = 0) ∧ ¬((8 : Nat) = 8 ∧ 0x1400 % 8 = 0 ∧ 0x1000 ≤ 0x1400 ∧ 0x1400 < 0x1400) := by
  decide +kernel

/-- R512: a write below 2 stores 2, one above 1 000 stores 1 000, and the bits above the field do not count. -/
theorem test_db_poll :
    [0, 1, 2, 1000, 1001, 1023, 1024 + 7].map (fun v =>
      match exec (.dbPoll 0 v) on with | .next t => t.bar.dbPollUs | _ => 0) = [2, 2, 2, 1000, 1000, 1000, 7] := by
  decide +kernel

/-- A segment and a supply, for an Unused ring, for a ring with 1 024 buffers and for one with 1 023. -/
def bufptr (use ring : Nat) : Post := post 32 [(0x28, 4, 64), (0x2E, 2, 1), (0x34, 1, use), (0x35, 1, ring)]

theorem witness_BufferPointersAndPeriods :
    Passes scBufptr false (bufptr 0 0) on ∧ fld (bufptr 0 0).body 0x34 1 = 0
    ∧ Passes scBufptr false (bufptr 1 31) on ∧ fld (bufptr 1 31).body 0x34 1 = 1
      ∧ (nth default (arrive 0 2 0x0E (bufptr 1 31) decideAt on).1.hub.link.dr 31).st = .unused
    ∧ (let s := upDr 31 (fun d => { d with st := .running, supplies := List.replicate 1024 ⟨0, 64⟩ }) on
       let d := nth default (arrive 0 2 0x0E (bufptr 1 31) decideAt s).1.hub.link.dr 31
       Passes scBufptr false (bufptr 1 31) s ∧ d.st ≠ .unused ∧ 1024 ≤ d.supplies.length)
    ∧ (let s := upDr 31 (fun d => { d with st := .running, supplies := List.replicate 1023 ⟨0, 64⟩ }) on
       let d := nth default (arrive 0 2 0x0E (bufptr 1 31) decideAt s).1.hub.link.dr 31
       d.st ≠ .unused ∧ d.supplies.length < 1024)
    ∧ on.pow.state = .serving := by
  unfold Passes
  decide +kernel

/-! ## Lanes -/

/-- A good heartbeat of version 1.0.0, settings format 1. -/
def hb (beat : Nat) : Heartbeat := ⟨beat, 1, 0, 0, 1, true, true, 1⟩

/-- Verso in a state, and a phase of its rebuild. -/
def verso (st : LaneState) (ph : RebuildPhase) (s : State) : State :=
  upLane 1 (fun l => { l with state := st, phase := ph }) s

/-- A later heartbeat of a started lane, one that repeats the beat, one of a booting lane; a lane silent for just
2.91 ms; a power-up that waits; a booting lane. -/
theorem witness_LaneStartEffect :
    (let s := upLane 0 (fun l => { l with hbBeat := some 9 }) on
     s.pow.state = .serving ∧ s.lanes.silent = false ∧ (laneOf s 0).state ≠ .off ∧ (laneOf s 0).inReset = false
     ∧ (hb 10).crcOk = true ∧ (laneOf s 0).hbBeat = some 9 ∧ 9 < (hb 10).beat ∧ (hb 9).beat ≤ 9)
    ∧ (let s := verso .booting .none on
       (laneOf s 1).state = .booting ∧ (laneOf s 1).started = false ∧ (laneOf s 1).inReset = false
       ∧ (laneOf s 1).hbBeat = none ∧ s.lanes.silent = false)
    ∧ { hb 0 with crcOk := false }.crcOk = false
    ∧ (on.lanes.silent = false ∧ (laneOf on 0).state ≠ .off ∧ (laneOf on 0).state ≠ .booting
      ∧ (laneOf on 0).hbAt + 2910 * qUs = on.now.el + 2910 * qUs)
    ∧ (on.upLanes (fun l => { l with startW := some 4 })).lanes.startW = some 4 := by
  decide +kernel

/-- Two lanes that sign. -/
def pair : State := upLane 1 (fun l => { l with state := .standby, known := true, sigs := [(4, some 7), (5, some 8), (7, none)] }) on

/-- A beat whose signature the other lane has sent, one that it has sent damaged and one that it has not; a lane that
does not sign; the low 32 bits of a beat number. -/
theorem witness_SignatureEffect :
    signing pair 0 = true ∧ signing pair (other 0) = true ∧ pair.lanes.suspended = false ∧ pair.lanes.silent = false
    ∧ (laneOf pair (other 0)).sigs.find? (fun x => x.1 == (2 ^ 32 + 5) % 2 ^ 32)
        = some (5, some 8)
    ∧ (laneOf pair (other 0)).sigs.find? (fun x => x.1 == 7) = some (7, none)
    ∧ (laneOf pair (other 0)).sigs.find? (fun x => x.1 == 6) = none
    ∧ signing on 1 = false := by
  decide +kernel

/-- The seventh and the eighth mismatch, with no lane in Shadow, with one, and with one at its last attempt. -/
theorem witness_MismatchCounts :
    (∀ i, (laneOf pair i).state ≠ .off ∧ (laneOf pair i).state ≠ .rebuilding ∧ (laneOf pair i).state ≠ .shadow)
    ∧ (let s := upLane 1 (fun l => { l with attempt := 2 }) (verso .rebuilding .live pair)
       ∀ i, (laneOf s i).state ≠ .off ∧ ((laneOf s i).state = .rebuilding → (laneOf s i).attempt < 3))
    ∧ (laneOf (verso .shadow .live pair) 1).state = .shadow
    ∧ (pair.upLanes (fun l => { l with mismatch := 6 })).lanes.mismatch + 1 < 8
    ∧ 7 ≤ (pair.upLanes (fun l => { l with mismatch := 7 })).lanes.mismatch := by
  decide +kernel

/-- A self-check with no verdict yet and with one; the watchdog with and without a switch; a lane whose link is
watched. -/
theorem witness_SelfcheckAndCuratorEffect :
    (let s := pair.upLanes (fun l => { l with selfcheck := true })
     s.lanes.selfcheck = true ∧ (laneOf s (other 0)).verdict = none
     ∧ (laneOf (upLane 1 (fun l => { l with verdict := some false }) s) (other 0)).verdict ≠ none)
    ∧ pair.lanes.selfcheck = false ∧ awake pair = true ∧ pair.lanes.switch = none
    ∧ (laneOf pair 0).started = true ∧ (laneOf pair 0).linkLost = false := by
  decide +kernel

/-- A switch to a lane, not yet and already acknowledged. -/
def switching (why : SwitchWhy) (kS : Option Nat) (s : State) : State :=
  s.upLanes (fun l => { l with switch := some ⟨why, 1, none, kS⟩ })

/-- An acknowledgement; a silent Curator; a switch to a Standby lane, a swap to a lane that is Off, a takeover by it with and without
an Active lane; an overlap window. -/
theorem witness_SwitchEffect :
    ((switching .swap none pair).lanes.switch = some ⟨.swap, 1, none, none⟩ ∧ pair.lanes.silent = false)
    ∧ (let s := (switching .swap (some qSec) pair).upLanes (fun l => { l with silent := true })
       s.lanes.switch = some ⟨.swap, 1, none, some qSec⟩ ∧ s.lanes.silent = true)
    ∧ activeLane (verso .off .none (upLane 0 (fun l => { l with state := .off }) pair)) = none
    ∧ (let s := switching .failure (some qSec) pair
       s.lanes.switch = some ⟨.failure, 1, none, some qSec⟩ ∧ (laneOf s 1).state = .standby)
    ∧ (let s := switching .swap (some qSec) (verso .off .none pair)
       s.lanes.switch = some ⟨.swap, 1, none, some qSec⟩ ∧ (laneOf s 1).state = .off)
    ∧ (let s := switching .failure (some qSec) (verso .off .none pair)
       s.lanes.switch = some ⟨.failure, 1, none, some qSec⟩ ∧ (laneOf s 1).state = .off ∧ activeLane s = some 0)
    ∧ (pair.upLanes (fun l => { l with overlap := some (10 * qMs, 0) })).lanes.overlap = some (10 * qMs, 0) := by
  decide +kernel

/-- A lane command that names a lane. -/
def laneCmd (n : Nat) : Post := post 32 [(0x20, 1, n)]

/-- Each phase of a rebuild; 2 000 agreeing beats; a swap that can be done, one with a mismatch and one of the Active
lane; a promotion with just 2 000 heartbeats, one with 1 999, one with no Catalogue of its format; an automatic swap
that is ordered, and one that is off; an unproven output path. -/
theorem witness_LaneCommandsEffect :
    (activeLane on ≠ none
      ∧ inPhase (verso .rebuilding .none on) 1 .none = true
      ∧ inPhase (verso .rebuilding .requested on) 1 .requested = true
      ∧ inPhase (verso .rebuilding .captured on) 1 .captured = true
      ∧ inPhase (verso .shadow .received on) 1 .received = true
      ∧ inPhase (verso .rebuilding .replaying on) 1 .replaying = true)
    ∧ (let s := verso .rebuilding .replaying on
       (laneOf s 1).state = .rebuilding ∧ (laneOf s 1).phase ≠ .live)
    ∧ (let s := upLane 1 (fun l => { l with agreeRun := 2000 }) (verso .rebuilding .live on)
       (laneOf s 1).state = .rebuilding ∧ (laneOf s 1).phase = .live ∧ 2000 ≤ (laneOf s 1).agreeRun)
    ∧ (Passes scLaneCmd false (laneCmd 1) pair ∧ laneNamed (laneCmd 1) = 1 ∧ (laneOf pair 1).state = .standby
      ∧ (laneOf pair (other 1)).state = .active ∧ pair.lanes.switch = none ∧ pair.lanes.silent = false
      ∧ (laneOf pair 1).known = true ∧ pair.lanes.mismatch = 0)
    ∧ (pair.upLanes (fun l => { l with mismatch := 1 })).lanes.mismatch ≠ 0
    ∧ (Passes scLaneCmd false (laneCmd 0) pair ∧ (laneOf pair (laneNamed (laneCmd 0))).state ≠ .standby)
    ∧ (let s := upLane 1 (fun l => { l with hbBeats := 2000, known := true }) (verso .shadow .live on)
       Passes scLaneCmd false (laneCmd 1) s ∧ (laneOf s 1).state = .shadow ∧ (laneOf s (other 1)).state = .active
       ∧ s.lanes.switch = none ∧ s.lanes.silent = false ∧ (laneOf s 1).known = true ∧ 2000 ≤ (laneOf s 1).hbBeats
       ∧ (let u := upLane 1 (fun l => { l with ver := ⟨1, 0, 0, 1⟩ }) s
          u.cat.cats.any (fun c => c.format == (laneOf u 1).ver.format) = true)
       ∧ s.cat.cats.any (fun c => c.format == (laneOf s 1).ver.format) = false
       ∧ (laneOf (upLane 1 (fun l => { l with hbBeats := 1999 }) s) 1).hbBeats < 2000)
    ∧ (let s := withField 0x0201 0 0x21 1 1 (pair.upLanes (fun l => { l with firstStandby := some 3 }))
       s.lanes.firstStandby = some 3 ∧ s.lanes.autoDone = false ∧ activeLane s = some 0 ∧ cfg s 0x0201 0 0x21 1 = 1
       ∧ (laneOf s (other 0)).state = .standby ∧ (laneOf s (other 0)).known = true ∧ s.lanes.mismatch = 0
       ∧ s.lanes.switch = none ∧ s.lanes.silent = false ∧ cfg (withField 0x0201 0 0x21 1 0 s) 0x0201 0 0x21 1 ≠ 1)
    ∧ (on.upLanes (fun l => { l with tried := [(.dq, 4)] })).lanes.tried.find? (fun x => x.1 == OutPath.dq)
        = some (.dq, 4)
    ∧ on.lanes.tried.find? (fun x => x.1 == OutPath.dq) = none ∧ on.pow.state = .serving := by
  unfold Passes
  decide +kernel

theorem witness_BeatEffect : on.pow.state = .serving := by decide

/-! ## Ledger and images -/

/-- A copy of `n` slots from slot `first`. -/
def copyOf (first n : Nat) : Post := post 32 [(0x20, 2, first), (0x24, 4, n)]

/-- No clear in progress; a coalescing window; a copy up to the last slot; a clear; a copy and a clear that run. -/
theorem witness_LedgerCommandsEffect :
    clearing on.hub.lg = false
    ∧ (let w : Window := ⟨5, 0, 100, 2, ⟨5, 0, 0, 0, [], 0, 0⟩, []⟩
       (on.upHub (fun h => { h with ev := ⟨[w]⟩ })).hub.ev.windows.find? (fun w => w.src == 5 && w.inst == 0) = some w)
    ∧ Passes scLedgerCopy false (copyOf 65535 1) on ∧ Passes scLedgerCopy false (copyOf 0 65536) on
    ∧ Passes ⟨[32], [fu 0x20 2 0xC1EA 0xC1EA 0xC1EA], fun _ => []⟩ false (post 32 [(0x20, 2, 0xC1EA)]) on
    ∧ (upLedger (fun g => { g with cmd := some (.copy 65535 1 0 (copyOf 65535 1), 0) }) on).hub.lg.cmd
        = some (.copy 65535 1 0 (copyOf 65535 1), 0)
    ∧ (upLedger (fun g => { g with cmd := some (.clear 0 default, 0) }) on).hub.lg.cmd = some (.clear 0 default, 0) := by
  unfold Passes
  decide +kernel

/-- A record of severity `sev` with SEQ `seq`. -/
def lrec (sev seq : Nat) : LRec := ⟨seq, 5, sev, 0, 0, 0, 0, 1, 0, 0, 0, [], 0⟩

/-- A Ledger whose Founding shelf is one slot short of full, and one whose shelf is full. -/
theorem witness_LedgerKeepsTheFirstShelf :
    (let g : Ledger := { on.hub.lg with slots := [(1022, lrec 0 4)], founding := 1023, headSeq := 0xFFFFFFFF }
     g.slots.Pairwise (fun a b => a.1 < b.1) ∧ (∀ x ∈ g.slots, x.1 < 1024 → x.1 < g.founding) ∧ g.founding ≤ 1024
     ∧ ((g.write (lrec 3 0)).map (fun h => (h.headSlot, h.headSeq, h.founding))) = some (1023, 1, 1024))
    ∧ (let g : Ledger := { on.hub.lg with slots := [(1023, lrec 0 4), (1024, lrec 0 5)], founding := 1024, headSeq := 5 }
       g.slots.Pairwise (fun a b => a.1 < b.1) ∧ (∀ x ∈ g.slots, x.1 < 1024 → x.1 < g.founding) ∧ g.founding ≤ 1024
       ∧ ((g.write (lrec 3 0)).map (fun h => (h.headSlot, h.headSeq, h.founding))) = some (1025, 6, 1024)) := by
  decide +kernel

/-- The Circulating shelf full of records of severity `sev`, the SEQ of each its slot's number. -/
def shelf (sev : Nat) : List (Nat × LRec) := (List.range 64512).map (fun i => (1024 + i, lrec sev (1024 + i)))

/-- The state with a full shelf. -/
def shelved (sev : Nat) : State :=
  upLedger (fun g => { g with slots := shelf sev, founding := 1024, headSeq := 65535 }) on

theorem shelf_ascends (sev : Nat) : (shelf sev).Pairwise (fun a b => a.1 < b.1) := by
  unfold shelf
  rw [List.pairwise_map]
  exact List.pairwise_lt_range.imp (by intro a b h; simpa using h)

theorem mem_shelf (sev : Nat) (x : Nat × LRec) :
    x ∈ shelf sev ↔ ∃ i < 64512, x = (1024 + i, lrec sev (1024 + i)) := by
  simp [shelf, eq_comm]

theorem shelf_full (sev n : Nat) (h : 1024 ≤ n) (k : n < 65536) : ∃ x ∈ shelf sev, x.1 = n :=
  ⟨_, (mem_shelf sev _).2 ⟨n - 1024, by omega, rfl⟩, by simp; omega⟩

theorem shelved_slots (sev : Nat) : (shelved sev).hub.lg.slots = shelf sev := by simp [shelved, upLedger]

theorem shelved_founding (sev : Nat) : (shelved sev).hub.lg.founding = 1024 := by simp [shelved, upLedger]

/-- The last Founding slot; the lowest and the last empty Circulating slot; a full shelf that holds severity 0, for a
record of severity 0; a full shelf of severity 3, for a record of severity 2, with a recent and an old drop. -/
theorem witness_LedgerSlotChoice :
    (let g : Ledger := { on.hub.lg with founding := 1023 }
     g.slots.Pairwise (fun a b => a.1 < b.1) ∧ g.founding < 1024)
    ∧ (let g : Ledger := { on.hub.lg with slots := [(1024, lrec 0 4), (1026, lrec 0 5)], founding := 1024 }
       g.slots.Pairwise (fun a b => a.1 < b.1) ∧ 1024 ≤ g.founding ∧ (¬∃ x ∈ g.slots, x.1 = 1025)
       ∧ ∃ x ∈ g.slots, x.1 = 1024)
    ∧ ((shelved 0).hub.lg.slots.Pairwise (fun a b => a.1 < b.1) ∧ 1024 ≤ (shelved 0).hub.lg.founding
      ∧ (∀ n, 1024 ≤ n → n < 65536 → ∃ x ∈ (shelved 0).hub.lg.slots, x.1 = n)
      ∧ (∃ x, x ∈ (shelved 0).hub.lg.slots ∧ 1024 ≤ x.1 ∧ x.2.sev = 0))
    ∧ ((shelved 3).hub.lg.slots.Pairwise (fun a b => a.1 < b.1) ∧ 1024 ≤ (shelved 3).hub.lg.founding
      ∧ (∀ n, 1024 ≤ n → n < 65536 → ∃ x ∈ (shelved 3).hub.lg.slots, x.1 = n)
      ∧ ∀ v, v ≤ 2 → ¬∃ x, x ∈ (shelved 3).hub.lg.slots ∧ 1024 ≤ x.1 ∧ x.2.sev = v)
    ∧ on.hub.lg.lastDrop = none := by
  simp only [shelved_slots, shelved_founding]
  refine ⟨by decide, by decide, ⟨shelf_ascends 0, by decide, shelf_full 0, ?_⟩,
    ⟨shelf_ascends 3, by decide, shelf_full 3, ?_⟩, by decide⟩
  · exact ⟨_, (mem_shelf 0 _).2 ⟨0, by decide, rfl⟩, by decide, rfl⟩
  · rintro v hv ⟨x, hx, -, e⟩
    obtain ⟨i, -, rfl⟩ := (mem_shelf 3 x).1 hx
    have : 3 = v := e
    omega

/-- R440: the oldest record of the lowest severity gives way, and SEQ wraps past 0. -/
theorem test_ledger_oldest :
    oldestOf { on.hub.lg with slots := [(1024, lrec 0 3), (1025, lrec 0 0xFFFFFFFE), (1026, lrec 1 1)], headSeq := 4 } 0
      = some 1025 := by
  decide +kernel

/-- An image slot of a unit in a state, with a header of its kind. -/
def slotOf (n : Nat) (st : SlotState) (s : State) : State :=
  s.upImg (fun m => { m with slots := m.slots.set n ⟨st, ⟨n / 2 + 1, 0, 1, 0, 0, 1, 0, 8, [1]⟩⟩ })

/-- An image command. -/
def imageCmd (action unit : Nat) : Post := post 16 [(0x20, 1, action), (0x21, 1, unit)]

/-- A STORE of a header of zeros for Recto, with BULK. -/
def imageStored : Post := { post 272 [] with flags := 32 }

/-- The same without BULK, as the layout's checks see it. -/
def plainStored : Post := { imageStored with flags := 0 }

theorem leNat_zeros (l : List Byte) (h : ∀ x ∈ l, x = 0) : leNat l = 0 := by
  induction l with
  | nil => rfl
  | cons a l ih => simp [leNat, h a (by simp), ih (fun x hx => h x (by simp [hx]))]

theorem leBytes_zero (n : Nat) : ∀ x ∈ leBytes n 0, x = 0 := by
  induction n with
  | zero => simp [leBytes]
  | succ n ih => intro x hx; simp only [leBytes, List.mem_cons, Nat.zero_div] at hx; exact hx.elim (fun e => e) (ih x)

/-- Reserved bytes of a body of zeros are good, whatever the fields (R104). -/
theorem reservedOk_zeros (flds : List Fld) (b : List Byte) (h : ∀ x ∈ b, x = 0) : reservedOk flds b = true := by
  have hf : ∀ off n, fld b off n = 0 := fun off n =>
    leNat_zeros _ (fun x hx => h x (List.mem_of_mem_drop (List.mem_of_mem_take hx)))
  simp only [reservedOk, hf, Nat.zero_and, List.all_eq_true, beq_iff_eq]
  suffices ∀ acc : List Byte, (∀ x ∈ acc, x = 0) → ∀ x ∈ flds.foldl (fun (acc : List Byte) f =>
      putAt acc (f.off - 0x20) (leBytes f.size 0)) acc, x = 0 from this b h
  induction flds with
  | nil => exact fun acc ha => ha
  | cons f flds ih =>
    intro acc ha
    refine ih _ (fun x hx => ?_)
    have hx := List.mem_of_mem_take hx
    simp only [List.mem_append] at hx
    rcases hx with (hx | hx) | hx
    · exact ha x (List.mem_of_mem_take hx)
    · exact leBytes_zero _ x hx
    · exact ha x (List.mem_of_mem_drop hx)

theorem checkBody_good {c : RecSchema} {p : Post} (hl : c.lens.contains p.length = true)
    (hb : p.body.length = p.length) (hr : reservedOk c.flds p.body = true) (h : c.bad p.body = none)
    (hs : p.source = 0 ∧ p.owner = 1 ∧ p.acc = 0 ∧ p.eff = 0 ∧ p.flags / 2 = 0) :
    checkBody (some c) 0x20 0 false p.seq p = none := by
  have hm := List.contains_iff_mem.1 hl
  unfold checkBody
  simp [hb, hr, h, hs, hm]

theorem checkBody_plainStored : checkBody (some scImageStore) 0x20 0 false plainStored.seq plainStored = none :=
  checkBody_good (by decide +kernel) (by decide +kernel) (reservedOk_zeros _ _ (by decide +kernel)) (by decide +kernel)
    (by decide)

theorem witness_ImagesEffect_store :
    Passes scImageStore true { imageStored with
      flags := if imageStored.flags.testBit 5 then imageStored.flags - 32 else imageStored.flags + 2 } on :=
  ⟨by decide, checkBody_plainStored, fun _ => by decide⟩

/-- A SELECT, a RESTART of the Active lane and of the other; a body being written; each slot that
a confirmation or a fallback is about. -/
theorem witness_ImagesEffect :
    Passes (scImageAct 4) true (imageCmd 2 3) on
    ∧ Passes (scImageAct 2) true (imageCmd 1 0) on ∧ (laneOf on 0).state = .active
    ∧ Passes (scImageAct 2) true (imageCmd 1 1) on ∧ (laneOf on 1).state ≠ .active
    ∧ (on.upImg (fun m => { m with store := some (1, default, 0) })).img.store = some (1, default, 0)
    ∧ (let s := upLane 0 (fun l => { l with slot := 1, hbBeats := 2000 }) (slotOf 1 .try_ on)
       (slotAt s (laneOf s 0).slot).state = .try_ ∧ (laneOf s 0).started = true ∧ (laneOf s 0).state ≠ .off
       ∧ (laneOf s 0).state ≠ .shadow ∧ 2000 ≤ (laneOf s 0).hbBeats)
    ∧ (let s := (slotOf 4 .try_ (slotOf 5 .confirmed (slotOf 7 .try_ (slotOf 6 .confirmed on)))).upImg (fun m =>
        { m with curSlot := 4, feSlot := 7 })
       s.pow.state = .serving ∧ awake s = true
       ∧ (slotAt s s.img.feSlot).state = .try_ ∧ (slotAt s s.img.curSlot).state = .try_
       ∧ slotIn s 3 .try_ = some s.img.feSlot ∧ slotIn s 3 .confirmed = some 6
       ∧ slotIn s 2 .try_ = some s.img.curSlot ∧ slotIn s 2 .confirmed = some 5) := by
  unfold Passes
  decide +kernel

/-- A SELECT of a unit with no STORED slot, of one whose version is one below the floor, and of one just at it. -/
theorem witness_ImageSelect :
    (let c : ImgCmd := ⟨2, 0, imageCmd 2 3, []⟩
     c.action = 2 ∧ fld c.post.body 0x21 1 = 3 ∧ slotIn on 3 .stored = none)
    ∧ (let s := (slotOf 7 .stored on).upImg (fun m => { m with floors := [0, 0, 0, 2 ^ 24 + 1] })
       slotIn s 3 .stored = some 7
       ∧ (slotAt s 7).hdr.version < nth 0 s.img.floors ((slotAt s 7).hdr.kind - 1))
    ∧ (let s := (slotOf 7 .stored on).upImg (fun m => { m with floors := [0, 0, 0, 2 ^ 24] })
       slotIn s 3 .stored = some 7
       ∧ nth 0 s.img.floors ((slotAt s 7).hdr.kind - 1) = (slotAt s 7).hdr.version) := by
  decide +kernel

/-! ## Catalogue -/

/-- A transaction open on ring 0 in format `f`, of Recto's or of a Shadow's format. -/
def txn (posted : Nat) (failed shadow : Bool) : Txn :=
  ⟨0, 0, 0, 0, 0, 1, false, shadow, posted, [], [], 0, failed, 9⟩

/-- The state with a transaction open. -/
def opened (posted : Nat) (failed shadow : Bool) : State :=
  on.upCat (fun c => { c with txn := some (txn posted failed shadow) })

/-- KD_CAT_OPEN of a generation, a format and a mode. -/
def catOpen (gen format mode : Nat) : Post := post 32 [(0x20, 4, gen), (0x24, 2, format), (0x26, 1, mode)]

/-- KD_CAT_COMMIT of `n` records. -/
def commit (n : Nat) : Post := post 32 [(0x20, 4, n)]

/-- Two group records whose members overlap (R546). -/
def overlapping : List SRec := [⟨0x0602, 0, changed 0x0602 0 0x28 2 3⟩, ⟨0x0602, 1, changed 0x0602 1 0x28 2 3⟩]

/-- The commit of `n` records in a state: the transaction that it closes, and what refuses it. -/
def committing (n : Nat) (s : State) : Option Txn × Option (Option (Nat × Nat)) :=
  let x := arrive 0 0x0402 0x13 (commit n) decideAt s
  let t := txnFor x.1 0 x.2.cmp
  (t, t.map (fun t =>
    let base := catAhead x.1 t.format
    refusalOf t.seqOf 0 (breaches x.1.valve.pairMask (pipesOn x.1) { base with
      recs := committed t.full t.recs base.recs })))

/-- A commit with none open; of a failed transaction; of one record too few; one that every check passes; one with
two groups that overlap, whose later record has SEQUENCE 4; a good and a bad one of a Shadow's format. -/
theorem witness_TransactionEffect_commit :
    let sc : RecSchema := ⟨[32], [fu 0x20 4 0 (2 ^ 32 - 1) 0], fun _ => []⟩
    let two := opened 2 false false
    let bad := two.upCat (fun c => { c with txn := c.txn.map (fun t => { t with recs := overlapping, seqs := [3, 4] }) })
    (Passes sc true (commit 0) on ∧ (committing 0 on).1 = none)
    ∧ (Passes sc true (commit 0) (opened 0 true false) ∧ (committing 0 (opened 0 true false)).1 = some (txn 0 true false))
    ∧ (Passes sc true (commit 1) (opened 0 false false)
      ∧ (committing 1 (opened 0 false false)).1 = some (txn 0 false false))
    ∧ committing 0 (opened 0 false false) = (some (txn 0 false false), some none)
    ∧ (Passes sc true (commit 2) bad ∧ (committing 2 bad).2 = some (some (0x0605, 4)))
    ∧ committing 0 (opened 0 false true) = (some (txn 0 false true), some none)
    ∧ committing 0 (opened 0 true true) = (some (txn 0 true true), some none) := by
  unfold Passes
  decide +kernel

/-- Opening while one is open, in mode 2, in a format of no lane, on a generation that is not the latest, and on any;
an abort without and with one; a timeout. -/
theorem witness_TransactionEffect :
    (Passes scCatOpen true (catOpen 0xFFFFFFFF 1 0) (opened 0 false false) ∧ (opened 0 false false).cat.txn ≠ none)
    ∧ (Passes scCatOpen true (catOpen 0xFFFFFFFF 1 2) on ∧ on.cat.txn = none
      ∧ fld (catOpen 0xFFFFFFFF 1 2).body 0x26 1 = 2)
    ∧ (Passes scCatOpen true (catOpen 0xFFFFFFFF 2 1) on ∧ formatMine on 2 = false ∧ formatShadow on 2 = false)
    ∧ (Passes scCatOpen true (catOpen 5 1 1) on ∧ formatMine on 1 = true
      ∧ 5 ≠ (catOf (arrive 0 0x0401 0x13 (catOpen 5 1 1) decideAt on).1 1).latestGen)
    ∧ (Passes scCatOpen true (catOpen 0 1 1) on
      ∧ 0 = (catOf (arrive 0 0x0401 0x13 (catOpen 0 1 1) decideAt on).1 1).latestGen)
    ∧ (Passes scCatOpen true (catOpen 0xFFFFFFFF 1 0) on)
    ∧ (let x := fun (s : State) => arrive 0 0x0403 0x13 (post 32 []) decideAt s
       Passes ⟨[32], [], fun _ => []⟩ true (post 32 []) on ∧ txnFor (x on).1 0 (x on).2.cmp = none
       ∧ Passes ⟨[32], [], fun _ => []⟩ true (post 32 []) (opened 0 false false)
       ∧ txnFor (x (opened 0 false false)).1 0 (x (opened 0 false false)).2.cmp ≠ none)
    ∧ (opened 0 false false).cat.txn = some (txn 0 false false) := by
  unfold Passes
  decide +kernel

/-- A record of a settings kind with its defaults, under the first key of the kind. -/
def setRec (kind : Nat) : Post :=
  let key := nth 0 (kindInfo kind).keys 0
  let b := if kind = 0x1102 then mkBody 32 [(0x24, 4, 0x40000000)] else defaultBody kind key
  { post 0 [] with length := b.length, body := b }

/-- Five of the settings kinds: a good record in a transaction, one of a wrong LENGTH in it, and a record in none. -/
theorem witness_SettingsEffect_records :
    (∀ k ∈ [0x0101, 0x0602, 0x0D01, 0x1102, 0x1201],
      let s := opened 0 false false
      let x := arrive 0 k 0x13 (setRec k) decideAt s
      let bad : Post := { setRec k with length := 1 }
      s.pow.state = .serving ∧ s.cat.txn = some (txn 0 false false) ∧ (txn 0 false false).ring = (setRec k).ring
      ∧ x.2.cmp < (txn 0 false false).cmp + 10 * qSec
      ∧ recordRefusal k (expectedSeq s (setRec k)) (setRec k) x.2.cmp x.1 = none
      ∧ recordRefusal k (expectedSeq s bad) bad x.2.cmp x.1 = some (3, 0)
      ∧ txnFor (arrive 0 k 0x13 (setRec k) decideAt on).1 0 x.2.cmp = none
      ∧ recordRefusal k (expectedSeq on (setRec k)) (setRec k) x.2.cmp (arrive 0 k 0x13 (setRec k) decideAt on).1
          = some (0x0E, 0)) := by
  decide +kernel

/-- A read of one kind and of all; a commit that is due; a restore with a transaction open, with a loop that runs,
and with neither; a restore that is due. -/
theorem witness_SettingsEffect :
    let sc : RecSchema := ⟨[32], [fu 0x20 2 0 65535 0, fu 0x22 1 0 1 0], fun b =>
      badIf (decide (fld b 0x20 2 ≠ 0) && !settingsKinds.contains (fld b 0x20 2)) 0x20⟩
    let restore := post 32 [(0x20, 2, 0xFAC7)]
    let due := fun (r : Bool) => on.upCat (fun c => { c with sched := [⟨qBeat, 1, r, false, [], 2, 0, 0, 0⟩] })
    Passes sc false (post 32 [(0x20, 2, 0x0101), (0x22, 1, 1)]) on ∧ Passes sc false (post 32 []) on
    ∧ (due false).cat.sched = [⟨qBeat, 1, false, false, [], 2, 0, 0, 0⟩]
    ∧ (Passes scRestore false restore (opened 0 false false) ∧ (opened 0 false false).cat.txn ≠ none)
    ∧ (let s := upLoop 127 (fun l => { l with state := .serving }) on
       Passes scRestore false restore s ∧ s.cat.txn = none ∧ s.ctl.loops.any (fun l => l.state != .off) = true)
    ∧ (Passes scRestore false restore on ∧ on.cat.txn = none ∧ on.ctl.loops.any (fun l => l.state != .off) = false)
    ∧ (due true).cat.sched = [⟨qBeat, 1, true, false, [], 2, 0, 0, 0⟩] := by
  unfold Passes
  decide +kernel

/-! ## Loops, passage, valves and map -/

/-- KD_SETPOINT and KD_LOOP_ENABLE of loop 127. -/
def setpoint : Post := post 32 [(0x20, 1, 127), (0x24, 4, 5)]
def loopCmd (action : Nat) : Post := post 32 [(0x20, 1, 127), (0x21, 1, action)]

/-- The state with loop 127's record taken up. -/
def lawful (s : State) : State := upLoop 127 (fun l => { l with law := some (defaultBody 0x0601 127) }) s

/-- A loop with a record, in no group and in one; a loop with none; one that owes an output, at its next boundary and at
an earlier one, with its record and without; a group that a member still evaluates for and one that waits; an action whose hold ends and one whose does not;
a set-point and the actions of KD_LOOP_ENABLE, for a loop without and with a record, with and without feedback. -/
theorem witness_LoopsEffect :
    ((lp (lawful on) 127).law = some (defaultBody 0x0601 127) ∧ groupOf (reach (lp (lawful on) 127).next (lawful on)) 127
      = none)
    ∧ (let s := withField 0x0602 3 0x28 16 (2 ^ 127) (lawful on)
       groupOf (reach (lp s 127).next s) 127 = some 3)
    ∧ (lp on 127).law = none ∧ (lp on 127).owesFirst = none ∧ (lp (lawful on) 127).owesFirst = none
    ∧ (let o : Owed := ⟨8, 1, 0, 0, 5⟩
       let owing := fun (next : Nat) (s : State) => upLoop 127 (fun l => { l with owed := some o, next := next }) s
       (lp (owing 8 (lawful on)) 127).owesFirst = some o ∧ (lp (owing 8 (lawful on)) 127).next = o.at_
       ∧ (lp (owing 9 (lawful on)) 127).owesFirst = some o ∧ o.at_ ≠ 9
       ∧ (lp (owing 7 (lawful on)) 127).owesFirst = none
       ∧ (lp (owing 7 on) 127).owesFirst = some o ∧ (lp (owing 7 on) 127).law = none)
    ∧ (let s := upLoop 127 (fun l => { l with actTimed := true }) on
       (lp s 127).actTimed = true ∧ (lp s 127).actLeft = 0)
    ∧ (lp on 127).actTimed = false
    ∧ (Passes scSetpoint true setpoint on ∧ Passes scSetpoint true setpoint (lawful on) ∧ (lp (lawful on) 127).law ≠ none)
    ∧ (∀ a ∈ [0, 1, 2], Passes scLoopEnable true (loopCmd a) on ∧ Passes scLoopEnable true (loopCmd a) (lawful on))
    ∧ ((lp (lawful on) 127).state = .off ∧ (lp (lawful on) 127).cmds = [])
    ∧ (let s := upLoop 127 (fun l => { l with state := .serving }) (lawful on)
       (lp s 127).law ≠ none ∧ (lp s 127).state ≠ .off)
    ∧ (curCat (arrive 0 0x0604 0x0A (loopCmd 1) decideAt on).1).find 0x0601 127 = none
    ∧ (let s := withField 0x0601 127 0x2A 2 7 on
       ((curCat (arrive 0 0x0604 0x0A (loopCmd 1) decideAt s).1).find 0x0601 127).isSome = true
       ∧ fld (changed 0x0601 127 0x2A 2 7) 0x2A 2 ≠ 0xFFFF ∧ fld (changed 0x0601 127 0x2A 2 0xFFFF) 0x2A 2 = 0xFFFF) := by
  unfold Passes
  decide +kernel

/-- A crop change for Field Time `at_`. -/
def cropChange (at_ : Nat) : Post := post 32 [(0x20, 1, 3), (0x28, 8, at_)]

/-- A lane that commands and none; an open orphan group and none; a crop change more than 60 s ahead and one at just 60 s, with and without one that
waits. -/
theorem witness_PassageEffect :
    commanding on = true ∧ commanding State.reset = false ∧ on.pas.orphan = none
    ∧ (let o : Orphan := ⟨0, 0, 0, 0, 0, false, false, false, F64.zero, F64.zero, 0, 0⟩
     (on.upPas (fun p => { p with orphan := some o })).pas.orphan = some o)
    ∧ (let x := fun (t : Nat) => (arrive 0 0x0508 unitPass (cropChange t) decideAt on).2.cmp
       Passes scCropChange false (cropChange (60 * qSec + 1)) on ∧ x (60 * qSec + 1) + 60 * qSec < 60 * qSec + 1
       ∧ Passes scCropChange false (cropChange (60 * qSec)) on ∧ x (60 * qSec) + 60 * qSec = 60 * qSec)
    ∧ on.pas.change = none
    ∧ (on.upPas (fun p => { p with change := some ⟨3, 0, 0, default, 0⟩ })).pas.change = some ⟨3, 0, 0, default, 0⟩ := by
  unfold Passes
  decide +kernel

/-- Valve requests of channel 23 for Field Time `at_`. -/
def vProfile (at_ : Nat) : Post := post 32 [(0x20, 1, 23), (0x26, 2, 500), (0x28, 8, at_)]
def vTrim (at_ : Nat) : Post := post 32 [(0x20, 1, 23), (0x28, 8, at_)]

/-- A request at just 10 s ahead and one beyond; a request that waits while a lane commands; no request, and no lane that
commands. -/
theorem witness_ValveCommandsEffect :
    (∀ k ∈ [(0x0702, scVProfile, vProfile), (0x0703, scVTrim, vTrim), (0x0704, scVOff, vTrim)],
      let near := k.2.2 (10 * qSec)
      let far := k.2.2 (10 * qSec + 1)
      let x := fun (p : Post) => arrive 0 k.1 0x0B p (fun acc => acc) on
      Passes k.2.1 true near on ∧ valveRange (x near).1 k.1 near (x near).2.cmp = none
      ∧ Passes k.2.1 true far on ∧ valveRange (x far).1 k.1 far (x far).2.cmp = some 0x28)
    ∧ (let s := on.upValve (fun v => { v with host := [⟨0x0704, vTrim 0, 0, 8⟩, ⟨0x0704, vTrim 0, 0, 6⟩] })
       earliestStart s.valve.host = some 6 ∧ commanding s = true)
    ∧ earliestStart on.valve.host = none ∧ commanding State.reset = false := by
  unfold Passes
  decide +kernel

theorem witness_EarliestStartIsLeast : earliestStart [⟨0x0704, vTrim 0, 0, 8⟩, ⟨0x0704, vTrim 0, 0, 6⟩] = some 6 := by
  decide +kernel

/-- Channel 23 with its stage changed. -/
def valved (f : VChan → VChan) : State := upVch 23 f on

/-- Every current 0 mA but that of channel 3 of its bank; a healthy supply. -/
def meas (ma : Nat) : ValveMeas := ⟨[0, 0, 0, 0], [0, 0, 0, ma], ma, 24000, 24000⟩

/-- The current of channel 23 as the meaning takes it. -/
def cur (s : State) (m : ValveMeas) : Nat := nth 0 m.il (23 % 4) + if isPair s 23 then nth 0 m.il (23 % 4 + 1) else 0

/-- A rise that ends at the peak current, at the end of its time, just below the current, just after the time, and before
the least time; the peak, the quench at both sides of 20 mA and of its limit, a wait for the boost, a hold whose current is
below the threshold for an eighth period; each of the other stages. -/
theorem witness_ValvePhasesEffect :
    (let s := valved (fun c => { c with phase := .rise, ipk := 4000, endEl := 9 })
     (vch s 23).phase = .rise ∧ (vch s 23).ipk ≤ cur s (meas 4000) ∧ s.now.el + 9 ≤ (vch s 23).endEl
     ∧ cur s (meas 3999) < (vch s 23).ipk ∧ (vch s 23).endEl < s.now.el + 10)
    ∧ (let s := withField 0x0701 23 0x42 2 100 (valved (fun c => { c with phase := .rise, ipk := 4000, endEl := 10 ^ 9 }))
       let least := fld (vrec s 23) 0x42 2
       least = 100 ∧ (tick 0 s).now.el < (vch s 23).startEl + least * qUs ∧ (vbank s (23 / 4)).undervolt = false
       ∧ ¬(tick (100 * qUs) s).now.el < (vch s 23).startEl + least * qUs)
    ∧ (vch (valved (fun c => { c with phase := .peak })) 23).phase = .peak
    ∧ (let s := valved (fun c => { c with phase := .quenchFast, endEl := 9 })
       (vch s 23).quenching = true ∧ s.now.el + 9 ≤ (vch s 23).endEl ∧ (vch s 23).endEl < s.now.el + 10)
    ∧ (let w : VReq := ⟨100, 500, none, 0x0702, 0, false, true, false, 9⟩
       let s := upVbank 5 (fun b => { b with queue := [23] }) (valved (fun c => { c with wait := some w }))
       (vch s 23).wait = some w ∧ (vbank s (23 / 4)).queue.contains 23 = true)
    ∧ (vch (valved (fun c => { c with phase := .hold })) 23).phase = .hold
    ∧ (let s := withField 0x0701 23 0x3A 2 200 (valved (fun c => { c with phase := .hold, target := 400, openRun := 7 }))
       (vbank s (23 / 4)).undervolt = false ∧ fld (vrec s 23) 0x3A 2 = 200 ∧ cur s (meas 199) < 200
       ∧ 2 * 200 ≤ (vch s 23).target ∧ (vch s 23).openRun + 1 = 8)
    ∧ ((vch on 23).phase ≠ .rise ∧ (vch on 23).phase ≠ .peak ∧ (vch on 23).phase ≠ .hold
      ∧ (vch on 23).quenching = false ∧ (vch on 23).wait = none) := by
  decide +kernel

/-- A check of an open load at and below its threshold; a channel at its trip and above it; a test that runs; a bank with
its line at 40 A and above, and one with its high side closed and its line 3 V below the supply; a bank at 7 V and below;
a status period and none; the checks with nothing to check. -/
theorem witness_ValveDiagnosticsEffect :
    (let s := valved (fun c => { c with phase := .rise, openCheck := true })
     (vch s 23).openCheck = true ∧ (vch s 23).phase = .rise ∧ (vbank s (23 / 4)).undervolt = false
     ∧ measI s 23 (meas (fld (vrec s 23) 0x3A 2 - 1)) < fld (vrec s 23) 0x3A 2
     ∧ ¬measI s 23 (meas (fld (vrec s 23) 0x3A 2)) < fld (vrec s 23) 0x3A 2)
    ∧ (let s := valved (fun c => { c with phase := .hold })
       let k := vhead s 23
       (vch s k).on = true ∧ (vbank s (23 / 4)).undervolt = false
       ∧ fld (vrec s k) 0x40 2 < measI s k (meas (fld (vrec s k) 0x40 2 + 1))
       ∧ ¬fld (vrec s k) 0x40 2 < measI s k (meas (fld (vrec s k) 0x40 2)))
    ∧ (vch (valved (fun c => { c with testing := true })) 23).testing = true
    ∧ (40000 < (meas 40001).ihb ∧ ¬(40000 < (meas 40000).ihb)
      ∧ hsClosed (valved (fun c => { c with phase := .hold })) 5 = true)
    ∧ vbankCfg on 0x36 2 ≠ 0
    ∧ vbankCfg (withField 0x0701 24 0x36 2 0 on) 0x36 2 = 0
    ∧ ((vch on 23).openCheck = false ∧ (vch on 23).testing = false) := by
  decide +kernel

/-- KD_FIELD_OPEN with an ACTION, and KD_TILE_REQUEST with one. -/
def fieldCmd (action : Nat) : Post :=
  post 32 [(0x20, 1, action), (0x22, 2, if action = 0 ∨ action = 3 then 250 else 0), (0x24, 4, if action = 1 then 0 else 7)]
def tileCmd (what : Nat) : Post := post 32 [(0x20, 1, what)]

/-- A field that is open. -/
def fielded (s : State) : State :=
  s.upMap (fun m => { m with field := some ⟨⟨7, 0, 0, 0, 250⟩, ⟨F64.zero, F64.zero, F64.zero, F64.zero, F64.zero,
    F64.zero, F64.zero, F64.zero, F64.zero, 0⟩, false⟩ })

/-- Each ACTION; a flushed close and none; a flush with no field, with one, and with no lane that commands; a summary
period and none. -/
theorem witness_MapCommandsEffect :
    (∀ a ∈ [0, 1, 2, 3], Passes scFieldOpen true (fieldCmd a) on)
    ∧ (∀ w ∈ [0, 1, 2], Passes scTileRequest false (tileCmd w) on)
    ∧ (on.upMap (fun m => { m with closes := [⟨default, 0, 5, 0⟩] })).map.closes = [⟨default, 0, 5, 0⟩]
    ∧ on.map.closes = [] ∧ on.map.field = none ∧ commanding State.reset = false
    ∧ fld (on.upMap (fun m => { m with recd := changed 0x0801 0 0x28 2 0 })).map.recd 0x28 2 = 0
    ∧ ((fielded on).map.field.isSome = true ∧ commanding (fielded on) = true)
    ∧ fld (on.upMap (fun m => { m with recd := changed 0x0801 0 0x28 2 1 })).map.recd 0x28 2 ≠ 0 := by
  unfold Passes
  decide +kernel

/-! ## GNSS, corrections and fusion -/

/-- A measurement-free epoch in Serving, and one that is not awake; the antenna supply configured and not; an antenna in
overcurrent. -/
theorem witness_GnssEpochAndAntennaEffect :
    awake on = true ∧ fld on.gnss.recd 0x21 1 ≠ 0 ∧ awake State.reset = false ∧ on.gnss.ant ≠ 3
    ∧ fld (on.upGnss (fun g => { g with recd := changed 0x0901 0 0x21 1 0 })).gnss.recd 0x21 1 = 0
    ∧ (on.upGnss (fun g => { g with ant := 3 })).gnss.ant = 3 := by
  decide +kernel

/-- Every channel of a satellite's bank holds another satellite with code lock. -/
def crowded : State := on.upGnss (fun g => { g with
  chans := g.chans.zipIdx.map (fun x => if x.2 < 48 then { x.1 with sv := x.2 % 31 + 1, codeLock := true } else x.1) })

/-- Satellite 32 of bank 0 for the bank's last channel: the channel free, on that satellite, the bank full, and the
satellite held by another channel with and without code lock; a satellite masked and one that the bank has not; a cause
that has cleared, one that still stands; a second peak just above the threshold and one at it; a channel with code lock
and one without. -/
theorem witness_GnssChannelsEffect :
    (awake on = true ∧ svOk 0 32 = true ∧ svMasked on.gnss.recd 0 32 = false ∧ (on.gnss.ch 47).sv ≠ 32
      ∧ on.gnss.holders 0 32 = [] ∧ on.gnss.roomIn 0 = true ∧ svOk 0 33 = false ∧ awake State.reset = false)
    ∧ ((upChan 47 (fun k => { k with sv := 32 }) on).gnss.ch 47).sv = 32
    ∧ (crowded.gnss.holders 0 32 = [] ∧ crowded.gnss.roomIn 0 = false
      ∧ ((upChan 47 (fun k => { k with sv := 0 }) crowded).gnss.ch 47).sv = 0
      ∧ (upChan 47 (fun k => { k with sv := 0 }) crowded).gnss.roomIn 0 = false)
    ∧ (∀ l : Bool, let s := upChan 3 (fun k => { k with sv := 32, codeLock := l }) on
       (s.gnss.holders 0 32).filter (fun x => decide (x ≠ 47)) = [3] ∧ (s.gnss.ch 3).codeLock = l)
    ∧ svMasked (changed 0x0901 0 0x28 4 0) 0 32 ≠ svMasked (changed 0x0901 0 0x28 4 (2 ^ 32 - 1)) 0 32
    ∧ (let c : Cause := ⟨0, 32, 0, some 9⟩
       let s := on.upGnss (fun g => { g with causes := [c] })
       s.gnss.causes.find? (fun c => c.bank == 0 && c.sv == 32) = some c ∧ c.bits = 0 ∧ c.holdEnd = some 9)
    ∧ (let c : Cause := ⟨0, 32, 1, some 9⟩
       let s := on.upGnss (fun g => { g with causes := [c] })
       s.gnss.causes.find? (fun c => c.bank == 0 && c.sv == 32) = some c ∧ c.bits ≠ 0)
    ∧ (let s := upChan 0 (fun k => { k with sv := 32 }) on
       awake s = true ∧ (s.gnss.ch 47).sv = 0
       ∧ ((s.gnss.bankChans (47 / 48)).filter (fun x => (s.gnss.ch x).sv == 32)).length = 1
       ∧ fld s.gnss.recd 0x44 2 < fld s.gnss.recd 0x44 2 + 1 ∧ (fld s.gnss.recd 0x50 1).testBit 3 = true
       ∧ ¬fld s.gnss.recd 0x44 2 < fld s.gnss.recd 0x44 2)
    ∧ ((upChan 47 (fun k => { k with codeLock := true }) on).gnss.ch 47).codeLock = true
    ∧ (on.gnss.ch 47).codeLock = false := by
  decide +kernel

/-- A KD_RTCM_IN of one empty message, and one that says two. -/
def rtcm (n : Nat) : Post := post 10 [(0x20, 2, n), (0x24, 1, 0xD3)]

theorem witness_CorrectionsEffect :
    Passes (scRtcmIn (rtcm 1).length) false (rtcm 1) on
    ∧ (rtcmSplit 65 ((rtcm 1).body.drop 4)).map List.length = some (fld (rtcm 1).body 0x20 2)
    ∧ Passes (scRtcmIn (rtcm 2).length) false (rtcm 2) on
    ∧ (rtcmSplit 65 ((rtcm 2).body.drop 4)).map List.length = some 1
    ∧ (let b : OpenBase := ⟨1, 0, true, false, false, false, 0, 0⟩
       let s := on.upPos (fun p => p.upSrc true (fun c => { c with collecting := [b] }))
       (s.pos.src true).collecting = [b])
    ∧ (let s := on.upFus (fun f => { f with main := changed 0x0A01 0 0x26 1 3 })
       3 ≤ corrMode s ∧ s.pos.backup = false)
    ∧ corrMode (on.upFus (fun f => { f with main := changed 0x0A01 0 0x26 1 2 })) < 3
    ∧ (on.pos.src false).collecting = [] := by
  unfold Passes
  decide +kernel

/-- IMU 1 at 200 Hz, with `edges` edges in the window. -/
def imu (edges good : Nat) (bad : Bool) : State :=
  on.upFus (fun f => { f with
    main := changed 0x0A01 0 0x32 2 200, edges := edges, rateBad := bad, rateGood := good })

/-- No dead reckoning and some; a held edge and none; a source enabled and present, and one that is not enabled; a window
of just a second and one that a step cut; a rate just within 0.5 % of a fifth and just beyond,
while good, while bad for nine and for ten good windows; a rate of 0. -/
theorem witness_FusionChecksEffect :
    (∀ b : Bool, (on.upFus (fun f => { f with dead := b })).fus.dead = b) ∧ on.fus.edgeEl = none
    ∧ (∃ src : Fin 15, on.fus.enabled src = false)
    ∧ (let s := (imu 201 0 false).upFus (fun f => { f with windowFrom := 5, windowNext := qSec + 5 })
       s.fus.windowNext = s.fus.windowFrom + qSec ∧ fld s.fus.main 0x32 2 ≠ 0)
    ∧ (let s := (imu 201 0 false).upFus (fun f => { f with windowFrom := 5, windowNext := qSec })
       s.fus.windowNext ≠ s.fus.windowFrom + qSec)
    ∧ (on.upFus (fun f => { f with edgeEl := some 3 })).fus.edgeEl = some 3
    ∧ (∃ src : Fin 15, on.fus.enabled src = true ∧ on.fus.absent.testBit src = false)
    ∧ (let bad := fun (s : State) => 5 * fld s.fus.main 0x32 2
          < 1000 * ((s.fus.edges : Int) - fld s.fus.main 0x32 2).natAbs
       ¬bad (imu 201 0 false) ∧ bad (imu 202 0 false) ∧ fld (imu 201 0 false).fus.main 0x32 2 ≠ 0
       ∧ ¬bad (imu 199 8 true) ∧ (imu 199 8 true).fus.rateGood < 9 ∧ ¬bad (imu 200 9 true)
       ∧ 9 ≤ (imu 200 9 true).fus.rateGood)
    ∧ fld (on.upFus (fun f => { f with main := changed 0x0A01 0 0x32 2 0 })).fus.main 0x32 2 = 0 := by
  decide +kernel

/-- A host fix of Field Time `at_`. -/
def hostFix (at_ : Nat) : Post := post 32 [(0x20, 8, at_), (0x34, 2, 1), (0x36, 2, 1)]

/-- A fix that lies in the future, one older than the latest age by one quantum, one of just that age; an edge of the IMU
with a transfer idle and busy; the other edge, and an IMU that is off; a transfer that runs and none. -/
theorem witness_FusionInputsEffect :
    (let s := on.upNow (fun n => { n with ft := 10 * qSec })
     let x := fun (t : Nat) => (arrive 0 0x0A03 3 (hostFix t) decideAt s).2.acc
     let age := fld s.fus.main 0x36 2 * qMs
     (∀ t ∈ [10 * qSec + 1, 10 * qSec - age - 1, 10 * qSec - age, 10 * qSec], Passes scHostFix false (hostFix t) s)
     ∧ x (10 * qSec + 1) < 10 * qSec + 1 ∧ (10 * qSec - age - 1) + age < x (10 * qSec - age - 1)
     ∧ ¬(x (10 * qSec - age) < 10 * qSec - age ∨ (10 * qSec - age) + age < x (10 * qSec - age)))
    ∧ (imu1On (imu 0 0 false) = true ∧ (imu 0 0 false).fus.transfer = none
      ∧ (true ≠ decide (fld (imu 0 0 false).fus.imu 0x24 1 = 1) ∨ false ≠ decide (fld (imu 0 0 false).fus.imu 0x24 1 = 1)))
    ∧ (imu1On on = false ∧ on.fus.transfer = none
      ∧ (true = decide (fld (imu 0 0 false).fus.imu 0x24 1 = 1) ∨ false = decide (fld (imu 0 0 false).fus.imu 0x24 1 = 1)))
    ∧ ((imu 0 0 false).upFus (fun f => { f with transfer := some 4 })).fus.transfer = some 4 := by
  unfold Passes
  decide +kernel

/-! ## Cameras -/

/-- Pipeline 5 in a state, bound to port 0. -/
def piped (st : PipeState) (f : Pipe → Pipe) : State := upPipe 5 (fun x => f { x with st := st }) (upPort 0 (fun y => { y with lock := 1 }) on)

/-- An open frame. -/
def frame : OpenFrame :=
  ⟨0, 0, 0, 0, 0, 0, [], [], 0, 0, ⟨0, [], [], false⟩, [], []⟩

/-- A pipeline that runs and one that is Off; a trigger that is high and one that is not; a link with a lock and without; a
packet of no pipeline and of one, with a frame open and with none, and of a pipeline that does not run. -/
theorem witness_CameraFramesEffect :
    ((pipeOf (piped .running id) 5).st ≠ .off ∧ (piped .running id).pow.state = .serving)
    ∧ (pipeOf (piped .running (fun x => { x with trigEnd := some 3 })) 5).trigEnd = some 3
    ∧ (portOf (piped .running id) 0).lock ≠ 0 ∧ boundPipe (piped .running id) 0 15 = none
    ∧ (let s := piped .running (fun x => { x with cur := some 7 })
       boundPipe s 0 (fld (pipeRec s 5) 0x23 1) = some 5 ∧ (pipeOf s 5).st = .running ∧ (pipeOf s 5).cur = some 7
       ∧ (pipeOf (closeFrame 5 mkTrunc false (tick 0 s)) 5).st = .running)
    ∧ (pipeOf (piped .running (fun x => { x with frame := some frame })) 5).frame = some frame
    ∧ ((pipeOf on 5).st = .off ∧ (pipeOf on 5).trigEnd = none ∧ (pipeOf on 5).frame = none ∧ (portOf on 0).lock = 0)
    ∧ (let s := piped .starting id
       boundPipe s 0 (fld (pipeRec s 5) 0x23 1) = some 5 ∧ (pipeOf s 5).st ≠ .running
       ∧ ((pipeOf s 5).ready && (pipeOf s 5).cur.isSome) = false) := by
  decide +kernel

/-- Port 0 enabled, in reset of its link and with a link; a port whose supply is configured; a port that is not enabled; a
write under way and none. -/
theorem witness_CameraLinksEffect :
    (let s := withRec 0x0B01 0 (putBytes (changed 0x0B01 0 0x22 1 1) 0x24 [1]) on
     portCfg s 0 0x22 1 ≠ 0 ∧ portCfg s 0 0x24 1 ≠ 0 ∧ s.pow.state = .serving ∧ s.pow.sub ≠ .holdup
     ∧ (portOf s 0).lock = 0
     ∧ (portOf (upPort 0 (fun y => { y with poc := 0 }) s) 0).poc = 0
     ∧ (portOf (upPort 0 (fun y => { y with poc := 3 }) s) 0).poc = 3)
    ∧ (portOf (piped .running id) 0).lock ≠ 0
    ∧ (let s := piped .running (fun x => { x with jobs := [⟨true, [], 3⟩] })
       (pipeOf s 5).jobs = [⟨true, [], 3⟩] ∧ 3 ≤ s.now.el + 3)
    ∧ (portCfg on 0 0x22 1 = 0 ∧ (pipeOf on 5).jobs = [] ∧ (portOf on 0).poc ≠ 3) := by
  decide +kernel

/-- Camera commands of pipeline 5. -/
def exposure : Post := post 32 [(0x20, 1, 5), (0x24, 4, 1)]
def pipeCmd (action frame : Nat) : Post := post 32 [(0x20, 1, 5), (0x21, 1, action), (0x24, 4, frame)]

/-- An exposure set for a pipeline that runs and for one that does not; a pipeline without and with its record, and
while its shut-down runs; a stored frame and a missing one; a set that is due; a start that is tried again. -/
theorem witness_CameraCommandsEffect :
    (Passes (scExposure exposure.body) true exposure (piped .running id) ∧ (pipeOf (piped .running id) 5).st = .running)
    ∧ (Passes (scExposure exposure.body) true exposure on ∧ (pipeOf on 5).st ≠ .running)
    ∧ (∀ a ∈ [0, 1, 2], Passes scPipeEnable true (pipeCmd a 8) on) ∧ pipeHasRec on 5 = false
    ∧ (let s := withField 0x0B01 (camKey 5 0) 0x22 1 0 on
       Passes scPipeEnable true (pipeCmd 1 8) s ∧ pipeHasRec s 5 = true ∧ (pipeOf s 5).shut = none
       ∧ (pipeOf (upPipe 5 (fun x => { x with shut := some 9 }) s) 5).shut = some 9)
    ∧ (let f : StoredFrame := ⟨8, 0, 0, 0, 0, [], 64, 1, 0x2C⟩
       let s := piped .running (fun x => { x with store := [f] })
       (pipeOf s 5).store.find? (fun f => decide (f.number = fld (pipeCmd 2 8).body 0x24 4)) = some f
       ∧ (pipeOf s 5).store.find? (fun f => decide (f.number = fld (pipeCmd 2 9).body 0x24 4)) = none)
    ∧ (let e : ExpSet := ⟨exposure, 0, 1, [0, 0], [], 5, 9, false, false, 0, false, false, none⟩
       (pipeOf (piped .running (fun x => { x with exps := [e] })) 5).exps.find? (fun e => !e.sent) = some e)
    ∧ (pipeOf on 5).exps.find? (fun e => !e.sent) = none ∧ (pipeOf on 5).retryEl = none
    ∧ (pipeOf (piped .starting (fun x => { x with retryEl := some 4 })) 5).retryEl = some 4 := by
  unfold Passes
  decide +kernel

/-! ## Field inputs and outputs, CAN and modem -/

/-- A level that changes and one that does not; an edge that counts with the shortest width, and one that is narrower, before
the gate's end and at it; a shunt that opens, one that is open, and an input without; a report window and none. -/
theorem witness_FieldInputsEffect :
    (let at2 := fun (start acc : Nat) => (tick (2 * qMs) on).upField (fun f => { f with
        diStartEl := start, di := upd f.di 47 (fun d => { d with accEl := acc }) })
     let el := fun (dt : Nat) (s : State) => (reach (diSample (tick dt s)) (tick dt s)).now.el
     let d := fun (s : State) => nth default s.field.di 47
     let n := fun (s : State) => fld (recBody s 0x0C01 47) 0x22 2
     let a := at2 (2 * qMs) 0
     let b := at2 0 qMs
     let c := at2 0 (qMs + 1)
     el 0 a < a.field.diStartEl + qUs ∧ a.field.diStartEl + qUs ≤ el 1 a
     ∧ b.field.diStartEl + qUs ≤ el 0 b ∧ (d b).level ≠ true ∧ (d b).level = false
     ∧ (d b).accEl + (n b - (d b).acc) * qUs ≤ el 0 b
     ∧ c.field.diStartEl + qUs ≤ el 0 c ∧ ¬((d c).accEl + (n c - (d c).acc) * qUs ≤ el 0 c))
    ∧ (∀ g ∈ [1, 0], decide ((tick 0 on).now.ft < (cnt (upCnt 15 (fun c => { c with gateNext := g }) on) 15).gateNext)
        = decide (g = 1))
    ∧ (cfg on 0x0C01 (64 + 15) 0x21 1 ≠ 2 ∧ (nth default on.field.ai 15).shuntOpen = false)
    ∧ fieldGen (withField 0x0C01 128 0x22 2 0 on) 0x22 2 = 0
    ∧ (let r := recBody on 0x0C01 15
       let up := true != (fld r 0x21 1).testBit 0
       (fld r 0x24 1 = 0 → up = true) ∧ (fld r 0x24 1 = 1 → up = false) ∧ fld r 0x28 4 ≤ fld r 0x28 4)
    ∧ (let r := recBody (withField 0x0C01 15 0x28 4 9 on) 0x0C01 15
       ¬(fld r 0x28 4 ≤ 8))
    ∧ cfg (withField 0x0C01 79 0x21 1 2 on) 0x0C01 (64 + 15) 0x21 1 = 2
    ∧ (nth default (on.upField (fun f => { f with ai := upd f.ai 15 (fun a => { a with shuntOpen := true }) })).field.ai
        15).shuntOpen = true
    ∧ fieldGen (withField 0x0C01 128 0x22 2 10 on) 0x22 2 ≠ 0 := by
  decide +kernel

/-- KD_DQ_SET of channel 23 for Field Time `at_`. -/
def dqCmd (at_ : Nat) : Post := post 32 [(0x20, 1, 23), (0x28, 8, at_)]

/-- A switch 10 s ahead and one beyond; a channel for which nothing waits, and one for which two commands wait, one due;
the diagnostics of a channel that is on and of one that is off; the inhibit, the supplies and V_DQ at their limits. -/
theorem witness_FieldOutputsEffect :
    (let x := fun (p : Post) => arrive 0 0x0C02 0x05 p (fun acc => acc) on
      let high : Post := post 32 [(0x20, 1, 23), (0x24, 4, 2 ^ 30 + 1)]
      Passes scDqSet true (dqCmd (10 * qSec)) on
      ∧ 10 * qSec ≤ (x (dqCmd (10 * qSec))).2.cmp + 10 * qSec ∧ ¬(2 ^ 30 < fld (dqCmd (10 * qSec)).body 0x24 4)
      ∧ Passes scDqSet true (dqCmd (10 * qSec + 1)) on
      ∧ (x (dqCmd (10 * qSec + 1))).2.cmp + 10 * qSec < 10 * qSec + 1
      ∧ Passes scDqSet true high on ∧ ¬((fld high.body 0x21 1).testBit 1 = true) ∧ 2 ^ 30 < fld high.body 0x24 4)
    ∧ on.field.host.filter (fun h => fld h.post.body 0x20 1 == 23) = []
    ∧ (let a : DqHost := ⟨dqCmd 0, 0, 5⟩
       let b : DqHost := ⟨dqCmd 1, 1, 9⟩
       let s := on.upField (fun f => { f with host := [a, b] })
       let mine := s.field.host.filter (fun h => fld h.post.body 0x20 1 == 23)
       (dqOf s 23).wait = none ∧ commanding s = true ∧ mine.filter (fun h => decide (h.start ≤ 5)) = [] ++ [a]
       ∧ (∃ h ∈ mine, h.start = 5) ∧ ∀ h ∈ mine, 5 ≤ h.start)
    ∧ (let s := (withField 0x0C01 119 0x24 1 3 on).upField (fun f => { f with vdqMv := 7000 })
       7000 ≤ s.field.vdqMv ∧ (dqOf s 23).onCounts = 0 ∧ (dqOf s 23).short = false
       ∧ (fld (dqRec s 23) 0x24 1).testBit 0 = true ∧ (fld (dqRec s 23) 0x24 1).testBit 1 = true
       ∧ (dqOf (upDq 23 (fun d => { d with onCounts := 1 }) s) 23).onCounts ≠ 0 ∧ (dqOf s 23).openOn = false)
    ∧ ((on.upField (fun f => { f with vdqMv := 6999 })).field.vdqMv < 7000 ∧ (dqOf on 23).onCounts = 0)
    ∧ ((dqOf (upDq 23 (fun d => { d with short := true, openOn := true }) on) 23).short = true)
    ∧ on.valve.inhibit = false ∧ (on.upValve (fun v => { v with inhibit := true })).valve.inhibit = true
    ∧ on.field.fault5 = false ∧ on.field.fault10 = false
    ∧ (let s := withField 0x0C01 128 0x26 2 9000 on
       8999 < fieldGen s 0x26 2 ∧ s.field.vdqLow = false ∧ fieldGen s 0x26 2 + 500 ≤ 9500
       ∧ fieldGen s 0x26 2 ≤ 9000 ∧ 9499 < fieldGen s 0x26 2 + 500)
    ∧ (on.upField (fun f => { f with fault5 := true, fault10 := true })).field.fault5 = true
    ∧ (on.upField (fun f => { f with fault5 := true, fault10 := true })).field.fault10 = true
    ∧ fieldGen (withField 0x0C01 128 0x24 2 10 on) 0x24 2 ≠ 0
    ∧ fieldGen (withField 0x0C01 128 0x24 2 0 on) 0x24 2 = 0 := by
  unfold Passes
  decide +kernel

/-- Channel 5 with its controller changed. -/
def canned (f : CanCtl → CanCtl) : State := upCtlr 5 f on

/-- An entry to send. -/
def entry (p : Option (Post × Nat)) (stop : Option Nat) : CanEntry :=
  ⟨⟨5, false, false, false, false, false, 0, []⟩, p, false, none, 0, 0, stop, 0, false, false⟩

/-- KD_CAN_TX of channel 0 for Field Time `at_`. -/
def canTx (at_ : Nat) : Post := post 96 [(0x23, 1, 0xFF), (0x28, 8, at_)]

/-- Each state of a channel and its shut-down, without and with an enable held; the periods; a frame for no object and for
one; an error and a success with an entry, of the host and of another; an entry that expires; a command 200 µs ahead, one
quantum more, 10 s ahead and one quantum more. -/
theorem witness_CanEffect :
    (∀ st ∈ [CanState.integrating, .busOff, .recovering], (cctl (canned (fun k => { k with state := st })) 5).state = st)
    ∧ (∀ e : Bool, let k := cctl (canned (fun k => { k with shutdown := true, enableAfter := e })) 5
       k.shutdown = true ∧ k.enableAfter = e)
    ∧ fld (canRec (withField 0x0D01 5 0x32 2 100 on) 5) 0x32 2 ≠ 0
    ∧ (let s := withField 0x0D02 (4096 + 191) 0x2E 2 100 on
       fld (objRec s 191) 0x2E 2 ≠ 0 ∧ objEnabled s 191 = false)
    ∧ (let s := canned (fun k => { k with state := .errorPassive, recErr := 128 })
       (cctl s 5).onBus = true ∧ fld (canRec s 5) 0x22 1 ≠ 1
       ∧ fld (canRec s 5) 0x22 1 = 0
       ∧ boundObject s 5 ⟨5, false, false, false, false, false, 0, []⟩ = none)
    ∧ (let s := withField 0x0D01 5 0x22 1 1 (canned (fun k => { k with state := .errorActive }))
       fld (canRec s 5) 0x22 1 ≠ 0 ∧ ¬(fld (canRec s 5) 0x22 1 ≠ 1) ∧ (cctl on 5).onBus = false)
    ∧ (∀ v ∈ [0, 1], let s := withField 0x0D01 5 0x23 1 v (canned (fun k => { k with state := .errorActive }))
       (cctl s 5).onBus = true ∧ fld (canRec s 5) 0x22 1 = 0
       ∧ (fld (canRec s 5) 0x23 1).testBit 0 = decide (v = 1))
    ∧ (cctl on 5).queue = [] ∧ (cctl on 5).shutdown = false
    ∧ (let s := canned (fun k => { k with shutdown := true, queue := [entry none none] })
       (cctl s 5).queue = [entry none none] ∧ (cctl s 5).shutdown = true)
    ∧ fld (canRec (withField 0x0D01 5 0x32 2 0 on) 5) 0x32 2 = 0
    ∧ fld (objRec (withField 0x0D02 (4096 + 191) 0x2E 2 0 on) 191) 0x2E 2 = 0
    ∧ commanding on = true ∧ commanding State.reset = false
    ∧ (let s := withRec 0x0D02 (512 * 5 + 511) (putBytes (changed 0x0D02 2560 0x22 1 9) 0x24 (leBytes 4 5))
         (canned (fun k => { k with state := .errorActive }))
       (cctl s 5).onBus = true
       ∧ (boundObject s 5 ⟨5, false, false, false, false, false, 0, []⟩).map (fun x =>
          (x.1, (fld x.2 0x22 1).testBit 3)) = some (511, true))
    ∧ (let s := canned (fun k => { k with state := .errorActive, queue := [entry none none] })
       (cctl s 5).onBus = true ∧ (cctl s 5).queue = [entry none none] ∧ (entry none none).frame.brs = false
       ∧ (entry none none).copy = false ∧ fld (canRec s 5) 0x22 1 = 0)
    ∧ (let e := entry (some (canTx 0, 4)) none
       (cctl (canned (fun k => { k with state := .errorActive, queue := [e] })) 5).queue = [e]
       ∧ e.post = some (canTx 0, 4))
    ∧ (let q := (cctl (canned (fun k => { k with queue := [entry none (some 9), entry none (some 7)] })) 5).queue
       (∃ e ∈ q, e.endEl = some 7) ∧ (∀ e ∈ q, e.endEl = some 7 ∨ e.endEl = some 9))
    ∧ (let x := fun (t : Nat) => (arrive 0 0x0D03 0x06 (canTx t) (fun acc =>
          if t ≤ acc + 200 * qUs then startAt acc 0 else acc) on).2.cmp
       (∀ t ∈ [200 * qUs, 10 * qSec, 10 * qSec + 1], Passes (scCanTx false) true (canTx t) on ∧ x t = 0)
       ∧ Passes (scCanTx true) true (canTx (200 * qUs + 1)) on ∧ x (200 * qUs + 1) = 0) := by
  unfold Passes
  decide +kernel

/-- The port enabled. -/
def modemOn (f : Modem → Modem) : State := on.upModem (fun m => f { m with recd := changed 0x0E01 0 0x20 1 1 })

/-- An entry of the port to send. -/
def mtx (sent : Nat) (p : Option (Post × Nat)) (stop : Option Nat) : MTx := ⟨[1, 2], sent, p, 0, stop, false, false⟩

/-- KD_MODEM_TX for Field Time `at_`. -/
def modemTx (at_ : Nat) : Post := post 17 [(0x22, 2, 1), (0x28, 8, at_)]

/-- A port that is off; a full buffer and one a byte short; a record to read with room of just its bytes; a command at each limit; a change of
readiness; the last character but one, and the last, of the module and of the host; a stall and an expiry. -/
theorem witness_ModemEffect :
    (modemListens on = false ∧ on.modem.recs = [] ∧ on.modem.out = []
      ∧ fld (modemRec (withField 0x0E01 0 0x30 2 0 on)) 0x30 2 = 0)
    ∧ (let s := on.upModem (fun m => { m with recs := [⟨true, [1], 0, 0⟩], intake := [262144] })
       s.modem.recs = [⟨true, [1], 0, 0⟩] ∧ 262144 < s.modem.intake.sum + [1].length)
    ∧ (let x := mtx 0 none none
       let s := modemOn (fun m => { m with out := [x], shutdown := true })
       s.modem.out = [x] ∧ ¬(s.modem.shutdown = true → x.sent ≠ 0))
    ∧ (modemOn (fun m => { m with stalled := true })).modem.stalled = true
    ∧ (let s := modemOn (fun m => { m with fill := 131072 })
     modemListens s = true ∧ s.modem.fill + s.modem.drain = 131072)
    ∧ (let s := modemOn (fun m => { m with fill := 131071 })
       modemListens s = true ∧ s.modem.fill + s.modem.drain ≠ 131072)
    ∧ (let s := on.upModem (fun m => { m with recs := [⟨true, [1], 0, 0⟩], intake := [262143] })
       s.modem.recs = [⟨true, [1], 0, 0⟩] ∧ s.modem.intake.length < 256 ∧ s.modem.intake.sum + 1 = 262144)
    ∧ (∀ t ∈ [200 * qUs, 200 * qUs + 1, 10 * qSec, 10 * qSec + 1],
        Passes (scModemTx (modemTx t).body) true (modemTx t) on
        ∧ (arrive 0 0x0E02 7 (modemTx t) (fun acc => if t ≤ acc + 200 * qUs then startAt acc 0 else acc) on).2.cmp = 0)
    ∧ ((true != (fld on.modem.recd 0x22 1).testBit 1) ≠ on.modem.ready
      ∨ (false != (fld on.modem.recd 0x22 1).testBit 1) ≠ on.modem.ready)
    ∧ (∀ x ∈ [mtx 0 none none, mtx 1 none none, mtx 1 (some (modemTx 0, 3)) none],
        let s := modemOn (fun m => { m with out := [x] })
        s.modem.out = [x] ∧ s.modem.enabled = true ∧ s.modem.shutdown = false ∧ s.pow.state = .serving
        ∧ s.modem.stalled = false
        ∧ (s.upModem (fun m => { m with ready := true })).modem.ready = true
        ∧ (s.upModem (fun m => { m with started := true })).modem.started = true
        ∧ ¬(s.modem.ready = true ∨ s.modem.started = true))
    ∧ ((mtx 0 none none).sent + 1 < (mtx 0 none none).wire.length ∧ (mtx 1 none none).wire.length ≤ 2)
    ∧ (let s := modemOn (fun m => { m with out := [mtx 1 none (some 3), mtx 0 none (some 9)] })
       (∃ x ∈ s.modem.out, x.sent = 0 ∧ x.endEl = some 9)
       ∧ ∀ x ∈ s.modem.out, x.sent = 0 → x.endEl = some 9)
    ∧ fld (modemRec on) 0x30 2 ≠ 0 := by
  unfold Passes
  decide +kernel

/-! ## Display, power and margins -/

/-- KD_SEGMENT_MAP with nothing on. -/
def segMap : Post := post 64 []

/-- RAILS before and after LCD_EN1; each frame; each step of a shut-down, with and without a held enable; a map with
none waiting and with one; the timers, set and 0; a display that is off. -/
theorem witness_DisplayEffect :
    (∀ b : Bool, let s := on.upDisp (fun d => { d with state := .rails, lcdEn1 := b })
      s.disp.state = .rails ∧ s.disp.lcdEn1 = b)
    ∧ (∀ n ∈ [2, 3], let s := on.upDisp (fun d => { d with state := .clearing, frames := n })
      s.disp.state = .clearing ∧ s.disp.frames = n ∧ s.disp.frames < 2 ^ 32)
    ∧ (on.upDisp (fun d => { d with state := .showing })).disp.state = .showing
    ∧ (∀ n ∈ [1, 2, 3], ∀ h : Bool, let s := on.upDisp (fun d => { d with state := .shutdown, shutStep := n, held := h })
      s.disp.state = .shutdown ∧ s.disp.shutStep = n ∧ s.disp.held = h ∧ s.pow.state = .serving)
    ∧ (Passes scSegmentMap true segMap on ∧ on.disp.waiting = none)
    ∧ (let s := on.upDisp (fun d => { d with waiting := some ⟨0, segMap, 0⟩ })
       Passes scSegmentMap true segMap s ∧ s.disp.waiting = some ⟨0, segMap, 0⟩)
    ∧ (let s := (withField 0x0F01 0 0x22 2 100 on).upDisp (fun d => { d with mapEver := true, silent := false })
       fld (dispRec s) 0x22 2 ≠ 0 ∧ s.disp.mapEver = true ∧ s.disp.silent = false ∧ commanding s = true
       ∧ commanding State.reset = false)
    ∧ fld (dispRec on) 0x34 2 ≠ 0 ∧ on.disp.state = .off
    ∧ fld (dispRec (withField 0x0F01 0 0x34 2 0 on)) 0x34 2 = 0
    ∧ fld (dispRec (withField 0x0F01 0 0x22 2 0 on)) 0x22 2 = 0 := by
  unfold Passes
  decide +kernel

/-- A pixel on with no residue, one with the residue of a + frame, and one off. -/
def balancedDisplay : Display := { on.disp with plus := false, shown := 3, accPlus := 2, accMinus := 0 }

theorem witness_DisplayDcBalance :
    balancedDisplay.balanced
    ∧ balancedDisplay.shown.testBit 0 = true ∧ (0 : Nat).testBit 0 = false
    ∧ ((({ balancedDisplay.account with plus := true } : Display).apply 0).1.acc 0 ≠ 0) := by
  refine ⟨fun i _ => ⟨fun h => ?_, fun h => ?_⟩, by decide +kernel, by decide +kernel, by decide +kernel⟩
  · refine ⟨rfl, ?_⟩
    have h2 : (2 : Nat).testBit i = true := h
    show (3 : Nat).testBit i = true
    match i with
    | 0 => simp at h2
    | 1 => decide
    | n + 2 => simp [Nat.testBit_succ] at h2
  · simp [balancedDisplay] at h

/-- R419: a pixel turned off one frame after it came on stays on for one more frame. -/
theorem test_deferred_turn_off :
    (let d : Display := { on.disp with plus := true, shown := 1, accPlus := 0, accMinus := 0 }
     let e := (({ d.account with plus := false } : Display).apply 0).1
     let f := (({ e.account with plus := true } : Display).apply 0).1
     (e.shown, e.acc 0, f.shown, f.acc 0)) = (1, 1, 0, 0) := by
  decide +kernel

/-- The state in a power state and a phase of Serving. -/
def powered (st : PowerState) (sub : SubState) (f : Power → Power) : State :=
  on.upPow (fun p => f { p with state := st, sub := sub })

/-- Unpowered; Dormant, with ignition; the hold-up before its deadline, and after it at both sides of 5 V; rail faults of a
lane, with one rail to return; a bank not charged and one charged; PERST with the link up and down. -/
theorem witness_SupplyAndRailsEffect :
    (powered .unpowered .run id).pow.state = .unpowered ∧ (powered .dormant .run id).pow.state = .dormant
    ∧ (powered .dormant .run (fun p => { p with ign := true })).pow.ign = true
    ∧ (∀ b : Bool, let s := powered .serving .holdup (fun p => { p with deadlinePast := b })
      s.pow.state = .serving ∧ s.pow.sub = .holdup ∧ s.pow.deadlinePast = b)
    ∧ 5000 ≤ 5000 ∧ 4999 < 5000
    ∧ (on.pow.state = .serving ∧ (laneOf on 0).state ≠ .off)
    ∧ (let s := upLane 1 (fun l => { l with state := .booting, rails := [7] }) on
       (laneOf s 1).rails = [7] ∧ (laneOf s 1).state = .booting)
    ∧ (on.pow.sub = .run ∧ on.pow.bankCharged = false)
    ∧ ((laneOf on 1).state = .off ∧ (laneOf on 1).rails = [] ∧ (powered .serving .run
      (fun p => { p with bankCharged := true })).pow.bankCharged = true)
    ∧ linkLive (on.upPow (fun p => { p with perst := true })) = true
    ∧ linkLive (State.reset.upPow (fun p => { p with perst := true })) = false := by
  decide +kernel

/-- Dormant, Keeping and a key-off, with each wake source; Serving on ignition and on a timer; each step of a key-off, with
a held wake and without; KEEP_MIN at 0 and V_BAT at its limit; the status period, set and 0; no wake source. -/
theorem witness_WakeAndKeyoffEffect :
    (∀ st ∈ [PowerState.dormant, .keeping],
      let s := powered st .run (fun p => { p with aonWakeMask := 3, aonRing := true, aonCan0 := true, aonCan1 := true })
      s.pow.state = st ∧ s.pow.aonWakeMask.testBit 0 = true ∧ s.pow.aonWakeMask.testBit 1 = true
      ∧ s.pow.aonRing = true ∧ ∀ c : Fin 2, (if c = 0 then s.pow.aonCan0 else s.pow.aonCan1) = true)
    ∧ (let s := powered .serving .keyoff id
       s.pow.state = .serving ∧ s.pow.sub = .keyoff ∧ s.pow.heldWake = none ∧ (cfg s 0x1201 0 0x24 1).testBit 0 = true)
    ∧ (∀ t : Bool, let s := powered .serving .run (fun p => { p with timedServe := t })
      s.pow.state = .serving ∧ s.pow.sub = .run ∧ s.pow.timedServe = t)
    ∧ (∀ n ∈ [3, 4, 5], let s := powered .serving .keyoff (fun p => { p with keyoffStep := n })
      s.pow.state = .serving ∧ s.pow.sub = .keyoff ∧ s.pow.keyoffStep = n ∧ s.disp.state = .off)
    ∧ (∀ w ∈ [none, some 0], let s := powered .serving .keyoff (fun p => { p with keyoffStep := 5, heldWake := w })
      (drainRings (powerStatus (beatAt s.now.ft) (s.upPow (fun p => { p with vbatMv := 23000 })))).pow.heldWake = w)
    ∧ (let s := powered .serving .keyoff (fun p => { p with keyoffStep := 5 })
       (leaveServing .dormant s).pow.aonKeepMin ≠ 0 ∧ (leaveServing .dormant s).pow.aonKeepMv ≤ 23000
       ∧ 22999 < (leaveServing .dormant s).pow.aonKeepMv)
    ∧ cfg on 0x1201 0 0x2C 2 ≠ 0 ∧ cfg (withField 0x1201 0 0x2C 2 0 on) 0x1201 0 0x2C 2 = 0
    ∧ (let s := powered .keeping .run (fun p => { p with aonWakeMask := 0, aonRing := false })
       s.pow.state ≠ .serving ∧ s.pow.aonWakeMask.testBit 0 = false ∧ s.pow.aonWakeMask.testBit 1 = false
       ∧ s.pow.aonRing = false)
    ∧ (on.pow.keyoffStep ≠ 3 ∧ on.pow.keyoffStep ≠ 4 ∧ on.pow.keyoffStep ≠ 5 ∧ on.pow.state ≠ .keeping) := by
  decide +kernel

/-- A plan in Serving and in a hold-up; a step that waits for a lane and one that does not; out of
Serving. -/
theorem witness_MarginEffect :
    (on.pow.state = .serving ∧ on.pow.sub = .run) ∧ (powered .serving .holdup id).pow.sub ≠ .run
    ∧ (let s := on.upMar (fun m => { m with pendingSteps := [(2, 1), (0, 1)] })
       (∃ x ∈ s.mar.pendingSteps, stepWaits s x.1 = false) ∧ stepWaits s 2 = true)
    ∧ State.reset.pow.state ≠ .serving
    ∧ (let s := on.upMar (fun m => { m with pendingSteps := [(2, 1)] })
       ∀ x ∈ s.mar.pendingSteps, stepWaits s x.1 = true) := by
  decide +kernel

/-! ## Whole-machine statements -/

theorem witness_StepRunsTheFrontCommand : State.reset.pending = [] := by decide

theorem witness_DbPollRegister : linkLive on = true ∧ on.hub.link.running = true ∧ on.hub.link.phase = .awake := by decide

/-- The link awake and dozing, the rings running and not. -/
theorem witness_WakeRegister :
    (linkLive on = true ∧ on.hub.link.running = true ∧ on.hub.link.phase ≠ .dozing)
    ∧ (let s := upLink (fun l => { l with phase := .dozing }) on
       linkLive s = true ∧ s.hub.link.running = true ∧ s.hub.link.phase = .dozing)
    ∧ (let s := upLink (fun l => { l with running := false }) on
       linkLive s = true ∧ s.hub.link.running = false) := by
  decide

/-- QUIET with ACCEPTED and with a refusal, QUIET clear; a reserved bit of FLAGS. -/
theorem witness_QuietFlag :
    (({ segMap with flags := 1 } : Post).flags % 2 = 1 ∧ (accepted 0 0).outcome = 0)
    ∧ (segMap.flags % 2 = 0 ∧ (refusedWith 8 0 0).outcome ≠ 0) ∧ commanding on = true
    ∧ ({ segMap with flags := 128 } : Post).flags / 2 ≠ 0 := by
  decide

theorem witness_BarRegistersKept : on.bar.inBounds ∧ ∃ t, exec (.dbPoll 0 0) on = .next t := by
  refine ⟨by unfold Bar.inBounds; decide, ?_⟩
  show ∃ t, execDbPoll 0 0 on = .next t
  simp [execDbPoll, show linkLive (tick 0 on) = true from by decide]

theorem witness_TimeBoundsKept : on.time.inBounds ∧ ∃ t, exec .stepInstant on = .next t := by
  refine ⟨by unfold TimeU.inBounds; decide, ?_⟩
  show ∃ t, execStepInstant on = .next t
  simp [execStepInstant, show on.time.fixedStep = none from by decide]

theorem witness_DcBalanceKept : on.disp.balanced ∧ ∃ t, exec .displayFrame on = .next t := by
  refine ⟨fun i _ => ?_, ?_⟩
  · simp [show on.disp.accPlus = 0 from by decide, show on.disp.accMinus = 0 from by decide]
  · show ∃ t, execDisplayFrame on = .next t
    simp [execDisplayFrame, show on.disp.state = .off from by decide]

/-! ## Ill-formed commands (WellFormed) -/

/-- Every command of the list is refused. -/
def refused (l : List Instr) : Bool := l.all (fun i => !i.wf)

/-- One submission for each check of its Slip and its body (R98). -/
def badPosts : List Post :=
  [{ segMap with ring := 32 }, { segMap with source := 256 }, { segMap with flags := 256 },
   { segMap with length := 63 }, { segMap with length := 2 ^ 16 }, { segMap with owner := 2 ^ 16 },
   { segMap with seq := 2 ^ 32 }, { segMap with corr := 2 ^ 32 }, { segMap with acc := 2 ^ 64 },
   { segMap with eff := 2 ^ 64 }]

theorem test_wellformed_posts : refused (badPosts.map (Instr.kdTimeStepConfirm 0)) = true := by decide +kernel

/-- One ring-table entry, segment and heartbeat for each check (R47, R70, R81). -/
theorem test_wellformed_entries :
    refused ((([{ RingEntry.zero with base := 2 ^ 64 }, { RingEntry.zero with log2 := 256 },
      { RingEntry.zero with vec := 256 }, { RingEntry.zero with reserve := 2 ^ 16 },
      { RingEntry.zero with compRing := 256 }, { RingEntry.zero with rsv0 := 256 },
      { RingEntry.zero with coalCount := 2 ^ 16 }, { RingEntry.zero with coalTime := 2 ^ 32 },
      { RingEntry.zero with classMask := 2 ^ 32 }, { RingEntry.zero with rsv1 := 2 ^ 64 }] : List RingEntry).map
        (Instr.kdRingReset 0 segMap))
      ++ badPosts.map (fun p => Instr.imageStore 0 segMap [⟨p, true⟩])
      ++ ([⟨2 ^ 64, 0, 0, 0, 0, true, true, 0⟩, ⟨0, 256, 0, 0, 0, true, true, 0⟩, ⟨0, 0, 256, 0, 0, true, true, 0⟩,
        ⟨0, 0, 0, 2 ^ 16, 0, true, true, 0⟩, ⟨0, 0, 0, 0, 2 ^ 16, true, true, 0⟩,
        ⟨0, 0, 0, 0, 0, true, true, 6⟩] : List Heartbeat).map (Instr.heartbeat 0 0))
      = true := by
  decide +kernel

/-- A plan's measurements, a valve's, a sample of its current, a unit of the archive, a CAN frame, an epoch's and a filter's, each with one check broken. -/
theorem test_wellformed_measurements :
    refused ((([⟨[], [0, 0, 0, 0], [0, 0], 0, 0, 0, List.replicate 24 0⟩, ⟨List.replicate 8 0, [], [0, 0], 0, 0, 0, List.replicate 24 0⟩,
        ⟨List.replicate 8 0, [0, 0, 0, 0], [], 0, 0, 0, List.replicate 24 0⟩,
        ⟨List.replicate 8 0, [0, 0, 0, 0], [0, 0], 0, 0, 0, []⟩] : List PlanMeas).map Instr.marginPlan)
      ++ ([⟨[0, 0, 0], [0, 0, 0, 0], 0, 0, 0⟩, ⟨[0, 0, 0, 2 ^ 16], [0, 0, 0, 0], 0, 0, 0⟩, ⟨[0, 0, 0, 0], [], 0, 0, 0⟩,
        ⟨[0, 0, 0, 0], [0, 0, 0, 2 ^ 16], 0, 0, 0⟩, ⟨[0, 0, 0, 0], [0, 0, 0, 0], 2 ^ 32, 0, 0⟩,
        ⟨[0, 0, 0, 0], [0, 0, 0, 0], 0, 2 ^ 16, 0⟩, ⟨[0, 0, 0, 0], [0, 0, 0, 0], 0, 0, 2 ^ 16⟩] : List ValveMeas).map
        (Instr.valveOpenOnCheck 0)
      ++ ([⟨2 ^ 32, 0, true⟩, ⟨0, 2 ^ 16, true⟩] : List Sense).map (fun d => Instr.valvePeakEnd 0 0 [d])
      ++ ([⟨2 ^ 32, 0, 0⟩, ⟨0, -129, 0⟩, ⟨0, 128, 0⟩, ⟨0, 0, -129⟩, ⟨0, 0, 128⟩] : List MapUnit).map
        (fun u => Instr.tapInstant [u])
      ++ ([⟨2048, false, false, false, false, false, 0, []⟩, ⟨2 ^ 29, true, false, false, false, false, 0, []⟩,
        ⟨0, false, false, false, false, false, 16, []⟩, ⟨0, false, false, false, false, false, 8, List.replicate 9 0⟩,
        ⟨0, false, true, false, false, false, 15, List.replicate 65 0⟩,
        ⟨0, false, true, false, false, true, 0, []⟩] : List CanFrame).map
          (fun f => Instr.canFrameReceived 0 0 0 f false)
      ++ ([⟨[⟨192, 0, 0, 0, 0, false, false, false⟩], 0, 0, 0, none, none⟩,
        ⟨[⟨0, 0, 0, 0, 2 ^ 16, false, false, false⟩], 0, 0, 0, none, none⟩,
        ⟨[⟨0, 0, 0, 0, 0, false, false, false⟩, ⟨0, 0, 0, 0, 0, false, false, false⟩], 0, 0, 0, none, none⟩,
        ⟨[], 0, 0, 2 ^ 16, none, none⟩] : List GnssEpochIn).map Instr.gnssEpoch
      ++ ([⟨{ (default : PoseEst) with heading := 2 ^ 32 }, 0, false, 0, 0⟩, ⟨default, 2 ^ 64, false, 0, 0⟩,
        ⟨default, 0, false, 2 ^ 32, 0⟩, ⟨default, 0, false, 0, 2 ^ 32⟩] : List FusionIn).map Instr.fusionOutput)
      = true := by
  decide +kernel

/-- Times, counts and measured numbers beyond their widths, and lists of the wrong length. -/
theorem test_wellformed_numbers :
    refused [.timeInEdge (2 ^ 64) true, .signature 0 0 (2 ^ 64) 0 true, .signature 0 0 0 (2 ^ 32) true,
      .checkpointRequest 0 0 (2 ^ 32), .railFault 0 256 0 0, .railFault 0 0 256 0, .railReturn 0 256 0,
      .linkUp 0 0 1 false, .linkUp 0 5 1 false, .linkRateChange 0 1 3 false, .doorbellReadComplete 0 ⟨[], 0⟩,
      .doorbellReadComplete 0 ⟨List.replicate 64 (2 ^ 32), 0⟩, .dozeCheckRead 0 [], .ringReadComplete 0 0 (2 ^ 16),
      .wake 0 (2 ^ 32), .ringGo 0 (2 ^ 32), .ringSetup 0 [], .dbPoll 0 (2 ^ 32), .lgCursor 0 (2 ^ 32),
      .registerWrite 0 (2 ^ 24) 4 0, .registerWrite 0 0 3 0, .registerWrite 0 0 8 (2 ^ 64),
      .unknownKind 0 (2 ^ 16) segMap, .deliveryKindPosted 0 (2 ^ 16) segMap, .doorbellReadComplete 0 ⟨List.replicate 64 0, 2 ^ 16⟩, .valveRiseEnd 0 0 0 [] default, .valvePeakEnd 0 (2 ^ 16) [],
      .valveQuenchEnd 0 0 (2 ^ 16), .plateTemperature (-129), .plateTemperature 128, .suspectHoldExpiry 0 64,
      .dualPeakFound 0 0 64 0 0, .dualPeakFound 0 0 0 (2 ^ 16) 0, .dualPeakFound 0 0 0 0 (2 ^ 16),
      .channelLock 0 0 64 true true false, .navMessage 0 0 (2 ^ 40) 0 false false (List.replicate 40 0),
      .navMessage 0 0 0 (2 ^ 40) false false (List.replicate 40 0), .navMessage 0 0 0 0 false false (List.replicate 39 0), .antennaOk 0 (2 ^ 16),
      .imuTransferEnd 0 (List.replicate 257 0), .frameStart 0 0 16 false, .csi2Packet 0 0 16 0 [] true 0,
      .csi2Packet 0 0 0 64 [] true 0, .frameEnd 0 0 16 false, .camPortStatus [],
      .camPortStatus (List.replicate 6 (2 ^ 16, 0)), .camPortStatus (List.replicate 6 (0, 2 ^ 16)),
      .counterEdge 0 0 true (2 ^ 32), .aiSample [], .vdqLowSet 0 (2 ^ 16), .vdqLowClear 0 (2 ^ 16),
      .fieldStatusPeriod 0 0 0 0 (2 ^ 16), .canTxSuccess 0 0 (2 ^ 40) 0, .canTxSuccess 0 0 0 256,
      .modemCharacter 0 (2 ^ 40) 0 false, .coalesceWindowEnd 128 0, .coalesceWindowEnd 0 (2 ^ 16),
      .imageBodyWritten 0 [], .vbatConnect 0 (2 ^ 16) false, .supplyFall 0 (2 ^ 16) 0, .supplyFall 0 0 (2 ^ 32),
      .holdupComplete 0 (2 ^ 16), .keyoffSaveDone 0 (2 ^ 32) 0 false, .keyoffSaveDone 0 0 (2 ^ 16) false,
      .valveBankUndervolt 0 0 (2 ^ 16), .powerStatusPeriod (2 ^ 16) (List.replicate 6 0) 0 0,
      .powerStatusPeriod 0 [] 0 0, .powerStatusPeriod 0 (List.replicate 6 (2 ^ 16)) 0 0,
      .powerStatusPeriod 0 (List.replicate 6 0) 200 0, .powerStatusPeriod 0 (List.replicate 6 0) 0 (2 ^ 32)] = true := by
  decide +kernel

theorem test_wellformed_payload (pay : List Byte) (h : 65536 ≤ pay.length) :
    (Instr.csi2Packet 0 0 0 0 pay true 0).wf = false := by
  show (upTo 64 0 && vcOk 0 && decide (0 < 64) && decide (pay.length < 65536)) = false
  rw [decide_eq_false (Nat.not_lt.2 h), Bool.and_false]

/-- A record of a kind with several rows posted under the row of another ACTION. -/
theorem test_wellformed_actions :
    refused [.loopDisable 0 (loopCmd 1), .loopEnable 0 (loopCmd 0), .loopClearSticky 0 (loopCmd 0),
      .fieldOpen 0 (fieldCmd 1), .fieldClose 0 (fieldCmd 0), .fieldDiscard 0 (fieldCmd 0), .fieldNew 0 (fieldCmd 0),
      .tileRequestTile 0 (tileCmd 1), .tileRequestSummary 0 (tileCmd 0), .tileRequestAll 0 (tileCmd 0),
      .pipeDisable 0 (pipeCmd 1 0), .pipeEnable 0 (pipeCmd 0 0), .pipeDeliverFull 0 (pipeCmd 0 0),
      .dqSet 0 (post 32 [(0x21, 1, 2)]), .dqClearOnly 0 (post 32 []), .canTxFrame 0 (post 96 []),
      .canObjectWrite 0 (canTx 0), .imageStore 0 (imageCmd 1 0) [], .imageRestart 0 (imageCmd 0 0),
      .imageSelect 0 (imageCmd 0 0)] = true := by
  decide +kernel

/-- Well-formed commands at the ends of their ranges. -/
theorem test_wellformed_accepts :
    (Instr.timeInEdge (2 ^ 64 - 1) true).wf = true ∧ (Instr.kdSegmentMap 0 segMap).wf = true
    ∧ (Instr.heartbeat 0 1 (hb (2 ^ 64 - 1))).wf = true ∧ (Instr.kdSegmentMap 0 { segMap with ring := 31 }).wf = true := by
  decide +kernel

/-- The opcode table gives no row bits, so that no word spells a command. -/
theorem test_no_word_decodes (n w : Nat) (s : State) : decodeTableWord n w = none ∧ s.withFetchWord n w = s :=
  ⟨rfl, rfl⟩

end Sys2Proof.Machine.Tests
end

section
/-!
PROOFS. Which units a command leaves alone, and the bounds of Field Time (R18, R23, R26, R32).
-/
namespace Sys2Proof.Machine

/-- Every command answers a next state that differs only in the units it may touch: the frame of each command's own
function, collected over the commands. -/
theorem exec_goes_touches (c : Instr) (s : State) : Goes (touches c) s (exec c s) := by
  cases c <;> simp [exec, touches]

/-- A command that may not touch Field Time's unit leaves it as it is. -/
theorem exec_time_of_untouched {c : Instr} {s t : State} (hc : (touches c).time = false) (h : exec c s = .next t) :
    t.time = s.time := by
  obtain ⟨u, hu, hm⟩ := exec_goes_touches c s
  obtain rfl : t = u := by simpa [h] using hu
  exact mask_time hm hc

/-- Each command that may touch Field Time's unit keeps it in its bounds. -/
theorem exec_timeGoes_of_touched {c : Instr} {s : State} (hc : (touches c).time = true)
    (h : TimeKept (mask timeUnits s)) : TimeGoes (exec c s) := by
  cases c
  case timeInEdge => exact execTimeInEdge_time _ _ _ h
  case disciplineIntervalEnd => exact execDisciplineIntervalEnd_time _ h
  case stepInstant => exact execStepInstant_time _ h
  case tpOutPulse => exact execTpOutPulse_time _ h
  case tpOutPulseEnd => exact execTpOutPulseEnd_time _ h
  case holdoverLimit => exact execHoldoverLimit_time _ _ h
  case ocxoWarm => exact execOcxoWarm_time _ h
  case kdTimeStepConfirm => exact execKdTimeStepConfirm_time _ _ _ h
  case ftSnap => exact execFtSnap_time _ _ h
  case gnssEpoch => exact execGnssEpoch_time _ _ h
  case canWakePattern => exact execCanWakePattern_time _ _ _ h
  case modemRing => exact execModemRing_time _ _ h
  case vbatConnect => exact execVbatConnect_time _ _ _ _ h
  case supplyFall => exact execSupplyFall_time _ _ _ _ h
  case supplyReturn => exact execSupplyReturn_time _ _ _ _ h
  case holdupReturnDeadline => exact execHoldupReturnDeadline_time _ _ h
  case holdupComplete => exact execHoldupComplete_time _ _ _ h
  case railFault => exact execRailFault_time _ _ _ _ _ h
  case ignHigh => exact execIgnHigh_time _ _ h
  case ignLow => exact execIgnLow_time _ _ h
  case hostWake => exact execHostWake_time _ _ h
  case wakeTimer => exact execWakeTimer_time _ h
  case wakeServeExpiry => exact execWakeServeExpiry_time _ h
  case keyoffSaveDone => exact execKeyoffSaveDone_time _ _ _ _ _ h
  case keyoffComplete dt mv m => exact execKeyoffComplete_time dt mv m s h
  case keepMinExpiry => exact execKeepMinExpiry_time _ h
  case keepVbatLow => exact execKeepVbatLow_time _ _ h
  -- no other command may touch the unit
  all_goals cases hc

/-- Settles O57: the commands that may touch Field Time keep its bounds, the others leave it as it is. -/
theorem timeBoundsKept : Obligations.TimeBoundsKept := by
  intro c s t hs ht
  cases hc : (touches c).time with
  | false => exact exec_time_of_untouched hc ht ▸ hs
  | true =>
    obtain ⟨u, hu, hk⟩ := (exec_timeGoes_of_touched hc ((time_kept_iff s).2 hs)).goes
    obtain rfl : t = u := by simpa [ht] using hu
    exact (time_kept_iff t).1 hk

end Sys2Proof.Machine
end

section
/-!
PROOFS. The state at reset (R19, R52, R70, R469, R511, R512, R521, R543).
-/
namespace Sys2Proof.Machine

/-- Settles O59: at reset the rates are 0, `TIME_OK` is low, the base addresses are 0 and no pixel has charge. -/
theorem invariantsAtReset : Obligations.InvariantsAtReset := by
  refine ⟨?_, ?_, ?_⟩
  · unfold TimeU.inBounds
    decide
  · unfold Bar.inBounds
    decide
  · intro i _
    simp [show State.reset.disp.accPlus = 0 from rfl, show State.reset.disp.accMinus = 0 from rfl]

/-- Settles O60: the values of reset, unit by unit; each table is one element repeated. -/
theorem resetState : Obligations.ResetState := by
  unfold Obligations.ResetState
  intro s
  refine ⟨rfl, rfl, rfl, rfl, rfl, rfl, rfl, rfl, rfl, rfl, ⟨rfl, ?_⟩, ⟨rfl, ?_⟩, ⟨rfl, ?_⟩, rfl⟩
  · intro r hr
    obtain rfl := List.eq_of_mem_replicate hr
    exact ⟨rfl, rfl, rfl⟩
  · intro r hr
    obtain rfl := List.eq_of_mem_replicate hr
    exact ⟨rfl, rfl, rfl⟩
  · intro v hv
    obtain rfl := List.eq_of_mem_replicate hv
    exact ⟨rfl, rfl⟩

end Sys2Proof.Machine
end

section
/-!
PROOFS. The Field Time step (R26, R27, R30, R541): of all that a step moves, `stepTime` alone changes Field Time's unit
and the clocks.
-/
namespace Sys2Proof.Machine

/-- Every unit but Field Time's own and the clocks. -/
def clockUnits : Units := { timeUnits with now := false }

/-- Where only such units differ, Field Time's unit and the clocks are the same. -/
theorem time_now_of_mask {s t : State} (h : mask clockUnits t = mask clockUnits s) : t.time = s.time ∧ t.now = s.now :=
  ⟨mask_time h rfl, mask_now h rfl⟩

/-- A step leaves Field Time's unit and the clocks as `stepTime` leaves them, though the passage engine, which it
steps too, may draw a free value. -/
theorem takeStep_clocks (k : Step) (s : State) :
    (takeStep k s).time = (stepTime k s).time ∧ (takeStep k s).now.ft = (stepTime k s).now.ft
      ∧ (takeStep k s).now.el = (stepTime k s).now.el := by
  unfold takeStep
  extract_lets s1 s2 s3 s4 s5 s6 s7
  obtain ⟨t2, n2⟩ : s2.time = s.time ∧ s2.now = s.now := time_now_of_mask (by simp [s2, s1, clockUnits])
  have t3 : s3.time = s2.time := mask_time (U := timeUnits) (by simp [s3]) rfl
  obtain ⟨f3, e3⟩ : s3.now.ft = s2.now.ft ∧ s3.now.el = s2.now.el := passStep_clock k.amt k.at_ s2
  obtain ⟨t6, n6⟩ : s6.time = s3.time ∧ s6.now = s3.now := time_now_of_mask (by simp [s6, s5, s4, clockUnits])
  obtain ⟨t7, n7⟩ := time_now_of_mask (s := stepTime k s6)
    (t := timeStatus k.at_ (raiseX 29 0xFFFF 0 0 [] k.at_ k.at_ s7)) (by simp [s7, clockUnits])
  rw [t7, n7]
  simp [stepTime, t6, t3, t2, n6, f3, e3, n2]

/-- A fixed step is taken when Field Time reaches its instant (R26). -/
theorem execStepInstant_of_fixed {s : State} {a : Int} {t : Nat} (hw : awake s = true)
    (hf : s.time.fixedStep = some (a, t)) :
    execStepInstant s = .next (takeStep ⟨t, a, ((t : Int) + a).toNat⟩ (reach t s)) := by
  simp [execStepInstant, hf, hw]

/-- Settles O6: the clocks after the step are those of `stepTime` at the step instant, and neither reduction modulo
2^64 acts, as the instant and the stepped value have 64 bits. -/
theorem stepInstantEffect : Obligations.StepInstantEffect := by
  intro s a t hw hf hle ht h0 h64
  obtain ⟨htime, hft, hel⟩ := takeStep_clocks ⟨t, a, ((t : Int) + a).toNat⟩ (reach t s)
  refine ⟨_, execStepInstant_of_fixed hw hf, ?_, hel, ?_⟩
  · have hm : max s.now.ft t % 2 ^ 64 = t := by rw [Nat.max_eq_right hle, Nat.mod_eq_of_lt ht]
    rw [hft]
    simp only [stepTime, State.upTime_now, State.upNow_now, reach_now, goto_ft, hm]
    omega
  · rw [htime]
    simp [stepTime]

end Sys2Proof.Machine
end

section
/-!
PROOFS. The other commands of Field Time: the edges on TIME_IN (R33, R34), the discipline interval (R17), the pulse,
the limits and the confirmation of a step (R22, R24, R31, R41).
-/
namespace Sys2Proof.Machine

/-- Settles O3: the tests of R33 and R34 in their order, over settings that time does not change. -/
theorem timeInEdgeEffect : Obligations.TimeInEdgeEffect := by
  intro dt rising s s1 mode near gap x noted selected
  have hign : (mode = 0 ∨ rising = decide (cfg s 0x0101 0 0x2A 1 = 1) ∨ !awake s) ↔ ¬selected := by
    simp only [selected, ne_eq, Decidable.not_and_iff_not_or_not, Decidable.not_not, Bool.not_eq_true',
      Bool.not_eq_true]
  refine ⟨fun h => if_pos (hign.2 h), fun h hr => ?_, fun h hr hl => ?_, fun h hr hl => ?_⟩
  all_goals refine (if_neg (fun hi => hign.1 hi h)).trans ?_
  · exact if_pos hr
  · exact (if_neg (Nat.not_lt.2 hr)).trans (if_pos hl)
  · exact (if_neg (Nat.not_lt.2 hr)).trans ((if_neg hl).trans (apply_ite Host.Outcome.next _ _ _).symm)

/-- The solution that counts where it is valid (R17). -/
theorem intervalSol_of_valid {s : State} {v : TimeSol} (hv : s.time.sol = some v) (h4 : 4 ≤ v.sats)
    (hc : s.time.clockFail = false) : intervalSol s = some v.offset := by
  simp [intervalSol, hv, h4, hc]

/-- No solution counts where none has four satellites and a clock check that has not failed (R17). -/
theorem intervalSol_of_invalid {s : State} (h : ∀ v, s.time.sol = some v → v.sats < 4 ∨ s.time.clockFail = true) :
    intervalSol s = none := by
  unfold intervalSol
  cases hs : s.time.sol with
  | none => rfl
  | some v =>
    have hbad : (decide (4 ≤ v.sats) && !s.time.clockFail) = false := by
      rcases h v hs with h | h
      · rw [decide_eq_false (Nat.not_le.2 h), Bool.false_and]
      · rw [h, Bool.not_true, Bool.and_false]
    exact if_neg (Bool.eq_false_iff.1 hbad)

/-- The ageing monitor leaves Field Time's unit alone. -/
@[simp] theorem noteRate_time (s : State) : (noteRate s).time = s.time :=
  mask_time (noteRate_mask (U := { mar := true }) rfl s) rfl

/-- The state in which the next interval begins: the second is reached, and the solution and the failed check are
forgotten (R17). -/
def intervalBegun (s : State) : State :=
  (noteRate (reach s.time.intNext s)).upTime (fun t => { t with
    intNext := s.time.intNext + qSec, sol := none, clockFail := false })

/-- The solution that counts is that of the interval that has ended. -/
theorem intervalSol_noteRate_reach (t : Nat) (s : State) : intervalSol (noteRate (reach t s)) = intervalSol s := by
  simp [intervalSol]

/-- The end of a valid interval (R17). -/
theorem execDisciplineIntervalEnd_of_some {s : State} {x : Int} (hw : awake s = true) (hx : intervalSol s = some x) :
    execDisciplineIntervalEnd s
      = .next (timeNoted s.time (intervalValid x s.time.intNext (intervalBegun s))) := by
  simp [execDisciplineIntervalEnd, hw, intervalSol_noteRate_reach, hx, intervalBegun]

/-- The end of an invalid interval (R17). -/
theorem execDisciplineIntervalEnd_of_none {s : State} (hw : awake s = true) (hx : intervalSol s = none) :
    execDisciplineIntervalEnd s = .next (timeNoted s.time (intervalInvalid (intervalBegun s))) := by
  simp [execDisciplineIntervalEnd, hw, intervalSol_noteRate_reach, hx, intervalBegun]

/-- Settles O4: the interval is valid or not by the solution that counts, and the rest is `intervalValid` and
`intervalInvalid` as they stand. -/
theorem disciplineIntervalEffect : Obligations.DisciplineIntervalEffect := by
  intro s hw s1 s2
  exact ⟨fun v hv h4 hc => execDisciplineIntervalEnd_of_some hw (intervalSol_of_valid hv h4 hc),
    fun h => execDisciplineIntervalEnd_of_none hw (intervalSol_of_invalid h)⟩

/-- A record of Field Time leaves Field Time's unit alone. -/
@[simp] theorem timeChanged_time (s : State) : (timeChanged s).time = s.time :=
  mask_time (timeChanged_mask (U := { hub := true }) rfl s) rfl

/-- Taking a submission leaves Field Time's unit alone. -/
@[simp] theorem arrive_time (dt kind unit : Nat) (p : Post) (at_ : Nat → Nat) (s : State) :
    (arrive dt kind unit p at_ s).1.time = s.time := by rfl

/-- TP_OUT falls 100 ms after it rose (R31). -/
theorem execTpOutPulseEnd_of_high {s : State} (h : s.time.tpOut = true) :
    execTpOutPulseEnd s = .next ((reachEl s.time.tpEnd s).upTime (fun t => { t with tpOut := false })) := by
  simp [execTpOutPulseEnd, h]

/-- The state in which TP_OUT has risen at its GPS second (R31, R32). -/
def pulseRisen (s : State) : State :=
  (reach s.time.tpNext s).upTime (fun t => { t with
    tpOut := true, tpEnd := (reach s.time.tpNext s).now.el + 100 * qMs, timeOk := t.state == .locked
    tpNext := s.time.tpNext + qSec })

/-- A pulse at the instant of a step leaves the record of that instant to the step (R40). -/
theorem execTpOutPulse_of_step {s : State} {x : Int} (hw : awake s = true)
    (hf : s.time.fixedStep = some (x, s.time.tpNext)) : execTpOutPulse s = .next (pulseRisen s) := by
  simp [execTpOutPulse, pulseRisen, hw, hf]

/-- A pulse at an instant without a step delivers KD_TIME_STATUS (R40). -/
theorem execTpOutPulse_of_no_step {s : State} (hw : awake s = true)
    (hf : ∀ x, s.time.fixedStep ≠ some (x, s.time.tpNext)) :
    execTpOutPulse s = .next (timeStatus s.time.tpNext (pulseRisen s)) := by
  cases hs : s.time.fixedStep with
  | none => simp [execTpOutPulse, pulseRisen, hw, hs]
  | some y =>
    have hy : y.2 ≠ s.time.tpNext := fun e => hf y.1 (by rw [hs, ← e])
    simp [execTpOutPulse, pulseRisen, hw, hs, hy]

/-- HOLDOVER beyond its limit becomes FREE; the uncertainty goes on from what it has grown to (R22). -/
theorem execHoldoverLimit_of_beyond {dt : Nat} {s : State} (hs : s.time.state = .holdover)
    (hu : cfg s 0x0101 0 0x24 4 * 1000 < uncertPs (tick dt s)) :
    execHoldoverLimit dt s = .next (timeChanged (timeTo .free ((tick dt s).upTime (fun t => { t with
      u0 := min maxPs (t.u0 + growthPs t.uHold ((tick dt s).now.el - t.uAt)), uAt := (tick dt s).now.el
      uHold := false })))) :=
  if_pos ⟨hs, hu⟩

/-- Ten minutes after power the OCXO counts as warm (R22). -/
theorem execOcxoWarm_of_cold {s : State} (hw : awake s = true) (ho : s.time.ocxoWarm = false) :
    execOcxoWarm s
      = .next ((reachEl (s.time.ocxoOnAt + 600 * qSec) s).upTime (fun t => { t with ocxoWarm := true })) := by
  simp [execOcxoWarm, hw, ho]

/-- Settles O5, a command at a time; a confirmation that passes the checks meets the step that is pending as it
arrives. -/
theorem pulseAndStepCommands : Obligations.PulseAndStepCommands := by
  refine ⟨fun s => ⟨fun hw => ?_, execTpOutPulseEnd_of_high, fun dt hs hu => ?_, execOcxoWarm_of_cold⟩,
    fun dt p s hp => ?_⟩
  · exact ⟨fun x => execTpOutPulse_of_step hw, execTpOutPulse_of_no_step hw⟩
  · refine ⟨_, execHoldoverLimit_of_beyond hs hu, ?_⟩
    simp [timeTo, raise, raiseX]
  · simp only [exec, execKdTimeStepConfirm, command_passes hp, arrive_time]
    refine ⟨fun a ha hx => ?_, fun a ha hx => ?_, fun ha => ?_⟩ <;> simp only [ha]
    · rw [if_neg (Nat.not_lt.2 hx)]
      rfl
    · rw [if_pos hx]

end Sys2Proof.Machine
end

section
/-!
PROOFS. The checks, the timers and the inputs of the fusion filter (R305–R316, R324).
-/
namespace Sys2Proof.Machine

/-- What an estimate that the filter takes leaves alone: the check instant, the outputs, their count and the settings
record. -/
def Fusion.fixedByPut (f : Fusion) : Nat × List FOut × Nat × List Byte := (f.checkNext, f.outs, f.count, f.main)

theorem fixedByPut_put (f : Fusion) (e : Est) : (f.put e).fixedByPut = f.fixedByPut := by rfl

/-- Of the excluded sources those that reach the readmission count `n` are taken out, and those that are put in begin
at 0 (R313). -/
theorem run_of_mem_excl {n : Nat} {runs : List Excl} {out : List Nat} {e : Excl}
    (he : e ∈ runs.filter (fun e => !((runs.filter (fun e => decide (n ≤ e.run))).map (·.src)).contains e.src)
      ++ out.map (fun x => ⟨x, 0⟩)) : e.run = 0 ∨ e.run < n := by
  rcases List.mem_append.1 he with he | he
  · obtain ⟨hm, hb⟩ : e ∈ runs ∧ ∀ x ∈ runs, n ≤ x.run → x.src ≠ e.src := by simpa using he
    exact .inr (Nat.lt_of_not_le fun hn => hb e hm hn rfl)
  · obtain ⟨x, -, rfl⟩ := List.mem_map.1 he
    exact .inl rfl

/-- A check epoch reaches its instant, leaves no readmitted source excluded and changes no output (R311–R313). -/
theorem execFusionCheckEpoch_effect (s : State) : ∃ t, execFusionCheckEpoch s = .next t
    ∧ t.fus.checkNext = nextMul qTap s.fus.checkNext ∧ t.now.ft = max s.now.ft s.fus.checkNext % 2 ^ 64
    ∧ (∀ e ∈ t.fus.excl, e.run = 0 ∨ e.run < fld s.fus.main 0x30 2)
    ∧ t.fus.outs = s.fus.outs ∧ t.fus.count = s.fus.count ∧ t.fus.main = s.fus.main := by
  unfold execFusionCheckEpoch
  extract_lets t s0 el pulled s1 f on cmp mode clean prs cnt hits firsts out runs back s2 s3
  have hpull : f.fixedByPut = s0.fus.fixedByPut :=
    List.foldlRecOn (motive := fun (g : Fusion) => g.fixedByPut = s0.fus.fixedByPut) pulled _ rfl
      (fun g hg e _ => by
        split
        · exact hg
        · exact (fixedByPut_put g e).trans hg)
  obtain ⟨hnext, houts, hcount, hmain⟩ : f.checkNext = nextMul qTap t ∧ f.outs = s.fus.outs ∧ f.count = s.fus.count
      ∧ f.main = s.fus.main := by simpa [Fusion.fixedByPut, s0] using hpull
  have hraise : mask { hub := true } (back.foldl (fun s x => raise 48 x 0 s) s3) = mask { hub := true } s2 :=
    (mask_foldl _ (fun _ _ => by simp) back s3).trans (mask_foldl _ (fun _ _ => by simp) firsts s2)
  have hfus := mask_fus hraise rfl
  have hnow := mask_now hraise rfl
  refine ⟨_, rfl, ?_, ?_, ?_, ?_, ?_, ?_⟩
  · rw [hfus]; exact hnext
  · rw [hnow]; rfl
  · rw [hfus, ← hmain]
    exact fun e => run_of_mem_excl
  · rw [hfus]; exact houts
  · rw [hfus]; exact hcount
  · rw [hfus]; exact hmain

/-- A second without a GNSS update begins dead reckoning, with its event (R308). -/
theorem execDeadReckoningTimeout_of_alive {s : State} (h : s.fus.dead = false) :
    execDeadReckoningTimeout s
      = .next (raise 49 0xFFFF 1 ((reachEl (s.fus.gnssEl + qSec) s).upFus (fun f => { f with dead := true }))) := by
  simp [execDeadReckoningTimeout, setDead, h]

theorem execDeadReckoningTimeout_of_dead {s : State} (h : s.fus.dead = true) :
    execDeadReckoningTimeout s = .next s := by
  simp [execDeadReckoningTimeout, h]

/-- The crop edge is held for EDGE_HOLD_MS (R316). -/
theorem execEdgeHoldExpiry_of_edge {s : State} {t : Nat} (h : s.fus.edgeEl = some t) :
    execEdgeHoldExpiry s
      = .next ((reachEl (t + fld s.fus.main 0x3C 2 * qMs) s).upFus (fun f => { f with edgeEl := none })) := by
  simp [execEdgeHoldExpiry, h]

theorem execEdgeHoldExpiry_of_none {s : State} (h : s.fus.edgeEl = none) : execEdgeHoldExpiry s = .next s := by
  simp [execEdgeHoldExpiry, h]

/-- An enabled source that has been silent for a second is absent (R313). -/
theorem execSourceAbsent_of_present {s : State} {src : Fin 15} (he : s.fus.enabled src = true)
    (ha : s.fus.absent.testBit src = false) :
    execSourceAbsent src s
      = .next ((reachEl (nth 0 s.fus.seen src + qSec) s).upFus (fun f => { f with
          absent := f.absent ||| 2 ^ src.val })) := by
  simp [execSourceAbsent, he, ha]

theorem execSourceAbsent_of_not_present {s : State} {src : Fin 15}
    (h : s.fus.enabled src = false ∨ s.fus.absent.testBit src = true) : execSourceAbsent src s = .next s := by
  rcases h with h | h <;> simp [execSourceAbsent, h]

/-- Settles O37: the check epoch, the timers, and the rate window by the tests of `closeRate` in their order. -/
theorem fusionChecksEffect : Obligations.FusionChecksEffect := by
  refine ⟨execFusionCheckEpoch_effect, fun s => ⟨execDeadReckoningTimeout_of_alive,
    fun t => execEdgeHoldExpiry_of_edge, fun src => execSourceAbsent_of_present, execDeadReckoningTimeout_of_dead,
    execEdgeHoldExpiry_of_none, fun src => execSourceAbsent_of_not_present, ?_⟩⟩
  intro t rate judged s1 bad
  have hcut : (rate = 0 ∨ t ≠ s.fus.windowFrom + qSec) ↔ ¬judged := by
    simp only [judged, ne_eq, Decidable.not_and_iff_not_or_not, Decidable.not_not]
  refine ⟨fun hj => ?_, fun hj hb => ?_, fun hj hb hr => ?_, fun hj hb hr hg => ?_, fun hj hb hr hg => ?_⟩
  all_goals refine congrArg Host.Outcome.next ?_
  · exact if_pos (hcut.2 hj)
  all_goals refine (if_neg (fun hc => hcut.1 hc hj)).trans ?_
  · exact if_pos hb
  all_goals refine (if_neg hb).trans ?_
  · exact if_neg (by simp [hr])
  · exact (if_pos hr).trans (if_neg (Nat.not_le.2 (Nat.succ_lt_succ hg)))
  · exact (if_pos hr).trans (if_pos (Nat.succ_le_succ hg))

/-- Two changes of the filter that agree on the filter as it stands are one. -/
theorem upFus_congr {f g : Fusion → Fusion} {s : State} (h : f s.fus = g s.fus) : s.upFus f = s.upFus g := by
  simp [State.upFus, h]

/-- The edges of IMU_DRDY that are not counted: those of an IMU that is off, and those that DRDY_EDGE does not select
(R324). -/
theorem drdy_ignored_iff {rising : Bool} {s : State} :
    (!imu1On s || rising == decide (fld s.fus.imu 0x24 1 = 1)) = true
      ↔ imu1On s = false ∨ rising = decide (fld s.fus.imu 0x24 1 = 1) := by
  simp

/-- Such an edge lets time pass. -/
theorem execImuDrdy_of_ignored {dt : Nat} {rising : Bool} {s : State}
    (h : imu1On s = false ∨ rising = decide (fld s.fus.imu 0x24 1 = 1)) :
    execImuDrdy dt rising s = .next (tick dt s) :=
  if_pos (drdy_ignored_iff.2 h)

/-- Any other edge is counted, and starts a transfer where none runs (R37, R324). -/
theorem execImuDrdy_of_idle {dt : Nat} {rising : Bool} {s : State}
    (h : ¬(imu1On s = false ∨ rising = decide (fld s.fus.imu 0x24 1 = 1))) (ht : s.fus.transfer = none) :
    execImuDrdy dt rising s = .next ((tick dt s).upFus (fun f =>
      { f.countEdge (tick dt s).now.ft with transfer := some (s.now.el + dt) })) :=
  (if_neg (mt drdy_ignored_iff.1 h)).trans (congrArg Host.Outcome.next (upFus_congr (by simp [ht])))

/-- While a transfer runs it is counted as bad too (R37, R324). -/
theorem execImuDrdy_of_busy {dt : Nat} {rising : Bool} {s : State}
    (h : ¬(imu1On s = false ∨ rising = decide (fld s.fus.imu 0x24 1 = 1))) (ht : s.fus.transfer ≠ none) :
    execImuDrdy dt rising s = .next ((tick dt s).upFus (fun f =>
      { f.countEdge (tick dt s).now.ft with imuBad := f.imuBad + 1 })) := by
  obtain ⟨el, hel⟩ := Option.ne_none_iff_exists'.1 ht
  exact (if_neg (mt drdy_ignored_iff.1 h)).trans (congrArg Host.Outcome.next (upFus_congr (by simp [hel])))

/-- Settles O38: a fix by its stamp, an edge by the transfer that runs, and a frame by its check. -/
theorem fusionInputsEffect : Obligations.FusionInputsEffect := by
  refine ⟨fun dt p s hp => ?_, fun dt x s => rfl, fun dt rising s hon hr => ?_,
    fun dt rising s => execImuDrdy_of_ignored, fun dt frame s h => ?_, fun dt frame s el h => ?_⟩
  · simp only [exec, execKdHostFix, command_passes hp]
    exact ⟨fun h => congrArg Host.Outcome.next (if_pos h), fun h => congrArg Host.Outcome.next (if_neg h)⟩
  · have hsel : ¬(imu1On s = false ∨ rising = decide (fld s.fus.imu 0x24 1 = 1)) := by simp [hon, hr]
    exact ⟨execImuDrdy_of_idle hsel, execImuDrdy_of_busy hsel⟩
  · simp [exec, execImuTransferEnd, h]
  · simp only [exec, execImuTransferEnd, tick_fus, h]
    exact (apply_ite Host.Outcome.next _ _ _).symm

end Sys2Proof.Machine
end

section
/-!
PROOFS. What a change of one lane leaves alone (R42).
-/
namespace Sys2Proof.Machine

/-- The other lane stays. -/
@[simp] theorem laneOf_upLane_other (i : Fin 2) (f : Lane → Lane) (s : State) :
    laneOf (upLane i f s) (other i) = laneOf s (other i) := by
  revert i
  exact Fin.forall_fin_two.2 ⟨rfl, rfl⟩

/-- A change of one lane leaves the command selector alone. -/
@[simp] theorem upLane_selector (i : Fin 2) (f : Lane → Lane) (s : State) :
    (upLane i f s).lanes.selector = s.lanes.selector := by
  revert i
  exact Fin.forall_fin_two.2 ⟨rfl, rfl⟩

end Sys2Proof.Machine
end

section
/-!
PROOFS. The counts of the comparison (R46, R49, R61, R62).
-/
namespace Sys2Proof.Machine

/-- What every beat that mismatches counts (R46, R61). -/
def Lanes.countMismatch (l : Lanes) : Lanes :=
  { l with
    mismatch := min 8 (l.mismatch + 1), agree := 0, mismatchTotal := satAdd 32 l.mismatchTotal 1
    recto := { l.recto with agreeRun := 0 }, verso := { l.verso with agreeRun := 0 } }

/-- Comparison is suspended and both lanes are ordered their self-check at the elapsed instant `el` (R49). -/
def Lanes.orderSelfcheck (el : Nat) (l : Lanes) : Lanes :=
  { l with
    mismatch := 8, suspended := true, selfcheck := true, selfcheckAt := el
    recto := { l.recto with verdict := none }, verso := { l.verso with verdict := none } }

/-- The attempt of a rebuilding lane fails at the eighth mismatch (R61). -/
def failAttempt (s : State) : State :=
  if s.lanes.recto.state = .rebuilding then rebuildFails 0 s
  else if s.lanes.verso.state = .rebuilding then rebuildFails 1 s else s

/-- The branches of a beat that mismatches (R46, R49, R61, R62). -/
theorem mismatchBeat_eq (s : State) : mismatchBeat s =
    let counted := s.upLanes Lanes.countMismatch
    let failed := failAttempt (raise 10 0xFFFF 0 counted)
    if (laneOf s 0).state == .shadow || (laneOf s 1).state == .shadow then raise 17 0xFFFF 0 counted
    else if min 8 (s.lanes.mismatch + 1) < 8 then counted
    else if (laneOf failed 0).state = .off ∨ (laneOf failed 1).state = .off then failed
    else failed.upLanes (Lanes.orderSelfcheck s.now.el) := by
  rfl

/-- Some lane is Shadow, as the model tests it. -/
theorem shadow_iff {s : State} : ((laneOf s 0).state == .shadow || (laneOf s 1).state == .shadow) = true
    ↔ ∃ i, (laneOf s i).state = .shadow := by
  simp [Fin.exists_fin_two]

/-- Below 8, and with a Shadow lane, the counts are all that changes of the lanes (R46, R62). -/
theorem mismatchBeat_lanes_of_counted {s : State}
    (h : s.lanes.mismatch + 1 < 8 ∨ ∃ i, (laneOf s i).state = .shadow) :
    (mismatchBeat s).lanes = s.lanes.countMismatch := by
  rw [mismatchBeat_eq]
  by_cases hs : ∃ i, (laneOf s i).state = .shadow
  · rw [if_pos (shadow_iff.2 hs)]
    rfl
  · rw [if_neg (mt shadow_iff.1 hs), if_pos (by have := h.resolve_right hs; omega)]
    rfl

/-- The eighth mismatch where no lane is Shadow, and none is Off after the rebuilding lane's attempt has failed: the
self-check is ordered (R49, R61). -/
theorem mismatchBeat_lanes_of_eighth {s : State} (h7 : 7 ≤ s.lanes.mismatch)
    (hs : ¬∃ i, (laneOf s i).state = .shadow)
    (hoff : ∀ i, (laneOf (failAttempt (raise 10 0xFFFF 0 (s.upLanes Lanes.countMismatch))) i).state ≠ .off) :
    (mismatchBeat s).lanes
      = (failAttempt (raise 10 0xFFFF 0 (s.upLanes Lanes.countMismatch))).lanes.orderSelfcheck s.now.el := by
  rw [mismatchBeat_eq]
  simp only
  rw [if_neg (mt shadow_iff.1 hs), if_neg (by omega), if_neg (not_or.2 ⟨hoff 0, hoff 1⟩)]
  rfl

/-- An attempt that fails with another one left sets the lane out anew and forgets the mismatches (R61). -/
theorem rebuildFails_lanes_of_left {i : Fin 2} {s : State} (h : (laneOf s i).attempt < 3) :
    (rebuildFails i s).lanes
      = { s.lanes with mismatch := 0 }.upLane i (fun l => l.setOut (l.attempt + 1) false s) := by
  unfold rebuildFails
  rw [if_pos h]
  rfl

/-- With attempts left, a failed attempt leaves the lanes' states, the totals and the runs that are at 0. -/
theorem failAttempt_kept {s : State} (h : ∀ i, (laneOf s i).state = .rebuilding → (laneOf s i).attempt < 3)
    (hr : s.lanes.recto.agreeRun = 0) (hv : s.lanes.verso.agreeRun = 0) :
    (∀ i, (laneOf (failAttempt s) i).state = (laneOf s i).state)
    ∧ (failAttempt s).lanes.agree = s.lanes.agree ∧ (failAttempt s).lanes.mismatchTotal = s.lanes.mismatchTotal
    ∧ (failAttempt s).lanes.recto.agreeRun = 0 ∧ (failAttempt s).lanes.verso.agreeRun = 0 := by
  obtain ⟨h0, h1⟩ := Fin.forall_fin_two.1 h
  simp only [Fin.forall_fin_two, laneOf, failAttempt]
  split
  · next hs =>
    rw [rebuildFails_lanes_of_left (h0 hs)]
    exact ⟨⟨rfl, rfl⟩, rfl, rfl, rfl, hv⟩
  · split
    · next hs =>
      rw [rebuildFails_lanes_of_left (h1 hs)]
      exact ⟨⟨rfl, rfl⟩, rfl, rfl, hr, rfl⟩
    · exact ⟨⟨rfl, rfl⟩, rfl, rfl, hr, hv⟩

/-- Settles O16: below 8 or with a Shadow lane a mismatch only counts, and at the eighth no lane is Off when the
self-check is ordered, as a rebuilding lane has an attempt left. -/
theorem mismatchCounts : Obligations.MismatchCounts := by
  intro s
  refine ⟨⟨rfl, rfl, rfl, rfl, rfl⟩, ?_⟩
  intro t hl
  by_cases hc : s.lanes.mismatch + 1 < 8 ∨ ∃ i, (laneOf s i).state = .shadow
  · rw [show t.lanes = s.lanes.countMismatch from mismatchBeat_lanes_of_counted hc]
    refine ⟨rfl, rfl, rfl, rfl, rfl, fun _ => ⟨rfl, rfl⟩, fun h7 hs => ?_⟩
    rcases hc with hc | ⟨i, hi⟩
    · exact absurd hc (by omega)
    · exact absurd hi (hs i)
  · obtain ⟨h8, hs⟩ := not_or.1 hc
    let u := raise 10 0xFFFF 0 (s.upLanes Lanes.countMismatch)
    have hleft : ∀ i, (laneOf u i).state = .rebuilding → (laneOf u i).attempt < 3 :=
      Fin.forall_fin_two.2 ⟨(hl 0).2, (hl 1).2⟩
    obtain ⟨hstate, hagree, htotal, hrecto, hverso⟩ := failAttempt_kept hleft rfl rfl
    have hoff : ∀ i, (laneOf (failAttempt u) i).state ≠ .off :=
      Fin.forall_fin_two.2 ⟨fun e => (hl 0).1 ((hstate 0).symm.trans e), fun e => (hl 1).1 ((hstate 1).symm.trans e)⟩
    rw [show t.lanes = (failAttempt u).lanes.orderSelfcheck s.now.el from
      mismatchBeat_lanes_of_eighth (by omega) hs hoff]
    have h8 : (8 : Nat) = min 8 (s.lanes.mismatch + 1) := by omega
    exact ⟨h8, hagree, htotal, hrecto, hverso, fun h => absurd h hc, fun _ _ => ⟨rfl, rfl, rfl, rfl, rfl⟩⟩

end Sys2Proof.Machine
end

section
/-!
PROOFS. Heartbeats and the start of a lane (R47, R48, R52, R53, R449, R450, R539).
-/
namespace Sys2Proof.Machine

/-- What a valid heartbeat `h` at the elapsed instant `el` changes of its lane (R47, R51). -/
def Lane.heard (h : Heartbeat) (el : Nat) (l : Lane) : Lane :=
  { l with hbBeat := some h.beat, hbAt := el, hbBeats := l.hbBeats + 10, hbState := h.state, hbPass := h.verdictPass
           known := true }

/-- A valid heartbeat is noted, and the first one since the release starts the lane (R47, R539). -/
theorem execHeartbeat_of_valid {dt : Nat} {i : Fin 2} {h : Heartbeat} {s : State} (hserving : s.pow.state = .serving)
    (hheard : s.lanes.silent = false) (hstate : (laneOf s i).state ≠ .off) (hreset : (laneOf s i).inReset = false)
    (hcrc : h.crcOk = true) (hnew : ∀ b, (laneOf s i).hbBeat = some b → b < h.beat) :
    execHeartbeat dt i h s =
      let noted := upLane i (Lane.heard h (s.now.el + dt)) (tick dt s)
      .next (if (laneOf s i).started then noted
        else laneStarts i ⟨h.major, h.minor, h.patch, h.format⟩ noted) := by
  refine Eq.trans ?_ (apply_ite Host.Outcome.next _ _ _).symm
  refine if_neg ?_
  cases hb : (laneOf s i).hbBeat with
  | none => simp [hb, hserving, hheard, hstate, hreset, hcrc]
  | some b => simp [hb, hserving, hheard, hstate, hreset, hcrc, hnew b hb]

/-- A heartbeat with a wrong CRC, one that is not newer and one that a silent Curator does not hear let time pass. -/
theorem execHeartbeat_of_invalid {dt : Nat} {i : Fin 2} {h : Heartbeat} {s : State}
    (hbad : h.crcOk = false ∨ (∃ b, (laneOf s i).hbBeat = some b ∧ h.beat ≤ b) ∨ s.lanes.silent = true) :
    execHeartbeat dt i h s = .next (tick dt s) := by
  refine if_pos ?_
  rcases hbad with hcrc | ⟨b, hb, hle⟩ | hsilent
  · simp [hcrc]
  · simp [hb, Nat.not_lt.2 hle]
  · simp [hsilent]

/-- A lane that runs has failed once its last valid heartbeat lies 2.91 ms back (R48). -/
theorem execHeartbeatTimeout_of_late {dt : Nat} {i : Fin 2} {s : State} (hheard : s.lanes.silent = false)
    (hoff : (laneOf s i).state ≠ .off) (hboot : (laneOf s i).state ≠ .booting)
    (hlate : (laneOf s i).hbAt + 2910 * qUs ≤ s.now.el + dt) :
    execHeartbeatTimeout dt i s = .next (laneFails i true (tick dt s)) :=
  if_neg (by simp [hheard, hoff, hboot, hlate])

/-- 3.5 s after W the preference ends, and a lane that has started, Recto first, becomes Active (R53). -/
theorem execPreferredLaneTimeout_of_waiting {s : State} {w : Nat} (hw : s.lanes.startW = some w) :
    execPreferredLaneTimeout s =
      let ended := (reachEl (w + 3500 * qMs) s).upLanes (fun l => { l with preferOver := true })
      .next (if s.lanes.recto.started ∧ s.lanes.recto.state = .booting then becomeActive 0 ended
        else if s.lanes.verso.started ∧ s.lanes.verso.state = .booting then becomeActive 1 ended else ended) := by
  simp only [execPreferredLaneTimeout, hw, apply_ite Host.Outcome.next]
  simp [laneOf, Lanes.lane]

/-- A lane whose start is awaited: Booting, with no valid heartbeat yet, not held in reset (R539). -/
theorem not_awaited_iff {l : Lane} : (l.state ≠ .booting ∨ l.started = true ∨ l.inReset = true)
    ↔ ¬(l.state = .booting ∧ l.started = false ∧ l.inReset = false) := by
  simp only [ne_eq, Decidable.not_and_iff_not_or_not, Bool.not_eq_false]

/-- Settles O14: a heartbeat by its validity, a timeout by its condition, and an image by its hash. -/
theorem laneStartEffect : Obligations.LaneStartEffect := by
  refine ⟨fun dt i s => ⟨fun h => execHeartbeat_of_valid, fun h => execHeartbeat_of_invalid,
    execHeartbeatTimeout_of_late⟩, fun dt i s => ⟨fun w => execPreferredLaneTimeout_of_waiting, ?_⟩⟩
  intro l hstate hstarted hreset
  have hawaited : ¬(l.state ≠ .booting ∨ l.started = true ∨ l.inReset = true) :=
    fun h => not_awaited_iff.1 h ⟨hstate, hstarted, hreset⟩
  exact ⟨if_neg hawaited, (if_neg hawaited).trans (if_pos rfl), (if_neg hawaited).trans (if_neg (by decide))⟩

end Sys2Proof.Machine
end

section
/-!
PROOFS. Signatures (R46, R49, R61, R62).
-/
namespace Sys2Proof.Machine

/-- Of the signatures that wait, the latest 16 are kept (R46). -/
theorem Lane.hold_eq (l : Lane) (k : Nat) (v : Option Nat) : l.hold k v =
    { l with sigs := if l.sigs.length < 16 then l.sigs ++ [(k, v)] else (l.sigs ++ [(k, v)]).drop 1 } := by
  unfold Lane.hold
  split <;> rfl

/-- Signatures are compared where both lanes sign, and comparison is neither suspended nor silent (R46, R49, R51). -/
theorem not_compares_iff {i : Fin 2} {s : State} :
    (!signing s i || !signing s (other i) || s.lanes.suspended || s.lanes.silent) = true
      ↔ ¬(signing s i = true ∧ signing s (other i) = true ∧ s.lanes.suspended = false ∧ s.lanes.silent = false) := by
  simp only [Bool.or_eq_true, Bool.not_eq_true', Decidable.not_and_iff_not_or_not, Bool.not_eq_true,
    Bool.not_eq_false, or_assoc]

/-- Settles O15: what the other lane has sent for the beat decides. -/
theorem signatureEffect : Obligations.SignatureEffect := by
  intro dt i beat sig ok s s1 compares k theirs earlier s2 kept
  refine ⟨fun hc => ?_, fun hc => if_pos (not_compares_iff.2 hc)⟩
  have hkept : ∀ v t, upLane i (fun l => l.hold k v) t = kept v t := by
    intro v t
    simp only [kept, Lane.hold_eq]
  have hpair : exec (.signature dt i beat sig ok) s = .next (match theirs.find? (fun x => x.1 == k) with
      | some (_, some v) => if ok = false then absentBeats 1 s2 else if v = sig then agreeBeat s2 else mismatchBeat s2
      | some (_, none) => s2
      | none => if ok then kept (some sig) s2 else kept none (absentBeats 1 s2)) := by
    refine (if_neg (mt not_compares_iff.1 (not_not_intro hc))).trans ?_
    simp only [← hkept]
    change (match theirs.find? (fun x => x.1 == k) with | some (_, some _) => _ | some (_, none) => _ | none => _) = _
    generalize theirs.find? _ = found
    cases ok <;> rcases found with _ | ⟨_, _ | _⟩ <;> rfl
  exact ⟨fun v hv => by rw [hpair, hv], fun hv => by rw [hpair, hv], fun hv => by rw [hpair, hv]⟩

end Sys2Proof.Machine
end

section
/-!
PROOFS. The self-check, and the Curator's watchdog, status and silence (R49, R51, R516).
-/
namespace Sys2Proof.Machine

/-- The state in which the Curator has taken a lane's verdict: the first one that the lane gives (R49). -/
def verdictNoted (dt : Nat) (i : Fin 2) (pass : Bool) (s : State) : State :=
  upLane i (fun l => { l with verdict := some (l.verdict.getD pass) }) (tick dt s)

/-- While a self-check is ordered, a verdict is noted, and with the other lane's one the table is applied (R49). -/
theorem execSelfcheckVerdict_of_ordered {dt : Nat} {i : Fin 2} {pass : Bool} {s : State}
    (h : s.lanes.selfcheck = true) : execSelfcheckVerdict dt i pass s =
      .next (if (laneOf s (other i)).verdict.isSome then applyVerdicts (verdictNoted dt i pass s)
        else verdictNoted dt i pass s) := by
  refine (if_neg (by simp [h])).trans ?_
  rw [apply_ite Host.Outcome.next, laneOf_upLane_other, laneOf_tick]
  rfl

/-- 2.0 ms after the order the table is applied in any case (R49). -/
theorem execSelfcheckTimeout_of_ordered {s : State} (h : s.lanes.selfcheck = true) :
    execSelfcheckTimeout s = .next (applyVerdicts (reachEl (s.lanes.selfcheckAt + 2 * qMs) s)) :=
  if_neg (by simp [h])

/-- The watchdog acts in Serving and Keeping (R51). -/
theorem execCuratorWatchdog_of_awake {dt : Nat} {s : State} (h : awake s = true) :
    execCuratorWatchdog dt s =
      .next (raise 18 0xFFFF 0 ((match s.lanes.switch with | some w => refuseSwitch w (tick dt s) | none => tick dt s
        ).upLanes (fun l => { l.goSilent with
          restarted := true, mismatch := 0, agree := 0, suspended := false, selfcheck := false, switch := none
          recto := { l.recto with sigs := [], hbBeat := none, hbAt := s.now.el + dt, agreeRun := 0, known := false }
          verso := { l.verso with sigs := [], hbBeat := none, hbAt := s.now.el + dt, agreeRun := 0, known := false }
          }))) :=
  if_neg (by simp [h])

/-- A status message ends the silence, is noted by its lane, and after a silence both lanes' heartbeats are awaited
anew (R51). -/
theorem execCuratorStatus_effect (dt : Nat) (i : Fin 2) (s : State) :
    ∃ t, execCuratorStatus dt i s = .next t ∧ t.lanes.silent = false
      ∧ (laneOf t i).statusAt = s.now.el + dt ∧ (laneOf t i).linkLost = false
      ∧ (laneOf t i).state = (laneOf s i).state ∧ laneOf t (other i) =
        { laneOf s (other i) with hbAt := if s.lanes.silent then s.now.el + dt else (laneOf s (other i)).hbAt } := by
  refine ⟨_, rfl, rfl, ?_⟩
  revert i
  exact Fin.forall_fin_two.2 ⟨⟨rfl, rfl, rfl, rfl⟩, ⟨rfl, rfl, rfl, rfl⟩⟩

/-- A started lane notes the Curator's silence once, and the commanding one raises it (R51, R432). -/
theorem execCuratorLinkTimeout_of_linked {i : Fin 2} {s : State} (hs : (laneOf s i).started = true)
    (hl : (laneOf s i).linkLost = false) : execCuratorLinkTimeout i s =
      let noted := upLane i (fun l => { l with linkLost := true }) (reachEl ((laneOf s i).statusAt + 3 * qMs) s)
      .next (if s.lanes.selector = some i then raise 19 0xFFFF 0 noted else noted) := by
  refine (if_neg (by simp [hs, hl])).trans ?_
  simp only [upLane_selector, reachEl_lanes]

/-- Settles O17: the verdicts by what the other lane has reported, the watchdog, the status and the silence each by its
own command. -/
theorem selfcheckAndCuratorEffect : Obligations.SelfcheckAndCuratorEffect := by
  refine ⟨fun dt i pass s hcheck => ⟨fun hv => ?_, fun hv => ?_, execSelfcheckTimeout_of_ordered hcheck⟩,
    fun dt s => ⟨execCuratorWatchdog_of_awake, fun i => execCuratorStatus_effect dt i s,
      fun i => execCuratorLinkTimeout_of_linked⟩⟩
  · exact (execSelfcheckVerdict_of_ordered hcheck).trans (congrArg _ (if_neg (by simp [hv])))
  · exact (execSelfcheckVerdict_of_ordered hcheck).trans (congrArg _ (if_pos (Option.isSome_iff_ne_none.2 hv)))

end Sys2Proof.Machine
end

section
/-!
PROOFS. Takeover, swap and promotion (R51, R54, R55, R56, R59, R63).
-/
namespace Sys2Proof.Machine

/-- Which lane is Active is read from the lanes alone. -/
theorem activeLane_congr {s t : State} (hr : t.lanes.recto.state = s.lanes.recto.state)
    (hv : t.lanes.verso.state = s.lanes.verso.state) : activeLane t = activeLane s := by
  unfold activeLane
  rw [hr, hv]

/-- The refusal of the command that ordered a switch leaves the lanes alone. -/
@[simp] theorem refuseSwitch_lanes (w : Switch) (s : State) : (refuseSwitch w s).lanes = s.lanes :=
  mask_lanes (refuseSwitch_mask (U := { hub := true }) rfl w s) rfl

/-- The state in which an ordered switch is forgotten and the command that ordered it has ended (R54, R65). -/
def switchForgotten (w : Switch) (s : State) : State :=
  refuseSwitch w (s.upLanes (fun l => { l with switch := none }))

theorem activeLane_switchForgotten (w : Switch) (s : State) : activeLane (switchForgotten w s) = activeLane s :=
  activeLane_congr (by simp [switchForgotten]) (by simp [switchForgotten])

/-- A switch that fails is forgotten, and a takeover then leaves no lane (R54, R56). -/
theorem switchFails_eq (w : Switch) (s : State) : switchFails w s =
    match w.why, activeLane s with
    | .failure, some a => noLane a false (switchForgotten w s)
    | _, _ => switchForgotten w s := by
  rw [← activeLane_switchForgotten w s]
  rfl

/-- A takeover that fails leaves no lane (R56). -/
theorem switchFails_of_takeover {w : Switch} {s : State} {a : Fin 2} (hw : w.why = .failure)
    (ha : activeLane s = some a) : switchFails w s = noLane a false (switchForgotten w s) := by
  rw [switchFails_eq, hw, ha]

/-- A swap or a promotion that fails, and a takeover from no lane, is forgotten. -/
theorem switchFails_of_other {w : Switch} {s : State} (h : w.why ≠ .failure ∨ activeLane s = none) :
    switchFails w s = switchForgotten w s := by
  rw [switchFails_eq]
  rcases h with h | h
  · cases hw : w.why with
    | failure => exact absurd hw h
    | swap => rfl
    | promote => rfl
  · rw [h]
    cases w.why <;> rfl

/-- An acknowledgement fixes kS while the Curator is not silent (R54). -/
theorem execTakeoverAck_of_named {dt : Nat} {s : State} {w : Switch} (hw : s.lanes.switch = some w)
    (hk : w.kS = none) (h : s.lanes.silent = false) : execTakeoverAck dt w.dest s =
      .next ((tick dt s).upLanes (fun l => { l with
        switch := some { w with kS := some (beatAt ((tick dt s).now.ft + 100 * qUs)) } })) := by
  simp [execTakeoverAck, hw, hk, h]

/-- The lane that a switch names may command at kS: it is Standby, or Shadow and promoted (R54, R63). -/
def mayCommand (w : Switch) (s : State) : Prop :=
  (laneOf s w.dest).state = .standby ∨ ((laneOf s w.dest).state = .shadow ∧ w.post ≠ none ∧ w.why = .promote)

/-- While the Curator is silent the selector holds its last choice (R51). -/
theorem execSwitchBeat_of_silent {s : State} {w : Switch} {kS : Nat} (hw : s.lanes.switch = some w)
    (hk : w.kS = some kS) (h : s.lanes.silent = true) : execSwitchBeat s = .next (reach kS s) := by
  obtain ⟨why, dest, post, _⟩ := w
  subst hk
  simp only [execSwitchBeat, hw]
  exact if_pos h

/-- At kS the lane that may commands (R54, R59, R63). -/
theorem execSwitchBeat_of_eligible {s : State} {w : Switch} {kS : Nat} (hw : s.lanes.switch = some w)
    (hk : w.kS = some kS) (h : s.lanes.silent = false) (he : mayCommand w s) :
    execSwitchBeat s = .next (switchTo w kS (activeLane s) (reach kS s)) := by
  obtain ⟨why, dest, post, _⟩ := w
  subst hk
  simp only [execSwitchBeat, hw]
  exact (if_neg (by simp [h])).trans (if_pos (by simpa [mayCommand, Option.isSome_iff_ne_none] using he))

/-- At kS a lane that may not does not command (log entry 57). -/
theorem execSwitchBeat_of_ineligible {s : State} {w : Switch} {kS : Nat} (hw : s.lanes.switch = some w)
    (hk : w.kS = some kS) (h : s.lanes.silent = false) (he : ¬mayCommand w s) :
    execSwitchBeat s = .next (switchFails w (reach kS s)) := by
  obtain ⟨why, dest, post, _⟩ := w
  subst hk
  simp only [execSwitchBeat, hw]
  exact (if_neg (by simp [h])).trans (if_neg (by simpa [mayCommand, Option.isSome_iff_ne_none] using he))

/-- Settles O18: the acknowledgement, the switch by the Curator and by what the lane that it names may do, and the end
of the window as it stands. -/
theorem switchEffect : Obligations.SwitchEffect := by
  intro dt s
  refine ⟨?_, ?_, fun t o ho => by simp only [exec, execOverlapWindowEnd, ho]⟩
  · rintro w _ hw rfl hk hheard
    exact execTakeoverAck_of_named hw hk hheard
  · intro w kS hw hk s1 st eligible s2
    refine ⟨execSwitchBeat_of_silent hw hk, fun hheard => ⟨execSwitchBeat_of_eligible hw hk hheard, fun he hwhy => ?_,
      fun he hwhy o ho => ?_⟩⟩ <;> refine (execSwitchBeat_of_ineligible hw hk hheard he).trans ?_
    · exact congrArg _ (switchFails_of_other hwhy)
    · exact congrArg _ (switchFails_of_takeover hwhy ho)

end Sys2Proof.Machine
end

section
/-!
PROOFS. The rebuild of a lane and the lane commands (R52, R57, R59, R60, R61, R63, R65, R66, R540).
-/
namespace Sys2Proof.Machine

/-- A switch to lane `i`, which is in state `st`, can be ordered: from the other lane, with none ordered yet and by a
Curator who is not silent and knows the lane (R59, R63, R65). -/
def Orderable (i : Fin 2) (st : LaneState) (s : State) : Prop :=
  (laneOf s i).state = st ∧ (laneOf s (other i)).state = .active ∧ s.lanes.switch = none
    ∧ s.lanes.silent = false ∧ (laneOf s i).known = true

/-- The test of the commands is that the switch cannot be ordered. -/
theorem not_orderable_iff {i : Fin 2} {st : LaneState} {s : State} :
    ((laneOf s i).state ≠ st ∨ (laneOf s (other i)).state ≠ .active ∨ s.lanes.switch.isSome = true
      ∨ s.lanes.silent = true ∨ (laneOf s i).known = false) ↔ ¬Orderable i st s := by
  simp only [Orderable, Decidable.not_and_iff_not_or_not, ne_eq, Option.isSome_iff_ne_none,
    Bool.not_eq_false, Bool.not_eq_true]

/-- KD_LANE_SWAP, as it meets the lanes (R59, R65). -/
theorem execKdLaneSwap_of_passes {dt : Nat} {p : Post} {s : State} (hp : Passes scLaneCmd false p s) :
    let x := arrive dt 0x0203 0x0D p decideAt s
    (Orderable (laneNamed p) .standby s → s.lanes.mismatch = 0 →
      execKdLaneSwap dt p s = .next (orderSwitch .swap (laneNamed p) (some (p, x.2.acc)) x.1))
    ∧ (Orderable (laneNamed p) .standby s → s.lanes.mismatch ≠ 0 →
      execKdLaneSwap dt p s = .next (x.2.refuse 0x14 0 x.1))
    ∧ (¬Orderable (laneNamed p) .standby s → execKdLaneSwap dt p s = .next (x.2.refuse 8 0 x.1)) := by
  intro x
  simp only [execKdLaneSwap, command_passes hp]
  refine ⟨fun ho hm => ?_, fun ho hm => ?_, fun ho => ?_⟩ <;> refine congrArg Host.Outcome.next ?_
  · exact (if_neg (mt not_orderable_iff.1 (not_not_intro ho))).trans (if_neg (not_not_intro hm))
  · exact (if_neg (mt not_orderable_iff.1 (not_not_intro ho))).trans (if_pos hm)
  · exact if_pos (not_orderable_iff.2 ho)

/-- KD_LANE_PROMOTE, as it meets the lanes and the Catalogues held (R63, R65). -/
theorem execKdLanePromote_of_passes {dt : Nat} {p : Post} {s : State} (hp : Passes scLaneCmd false p s) :
    let x := arrive dt 0x0204 0x0D p decideAt s
    let l := laneOf s (laneNamed p)
    let held := s.cat.cats.any (fun c => c.format == l.ver.format)
    (Orderable (laneNamed p) .shadow s → held = true → 2000 ≤ l.hbBeats →
      execKdLanePromote dt p s = .next (orderSwitch .promote (laneNamed p) (some (p, x.2.acc)) x.1))
    ∧ (Orderable (laneNamed p) .shadow s → held = true → l.hbBeats < 2000 →
      execKdLanePromote dt p s = .next (x.2.refuse 0x15 0 x.1))
    ∧ (Orderable (laneNamed p) .shadow s → held = false →
      execKdLanePromote dt p s = .next (x.2.refuse 0x0C 0 x.1))
    ∧ (¬Orderable (laneNamed p) .shadow s → execKdLanePromote dt p s = .next (x.2.refuse 8 0 x.1)) := by
  intro x l held
  simp only [execKdLanePromote, command_passes hp]
  have hheld : (!held) = true ↔ held = false := by simp only [Bool.not_eq_true']
  refine ⟨fun ho hh hb => ?_, fun ho hh hb => ?_, fun ho hh => ?_, fun ho => ?_⟩ <;>
    refine congrArg Host.Outcome.next ?_
  · exact (if_neg (mt not_orderable_iff.1 (not_not_intro ho))).trans
      ((if_neg (mt hheld.1 (by simp [hh]))).trans (if_neg (Nat.not_lt.2 hb)))
  · exact (if_neg (mt not_orderable_iff.1 (not_not_intro ho))).trans
      ((if_neg (mt hheld.1 (by simp [hh]))).trans (if_pos hb))
  · exact (if_neg (mt not_orderable_iff.1 (not_not_intro ho))).trans (if_pos (hheld.2 hh))
  · exact if_pos (not_orderable_iff.2 ho)

/-- Neither the time until the automatic swap nor the note that it has been tried changes what it is decided by. -/
@[simp] theorem activeLane_reachEl (t : Nat) (s : State) : activeLane (reachEl t s) = activeLane s := by rfl
@[simp] theorem mayTakeOver_reachEl (t : Nat) (s : State) (i : Fin 2) :
    mayTakeOver (reachEl t s) i = mayTakeOver s i := by rfl
@[simp] theorem activeLane_autoDone (s : State) :
    activeLane (s.upLanes (fun l => { l with autoDone := true })) = activeLane s := by rfl
@[simp] theorem mayTakeOver_autoDone (s : State) (i : Fin 2) :
    mayTakeOver (s.upLanes (fun l => { l with autoDone := true })) i = mayTakeOver s i := by rfl
@[simp] theorem cfg_autoDone (s : State) (kind key off size : Nat) :
    cfg (s.upLanes (fun l => { l with autoDone := true })) kind key off size = cfg s kind key off size := by rfl

/-- The state 10 min after the first Standby-ready at `t`, in which the automatic swap has been tried (R59). -/
def autoTried (t : Nat) (s : State) : State :=
  (reachEl (t + 600 * qSec) s).upLanes (fun l => { l with autoDone := true })

/-- Beside an Active lane the automatic swap is ordered where its conditions hold (R59). -/
theorem execAutoSwap_of_active {s : State} {t : Nat} {a : Fin 2} (ht : s.lanes.firstStandby = some t)
    (hd : s.lanes.autoDone = false) (ha : activeLane s = some a) : execAutoSwap s =
      .next (if cfg s 0x0201 0 0x21 1 = 1 ∧ mayTakeOver s a ∧ s.lanes.mismatch = 0 ∧ s.lanes.switch = none
        ∧ s.lanes.silent = false then orderSwitch .swap (other a) none (autoTried t s) else autoTried t s) := by
  simp [execAutoSwap, ht, hd, ha, autoTried, apply_ite Host.Outcome.next]

/-- Without an Active lane it is given up (log entry 73). -/
theorem execAutoSwap_of_none {s : State} {t : Nat} (ht : s.lanes.firstStandby = some t)
    (hd : s.lanes.autoDone = false) (ha : activeLane s = none) : execAutoSwap s = .next (autoTried t s) := by
  simp [execAutoSwap, ht, hd, ha, autoTried]

/-- CHECKPOINT_REQUEST, with an Active lane: kC is the beat that it names after the request (R60). -/
theorem execCheckpointRequest_of_phase {dt ahead : Nat} {i : Fin 2} {s : State} (ha : activeLane s ≠ none)
    (hp : inPhase s i .none = true) : execCheckpointRequest dt i ahead s
      = .next (upLane i (fun l => { l with
          phase := .requested, kC := nextMul qBeat (tick dt s).now.ft + (ahead - 1) * qBeat }) (tick dt s)) :=
  if_pos (Bool.and_eq_true_iff.2 ⟨hp, Option.isSome_iff_ne_none.2 ha⟩)

/-- CHECKPOINT_CAPTURE, with an Active lane: its complete state as it stands at kC (R60). -/
theorem execCheckpointCapture_of_phase {i : Fin 2} {s : State} (ha : activeLane s ≠ none)
    (hp : inPhase s i .requested = true) : execCheckpointCapture i s
      = .next (upLane i (fun l => { l with
          phase := .captured, ckpt := some (enginesOf (reach (laneOf s i).kC s)) }) (reach (laneOf s i).kC s)) :=
  if_pos (Bool.and_eq_true_iff.2 ⟨hp, Option.isSome_iff_ne_none.2 ha⟩)

/-- CHECKPOINT_RECEIVED (R540). -/
theorem execCheckpointReceived_of_phase {dt : Nat} {i : Fin 2} {s : State} (hp : inPhase s i .captured = true) :
    execCheckpointReceived dt i s = .next (upLane i (fun l => { l with phase := .received }) (tick dt s)) :=
  congrArg _ (if_pos hp)

/-- CHECKPOINT_LOADED: the checkpoint becomes the lane's own state (R60, R540). -/
theorem execCheckpointLoaded_of_phase {dt : Nat} {i : Fin 2} {s : State} (hp : inPhase s i .received = true) :
    execCheckpointLoaded dt i s
      = .next (upLane i (fun l => { l with phase := .replaying, own := l.ckpt, ckpt := none }) (tick dt s)) :=
  congrArg _ (if_pos hp)

/-- REPLAY_JOINS_LIVE: the lane begins with no agreeing beat (R60, R61). -/
theorem execReplayJoinsLive_of_phase {dt : Nat} {i : Fin 2} {s : State} (hp : inPhase s i .replaying = true) :
    execReplayJoinsLive dt i s
      = .next (upLane i (fun l => { l with
          phase := .live, agreeRun := 0, sigs := [], journal := none, own := none }) (tick dt s)) :=
  congrArg _ (if_pos hp)

/-- A rebuild that is not live fails its attempt when its journal fills (R61). -/
theorem execJournalFull_of_not_live {dt : Nat} {i : Fin 2} {s : State} (hs : (laneOf s i).state = .rebuilding)
    (hp : (laneOf s i).phase ≠ .live) : execJournalFull dt i s = .next (rebuildFails i (tick dt s)) :=
  congrArg _ (if_pos ⟨hs, hp⟩)

/-- It fails too 30 s after B0 (R61). -/
theorem execRebuildTimeout_of_not_live {i : Fin 2} {s : State} (hs : (laneOf s i).state = .rebuilding)
    (hp : (laneOf s i).phase ≠ .live) :
    execRebuildTimeout i s = .next (rebuildFails i (reachEl ((laneOf s i).b0 + 30 * qSec) s)) :=
  congrArg _ (if_pos ⟨hs, hp⟩)

/-- 2 000 agreeing beats in a row make a live rebuild Standby (R52, R61). -/
theorem execStandbyReady_of_agreed {i : Fin 2} {s : State} (hs : (laneOf s i).state = .rebuilding)
    (hp : (laneOf s i).phase = .live) (hr : 2000 ≤ (laneOf s i).agreeRun) : execStandbyReady i s
      = .next (laneStatus ((laneTo i .standby (upLane i (fun l => { l with attempt := 0 }) s)).upLanes (fun l =>
          { l with firstStandby := l.firstStandby.or (some s.now.el) }))) :=
  if_pos ⟨hs, hp, hr⟩

/-- A path that has not accepted its first command within a beat is found silent (R57). -/
theorem execOutputPathCheck_of_tried {dt : Nat} {n : Fin 4} {s : State} {x : OutPath × Nat}
    (hx : s.lanes.tried.find? (fun x => x.1 == nth OutPath.valve [.valve, .dq, .can, .modem] n) = some x) :
    execOutputPathCheck dt n s =
      let path := nth OutPath.valve [.valve, .dq, .can, .modem] n
      let s2 := reachEl (x.2 + qBeat) (tick dt s)
      .next (raiseX 16 0xFFFF 0 3 [] s2.now.ft s2.now.ft (s2.upLanes (fun l => { l with
          unproven := l.unproven.filter (· != path), tried := l.tried.filter (fun x => x.1 != path)
          deadPaths := l.deadPaths ++ [path] }))) := by
  simp only [execOutputPathCheck, tick_lanes, hx]

/-- A path that has had no command is not judged (R57). -/
theorem execOutputPathCheck_of_untried {dt : Nat} {n : Fin 4} {s : State}
    (hx : s.lanes.tried.find? (fun x => x.1 == nth OutPath.valve [.valve, .dq, .can, .modem] n) = none) :
    execOutputPathCheck dt n s = .next (tick dt s) := by
  simp only [execOutputPathCheck, tick_lanes, hx]

/-- Settles O19: a step of a rebuild by its phase, a host's command and the automatic swap by whether the switch can be
ordered, a path by its first command. -/
theorem laneCommandsEffect : Obligations.LaneCommandsEffect := by
  refine ⟨fun dt i s => ⟨fun ha => ⟨fun _ => execCheckpointRequest_of_phase ha, execCheckpointCapture_of_phase ha⟩,
      execCheckpointReceived_of_phase, execCheckpointLoaded_of_phase, execReplayJoinsLive_of_phase,
      fun hs hp => ⟨execJournalFull_of_not_live hs hp, execRebuildTimeout_of_not_live hs hp⟩,
      execStandbyReady_of_agreed⟩,
    fun dt p s => ⟨fun hp => ⟨execKdLaneSwap_of_passes hp, execKdLanePromote_of_passes hp⟩,
      fun t ht hd => ⟨fun a ha hon hst hkn hm hsw hsl => ?_, fun h => ?_⟩,
      fun n => ⟨fun x => execOutputPathCheck_of_tried, execOutputPathCheck_of_untried⟩,
      fun hserving => if_neg (not_not_intro hserving)⟩⟩
  · have hable : mayTakeOver s a = true := by simp [mayTakeOver, hst, hkn]
    exact (execAutoSwap_of_active ht hd ha).trans (congrArg _ (if_pos ⟨hon, hable, hm, hsw, hsl⟩))
  · cases ha : activeLane s with
    | none => exact execAutoSwap_of_none ht hd ha
    | some a =>
      have hoff : cfg s 0x0201 0 0x21 1 ≠ 1 := h.resolve_right (by simp [ha])
      exact (execAutoSwap_of_active ht hd ha).trans (congrArg _ (if_neg (fun hc => hoff hc.1)))

end Sys2Proof.Machine
end

section
/-!
PROOFS. The beat boundary and the close of its batch (R45, R47, R115, R172, R173, R471).
-/
namespace Sys2Proof.Machine

/-- Settles O20: in Serving both commands do what R45 and R172 give, in the order of the statement. -/
theorem beatEffect : Obligations.BeatEffect := by
  intro s hserving
  exact ⟨if_neg (not_not_intro hserving), if_neg (not_not_intro hserving)⟩

end Sys2Proof.Machine
end

section
/-!
PROOFS. Link events (R67, R68, R95).
-/
namespace Sys2Proof.Machine

/-- A link trains that is down or whose device sleeps, in Serving with PERST released (R67). -/
theorem trains_iff {s : State} :
    ¬(s.pow.state ≠ .serving ∨ s.pow.perst = true ∨ (s.hub.link.up = true ∧ s.hub.link.d3hot = false))
      ↔ s.pow.state = .serving ∧ s.pow.perst = false ∧ (s.hub.link.up = false ∨ s.hub.link.d3hot = true) := by
  simp only [not_or, Decidable.not_not, ne_eq, Bool.not_eq_true, Decidable.not_and_iff_not_or_not, Bool.not_eq_false]

/-- On a live link a training at another rate or width is reported with CAUSE 3 (R95). -/
theorem execLinkRateChange_of_live {dt speed width : Nat} {l1 : Bool} {s : State} (hlive : linkLive s = true) :
    execLinkRateChange dt speed width l1 s =
      let noted := upLink (fun l => { l with
        speed := speed, width := width, trained := (speed, width), l1 := l1 }) (tick dt s)
      .next (if s.hub.link.speed = speed ∧ s.hub.link.width = width then noted
        else linkStatus 3 (beatAt noted.now.ft) noted) := by
  have hchanged : (decide (s.hub.link.speed ≠ speed) || decide (s.hub.link.width ≠ width)) = true
      ↔ ¬(s.hub.link.speed = speed ∧ s.hub.link.width = width) := by
    simp only [Bool.or_eq_true, decide_eq_true_eq, ne_eq, Decidable.not_and_iff_not_or_not]
  refine (if_neg (by simp [hlive])).trans (congrArg Host.Outcome.next ?_)
  exact (ite_congr (propext hchanged) (fun _ => rfl) (fun _ => rfl)).trans (ite_not ..)

/-- Settles O7: each event acts in the state of the link that its rule names. -/
theorem linkEventsEffect : Obligations.LinkEventsEffect := by
  intro dt s s1 gone
  refine ⟨fun speed width l1 hserving hperst hdown => ?_, fun hserving hup => ?_, fun hlive => ?_⟩
  · exact if_neg (trains_iff.2 ⟨hserving, hperst, hdown⟩)
  · exact ⟨if_pos ⟨hserving, hup⟩, if_pos ⟨hserving, hup⟩, if_pos ⟨hserving, hup⟩⟩
  · exact ⟨if_pos hlive, fun speed width l1 => execLinkRateChange_of_live hlive⟩

end Sys2Proof.Machine
end

section
/-!
PROOFS. Polling and the doze (R84, R85, R87, R88, R93, R512).
-/
namespace Sys2Proof.Machine

section
variable {dt : Nat} {s : State} (hlive : linkLive s = true) (hrun : s.hub.link.running = true)
include hlive hrun

/-- The first poll after a set-up or a doze (R84, R87). -/
theorem execDoorbellPoll_of_first (hawake : s.hub.link.phase = .awake) (hat : s.hub.link.pollAt = none) :
    execDoorbellPoll dt s = .next (upLink (fun l => { l with
      pollUs := s.bar.dbPollUs, pollAt := some ((tick dt s).now.el + s.bar.dbPollUs * qUs)
      pollsIssued := l.pollsIssued + 1 }) (tick dt s)) := by
  simp [execDoorbellPoll, hlive, hrun, hawake, hat]

/-- A later poll comes at the instant that the one before it has set (R84, R512). -/
theorem execDoorbellPoll_of_next {t : Nat} (hawake : s.hub.link.phase = .awake) (hat : s.hub.link.pollAt = some t) :
    execDoorbellPoll dt s = .next (upLink (fun l => { l with
      pollUs := s.bar.dbPollUs, pollAt := some ((reachEl t s).now.el + s.bar.dbPollUs * qUs)
      pollsIssued := l.pollsIssued + 1 }) (reachEl t s)) := by
  simp [execDoorbellPoll, hlive, hrun, hawake, hat]

/-- The words of the oldest outstanding poll are taken (R78, R84). -/
theorem execDoorbellReadComplete_of_outstanding {r : PageRead} (hout : s.hub.link.pollsDone < s.hub.link.pollsIssued) :
    execDoorbellReadComplete dt r s
      = .next (takeWords (s.hub.link.pollsDone + 1) r.words (upLink (fun l => { l with
          pollsDone := s.hub.link.pollsDone + 1, failRun := 0, aerCorr := satAdd 16 l.aerCorr r.corr }) (tick dt s))) :=
  if_neg (by simp [hlive, hrun, hout])

/-- The oldest outstanding poll is skipped where it fails, and the third failure in a row raises LINK_ERROR (R93). -/
theorem execDoorbellReadFail_of_outstanding {cause : DmaCause}
    (hout : s.hub.link.pollsDone < s.hub.link.pollsIssued) :
    execDoorbellReadFail dt cause s =
      let skipped := noteAer cause (upLink (fun l => { l with
        pollsDone := l.pollsDone + 1, pollFails := satAdd 16 l.pollFails 1
        failRun := if s.hub.link.failRun = 2 then 0 else s.hub.link.failRun + 1 }) (tick dt s))
      .next (if s.hub.link.failRun = 2 then raise 21 0xFFFF 0 skipped else skipped) := by
  simp [execDoorbellReadFail, hlive, hrun, hout]

/-- The read of R85 begins the doze where no word has changed, and takes the words where one has. -/
theorem execDozeCheckRead_of_checking {words : List Nat} (hcheck : s.hub.link.phase = .checking) :
    execDozeCheckRead dt words s =
      let ended := upLink (fun l => { l with failRun := 0 }) (tick dt s)
      .next (if words = s.hub.link.words then raise 26 0xFFFF 0 (upLink (fun l => { l with
          phase := .dozing, dozeCount := add32 l.dozeCount 1, pollAt := none }) ended)
        else takeWords s.hub.link.pollsDone words ended) :=
  (if_neg (by simp [hlive, hrun, hcheck])).trans (apply_ite Host.Outcome.next _ _ _).symm

end

/-- Settles O8: a poll by the instant that is set for it, a read by whether it answers, and the read of R85 by the words
that it brings. -/
theorem pollingEffect : Obligations.PollingEffect := by
  intro dt s hlive hrun s1 l
  refine ⟨fun hawake => ⟨?_, if_neg (by simp [hlive, hrun, hawake, l])⟩, fun hout => ⟨fun r => ?_, fun cause => ?_⟩,
    fun hcheck words => execDozeCheckRead_of_checking hlive hrun hcheck⟩
  · cases hat : l.pollAt with
    | none => exact execDoorbellPoll_of_first hlive hrun hawake hat
    | some t => exact execDoorbellPoll_of_next hlive hrun hawake hat
  · exact execDoorbellReadComplete_of_outstanding hlive hrun hout
  · exact execDoorbellReadFail_of_outstanding hlive hrun hout

end Sys2Proof.Machine
end

section
/-!
PROOFS. The reads of submission rings and failed accesses (R75, R78, R79, R88, R89, R91, R93).
-/
namespace Sys2Proof.Machine

/-- A failed access faults a ring that runs, after AER has counted it (R93). -/
theorem execDmaError_of_live {dt : Nat} {n : Fin 64} {cause : DmaCause} {s : State} (hlive : linkLive s = true) :
    execDmaError dt n cause s = .next (if s.hub.link.ringState n.val = .running then
      faultRing 25 n.val (noteAer cause (tick dt s)) else tick dt s) := by
  have hacts : (linkLive (tick dt s) && decide ((tick dt s).hub.link.ringState n.val = .running)) = true
      ↔ s.hub.link.ringState n.val = .running := by
    simp [hlive]
  exact (ite_congr (propext hacts) (fun _ => rfl) (fun _ => rfl)).trans (apply_ite Host.Outcome.next _ _ _).symm

/-- Settles O9: a record that is fetched either exceeds the limit of its ring or, of at most 64 entries that the pass
has room for and the doorbell has released, is taken whole. -/
theorem ringReadEffect : Obligations.RingReadEffect := by
  intro dt s hlive s1
  refine ⟨?_, fun n cause => execDmaError_of_live hlive⟩
  intro n entries r hst hhold hskip hleft htaken hpos hpaused
  refine ⟨fun hlimit => ?_, fun hlimit h64 hreleased hroom => ?_⟩ <;>
    refine (if_neg (by
      simp [hlive, hst, hhold, hskip, hpaused, htaken, r, Nat.ne_of_gt hleft, Nat.ne_of_gt hpos])).trans ?_
  · exact if_pos hlimit
  · refine (if_neg (Nat.not_lt.2 hlimit)).trans ?_
    simp only [if_neg (Nat.not_lt.2 h64), Nat.sub_self]
    exact if_neg (not_or.2 ⟨Nat.not_lt.2 hreleased, Nat.not_lt.2 hroom⟩)

end Sys2Proof.Machine
end

section
/-!
PROOFS. The ring set-up and the reset of a ring (R71, R94, R97, R513).
-/
namespace Sys2Proof.Machine

/-- The end of a doze leaves the power unit alone. -/
@[simp] theorem endDoze_pow (s : State) : (endDoze s).pow = s.pow :=
  mask_pow (endDoze_mask (U := { hub := true }) rfl s) rfl

/-- Outside a key-off a RING_GO ends a doze, and starts a set-up or is held (R513). -/
theorem ringGo_of_no_keyoff {s : State} (hk : keyoff s = false) :
    ringGo s =
      let awoken := if s.hub.link.phase = .dozing then endDoze s else s
      if awoken.hub.link.setupRunning || !s.pow.firstBeat then upLink (fun l => { l with goPending := true }) awoken
      else upLink (fun l => { l with setupRunning := true }) awoken := by
  have hpow : (if s.hub.link.phase = .dozing then endDoze s else s).pow = s.pow := by
    split
    · exact endDoze_pow s
    · rfl
  simp [ringGo, hk, hpow]

/-- A key-off holds back every RING_GO (R513). -/
theorem ringGo_of_keyoff {s : State} (hk : keyoff s = true) : ringGo s = s := if_pos hk

/-- A set-up that runs, or one whose first beat has come, takes the table as it is read (R71, R97). -/
theorem execRingSetup_of_due {dt : Nat} {table : List RingEntry} {s : State} (hlive : linkLive s = true)
    (hdue : s.hub.link.setupRunning = true ∨ s.hub.link.goPending = true ∧ s.pow.firstBeat = true) :
    let taken := fun bad => upLink (fun l =>
      { l with goPending := l.setupRunning && l.goPending }.setup bad table (tick dt s).now.el) (tick dt s)
    (tableFault s.bar table = none →
      execRingSetup dt table s = .next (linkStatus 1 (beatAt ((tick dt s).now.ft + 1)) (taken none)))
    ∧ (∀ e r, tableFault s.bar table = some (e, r) →
      execRingSetup dt table s = .next (raise 22 e r (taken (some (e, r))))) := by
  have hguard : (!linkLive (tick dt s)
      || (!(tick dt s).hub.link.setupRunning && !((tick dt s).hub.link.goPending && (tick dt s).pow.firstBeat)))
        = false := by
    rcases hdue with hr | ⟨hg, hb⟩
    · simp [hlive, hr]
    · simp [hlive, hg, hb]
  refine ⟨fun hfault => ?_, fun e r hfault => ?_⟩ <;>
    simp only [execRingSetup, hguard, tick_bar, hfault] <;> rfl

/-- A ring reset that passes the checks of R106, by the state of the ring and the entry read again (R94). -/
theorem execKdRingReset_of_passes {dt : Nat} {p : Post} {e : RingEntry} {s : State}
    (hp : Passes ⟨[32], [fu 0x20 1 0 63 0], fun _ => []⟩ false p s) :
    let x := arrive dt 0x0301 0x0E p decideAt s
    let n := fld p.body 0x20 1
    let was := x.1.hub.link.ringState n
    let fault := tableReason (x.1.hub.link.table.set n e) n
    let y := x.1.hub.link.resetRing n e
    let started := upLink (fun _ => y.2) x.1
    (n = p.ring → execKdRingReset dt p e s = .next (x.2.refuse 0x16 0 x.1))
    ∧ (n ≠ p.ring → was = .unused → execKdRingReset dt p e s = .next (x.2.refuse 8 0 x.1))
    ∧ (n ≠ p.ring → was ≠ .unused → ∀ r, fault = some r →
      execKdRingReset dt p e s
        = .next (complete 0x0301 0x0E p x.2.acc ⟨4, 7, 0, r, 0, x.2.bound⟩ (raise 22 n r x.1)))
    ∧ (n ≠ p.ring → was ≠ .unused → fault = none →
      execKdRingReset dt p e s = .next (completeX 0x0301 0x0E p x.2.acc (accepted y.1 x.2.bound) (some n)
        (if started.hub.link.ringState n = was then started
          else linkStatus 2 (beatAt started.now.ft) started))) := by
  intro x n was fault y started
  simp only [execKdRingReset, command_passes hp]
  refine ⟨fun hown => ?_, fun hown hunused => ?_, fun hown hused r hr => ?_, fun hown hused hr => ?_⟩ <;>
    refine congrArg Host.Outcome.next ?_
  · exact if_pos hown
  · exact (if_neg hown).trans (if_pos hunused)
  · refine (if_neg hown).trans ((if_neg hused).trans ?_)
    simp only [fault, n, x] at hr
    simp only [hr]
    rfl
  · refine (if_neg hown).trans ((if_neg hused).trans ?_)
    simp only [fault, n, x] at hr
    simp only [hr]
    rfl

/-- Settles O10: a GO by its bit 0 and the key-off, a set-up by the fault of its table, and a reset by the ring that it
names. -/
theorem ringSetupAndResetEffect : Obligations.RingSetupAndResetEffect := by
  refine ⟨fun dt s hlive => ⟨fun value h => ?_, fun value hgo hk => ?_, fun table => execRingSetup_of_due hlive⟩,
    fun dt p e s => execKdRingReset_of_passes⟩
  · by_cases hgo : value % 2 = 1
    · have hk : keyoff s = true := h.resolve_left (by omega)
      exact (if_pos (by simp [hlive, hgo])).trans (congrArg Host.Outcome.next (ringGo_of_keyoff hk))
    · exact if_neg (by simp [hgo])
  · exact (if_pos (by simp [hlive, hgo])).trans (congrArg Host.Outcome.next (ringGo_of_no_keyoff hk))

end Sys2Proof.Machine
end

section
/-!
PROOFS. Delivery and its messages (R77, R83, R90, R92).
-/
namespace Sys2Proof.Machine

/-- Delivery ring `n` of the commanding lane, with the rings running, writes the next record that it is to take where
the credit holds it (R77, R83, R90). -/
theorem deliverOne_of_running {n : Nat} {s : State} (hcmd : commanding s = true) (hrun : s.hub.link.running = true)
    (hst : (nth default s.hub.link.dr n).st = .running) (hhold : (nth default s.hub.link.dr n).hold = none) :
    let d := nth default s.hub.link.dr n
    (d.nextOut (freeNat 32 s) = none → deliverOne n s = s)
    ∧ (∀ r d1, d.nextOut (freeNat 32 s) = some (r, d1) →
      let d3 := { d1.write r with unsig := if d.entry.vec ≠ 0xFF then d.unsig ++ [s.now.el] else [] }
      let written := upLink (fun l => ({ l with dr := l.dr.set n d3 }.covered r).ringSignal n
        (fun d => decide (d.entry.coalTime = 0) || decide (d.entry.coalCount ≤ d.unsig.length))) s
      (ringLimit d.entry < sub32 d.f d.h + r.entries → deliverOne n s = s)
      ∧ (sub32 d.f d.h + r.entries ≤ ringLimit d.entry →
        deliverOne n s = if r.bulk.isSome then drawn written else written)) := by
  have hguard : (!commanding s || !s.hub.link.running || (nth default s.hub.link.dr n).st != .running
      || (nth default s.hub.link.dr n).hold.isSome) = false := by
    simp [hcmd, hrun, hst, hhold]
  refine ⟨fun hnext => ?_, fun r d1 hnext => ⟨fun hfull => ?_, fun hfits => ?_⟩⟩ <;>
    simp only [deliverOne, hguard, hnext]
  · rfl
  · exact (if_neg Bool.false_ne_true).trans (if_pos hfull)
  · exact (if_neg Bool.false_ne_true).trans (if_neg (Nat.not_lt.2 hfits))

/-- With no KD_BUFPTR owed, nothing is next where nothing waits (R83). -/
theorem Dr.nextOut_of_empty {d : Dr} {seq : Nat} (hc : d.chain = []) (hb : d.backlog = []) : d.nextOut seq = none := by
  simp only [Dr.nextOut, hc, hb]

/-- With no KD_BUFPTR owed, the oldest record that waits is next where the supplies hold its bulk data (R83). -/
theorem Dr.nextOut_of_waiting {d : Dr} {seq : Nat} {r : DRec} {q : List DRec} (hc : d.chain = [])
    (hb : d.backlog = r :: q) :
    d.nextOut seq = (takeBufs (padBulk (r.bulk.getD [])).length d.supplies).map (fun x =>
      (r, { d with backlog := q, chain := bufPtrs r x.1 seq, supplies := x.2 })) := by
  simp only [Dr.nextOut, hc, hb]

/-- A KD_BUFPTR that is owed to the record before comes first (R83). -/
theorem Dr.nextOut_of_owed {d : Dr} {seq : Nat} {r : DRec} {q : List DRec} (hc : d.chain = r :: q) :
    d.nextOut seq = some (r, { d with chain := q }) := by
  simp only [Dr.nextOut, hc]

/-- COAL_TIME_US after the oldest unsignalled record the message is sent (R92). -/
theorem execCoalTime_of_unsignalled {n : Fin 32} {s : State} {t : Nat} {q : List Nat}
    (hu : (nth default s.hub.link.dr n.val).unsig = t :: q) :
    execCoalTime n s = .next (upLink (fun l => l.ringSignal n.val (fun _ => true))
      (reachEl (t + (nth default s.hub.link.dr n.val).entry.coalTime * qUs) s)) := by
  simp only [execCoalTime, hu]

/-- Settles O11: what the ring is to take next decides, and then its credit. -/
theorem deliveryEffect : Obligations.DeliveryEffect := by
  refine ⟨?_, fun n s t q => execCoalTime_of_unsignalled⟩
  intro dt n s hlive hcmd hrun s1 d hst hhold
  have hexec : exec (.recordDelivery dt n) s = .next (deliverOne n.val s1) := if_pos hlive
  obtain ⟨hnone, hsome⟩ := deliverOne_of_running (s := s1) hcmd hrun hst hhold
  rw [hexec]
  refine ⟨fun hc hb => congrArg _ (hnone (Dr.nextOut_of_empty hc hb)), fun r q hc hb hbufs => congrArg _ (hnone ?_),
    fun r d1 hnext => ?_⟩
  · exact (Dr.nextOut_of_waiting hc hb).trans (by rw [hbufs]; rfl)
  · have hout : d.nextOut (freeNat 32 s) = some (r, d1) := by
      rcases hnext with ⟨q, hc, rfl⟩ | ⟨q, bufs, rest, hc, hb, hbufs, rfl⟩
      · exact Dr.nextOut_of_owed hc
      · exact (Dr.nextOut_of_waiting hc hb).trans (by rw [hbufs]; rfl)
    obtain ⟨hfull, hfits⟩ := hsome r d1 hout
    exact ⟨fun h => congrArg _ (hfull h), fun h => congrArg _ (hfits h)⟩

end Sys2Proof.Machine
end

section
/-!
PROOFS. Buffer pointers, refused kinds and the periodic records (R82, R83, R95, R106, R110).
-/
namespace Sys2Proof.Machine

/-- A KD_BUFPTR that supplies no buffer continues no chain (R82). -/
theorem bufptrAct_of_segment {p : Post} {u : Sub} {s : State} (hseg : fld p.body 0x34 1 = 0) :
    bufptrAct p u s = u.refuse 0x0A 0 s :=
  if_pos hseg

/-- A supply, by the state of its delivery ring and the supplies that wait there (R83). -/
theorem bufptrAct_of_supply {p : Post} {u : Sub} {s : State} (huse : fld p.body 0x34 1 = 1) :
    bufptrAct p u s =
      let n := fld p.body 0x35 1
      let d := nth default s.hub.link.dr n
      if d.st = .unused then u.refuse 8 0 s
      else if 1024 ≤ d.supplies.length then u.refuse 0x0B 0 s
      else upDr n (fun d => { d with supplies := d.supplies ++ [⟨fld p.body 0x20 8, fld p.body 0x28 4⟩] }) s :=
  if_neg (by simp [huse])

/-- In Serving a submission of a wrong kind is refused at the boundary of R544 (R106). -/
theorem refuseKind_of_serving {dt kind reason : Nat} {p : Post} {s : State} (hs : s.pow.state = .serving) :
    refuseKind dt kind reason p s
      = (arrive dt kind 0x0E p decideAt s).2.refuse reason 0 (arrive dt kind 0x0E p decideAt s).1 :=
  if_neg (not_not_intro hs)

/-- Settles O13: a KD_BUFPTR by its USE, its ring and the supplies that wait; the rest in Serving. -/
theorem bufferPointersAndPeriods : Obligations.BufferPointersAndPeriods := by
  intro dt p s
  refine ⟨fun hp => ?_, fun hs => ⟨fun kind => ⟨?_, ?_⟩, if_neg (not_not_intro hs), if_neg (not_not_intro hs)⟩⟩
  · intro x n d
    simp only [exec, execBufptrSupply, execBufptrSegmentStray, command_passes hp]
    refine ⟨fun hseg => ?_, fun huse hst => ?_, fun huse hst hfull => ?_, fun huse hst hroom => ?_⟩ <;>
      refine congrArg Host.Outcome.next ?_
    · exact bufptrAct_of_segment hseg
    · exact (bufptrAct_of_supply huse).trans (if_pos hst)
    · exact (bufptrAct_of_supply huse).trans ((if_neg hst).trans (if_pos hfull))
    · exact (bufptrAct_of_supply huse).trans ((if_neg hst).trans (if_neg (Nat.not_le.2 hroom)))
  · exact congrArg _ (refuseKind_of_serving hs)
  · exact congrArg _ (refuseKind_of_serving hs)

end Sys2Proof.Machine
end

section
/-!
PROOFS. The image commands (R89, R103, R449, R450, R454, R455, R456, R457).
-/
namespace Sys2Proof.Machine

/-- A RESTART whose turn it is, is refused for the Active lane and resets any other one (R456). -/
theorem imageCarry_of_restart {c : ImgCmd} {b : Nat} {s : State} (hc : c.action = 1) :
    imageCarry c b s =
      let lane : Fin 2 := if fld c.post.body 0x21 1 = 0 then 0 else 1
      if (laneOf s lane).state = .active then complete 0x1101 0x10 c.post c.stamp (refusedWith 8 0 b) s
      else complete 0x1101 0x10 c.post c.stamp (accepted 0 b) (laneStatus (resetLane lane s)) :=
  if_pos hc

/-- Passing time leaves the slots of a unit as they are. -/
@[simp] theorem slotIn_tick (dt u : Nat) (st : SlotState) (s : State) :
    slotIn (tick dt s) u st = slotIn s u st := by rfl

/-- The image that a store has written is kept where its hash is that of the header (R455). -/
theorem execImageBodyWritten_of_store {dt n acc : Nat} {sha : List Byte} {p : Post} {s : State}
    (hstore : s.img.store = some (n, p, acc)) :
    execImageBodyWritten dt sha s =
      let s1 := (tick dt s).upImg (fun m => { m with store := none })
      let s2 := match slotIn s (n / 2) .try_ with | some o => putSlot o .stored s1 | none => s1
      let s3 := if sha = (slotAt s n).hdr.sha then
          complete 0x1101 0x10 p acc (accepted n s1.now.ft) (raise 120 n 0 (setSlot n .try_ s2))
        else complete 0x1101 0x10 p acc (refusedWith 0x1107 0 (beatAt s1.now.ft))
          (raise 119 n 0x1107 (setSlot n .empty s1))
      .next (imageNext s3.img.waiting.length s3) := by
  simp only [execImageBodyWritten, tick_img, hstore]
  rfl

/-- A lane that has started from its TRY slot confirms it after 2 000 beats of valid heartbeats, but not as Shadow
(R449). -/
theorem execImageConfirmLane_of_try {i : Fin 2} {s : State} (htry : (slotAt s (laneOf s i).slot).state = .try_)
    (hstarted : (laneOf s i).started = true) (hoff : (laneOf s i).state ≠ .off)
    (hshadow : (laneOf s i).state ≠ .shadow) (hbeats : 2000 ≤ (laneOf s i).hbBeats) :
    execImageConfirmLane i s = .next (confirmSlot (laneOf s i).slot s) :=
  if_pos ⟨htry, hstarted, hoff, hshadow, hbeats⟩

/-- The Front-end Section that fails from its TRY slot starts from its CONFIRMED one (R450). -/
theorem execCuratorStartFallback_of_frontEnd {dt c : Nat} {s : State} (hw : awake s = true)
    (ht : slotIn s 3 .try_ = some s.img.feSlot) (hc : slotIn s 3 .confirmed = some c) :
    execCuratorStartFallback dt true s = .next (setSlot s.img.feSlot .failed
      ((tick dt s).upImg (fun m => { m with feSlot := c, feSince := s.now.el + dt }))) := by
  simp only [execCuratorStartFallback, slotIn_tick, if_pos, ht, hc]
  exact if_pos ⟨rfl, hw⟩

/-- The Curator that fails from its TRY slot starts from its CONFIRMED one (R450). -/
theorem execCuratorStartFallback_of_curator {dt c : Nat} {s : State} (hw : awake s = true)
    (ht : slotIn s 2 .try_ = some s.img.curSlot) (hc : slotIn s 2 .confirmed = some c) :
    execCuratorStartFallback dt false s = .next (setSlot s.img.curSlot .failed
      ((tick dt s).upImg (fun m => { m with curSlot := c, curSince := s.now.el + dt }))) := by
  simp only [execCuratorStartFallback, slotIn_tick, Bool.false_eq_true, if_false, ht, hc]
  exact if_pos ⟨rfl, hw⟩

/-- Settles O23: a command that passes the checks joins the queue, and its turn, the end of its store, the confirmation
and the fallback each have their own lemma. -/
theorem imagesEffect : Obligations.ImagesEffect := by
  refine ⟨⟨fun dt p segs s hp => ?_, fun dt p s hp => congrArg _ (command_passes hp),
    fun dt p s hp => congrArg _ (command_passes hp), fun c b s => imageCarry_of_restart,
    fun dt sha s n acc p => execImageBodyWritten_of_store⟩, fun s => ⟨fun i => execImageConfirmLane_of_try,
    fun hs => ⟨fun ht => if_pos ⟨hs, ht⟩, fun ht => if_pos ⟨hs, ht⟩⟩, fun hw dt c =>
      ⟨execCuratorStartFallback_of_frontEnd hw, execCuratorStartFallback_of_curator hw⟩⟩⟩
  exact congrArg (fun t => Host.Outcome.next (passSegments p segs t)) (command_passes hp)

end Sys2Proof.Machine
end

section
/-!
PROOFS. What the completion of a submission keeps back, and what it does not read of FLAGS (R101, R106).
-/
namespace Sys2Proof.Machine

/-- QUIET keeps back the completion of an accepted submission (R101). -/
theorem complete_of_quiet {kind src acc : Nat} {p : Post} {d : Done} {s : State} (hq : p.flags % 2 = 1)
    (ha : d.outcome = 0) : complete kind src p acc d s = s :=
  if_pos (.inl ⟨hq, ha, rfl⟩)

/-- A completion that QUIET does not keep back is delivered while a lane commands (R101, R111). -/
theorem completeX_of_loud {kind src acc : Nat} {p : Post} {d : Done} {hold : Option Nat} {s : State}
    (h : ¬(p.flags % 2 = 1 ∧ d.outcome = 0 ∧ hold = none)) :
    completeX kind src p acc d hold s =
      if commanding s then
        ask (.complete (nth 0 s.hub.link.compRing p.ring)
          { kind := 1, cls := 0, source := src, flags := slipFlags s 0 acc, owner := none, seq := 0, corr := p.corr
            acc := acc, eff := d.eff, body := completionBody kind p.ring p.seq d, bulk := none, vec := none
            holdOf := hold }) s
      else s := by
  cases hc : commanding s
  · exact if_pos (.inr (by simp [hc]))
  · exact if_neg (by simp [h, hc])

/-- Of FLAGS a completion reads no more than whether QUIET keeps it back. -/
theorem completeX_flags {kind src acc : Nat} {p : Post} {d : Done} {hold : Option Nat} {s : State} (f g : Nat)
    (h : d.outcome ≠ 0 ∨ hold ≠ none) :
    completeX kind src { p with flags := f } acc d hold s = completeX kind src { p with flags := g } acc d hold s := by
  have loud : ∀ q : Post, ¬(q.flags % 2 = 1 ∧ d.outcome = 0 ∧ hold = none) :=
    fun q hq => h.elim (· hq.2.1) (· hq.2.2)
  rw [completeX_of_loud (loud _), completeX_of_loud (loud _)]

/-- A refusal does not read FLAGS: it is no accepted outcome. -/
theorem refuse_flags {u : Sub} {p : Post} {reason d16 : Nat} {s : State} (f g : Nat) :
    ({ u with post := { p with flags := f } } : Sub).refuse reason d16 s
      = ({ u with post := { p with flags := g } } : Sub).refuse reason d16 s :=
  completeX_flags f g (.inl (by simp [refusedWith]))

/-- The arrival of a submission does not read FLAGS. -/
theorem arrive_flags (dt kind unit : Nat) (p : Post) (at_ : Nat → Nat) (s : State) (f : Nat) :
    arrive dt kind unit { p with flags := f } at_ s
      = ((arrive dt kind unit p at_ s).1,
          { (arrive dt kind unit p at_ s).2 with post := { p with flags := f } }) := by rfl

/-- The checks of R106 read FLAGS but for QUIET. -/
theorem checkBody_flags (sc : Option RecSchema) (off size : Nat) (byKey : Bool) (seq : Nat) (p : Post) {f g : Nat}
    (h : f / 2 = g / 2) :
    checkBody sc off size byKey seq { p with flags := f } = checkBody sc off size byKey seq { p with flags := g } := by
  unfold checkBody
  rw [h]

/-- A command whose effect does not read FLAGS does the same with QUIET set and clear. -/
theorem command_flags {dt kind unit : Nat} {p : Post} {sc : RecSchema} {guarded : Bool} {at_ : Nat → Nat}
    {act act' : Sub → State → State} {s : State} {f g : Nat} (h : f / 2 = g / 2)
    (hact : ∀ (u : Sub) (t : State),
      act { u with post := { p with flags := f } } t = act' { u with post := { p with flags := g } } t) :
    command dt kind unit { p with flags := f } sc guarded at_ act s
      = command dt kind unit { p with flags := g } sc guarded at_ act' s := by
  by_cases hs : s.pow.state = .serving
  · cases hc : checkBody (some sc) 0x20 0 false (expectedSeq s p) { p with flags := g } with
    | some x =>
      rw [command_refused hs ((checkBody_flags _ _ _ _ _ _ h).trans hc), command_refused hs hc, arrive_flags,
        arrive_flags (f := g)]
      exact refuse_flags f g
    | none =>
      have hc' := (checkBody_flags (some sc) 0x20 0 false (expectedSeq s p) p h).trans hc
      by_cases hk : guarded = true ∧ keyoff s = true
      · obtain ⟨rfl, hk⟩ := hk
        rw [command_keyoff hs hk hc', command_keyoff hs hk hc, arrive_flags, arrive_flags (f := g)]
        exact refuse_flags f g
      · have hg : guarded = true → keyoff s = false := by simpa using hk
        rw [command_passes ⟨hs, hc', hg⟩, command_passes ⟨hs, hc, hg⟩, arrive_flags, arrive_flags (f := g)]
        exact hact _ _
  · exact (if_pos hs).trans (if_pos hs).symm

/-- KD_RING_RESET is never quiet (R94, R101): each of its completions is a refusal or one that holds its ring. -/
theorem execKdRingReset_flags (dt : Nat) (p : Post) (e : RingEntry) (s : State) {f g : Nat} (h : f / 2 = g / 2) :
    execKdRingReset dt { p with flags := f } e s = execKdRingReset dt { p with flags := g } e s := by
  refine congrArg Host.Outcome.next (command_flags h fun u t => ?_)
  dsimp only
  split
  · exact refuse_flags f g
  split
  · exact refuse_flags f g
  split
  · exact completeX_flags f g (.inl (by simp))
  · exact completeX_flags f g (.inr (by simp))

/-- A submission with a reserved bit of FLAGS set fails the checks (R101, R106). -/
theorem checkBody_of_reserved_flags (sc : Option RecSchema) (off size : Nat) (byKey : Bool) (seq : Nat) {p : Post}
    (h : p.flags / 2 ≠ 0) : checkBody sc off size byKey seq p ≠ none := by
  unfold checkBody
  extract_lets lenBad
  cases lenBad with
  | some x => simp
  | none =>
    dsimp only
    split
    · simp
    split
    · simp
    cases sc <;> simp [h]

/-- Settles O53: a completion by its outcome and QUIET, KD_RING_RESET by `execKdRingReset_flags`, and the reserved bits
by the checks. -/
theorem quietFlag : Obligations.QuietFlag := by
  refine ⟨fun kind src acc p d s => ⟨complete_of_quiet, fun h => ?_⟩,
    fun dt p e s => execKdRingReset_flags dt p e s (by decide),
    fun sc off size byKey seq p => checkBody_of_reserved_flags sc off size byKey seq⟩
  have loud : ¬(p.flags % 2 = 1 ∧ d.outcome = 0 ∧ (none : Option Nat) = none) := by omega
  have clear : ¬((0 : Nat) % 2 = 1 ∧ d.outcome = 0 ∧ (none : Option Nat) = none) := by omega
  refine ⟨?_, fun hcmd => ?_⟩
  · exact (completeX_of_loud loud).trans (completeX_of_loud (p := { p with flags := 0 }) clear).symm
  · exact (completeX_of_loud loud).trans (if_pos hcmd)

end Sys2Proof.Machine
end

section
/-!
PROOFS. Transactions of the Catalogue (R114, R115, R116, R546).
-/
namespace Sys2Proof.Machine

/-! What a submission's arrival leaves alone. -/

@[simp] theorem arrive_cat (dt kind unit : Nat) (p : Post) (at_ : Nat → Nat) (s : State) :
    (arrive dt kind unit p at_ s).1.cat = s.cat := by rfl
@[simp] theorem arrive_ctl (dt kind unit : Nat) (p : Post) (at_ : Nat → Nat) (s : State) :
    (arrive dt kind unit p at_ s).1.ctl = s.ctl := by rfl
@[simp] theorem arrive_lanes (dt kind unit : Nat) (p : Post) (at_ : Nat → Nat) (s : State) :
    (arrive dt kind unit p at_ s).1.lanes = s.lanes := by rfl
@[simp] theorem formatMine_arrive (dt kind unit : Nat) (p : Post) (at_ : Nat → Nat) (s : State) (f : Nat) :
    formatMine (arrive dt kind unit p at_ s).1 f = formatMine s f := by rfl
@[simp] theorem formatShadow_arrive (dt kind unit : Nat) (p : Post) (at_ : Nat → Nat) (s : State) (f : Nat) :
    formatShadow (arrive dt kind unit p at_ s).1 f = formatShadow s f := by rfl

/-- The transaction that an accepted KD_CAT_OPEN opens (R114, R116). -/
def openedTxn (p : Post) (acc cmp : Nat) (mine : Bool) : Txn where
  ring := p.ring
  corr := p.corr
  seq := p.seq
  acc := acc
  cmp := cmp
  format := fld p.body 0x24 2
  full := fld p.body 0x26 1 == 1
  shadow := !mine
  posted := 0
  recs := []
  seqs := []
  bytes := 0
  failed := false
  firstBad := 0

/-- KD_CAT_OPEN by the order of the checks of R114: none open, MODE, FORMAT, the base generation. -/
theorem execKdCatOpen_of_passes {dt : Nat} {p : Post} {s : State} (hp : Passes scCatOpen true p s) :
    let x := arrive dt 0x0401 0x13 p decideAt s
    let base := fld p.body 0x20 4
    let f := fld p.body 0x24 2
    let mode := fld p.body 0x26 1
    let lane := formatMine s f = true ∨ formatShadow s f = true
    (s.cat.txn ≠ none → execKdCatOpen dt p s = .next (x.2.refuse 0x0F 0 x.1))
    ∧ (s.cat.txn = none → 1 < mode → execKdCatOpen dt p s = .next (x.2.refuse 7 0x26 x.1))
    ∧ (s.cat.txn = none → mode ≤ 1 → ¬lane → execKdCatOpen dt p s = .next (x.2.refuse 0x0C 0 x.1))
    ∧ (s.cat.txn = none → mode ≤ 1 → lane → base ≠ 0xFFFFFFFF → base ≠ (catOf x.1 f).latestGen →
      execKdCatOpen dt p s = .next (x.2.refuse 0x0D 0 x.1))
    ∧ (s.cat.txn = none → mode ≤ 1 → lane → base = 0xFFFFFFFF ∨ base = (catOf x.1 f).latestGen →
      execKdCatOpen dt p s
        = .next (complete 0x0401 0x13 p x.2.acc ⟨if formatMine s f then 0 else 5, 0, 0, 0, 0, x.2.bound⟩
            (x.1.upCat (fun c => { c with txn := some (openedTxn p x.2.acc x.2.cmp (formatMine s f)) })))) := by
  intro x base f mode lane
  simp only [execKdCatOpen, command_passes hp, arrive_cat, formatMine_arrive, formatShadow_arrive]
  have idle : s.cat.txn = none → ¬s.cat.txn.isSome = true := fun h => by simp [h]
  have hlane : (!formatMine s f && !formatShadow s f) = true ↔ ¬lane := by simp [lane]
  refine ⟨fun ho => ?_, fun ho hm => ?_, fun ho hm hl => ?_, fun ho hm hl h0 hg => ?_, fun ho hm hl hg => ?_⟩ <;>
    refine congrArg Host.Outcome.next ?_
  · exact if_pos (Option.isSome_iff_ne_none.2 ho)
  · exact (if_neg (idle ho)).trans (if_pos hm)
  · exact (if_neg (idle ho)).trans ((if_neg (Nat.not_lt.2 hm)).trans (if_pos (hlane.2 hl)))
  · exact (if_neg (idle ho)).trans ((if_neg (Nat.not_lt.2 hm)).trans
      ((if_neg (mt hlane.1 (not_not_intro hl))).trans (if_pos ⟨h0, hg⟩)))
  · refine (if_neg (idle ho)).trans ((if_neg (Nat.not_lt.2 hm)).trans
      ((if_neg (mt hlane.1 (not_not_intro hl))).trans ((if_neg fun h => hg.elim h.1 h.2).trans ?_)))
    cases hmine : formatMine s f <;> rfl

/-- What refuses a commit of the transaction `t` (R114, R546): it has failed, another number of records was posted, or
the records as they would stand are in breach. -/
def commitVerdict (p : Post) (t : Txn) (s : State) : Option (Nat × Nat) :=
  if t.failed then some (0x10, t.firstBad)
  else if fld p.body 0x20 4 ≠ t.posted then some (0x13, 0)
  else refusalOf t.seqOf p.seq (breaches s.valve.pairMask (pipesOn s)
    { catAhead s t.format with recs := committed t.full t.recs (catAhead s t.format).recs })

theorem commitVerdict_of_failed {p : Post} {t : Txn} {s : State} (hf : t.failed = true) :
    commitVerdict p t s = some (0x10, t.firstBad) :=
  if_pos hf

theorem commitVerdict_of_count {p : Post} {t : Txn} {s : State} (hf : t.failed = false)
    (hn : fld p.body 0x20 4 ≠ t.posted) : commitVerdict p t s = some (0x13, 0) :=
  (if_neg (by simp [hf])).trans (if_pos hn)

theorem commitVerdict_of_posted {p : Post} {t : Txn} {s : State} (hf : t.failed = false)
    (hn : fld p.body 0x20 4 = t.posted) :
    commitVerdict p t s = refusalOf t.seqOf p.seq (breaches s.valve.pairMask (pipesOn s)
      { catAhead s t.format with recs := committed t.full t.recs (catAhead s t.format).recs }) :=
  (if_neg (by simp [hf])).trans (if_neg (not_not_intro hn))

/-- A commit is refused in each of those three cases and in no other. -/
theorem commitVerdict_eq_none_iff {p : Post} {t : Txn} {s : State} :
    commitVerdict p t s = none ↔ t.failed = false ∧ fld p.body 0x20 4 = t.posted
      ∧ refusalOf t.seqOf p.seq (breaches s.valve.pairMask (pipesOn s)
        { catAhead s t.format with recs := committed t.full t.recs (catAhead s t.format).recs }) = none := by
  unfold commitVerdict
  split
  · simp [*]
  · split <;> simp_all

section
variable {dt : Nat} {p : Post} {s : State}
  (hp : Passes ⟨[32], [fu 0x20 4 0 (2 ^ 32 - 1) 0], fun _ => []⟩ true p s)
include hp

/-- A commit without a transaction that it could close is refused (R114). -/
theorem execKdCatCommit_of_none :
    let x := arrive dt 0x0402 0x13 p decideAt s
    txnFor x.1 p.ring x.2.cmp = none → execKdCatCommit dt p s = .next (x.2.refuse 0x0E 0 x.1) := by
  intro x ht
  simp only [x] at ht
  simp only [execKdCatCommit, command_passes hp, unitCat, ht]
  rfl

/-- A commit that is refused closes its transaction and changes no Catalogue (R114, R116). -/
theorem execKdCatCommit_of_bad :
    let x := arrive dt 0x0402 0x13 p decideAt s
    ∀ t v, txnFor x.1 p.ring x.2.cmp = some t → commitVerdict p t x.1 = some v →
      execKdCatCommit dt p s = .next (if t.shadow then
          complete 0x0402 0x13 p x.2.acc ⟨5, 0, 0, 0, 0, beatAt (x.2.cmp + 2 * qMs)⟩ (closeTxn x.1)
        else complete 0x0402 0x13 p x.2.acc ⟨4, v.1, 0, v.2, 0, x.2.bound⟩ (closeTxn x.1)) := by
  intro x t v ht hv
  simp only [x, commitVerdict] at ht hv
  simp only [execKdCatCommit, command_passes hp, unitCat, ht, hv]
  rfl

/-- A commit that nothing refuses is scheduled with the next generation (R114, R115, R116). -/
theorem execKdCatCommit_of_good :
    let x := arrive dt 0x0402 0x13 p decideAt s
    ∀ t, txnFor x.1 p.ring x.2.cmp = some t → commitVerdict p t x.1 = none →
      let at_ := beatAt (x.2.cmp + 2 * qMs)
      let g := nextGen (catOf x.1 t.format).latestGen
      execKdCatCommit dt p s = .next (complete 0x0402 0x13 p x.2.acc
        (if t.shadow then ⟨5, 0, 0, 0, 0, at_⟩ else ⟨0, 0, 0, g, 0, at_⟩)
        (schedule ⟨at_, t.format, false, t.full, t.recs, g, x.2.acc, x.2.cmp, p.ring⟩
          (upCatalog t.format (fun c => { c with latestGen := g }) (closeTxn x.1)))) := by
  intro x t ht hv
  simp only [x, commitVerdict] at ht hv
  simp only [execKdCatCommit, command_passes hp, unitCat, ht, hv]
  rfl

end

section
variable {dt : Nat} {p : Post} {s : State} (hp : Passes ⟨[32], [], fun _ => []⟩ true p s)
include hp

/-- An abort without a transaction that it could close is refused (R114). -/
theorem execKdCatAbort_of_none :
    let x := arrive dt 0x0403 0x13 p decideAt s
    txnFor x.1 p.ring x.2.cmp = none → execKdCatAbort dt p s = .next (x.2.refuse 0x0E 0 x.1) := by
  intro x ht
  simp only [x] at ht
  simp only [execKdCatAbort, command_passes hp, unitCat, ht]
  rfl

/-- An abort closes its transaction (R114). -/
theorem execKdCatAbort_of_txn :
    let x := arrive dt 0x0403 0x13 p decideAt s
    txnFor x.1 p.ring x.2.cmp ≠ none → execKdCatAbort dt p s = .next (x.2.accept 0 (closeTxn x.1)) := by
  intro x hne
  obtain ⟨t, ht⟩ := Option.ne_none_iff_exists'.1 hne
  simp only [x] at ht
  simp only [execKdCatAbort, command_passes hp, unitCat, ht]
  rfl

end

/-- A transaction that is not closed in time is aborted (R114). -/
theorem execCatTransactionTimeout_of_txn {s : State} {t : Txn} (ht : s.cat.txn = some t) :
    let b := decideAt (t.cmp + 10 * qSec)
    execCatTransactionTimeout s = .next (abortTxn 0x12 b (reach b s)) := by
  simp only [execCatTransactionTimeout, ht]

/-- Settles O24: an open by the order of its checks, a commit by what refuses it, an abort by the transaction that it
finds, and the timeout. -/
theorem transactionEffect : Obligations.TransactionEffect := by
  refine ⟨fun dt p s => execKdCatOpen_of_passes, fun dt p s hp => ⟨execKdCatCommit_of_none hp, fun t ht => ?_⟩,
    fun dt p s hp => ⟨execKdCatAbort_of_none hp, execKdCatAbort_of_txn hp⟩,
    fun s t => execCatTransactionTimeout_of_txn⟩
  have bad := fun v => execKdCatCommit_of_bad hp t v ht
  have good := execKdCatCommit_of_good hp t ht
  refine ⟨fun hs hf => ?_, fun hs hf hn => ?_, fun hs hf hn r d hr => ?_, fun hs hg => ?_, fun hs hg => ?_,
    fun hs hg => ?_⟩
  · exact (bad _ (commitVerdict_of_failed hf)).trans (congrArg _ (if_neg (by simp [hs])))
  · exact (bad _ (commitVerdict_of_count hf hn)).trans (congrArg _ (if_neg (by simp [hs])))
  · exact (bad _ ((commitVerdict_of_posted hf hn).trans hr)).trans (congrArg _ (if_neg (by simp [hs])))
  · exact (good (commitVerdict_eq_none_iff.2 hg)).trans (by rw [if_neg (by simp [hs])])
  · exact (good (commitVerdict_eq_none_iff.2 hg)).trans (by rw [if_pos hs])
  · obtain ⟨v, hv⟩ := Option.ne_none_iff_exists'.1 (mt commitVerdict_eq_none_iff.1 hg)
    exact (bad v hv).trans (congrArg _ (if_pos hs))

end Sys2Proof.Machine
end

section
/-!
PROOFS. Settings records, the read of the Catalogue, and the boundaries of commits and restores (R106, R111, R113, R114,
R115, R117, R462).
-/
namespace Sys2Proof.Machine

/-- Two changes that agree on the Catalogue manager as it is change the state alike. -/
theorem upCat_congr {f g : Cat → Cat} {s : State} (h : f s.cat = g s.cat) : s.upCat f = s.upCat g := by
  simp only [State.upCat, h]

/-- A change that leaves the Catalogue manager as it is leaves the state. -/
theorem upCat_of_fixed {f : Cat → Cat} {s : State} (h : f s.cat = s.cat) : s.upCat f = s := by
  simp only [State.upCat, h]

/-- A record or a close on the ring of the open transaction, and in time, belongs to it (R114). -/
theorem txnFor_of_own {s : State} {t : Txn} {ring acc : Nat} (ht : s.cat.txn = some t) (hr : t.ring = ring)
    (hacc : acc < t.cmp + 10 * qSec) : txnFor s ring acc = some t := by
  simp only [txnFor, ht]
  exact if_pos ⟨hr, hacc⟩

/-- The transaction after a record in it was refused: it counts the record and has failed with the first such SEQUENCE
(R114). -/
def Txn.refused (t : Txn) (seq : Nat) : Txn :=
  { t with posted := t.posted + 1, failed := true, firstBad := if t.failed then t.firstBad else seq }

theorem Txn.refused_eq (t : Txn) (seq : Nat) :
    (if t.failed then { t with posted := t.posted + 1 }
      else { t with posted := t.posted + 1, failed := true, firstBad := seq }) = t.refused seq := by
  cases hf : t.failed <;> simp [Txn.refused, hf]

section
variable {kind dt : Nat} {p : Post} {s : State} (hs : s.pow.state = .serving)
include hs

section
variable {t : Txn} (ht : s.cat.txn = some t) (hr : t.ring = p.ring)
  (hacc : (arrive dt kind 0x13 p decideAt s).2.cmp < t.cmp + 10 * qSec)
include ht hr hacc

/-- A good record in a transaction counts as posted and is put into it (R113, R114). -/
theorem settings_of_good :
    let x := arrive dt kind 0x13 p decideAt s
    recordRefusal kind (expectedSeq s p) p x.2.cmp x.1 = none →
    settings kind dt p s = x.1.upCat (fun c => { c with
      txn := some ({ t with posted := t.posted + 1 }.put ⟨kind, keyOf kind p.body, p.body⟩ p.seq) }) := by
  intro x hgood
  have hown : txnFor x.1 p.ring x.2.cmp = some t := txnFor_of_own ht hr hacc
  simp only [x] at hgood hown
  simp only [settings, if_neg (not_not_intro hs), unitCat, hgood, hown]
  exact upCat_congr (by simp [ht])

/-- A refused record in a transaction counts as posted and makes it fail; it completes unless the transaction is for a
Shadow lane (R114, R116). -/
theorem settings_of_bad :
    let x := arrive dt kind 0x13 p decideAt s
    ∀ r, recordRefusal kind (expectedSeq s p) p x.2.cmp x.1 = some r →
      let s1 := x.1.upCat (fun c => { c with txn := some (t.refused p.seq) })
      settings kind dt p s = if t.shadow then s1 else x.2.refuse r.1 r.2 s1 := by
  intro x r hbad s1
  have hown : txnFor x.1 p.ring x.2.cmp = some t := txnFor_of_own ht hr hacc
  simp only [x] at hbad hown
  simp only [settings, if_neg (not_not_intro hs), unitCat, hbad, hown, arrive_cat, ht, Option.isSome_some,
    Bool.true_and, Bool.not_true, Bool.false_eq_true, if_false]
  rw [upCat_congr (g := fun c => { c with txn := some (t.refused p.seq) })
    (by simp only [arrive_cat, ht, Option.map_some, Txn.refused_eq])]

end

/-- A refused record that belongs to no transaction completes and does nothing else (R114). -/
theorem settings_of_stray :
    let x := arrive dt kind 0x13 p decideAt s
    txnFor x.1 p.ring x.2.cmp = none → ∀ r, recordRefusal kind (expectedSeq s p) p x.2.cmp x.1 = some r →
      settings kind dt p s = x.2.refuse r.1 r.2 x.1 := by
  intro x hnone r hbad
  simp only [x] at hnone hbad
  simp only [settings, if_neg (not_not_intro hs), unitCat, hnone, hbad, arrive_cat, Option.isSome_none,
    Bool.not_false, if_true]
  rw [upCat_of_fixed (by simp)]
  cases s.cat.txn <;> rfl

end

/-- The settings kinds: the command of each, and its KIND. -/
def settingsCommands : List ((Nat → Post → Instr) × Nat) :=
  [(.kdTimeSettings, 0x0101), (.kdLaneSettings, 0x0201), (.kdPassageSettings, 0x0501), (.kdCropSettings, 0x0502),
    (.kdLoopSettings, 0x0601), (.kdGroupSettings, 0x0602), (.kdValveSettings, 0x0701), (.kdMapSettings, 0x0801),
    (.kdGnssSettings, 0x0901), (.kdFusionSettings, 0x0A01), (.kdCameraSettings, 0x0B01), (.kdFieldSettings, 0x0C01),
    (.kdCanSettings, 0x0D01), (.kdCanObjectSettings, 0x0D02), (.kdModemSettings, 0x0E01),
    (.kdDisplaySettings, 0x0F01), (.kdEventSettings, 0x1001), (.kdCalUser, 0x1102), (.kdPowerSettings, 0x1201)]

/-- Each of them does what `settings` says for its KIND. -/
theorem exec_settingsCommands {k : (Nat → Post → Instr) × Nat} (hk : k ∈ settingsCommands) (dt : Nat) (p : Post)
    (s : State) : exec (k.1 dt p) s = .next (settings k.2 dt p s) := by
  simp only [settingsCommands, List.mem_cons, List.not_mem_nil, or_false] at hk
  rcases hk with rfl | rfl | rfl | rfl | rfl | rfl | rfl | rfl | rfl | rfl | rfl | rfl | rfl | rfl | rfl | rfl | rfl
    | rfl | rfl <;> rfl

/-- A read delivers the records asked for and then completes (R117). -/
theorem execKdCatRead_of_passes {dt : Nat} {p : Post} {s : State}
    (hp : Passes ⟨[32], [fu 0x20 2 0 65535 0, fu 0x22 1 0 1 0], fun b =>
      badIf (decide (fld b 0x20 2 ≠ 0) && !settingsKinds.contains (fld b 0x20 2)) 0x20⟩ false p s) :
    let x := arrive dt 0x0404 0x13 p decideAt s
    let c := curCat x.1
    let kinds := if fld p.body 0x20 2 = 0 then settingsKinds else [fld p.body 0x20 2]
    execKdCatRead dt p s
      = .next (x.2.accept 0 ((kinds.flatMap (readOf c (fld p.body 0x22 1 == 1))).foldl
          (fun s r => emitFull r.1 18 0x13 0 none c.gen x.2.acc c.genEff r.2 none s) x.1)) :=
  congrArg Host.Outcome.next (command_passes hp)

/-- The earliest commit takes effect at its boundary (R115). -/
theorem execCommitBoundary_of_commit {s : State} {x : Sched} {r : List Sched} (hq : s.cat.sched = x :: r)
    (hx : x.restore = false) :
    execCommitBoundary s = .next (applySched x ((reach x.boundary s).upCat (fun c => { c with sched := r }))) := by
  simp only [execCommitBoundary, hq]
  exact if_neg (by simp [hx])

/-- A restore of every format held, scheduled with the next generation of each (R462). -/
def scheduleRestores (u : Sub) (s : State) : State :=
  ((fmtOf s :: s.cat.cats.map (·.format)).eraseDups).foldl (fun s f =>
    let g := nextGen (catOf s f).latestGen
    schedule ⟨u.bound, f, true, false, [], g, u.acc, u.cmp, u.post.ring⟩
      (upCatalog f (fun c => { c with latestGen := g }) s)) s

/-- KD_RESTORE_FACTORY by the order of its checks: no transaction open, every loop Off (R462). -/
theorem execKdRestoreFactory_of_passes {dt : Nat} {p : Post} {s : State} (hp : Passes scRestore false p s) :
    let x := arrive dt 0x1103 0x10 p (fun acc => beatAt (acc + 2 * qMs)) s
    let moving := s.ctl.loops.any (fun l => l.state != .off)
    (s.cat.txn ≠ none → execKdRestoreFactory dt p s = .next (x.2.refuse 0x0F 0 x.1))
    ∧ (s.cat.txn = none → moving = true → execKdRestoreFactory dt p s = .next (x.2.refuse 8 0 x.1))
    ∧ (s.cat.txn = none → moving = false →
      let s1 := scheduleRestores x.2 x.1
      execKdRestoreFactory dt p s
        = .next (complete 0x1103 0x10 p x.2.acc ⟨0, 0, 0, (catOf s1 (fmtOf s1)).latestGen, 0, x.2.bound⟩ s1)) := by
  intro x moving
  simp only [execKdRestoreFactory, command_passes hp, arrive_cat, arrive_ctl]
  have idle : s.cat.txn = none → ¬s.cat.txn.isSome = true := fun h => by simp [h]
  refine ⟨fun ho => ?_, fun ho hm => ?_, fun ho hm => ?_⟩ <;> refine congrArg Host.Outcome.next ?_
  · exact if_pos (Option.isSome_iff_ne_none.2 ho)
  · exact (if_neg (idle ho)).trans (if_pos hm)
  · exact (if_neg (idle ho)).trans (if_neg (Bool.eq_false_iff.1 hm))

/-- The restore of every format takes effect at its boundary (R462). -/
theorem execRestoreBoundary_of_restore {s : State} {x : Sched} {r : List Sched} (hq : s.cat.sched = x :: r)
    (hx : x.restore = true) :
    let due := s.cat.sched.takeWhile (fun y => y.restore && y.acc == x.acc && y.boundary == x.boundary)
    let s1 := (reach x.boundary s).upCat (fun c => { c with sched := c.sched.drop due.length })
    execRestoreBoundary s = .next (raise 123 0xFFFF 0 (due.foldl (fun s y => applySched y s) s1)) := by
  simp only [execRestoreBoundary, hq]
  exact if_neg (by simp [hx])

/-- Settles O25: a record by its refusal and its transaction, and the read, the restore and the boundaries each by their
own lemma. -/
theorem settingsEffect : Obligations.SettingsEffect := by
  refine ⟨fun k hk dt p s hs => ⟨fun t ht hr hacc => ⟨fun hgood => ?_, fun r hbad => ?_⟩, fun hnone r hbad => ?_⟩,
    fun dt p s => execKdCatRead_of_passes, fun s x r => execCommitBoundary_of_commit,
    fun dt p s => execKdRestoreFactory_of_passes, fun s x r => execRestoreBoundary_of_restore⟩ <;>
    refine (exec_settingsCommands hk dt p s).trans (congrArg Host.Outcome.next ?_)
  · exact settings_of_good hs ht hr hacc hgood
  · exact settings_of_bad hs ht hr hacc r hbad
  · exact settings_of_stray hs hnone r hbad

end Sys2Proof.Machine
end

section
/-!
PROOFS. The timeline of the Crop Passage Engine: tap instants, the orphan accumulation, estimation windows, crop changes
and the status record (R126, R131, R140, R144, R148, R154).
-/
namespace Sys2Proof.Machine

@[simp] theorem arrive_pas (dt kind unit : Nat) (p : Post) (at_ : Nat → Nat) (s : State) :
    (arrive dt kind unit p at_ s).1.pas = s.pas := by rfl

/-- The tap instant `t` is the latest, and the next one follows on the grid (R126). -/
def laidTap (t : Nat) (s : State) : State :=
  s.upPas (fun p => { p with tapAt := t, tapNext := nextMul qTap t })

/-- A tap instant lays the next one, and its work is done while a lane commands (R126, R148). -/
theorem execTapInstant_eq (bad : List MapUnit) (s : State) :
    execTapInstant bad s =
      let t := s.pas.tapNext
      .next (laidTap t (if commanding s then tapWork bad t (s.pas.tapNum + 1) (reach t s) else reach t s)) := by
  simp only [execTapInstant, commanding_reach]
  rfl

/-- The open orphan accumulation closes 10 s after it opened, and its records go to the map engine (R154). -/
theorem execOrphanTimeout_of_open {s : State} {o : Orphan} (ho : s.pas.orphan = some o) :
    let s1 := reachEl (o.openEl + 10 * qSec) s
    let r := closeOrphan s1.now.ft false s1
    execOrphanTimeout s = .next (r.2.foldl (fun s x => mapRecord s1.now.ft x s) r.1) := by
  simp only [execOrphanTimeout, ho]

/-- With no orphan accumulation open the timeout does nothing (R154). -/
theorem execOrphanTimeout_of_none {s : State} (ho : s.pas.orphan = none) : execOrphanTimeout s = .next s := by
  simp only [execOrphanTimeout, ho]

/-- The crop change that an accepted KD_CROP_CHANGE brings to wait: it acts from AT_STAMP, and from 2 ms after its stamp
(R140). -/
def awaitedCrop (p : Post) (u : Sub) (s : State) : State :=
  s.upPas (fun q => { q with
    change := some ⟨fld p.body 0x20 1, fld p.body 0x28 8, u.cmp + 2 * qMs, p, u.acc⟩ })

/-- KD_CROP_CHANGE by its AT_STAMP, and by the change that waits already (R140). -/
theorem execKdCropChange_of_passes {dt : Nat} {p : Post} {s : State} (hp : Passes scCropChange false p s) :
    let x := arrive dt 0x0508 unitPass p decideAt s
    let at_ := fld p.body 0x28 8
    (x.2.cmp + 60 * qSec < at_ → execKdCropChange dt p s = .next (x.2.refuse 7 0x28 x.1))
    ∧ (at_ ≤ x.2.cmp + 60 * qSec →
      (s.pas.change = none → execKdCropChange dt p s = .next (awaitedCrop p x.2 x.1))
      ∧ (∀ c, s.pas.change = some c → execKdCropChange dt p s = .next (awaitedCrop p x.2
          (complete 0x0508 unitPass c.post c.stamp ⟨3, 0, 0, p.corr, 0, x.2.bound⟩ x.1)))) := by
  intro x at_
  simp only [execKdCropChange, command_passes hp, arrive_pas]
  refine ⟨fun hfar => ?_, fun hnear => ⟨fun hnone => ?_, fun c hwaits => ?_⟩⟩ <;>
    refine congrArg Host.Outcome.next ?_
  · exact if_pos hfar
  · refine (if_neg (Nat.not_lt.2 hnear)).trans ?_
    simp only [hnone]
    rfl
  · refine (if_neg (Nat.not_lt.2 hnear)).trans ?_
    simp only [hwaits]
    rfl

/-- Settles O27: a tap by whether a lane commands, the timeout by the accumulation, a crop change by its instant; the
window and the status record have one case each. -/
theorem passageEffect : Obligations.PassageEffect := by
  refine ⟨fun bad s => ⟨fun hcmd => ?_, fun hidle => ?_⟩,
    fun s => ⟨fun o => execOrphanTimeout_of_open, execOrphanTimeout_of_none⟩, fun n s => rfl,
    fun dt p s => execKdCropChange_of_passes, fun s => rfl⟩ <;>
    refine (execTapInstant_eq bad s).trans (congrArg (Host.Outcome.next ∘ laidTap s.pas.tapNext) ?_)
  · exact if_pos hcmd
  · exact if_neg (Bool.eq_false_iff.1 hidle)

end Sys2Proof.Machine
end

section
/-!
PROOFS. The samples and the commands of the control loops (R168, R177, R184, R192, R193, R197, R198, R210, R213, R214,
R223).
-/
namespace Sys2Proof.Machine

@[simp] theorem lp_arrive (dt kind unit : Nat) (p : Post) (at_ : Nat → Nat) (s : State) (n : Nat) :
    lp (arrive dt kind unit p at_ s).1 n = lp s n := by rfl
@[simp] theorem curCat_arrive (dt kind unit : Nat) (p : Post) (at_ : Nat → Nat) (s : State) :
    curCat (arrive dt kind unit p at_ s).1 = curCat s := by rfl

/-! The sample boundary of one slot (R168, R177, R184, R213). -/

section
variable {n : Fin 128} {s : State}

/-- The value `o` that outlived the grid of slot `n` takes effect at its own boundary (R184, R213). -/
def paidOwed (n : Nat) (o : Owed) (s : State) : State :=
  handTo n o (upLoop n (fun l => { l with owed := none }) (reach o.at_ s))

/-- A slot that owes nothing first is evaluated at its next boundary (R177). -/
theorem execLoopSample_of_law {law : List Byte} (ho : (lp s n).owesFirst = none) (hl : (lp s n).law = some law) :
    execLoopSample n s = .next (sampleAt n (lp s n).next (reach (lp s n).next s)) := by
  simp only [execLoopSample, ho, hl, Bool.false_eq_true, if_false]

/-- A slot without a law record has no grid (R168): if it owes nothing, nothing happens. -/
theorem execLoopSample_of_idle (ho : (lp s n).owesFirst = none) (hl : (lp s n).law = none) :
    execLoopSample n s = .next s := by
  simp only [execLoopSample, ho, hl]

/-- What a slot owes first takes effect alone where it has no boundary at that instant (R168, R184, R213). -/
theorem execLoopSample_of_owed {o : Owed} (ho : (lp s n).owesFirst = some o)
    (h : (lp s n).law = none ∨ o.at_ ≠ (lp s n).next) : execLoopSample n s = .next (paidOwed n o s) := by
  simp only [execLoopSample, ho]
  cases hl : (lp s n).law with
  | none => rfl
  | some law =>
    have hat := h.resolve_left (by simp [hl])
    exact if_pos (decide_eq_true hat)

/-- What a slot owes at its next boundary takes effect first, and the slot is then evaluated there (R177, R184). -/
theorem execLoopSample_of_owed_at_next {o : Owed} {law : List Byte} (ho : (lp s n).owesFirst = some o)
    (hl : (lp s n).law = some law) (hat : o.at_ = (lp s n).next) :
    execLoopSample n s = .next (sampleAt n (lp s n).next (reach (lp s n).next (paidOwed n o s))) := by
  simp only [execLoopSample, ho, hl]
  exact if_neg (by simp [hat])

end

/-! The evaluation at a boundary: alone or with a group, after the valve requests (R197, R198, R223, log entry 14). -/

section
variable {n t : Nat} {s : State}

/-- The boundary of slot `n` that follows the one at `t`, by the law record in force, or else by its own. -/
def boundaryPast (n t : Nat) (s : State) : Nat :=
  nextBoundary { lp s n with law := ((curCat s).find 0x0601 n).or (lp s n).law } t

/-- A slot of no group is evaluated alone (R177). -/
theorem sampleAt_of_alone (hg : groupOf (decideAround n t s) n = none) :
    let s1 := decideAround n t s
    sampleAt n t s = sampleSlots [n] none t (boundaryPast n t s1) s1 := by
  simp only [sampleAt, hg]
  rfl

/-- A slot of a group is evaluated with the members that have the boundary, where it is one of the group's grid (R197,
R198). -/
theorem sampleAt_of_evaluates {g : Nat} (hg : groupOf (decideAround n t s) n = some g)
    (he : evaluates (decideAround n t s) n g t = true) :
    let s1 := decideAround n t s
    sampleAt n t s = sampleSlots (membersAt s1 g t) (some g) t (boundaryPast n t s1) s1 := by
  simp only [sampleAt, hg]
  exact if_pos he

/-- At a boundary of a grid that it leaves, a slot of a group takes its records, commands and orders only (log
entry 14). -/
theorem sampleAt_of_waits {g : Nat} (hg : groupOf (decideAround n t s) n = some g)
    (he : evaluates (decideAround n t s) n g t = false) :
    let s1 := decideAround n t s
    sampleAt n t s = waitSlots (membersAt s1 g t) t (boundaryPast n t s1) s1 := by
  simp only [sampleAt, hg]
  exact if_neg (Bool.eq_false_iff.1 he)

end

/-! The end of a timed action (R210). -/

section
variable {n : Fin 128} {s : State}

/-- A timed action with no samples left is released. -/
theorem execActionHoldExpiry_of_over (ht : (lp s n).actTimed = true) (hl : (lp s n).actLeft = 0) :
    execActionHoldExpiry n s = .next (releaseAction n s.now.ft s) :=
  congrArg Host.Outcome.next (if_pos (by simp [ht, hl]))

/-- Any other action is left. -/
theorem execActionHoldExpiry_of_held (h : (lp s n).actTimed = false ∨ (lp s n).actLeft ≠ 0) :
    execActionHoldExpiry n s = .next s :=
  congrArg Host.Outcome.next (if_neg (by rcases h with h | h <;> simp [h]))

end

/-! The commands of the host (R192, R193, R213, R214). -/

section
variable {dt : Nat} {p : Post} {s : State} (hp : Passes scSetpoint true p s)
include hp

/-- A set point for a loop without a law record is refused, at the boundary of R544 (R192). -/
theorem execKdSetpoint_of_idle (hl : (lp s (fld p.body 0x20 1)).law = none) :
    let x := arrive dt 0x0603 0x0A p decideAt s
    execKdSetpoint dt p s = .next (x.2.refuse 8 0 x.1) := by
  simp only [execKdSetpoint, command_passes hp, lp_arrive, hl, Option.isNone_none, Bool.true_or, if_true]

/-- Outside a key-off a set point joins the orders of its loop as it is stamped (R192). -/
theorem execKdSetpoint_of_law (hl : (lp s (fld p.body 0x20 1)).law ≠ none) :
    let y := arrive dt 0x0603 0x0A p id s
    execKdSetpoint dt p s = .next (upLoop (fld p.body 0x20 1) (fun l => { l with
      orders := l.orders ++ [⟨1, fldS p.body 0x24 4, y.2.acc, y.2.cmp, some p⟩] }) y.1) := by
  have ⟨_, _, hkey⟩ := hp
  obtain ⟨law, hlaw⟩ := Option.ne_none_iff_exists'.1 hl
  simp only [execKdSetpoint, command_passes hp, lp_arrive, hlaw, hkey rfl, Option.isNone_some, Bool.or_self,
    Bool.false_eq_true, if_false]
  rfl

end

section
variable {dt : Nat} {p : Post} {s : State} (hp : Passes scLoopEnable true p s)
include hp

/-- Disabling a loop without a law record is accepted at once: it has no boundary to wait for (R168, R213). -/
theorem execLoopDisable_of_idle (hl : (lp s (fld p.body 0x20 1)).law = none) :
    let x := arrive dt 0x0604 0x0A p decideAt s
    execLoopDisable dt p s = .next (x.2.accept 0 x.1) := by
  simp only [execLoopDisable, command_passes hp, lp_arrive, hl, Option.isNone_none, if_true]

/-- Disabling any other loop waits for its next boundary (R193). -/
theorem execLoopDisable_of_law (hl : (lp s (fld p.body 0x20 1)).law ≠ none) :
    let x := arrive dt 0x0604 0x0A p decideAt s
    execLoopDisable dt p s = .next (queueLoopCmd 0 x.2 x.1) := by
  simp only [execLoopDisable, command_passes hp, lp_arrive, Option.isNone_iff_eq_none, if_neg hl]

/-- Enabling is refused where no law record is in force (R193, R214). -/
theorem execLoopEnable_of_no_record (hr : (curCat s).find 0x0601 (fld p.body 0x20 1) = none) :
    let x := arrive dt 0x0604 0x0A p decideAt s
    execLoopEnable dt p s = .next (x.2.refuse 8 0 x.1) := by
  simp only [execLoopEnable, command_passes hp, curCat_arrive, hr]

/-- Enabling under a law record is refused where it names no input, and waits for the next boundary otherwise (R193,
R214). -/
theorem execLoopEnable_of_record {b : List Byte} (hr : (curCat s).find 0x0601 (fld p.body 0x20 1) = some b) :
    let x := arrive dt 0x0604 0x0A p decideAt s
    execLoopEnable dt p s
      = .next (if fld b 0x2A 2 = 0xFFFF then x.2.refuse 8 0 x.1 else queueLoopCmd 1 x.2 x.1) := by
  simp only [execLoopEnable, command_passes hp, curCat_arrive, hr]

/-- Clearing is refused where no law record is in force (R193). -/
theorem execLoopClearSticky_of_no_record (hr : (curCat s).find 0x0601 (fld p.body 0x20 1) = none) :
    let x := arrive dt 0x0604 0x0A p decideAt s
    execLoopClearSticky dt p s = .next (x.2.refuse 8 0 x.1) := by
  simp only [execLoopClearSticky, command_passes hp, curCat_arrive, hr, Option.isNone_none, if_true]

/-- Clearing under a law record waits for the next boundary (R193). -/
theorem execLoopClearSticky_of_record {b : List Byte}
    (hr : (curCat s).find 0x0601 (fld p.body 0x20 1) = some b) :
    let x := arrive dt 0x0604 0x0A p decideAt s
    execLoopClearSticky dt p s = .next (queueLoopCmd 2 x.2 x.1) := by
  simp only [execLoopClearSticky, command_passes hp, curCat_arrive, hr, Option.isNone_some, Bool.false_eq_true,
    if_false]

end

/-- Settles O26: a sample by what the slot owes and by its law record, its evaluation by the slot's group, and each
command by the law record of its loop. -/
theorem loopsEffect : Obligations.LoopsEffect := by
  refine ⟨fun n s => ⟨fun ho law => execLoopSample_of_law ho, execLoopSample_of_idle, fun o ho => ?_, fun t => ?_,
    execActionHoldExpiry_of_over, execActionHoldExpiry_of_held⟩, fun dt p s => ⟨fun hp => ?_, fun hp => ?_⟩⟩
  · exact ⟨execLoopSample_of_owed ho, fun law => execLoopSample_of_owed_at_next ho⟩
  · exact ⟨sampleAt_of_alone, fun g hg => ⟨sampleAt_of_evaluates hg, sampleAt_of_waits hg⟩⟩
  · exact ⟨execKdSetpoint_of_idle hp, execKdSetpoint_of_law hp⟩
  · exact ⟨execLoopDisable_of_idle hp, execLoopDisable_of_law hp,
      fun hr => ⟨execLoopEnable_of_no_record hp hr, execLoopClearSticky_of_no_record hp hr⟩,
      fun b hr => ⟨execLoopClearSticky_of_record hp hr, execLoopEnable_of_record hp hr⟩⟩

end Sys2Proof.Machine
end

section
/-!
PROOFS. The requests of the valve output stage: what waits for its requested start, and the decision there (R221–R223,
R241).
-/
namespace Sys2Proof.Machine

/-- The earliest requested start is the least element of the list of requested starts. -/
theorem earliestStart_eq_min? (l : List VHost) : earliestStart l = (l.map (·.start)).min? := by
  cases l with
  | nil => rfl
  | cons h r => rw [earliestStart, List.map_cons, List.min?_cons', List.foldl_map]

/-- Settles O29: the earliest start is the least element of the requested starts, which has these two properties. -/
theorem earliestStartIsLeast : Obligations.EarliestStartIsLeast := by
  refine ⟨fun l => ?_, fun l t ht => ?_⟩
  · rw [earliestStart_eq_min?, List.min?_eq_none_iff, List.map_eq_nil_iff]
  · obtain ⟨hmem, hleast⟩ := List.min?_eq_some_iff.1 (earliestStart_eq_min? l ▸ ht)
    exact ⟨List.mem_map.1 hmem, List.forall_mem_map.1 hleast⟩

section
variable {dt kind : Nat} {sc : RecSchema} {p : Post} {s : State} (hp : Passes sc true p s)
include hp

/-- A valve command within its ranges waits for its requested start (R222). -/
theorem valveCommand_of_in_range
    (hr : let x := arrive dt kind 0x0B p (fun acc => acc) s
      valveRange x.1 kind p x.2.cmp = none) :
    let x := arrive dt kind 0x0B p (fun acc => acc) s
    valveCommand dt kind sc p s = x.1.upValve (fun v => { v with
      host := v.host ++ [⟨kind, p, x.2.acc, startAt x.2.cmp (fld p.body 0x28 8)⟩] }) := by
  simp only [valveCommand, command_passes hp, hr]

/-- A valve command with a value out of its range is refused with reason 7, at the boundary of R544 (R224, R241). -/
theorem valveCommand_of_out_of_range {o : Nat}
    (hr : let x := arrive dt kind 0x0B p (fun acc => acc) s
      valveRange x.1 kind p x.2.cmp = some o) :
    let x := arrive dt kind 0x0B p (fun acc => acc) s
    valveCommand dt kind sc p s = { x.2 with bound := decideAt x.2.cmp }.refuse 7 o x.1 := by
  simp only [valveCommand, command_passes hp, hr]

end

/-- The valve requests of the earliest start are decided there while a lane commands, the host's and the values of
loops, channel by channel (R56, R223). -/
theorem execValveRequestDecide_of_due {s : State} {t : Nat} (ht : earliestStart s.valve.host = some t)
    (hc : commanding s = true) :
    let r := reach t s
    let due := s.valve.host.filter (fun h => h.start == t)
    let slots := (List.range 128).filter (toValve r t)
    let s1 := r.upValve (fun v => { v with host := v.host.filter (fun h => h.start != t) })
    execValveRequestDecide s = .next ((List.range 24).foldl (fun s c =>
      slots.foldl (fun s n => slotToChannel c t n s) (decideChannel t c due s)) s1) := by
  simp only [execValveRequestDecide, ht, hc, if_true, decideValves, reach_valve]

/-- With no request waiting, or while no lane commands, nothing is decided (R56, R223). -/
theorem execValveRequestDecide_of_idle {s : State}
    (h : earliestStart s.valve.host = none ∨ commanding s = false) : execValveRequestDecide s = .next s := by
  unfold execValveRequestDecide
  rcases h with hnone | hc
  · rw [hnone]
  · rw [hc]
    cases earliestStart s.valve.host <;> rfl

/-- Settles O28: a command by its ranges, the decision by what waits and whether a lane commands. -/
theorem valveCommandsEffect : Obligations.ValveCommandsEffect := by
  refine ⟨?_, fun s t ht hc => execValveRequestDecide_of_due ht hc, fun s => execValveRequestDecide_of_idle⟩
  simp only [List.forall_mem_cons]
  refine ⟨?_, ?_, ?_, by simp⟩ <;>
    exact fun dt p s hp => ⟨fun hr => congrArg Host.Outcome.next (valveCommand_of_in_range hp hr),
      fun o hr => congrArg Host.Outcome.next (valveCommand_of_out_of_range hp hr)⟩

end Sys2Proof.Machine
end

section
/-!
PROOFS. The phases of a valve channel: the ends of a rise, a peak and a quench, the deadline of the boost queue and the
means of the current (R218, R220, R221, R226, R231–R233, R243, R245).
-/
namespace Sys2Proof.Machine

/-- What a change of channel `n` keeps of every channel value reads the same of each channel after it. -/
theorem vch_upVch_of_keeps {α : Type} (g : VChan → α) {f : VChan → VChan} (h : ∀ c, g (f c) = g c) (n k : Nat)
    (s : State) : g (vch (upVch n f s) k) = g (vch s k) := by
  simp only [vch, upVch, State.upValve_valve, nth, upd, List.getD_eq_getElem?_getD, List.getElem?_modify]
  cases s.valve.ch[k]? <;> by_cases hk : n = k <;> simp [h, hk]

@[simp] theorem vrec_upVch (n : Nat) (f : VChan → VChan) (s : State) (k : Nat) :
    vrec (upVch n f s) k = vrec s k := by rfl
@[simp] theorem vbank_upVch (n : Nat) (f : VChan → VChan) (s : State) (b : Nat) :
    vbank (upVch n f s) b = vbank s b := by rfl
@[simp] theorem measI_upVch (n : Nat) (f : VChan → VChan) (s : State) (k : Nat) (m : ValveMeas) :
    measI (upVch n f s) k m = measI s k m := by rfl
@[simp] theorem measI_tick (dt : Nat) (s : State) (k : Nat) (m : ValveMeas) : measI (tick dt s) k m = measI s k m := by
  rfl
@[simp] theorem measI_reachEl (t : Nat) (s : State) (k : Nat) (m : ValveMeas) :
    measI (reachEl t s) k m = measI s k m := by rfl

/-- Two tests that pass on a bank whose supply does not suspend them, as the model conjoins them. -/
theorem decide_and_decide_and_not_iff {a b : Prop} [Decidable a] [Decidable b] {x : Bool} :
    (decide a && decide b && !x) = true ↔ a ∧ b ∧ x = false := by
  simp [and_assoc]

section
variable {n : Fin 24} {dt cur ma : Nat} {w : List Sense} {m : ValveMeas} {s : State}

/-! VALVE_RISE_END and VALVE_PEAK_END (R220, R233). -/

/-- A rise that reaches the peak current in its time, but within RISE_MIN_US, is case 3 (R233). -/
theorem execValveRiseEnd_of_early (hp : (vch s n).phase = .rise) (hi : (vch s n).ipk ≤ measI s n m)
    (ht : s.now.el + dt ≤ (vch s n).endEl)
    (he : fld (vrec s n) 0x42 2 ≠ 0
      ∧ (tick dt (sensed n ma w s)).now.el < (vch s n).startEl + fld (vrec s n) 0x42 2 * qUs
      ∧ (vbank s (n / 4)).undervolt = false) :
    execValveRiseEnd n dt ma w m s = .next (detect n 3 m (tick dt (sensed n ma w s))) := by
  unfold execValveRiseEnd
  rw [if_neg (not_not_intro hp), if_pos ⟨hi, ht⟩, if_pos (decide_and_decide_and_not_iff.2 he)]

/-- Any other rise that reaches the peak current in its time begins PEAK (R220). -/
theorem execValveRiseEnd_of_peak (hp : (vch s n).phase = .rise) (hi : (vch s n).ipk ≤ measI s n m)
    (ht : s.now.el + dt ≤ (vch s n).endEl)
    (he : ¬(fld (vrec s n) 0x42 2 ≠ 0
      ∧ (tick dt (sensed n ma w s)).now.el < (vch s n).startEl + fld (vrec s n) 0x42 2 * qUs
      ∧ (vbank s (n / 4)).undervolt = false)) :
    let s1 := tick dt (sensed n ma w s)
    execValveRiseEnd n dt ma w m s
      = .next (upVch n (fun c => { c.enter .peak s1.now.el with endEl := s1.now.el + c.peakUs * qUs }) s1) := by
  unfold execValveRiseEnd
  rw [if_neg (not_not_intro hp), if_pos ⟨hi, ht⟩, if_neg (mt decide_and_decide_and_not_iff.1 he)]

/-- A rise that does not reach the peak current in its time goes on to HOLD with PEAK_NOT_REACHED (R220). -/
theorem execValveRiseEnd_of_timeout (hp : (vch s n).phase = .rise)
    (h : measI s n m < (vch s n).ipk ∨ (vch s n).endEl < s.now.el + dt) :
    let s1 := armature n (reachEl (vch s n).endEl (sensed n ma w s))
    execValveRiseEnd n dt ma w m s = .next (runQueue 4 (n / 4) (upVch n (fun c =>
      { c.enter .hold s1.now.el with peakNotReached := true, target := c.ihold }) s1)) := by
  unfold execValveRiseEnd
  rw [if_neg (not_not_intro hp), if_neg (by omega)]

/-- The end of a rise leaves a channel in another phase as it is (R220). -/
theorem execValveRiseEnd_of_other (hp : (vch s n).phase ≠ .rise) : execValveRiseEnd n dt ma w m s = .next s :=
  if_pos hp

/-- The end of a peak begins HOLD, and the freed slot may go to the next in the queue (R220, R226). -/
theorem execValvePeakEnd_of_peak (hp : (vch s n).phase = .peak) :
    let s1 := armature n (reachEl (vch s n).endEl (sensed n ma w s))
    execValvePeakEnd n ma w s = .next (runQueue 4 (n / 4) (upVch n (fun c =>
      { c.enter .hold s1.now.el with target := c.ihold }) s1)) :=
  if_neg (not_not_intro hp)

/-- The end of a peak leaves a channel in another phase as it is (R220). -/
theorem execValvePeakEnd_of_other (hp : (vch s n).phase ≠ .peak) : execValvePeakEnd n ma w s = .next s :=
  if_pos hp

/-! VALVE_QUENCH_END and VALVE_BOOST_DEADLINE (R220, R226). -/

/-- A quench whose current falls below 20 mA in its time is over (R220). -/
theorem execValveQuenchEnd_of_low (hq : (vch s n).quenching = true) (hi : cur < 20)
    (ht : s.now.el + dt ≤ (vch s n).endEl) :
    execValveQuenchEnd n dt cur s = .next (quenchOver n false (tick dt s)) := by
  simp only [execValveQuenchEnd, hq, hi, ht, Bool.not_true, Bool.false_eq_true, if_false, and_self, if_true]

/-- Any other quench ends at its limit, with QUENCH_TIMEOUT (R220). -/
theorem execValveQuenchEnd_of_timeout (hq : (vch s n).quenching = true)
    (h : 20 ≤ cur ∨ (vch s n).endEl < s.now.el + dt) :
    execValveQuenchEnd n dt cur s = .next (quenchOver n true (reachEl (vch s n).endEl s)) := by
  simp only [execValveQuenchEnd, hq, Bool.not_true, Bool.false_eq_true, if_false]
  exact if_neg (by omega)

/-- The end of a quench leaves a channel that is in none as it is (R220). -/
theorem execValveQuenchEnd_of_other (hq : (vch s n).quenching = false) : execValveQuenchEnd n dt cur s = .next s := by
  simp only [execValveQuenchEnd, hq, Bool.not_false, if_true]

/-- A start still queued at its deadline is refused, and the queue goes on (R226). -/
theorem execValveBoostDeadline_of_queued {r : VReq} (hw : (vch s n).wait = some r)
    (hq : (vbank s (n.val / 4)).queue.contains n.val = true) :
    let s1 := reachEl r.deadline s
    execValveBoostDeadline n s = .next (runQueue 4 (n.val / 4)
      (raise 92 n 0 (cancelWait n (refusedWith 0x12 0 (beatAt s1.now.ft)) s1))) := by
  simp only [execValveBoostDeadline, hw, hq, if_true]

/-- The deadline leaves a channel that is not in the queue of its bank as it is (R226). -/
theorem execValveBoostDeadline_of_other
    (h : (vch s n).wait = none ∨ (vbank s (n.val / 4)).queue.contains n.val = false) :
    execValveBoostDeadline n s = .next s := by
  unfold execValveBoostDeadline
  rcases h with hw | hq
  · rw [hw]
  · simp only [hq, Bool.false_eq_true, if_false]
    cases (vch s n).wait <;> rfl

/-! VALVE_CHOP_PERIOD_END (R221, R233, R243). -/

/-- The end of a mean changes of a channel the samples of its detector, I_MA and the count of means alone. -/
theorem vch_takeMean_of_keeps {α : Type} (g : VChan → α)
    (h : ∀ c d i k, g { c with dipWatch := d, iMa := i, means := k } = g c) :
    g (vch (takeMean n w m s) n) = g (vch s n) := by
  have hmean : ∀ (c : VChan) i k, g { c with iMa := i, means := k } = g c := fun c i k => h c c.dipWatch i k
  have hdip : ∀ (c : VChan) d, g { c with dipWatch := d } = g c := fun c d => h c d c.iMa c.means
  unfold takeMean watchDip
  rw [vch_upVch_of_keeps g (fun c => hmean c _ _), vch_upVch_of_keeps g, vch_reachEl]
  intro c
  split
  · exact hdip c _
  · rfl

@[simp] theorem vch_takeMean_phase : (vch (takeMean n w m s) n).phase = (vch s n).phase :=
  vch_takeMean_of_keeps (·.phase) (fun _ _ _ _ => rfl)
@[simp] theorem vch_takeMean_target : (vch (takeMean n w m s) n).target = (vch s n).target :=
  vch_takeMean_of_keeps (·.target) (fun _ _ _ _ => rfl)
@[simp] theorem vch_takeMean_openRun : (vch (takeMean n w m s) n).openRun = (vch s n).openRun :=
  vch_takeMean_of_keeps (·.openRun) (fun _ _ _ _ => rfl)
@[simp] theorem vrec_takeMean (k : Nat) : vrec (takeMean n w m s) k = vrec s k := by
  simp [takeMean, watchDip]
@[simp] theorem vbank_takeMean (b : Nat) : vbank (takeMean n w m s) b = vbank s b := by
  simp [takeMean, watchDip]
@[simp] theorem measI_takeMean (k : Nat) : measI (takeMean n w m s) k m = measI s k m := by
  simp [takeMean, watchDip]

/-- Outside HOLD a mean is taken, and no more (R243). -/
theorem execValveChopPeriodEnd_of_other (hp : (vch s n).phase ≠ .hold) :
    execValveChopPeriodEnd n w m s = .next (takeMean n w m s) :=
  if_pos (by simpa using hp)

/-- In HOLD a mean takes up the target, publishes the hold current and counts towards an open load (R221, R231,
R233). -/
theorem execValveChopPeriodEnd_of_hold (hp : (vch s n).phase = .hold) :
    let i := measI s n m
    let ol := fld (vrec s n) 0x3A 2
    let low := decide (i < ol) && decide (2 * ol ≤ (vch s n).target)
    let run := if (vbank s (n / 4)).undervolt then (vch s n).openRun else if low then (vch s n).openRun + 1 else 0
    let s2 := upVch n (fun c => { c with target := c.ihold, openRun := if run = 8 then 0 else run }) (takeMean n w m s)
    let s3 := input (136 + n) s2.now.ft (q130 i 8000) s2
    execValveChopPeriodEnd n w m s
      = .next (if run = 8 then detect n (if (fld (vrec s n) 0x3E 2 : Int) ≤ m.excess then 2 else 1) m s3
          else s3) := by
  simp only [execValveChopPeriodEnd, vch_takeMean_phase, vch_takeMean_target, vch_takeMean_openRun, vrec_takeMean,
    vbank_takeMean, measI_takeMean, hp, ne_eq, not_true_eq_false, if_false, decide_eq_true_eq]

end

/-- Settles O30: each end of a phase by the phase of the channel, a rise and a quench also by what ends them, and a mean
by whether the channel holds. -/
theorem valvePhasesEffect : Obligations.ValvePhasesEffect := by
  intro n dt cur ma w m s
  exact ⟨fun hp hi ht => ⟨execValveRiseEnd_of_early hp hi ht, execValveRiseEnd_of_peak hp hi ht⟩,
    execValveRiseEnd_of_timeout, execValveRiseEnd_of_other, execValvePeakEnd_of_peak, execValvePeakEnd_of_other,
    fun hq => ⟨execValveQuenchEnd_of_low hq, execValveQuenchEnd_of_timeout hq⟩, execValveQuenchEnd_of_other,
    fun r => execValveBoostDeadline_of_queued, execValveBoostDeadline_of_other,
    execValveChopPeriodEnd_of_other, execValveChopPeriodEnd_of_hold⟩

end Sys2Proof.Machine
end

section
/-!
PROOFS. The diagnostics of the valve output stage: the open-load check, the short-circuit trip, the bank line, the
off-state test, the supply of a bank, the status record and the plate's temperature (R231, R233, R234, R239, R243).
-/
namespace Sys2Proof.Machine

section
variable {n : Fin 24} {dt : Nat} {m : ValveMeas} {s : State}

/-! VALVE_OPEN_ON_CHECK and VALVE_SCB_TRIP (R231, R233). -/

/-- The open-load check of the latest start is made, when OL_ON_US have passed (R233). -/
def openChecked (n : Nat) (s : State) : State :=
  upVch n (fun c => { c with openCheck := false }) (reachEl ((vch s n).startEl + fld (vrec s n) 0x3C 2 * qUs) s)

/-- A current below OL_ON_MA at the check, in RISE and with the bank's tests running, is case 1 or 2 (R233). -/
theorem execValveOpenOnCheck_of_low (hc : (vch s n).openCheck = true)
    (h : (vch s n).phase = .rise ∧ measI s n m < fld (vrec s n) 0x3A 2 ∧ (vbank s (n / 4)).undervolt = false) :
    execValveOpenOnCheck n m s
      = .next (detect n (if (fld (vrec s n) 0x3E 2 : Int) ≤ m.excess then 2 else 1) m (openChecked n s)) := by
  simp only [execValveOpenOnCheck, hc, Bool.not_true, Bool.false_eq_true, if_false]
  exact if_pos (decide_and_decide_and_not_iff.2 h)

/-- Any other outcome of the check is healthy (R233). -/
theorem execValveOpenOnCheck_of_healthy (hc : (vch s n).openCheck = true)
    (h : ¬((vch s n).phase = .rise ∧ measI s n m < fld (vrec s n) 0x3A 2 ∧ (vbank s (n / 4)).undervolt = false)) :
    execValveOpenOnCheck n m s = .next (openChecked n s) := by
  simp only [execValveOpenOnCheck, hc, Bool.not_true, Bool.false_eq_true, if_false]
  exact if_neg (mt decide_and_decide_and_not_iff.1 h)

/-- A check that does not wait does nothing (R233). -/
theorem execValveOpenOnCheck_of_none (hc : (vch s n).openCheck = false) : execValveOpenOnCheck n m s = .next s := by
  simp only [execValveOpenOnCheck, hc, Bool.not_false, if_true]

@[simp] theorem vhead_tick (dt : Nat) (s : State) (k : Nat) : vhead (tick dt s) k = vhead s k := by rfl

/-- Through a channel that is on, a current above SCB_TRIP_MA is case 3 of the channel that governs it, while the bank's
tests run (R231, R233). -/
theorem execValveScbTrip_of_trip
    (h : (vch s (vhead s n)).on = true ∧ fld (vrec s (vhead s n)) 0x40 2 < measI s (vhead s n) m
      ∧ (vbank s (n / 4)).undervolt = false) :
    execValveScbTrip n dt m s = .next (detect (vhead s n) 3 m (tick dt s)) := by
  obtain ⟨hon, hover, hvolts⟩ := h
  simp only [execValveScbTrip, vhead_tick, vch_tick, vrec_tick, measI_tick, vbank_tick, hon, hover, hvolts, decide_true,
    Bool.not_false, Bool.and_self, if_true]

/-- Otherwise only time passes (R233). -/
theorem execValveScbTrip_of_no_trip
    (h : ¬((vch s (vhead s n)).on = true ∧ fld (vrec s (vhead s n)) 0x40 2 < measI s (vhead s n) m
      ∧ (vbank s (n / 4)).undervolt = false)) :
    execValveScbTrip n dt m s = .next (tick dt s) := by
  simp only [execValveScbTrip, vhead_tick, vch_tick, vrec_tick, measI_tick, vbank_tick]
  exact congrArg Host.Outcome.next (if_neg (by simpa [and_assoc] using h))

/-! VALVE_OFF_TEST_COMPLETE and VALVE_OFF_TEST (R233). -/

/-- The measurement of a test that runs is one of the cases or none (R233). -/
theorem execValveOffTestComplete_of_testing (ht : (vch s n).testing = true) :
    let s1 := upVch n (fun c => { c with testing := false }) (reachEl (s.valve.testEl + 200 * qUs) s)
    execValveOffTestComplete n m s
      = .next (match offCase (hsClosed s1 (n / 4)) (fld (vrec s n) 0x3E 2) (measVd n m) m.excess with
          | some k => detect n k m s1 | none => s1) := by
  simp only [execValveOffTestComplete, ht, Bool.not_true, Bool.false_eq_true, if_false, vrec_upVch, vrec_reachEl]
  generalize offCase _ _ _ _ = found
  cases found <;> rfl

/-- A measurement of a test that does not run does nothing (R233). -/
theorem execValveOffTestComplete_of_idle (ht : (vch s n).testing = false) :
    execValveOffTestComplete n m s = .next s := by
  simp only [execValveOffTestComplete, ht, Bool.not_false, if_true]

end

@[simp] theorem vbankCfg_reach (t : Nat) (s : State) (off size : Nat) :
    vbankCfg (reach t s) off size = vbankCfg s off size := by rfl
@[simp] theorem isOdd_reach (t : Nat) (s : State) (k : Nat) : isOdd (reach t s) k = isOdd s k := by rfl

/-- The off-state test starts together on the idle channels, one for a pair, of the banks whose tests run (R231,
R233). -/
theorem execValveOffTest_starts (s : State) :
    let t := s.valve.testNext
    let s1 := reach t s
    ∃ u, execValveOffTest s = .next u ∧ u.valve.testNext = nextPeriod t (vbankCfg s 0x34 2)
      ∧ u.valve.testEl = s1.now.el ∧ ∀ n : Fin 24, vch u n = { vch s n with
        testing := decide (isOdd s n = false ∧ (vch s n).phase = .off
          ∧ ((vch s n).quenchAt + 5 * qMs ≤ s1.now.el ∨ (vch s n).quenchAt = 0)
          ∧ (vbank s (n / 4)).undervolt = false) } := by
  refine ⟨_, rfl, by simp, by simp, fun n => ?_⟩
  simp [vch, vbank, nth, Bool.and_assoc]

section
variable {b : Fin 6} {dt vs : Nat} {m : ValveMeas} {s : State}

/-! VALVE_BANK_LINE and VALVE_BANK_UNDERVOLT (R233, R234). -/

@[simp] theorem hsClosed_tick (dt : Nat) (s : State) (b : Nat) : hsClosed (tick dt s) b = hsClosed s b := by rfl

/-- A bank over 40 A, or with its line 3.0 V below the supply behind a closed high-side, is a bank line fault (R234). -/
theorem execValveBankLine_of_short (h : 40000 < m.ihb ∨ (hsClosed s b = true ∧ m.vhb + 3000 < m.vs)) :
    execValveBankLine b dt m s = .next (bankLineFault b m (tick dt s)) :=
  congrArg Host.Outcome.next (if_pos (by simpa using h))

/-- Otherwise only time passes (R234). -/
theorem execValveBankLine_of_no_short (h : ¬(40000 < m.ihb ∨ (hsClosed s b = true ∧ m.vhb + 3000 < m.vs))) :
    execValveBankLine b dt m s = .next (tick dt s) :=
  congrArg Host.Outcome.next (if_neg (by simpa using h))

/-- The measured supply of a bank is taken up. -/
def suppliedWith (b : Fin 6) (vs : Nat) (s : State) : State :=
  s.upPow (fun p => { p with vsMv := p.vsMv.set b (sat 16 vs) })

/-- From 7.0 V on the tests of a bank run (R233). -/
theorem execValveBankUndervolt_of_enough (h : 7000 ≤ vs) :
    execValveBankUndervolt b dt vs s
      = .next (suppliedWith b vs (upVbank b (fun x => { x with undervolt := false }) (tick dt s))) := by
  simp only [execValveBankUndervolt, Nat.not_lt.2 h, decide_false, Bool.false_eq_true, if_false, suppliedWith]

/-- Below 7.0 V every test of a bank is suspended, one that runs too (R233). -/
theorem execValveBankUndervolt_of_low (h : vs < 7000) :
    execValveBankUndervolt b dt vs s
      = .next (suppliedWith b vs ((bankChans b).foldl (fun s n => upVch n (fun c => { c with testing := false }) s)
          (upVbank b (fun x => { x with undervolt := true }) (tick dt s)))) := by
  simp only [execValveBankUndervolt, h, decide_true, if_true, suppliedWith]

/-! VALVE_STATUS_PERIOD and PLATE_TEMPERATURE (R239, R243). -/

/-- KD_VALVE_STATUS follows its period (R243). -/
theorem execValveStatusPeriod_of_period (h : vbankCfg s 0x36 2 ≠ 0) :
    let t := s.valve.statusNext
    execValveStatusPeriod s = .next (valveStatus
      ((reach t s).upValve (fun v => { v with statusNext := nextPeriod t (vbankCfg s 0x36 2) }))) :=
  if_neg h

/-- With no period set nothing is delivered (R243). -/
theorem execValveStatusPeriod_of_none (h : vbankCfg s 0x36 2 = 0) : execValveStatusPeriod s = .next s :=
  if_pos h

/-- The plate's temperature sets the band by the edges of the record in force, and reaches the display (R239, R420). -/
theorem execPlateTemperature_eq (c : Int) (s : State) :
    let b := recBody s 0x0701 24
    let s1 := (reach s.valve.plateNext s).upValve (fun v => { v with
      plateC := c, band := bandOf [fldS b 0x30 1, fldS b 0x31 1, fldS b 0x32 1] v.band c
      plateNext := nextMul (100 * qMs) v.plateNext })
    execPlateTemperature c s
      = .next (displayTemp c (s1.upPow (fun p => { p with plateC := clampI (-128) 127 c }))) := by
  simp only [execPlateTemperature, recBody_reach]

end

/-- Settles O31: a check or a test by whether it waits and what it measures, the bank by its line and its supply, the
status by its period. -/
theorem valveDiagnosticsEffect : Obligations.ValveDiagnosticsEffect := by
  refine ⟨fun n dt m s => ?_, fun b dt vs m s => ?_, execValveOffTest_starts, fun s => ?_, execPlateTemperature_eq⟩
  · exact ⟨fun hc => ⟨execValveOpenOnCheck_of_low hc, execValveOpenOnCheck_of_healthy hc⟩,
      execValveOpenOnCheck_of_none, ⟨execValveScbTrip_of_trip, execValveScbTrip_of_no_trip⟩,
      execValveOffTestComplete_of_testing, execValveOffTestComplete_of_idle⟩
  · exact ⟨execValveBankLine_of_short, execValveBankLine_of_no_short, execValveBankUndervolt_of_enough,
      execValveBankUndervolt_of_low⟩
  · exact ⟨execValveStatusPeriod_of_period, execValveStatusPeriod_of_none⟩

end Sys2Proof.Machine
end

section
/-!
PROOFS. The commands of the Yield Map Engine: the field commands and the tile requests that wait for their tap instant,
the end of a close, and the periods of the flush and of the summary (R260, R262, R263, R265, R267).
-/
namespace Sys2Proof.Machine

/-! Field commands and tile requests (R262, R263, R265). -/

/-- A field command, or a tile request, waits for the first tap instant at or after its stamp + 2 ms (R262, R265). -/
def queueMapCmd (isTile : Bool) (what : Nat) (p : Post) (u : Sub) (s : State) : State :=
  s.upMap (fun m => { m with cmds := m.cmds ++ [⟨isTile, what, p, u.acc, u.cmp + 2 * qMs⟩] })

section
variable {dt : Nat} {p : Post} {s : State}

/-- A field command that passes the checks, outside a key-off, joins those that wait (R262, R263). -/
theorem fieldCommand_of_passes (what : Nat) (hp : Passes scFieldOpen true p s) :
    let x := arrive dt 0x0802 0x0C p decideAt s
    fieldCommand dt what p s = queueMapCmd false what p x.2 x.1 :=
  command_passes hp

/-- A tile request that passes the checks joins those that wait (R265). -/
theorem tileRequest_of_passes (what : Nat) (hp : Passes scTileRequest false p s) :
    let x := arrive dt 0x0804 0x0C p decideAt s
    tileRequest dt what p s = queueMapCmd true what p x.2 x.1 :=
  command_passes hp

end

/-! FIELD_CLOSE_FLUSHED (R263). -/

section
variable {dt : Nat} {s : State}

/-- The oldest close completes with its count of tiles lost, and the others go on waiting (R263). -/
theorem execFieldCloseFlushed_of_cons {c : MapClose} {r : List MapClose} (hc : s.map.closes = c :: r) :
    execFieldCloseFlushed dt s = .next (complete 0x0802 0x0C c.post c.stamp (accepted c.lost c.at_)
      ((tick dt s).upMap (fun m => { m with closes := r }))) := by
  simp only [execFieldCloseFlushed, tick_map, hc]

/-- With no close to complete only time passes (R263). -/
theorem execFieldCloseFlushed_of_nil (hc : s.map.closes = []) : execFieldCloseFlushed dt s = .next (tick dt s) := by
  simp only [execFieldCloseFlushed, tick_map, hc]

end

/-! MAP_FLUSH_PERIOD and MAP_SUMMARY_PERIOD (R260, R267). -/

/-- The flush instant is reached, and the next one follows on its grid (R260). -/
def laidFlush (s : State) : State :=
  (reach s.map.flushNext s).upMap (fun m => { m with
    flushNext := nextMul (max 1 (fld m.recd 0x24 2) * qSec) s.map.flushNext })

@[simp] theorem commanding_upMap (f : MapU → MapU) (s : State) : commanding (s.upMap f) = commanding s := by rfl

section
variable {s : State}

/-- With no field open, or while no lane commands, only the next flush is laid (R260). -/
theorem execMapFlushPeriod_of_idle (h : s.map.field = none ∨ commanding s = false) :
    execMapFlushPeriod s = .next (laidFlush s) := by
  simp only [execMapFlushPeriod, laidFlush, State.upMap_map, reach_map, commanding_upMap, commanding_reach]
  rcases h with hnone | hidle
  · simp only [hnone]
  · simp only [hidle, Bool.not_false, if_true]
    cases s.map.field <;> rfl

/-- While a lane commands the dirty tiles of the open field are written, and delivered with ON_FLUSH (R260). -/
theorem execMapFlushPeriod_of_field {f : MapField} (hf : s.map.field = some f) (hc : commanding s = true) :
    let r := mapFlush (laidFlush s)
    execMapFlushPeriod s = .next (if (fld s.map.recd 0x21 1).testBit 0 then
      deliverTiles f.geom 1 s.map.flushNext r.2.1 r.1 else r.1) := by
  simp only [execMapFlushPeriod, laidFlush, State.upMap_map, reach_map, commanding_upMap, commanding_reach, hf, hc,
    Bool.not_true, Bool.false_eq_true, if_false]

/-- With a period set the summary of the open field is delivered, and the next one follows on its grid (R267). -/
theorem execMapSummaryPeriod_of_period (h : fld s.map.recd 0x28 2 ≠ 0) :
    let t := s.map.summaryNext
    execMapSummaryPeriod s = .next (openSummary t ((reach t s).upMap (fun m => { m with
      summaryNext := nextMul (fld s.map.recd 0x28 2 * qSec) t }))) :=
  if_neg h

/-- With no period set nothing is delivered (R267). -/
theorem execMapSummaryPeriod_of_none (h : fld s.map.recd 0x28 2 = 0) : execMapSummaryPeriod s = .next s :=
  if_pos h

end

/-- Settles O32: a command by its checks, the end of a close by whether one waits, a flush by the open field and whether
a lane commands, a summary by its period. -/
theorem mapCommandsEffect : Obligations.MapCommandsEffect := by
  refine ⟨?_, ?_, fun dt s c r => execFieldCloseFlushed_of_cons, fun dt s => execFieldCloseFlushed_of_nil,
    fun s => ⟨execMapFlushPeriod_of_idle, fun f => execMapFlushPeriod_of_field⟩,
    fun s => ⟨execMapSummaryPeriod_of_period, execMapSummaryPeriod_of_none⟩⟩ <;>
    simp only [List.forall_mem_cons]
  · refine ⟨?_, ?_, ?_, ?_, by simp⟩ <;>
      exact fun dt p s hp => congrArg Host.Outcome.next (fieldCommand_of_passes _ hp)
  · refine ⟨?_, ?_, ?_, by simp⟩ <;>
      exact fun dt p s hp => congrArg Host.Outcome.next (tileRequest_of_passes _ hp)

end Sys2Proof.Machine
end

section
/-!
SUPPORT. The GNSS epoch and the antenna supply (R270, R275, R276): what an epoch fixes at its instant, none of its
later steps moves again; the antenna commands by the configuration, the state and the current.
-/
namespace Sys2Proof.Machine

/-! What an epoch fixes at its instant (R275, R276). -/

/-- EPOCH_COUNT, the instant of the latest epoch, and the present instant. -/
def epochMark (s : State) : Nat × Nat × Now := (s.gnss.epoch, s.gnss.lastAt, s.now)

/-- An operation that touches neither the GNSS front end nor the clocks leaves the mark. -/
theorem epochMark_of_mask {U : Units} {s t : State} (h : mask U t = mask U s) (hn : U.now = false)
    (hg : U.gnss = false) : epochMark t = epochMark s := by
  simp only [epochMark, mask_now h hn, mask_gnss h hg]

@[simp] theorem epochMark_upTime (f : TimeU → TimeU) (s : State) : epochMark (s.upTime f) = epochMark s := by rfl
@[simp] theorem epochMark_accrue (s : State) : epochMark (accrue s) = epochMark s := by rfl

@[simp] theorem epochMark_raise (src inst code : Nat) (s : State) :
    epochMark (raise src inst code s) = epochMark s :=
  epochMark_of_mask (U := { hub := true }) (raise_mask rfl ..) rfl rfl

@[simp] theorem epochMark_timeTo (st : TimeState) (s : State) : epochMark (timeTo st s) = epochMark s :=
  epochMark_of_mask (U := { time := true, hub := true }) (timeTo_mask rfl rfl ..) rfl rfl

@[simp] theorem epochMark_timeChanged (s : State) : epochMark (timeChanged s) = epochMark s :=
  epochMark_of_mask (U := { hub := true }) (timeChanged_mask rfl ..) rfl rfl

@[simp] theorem epochMark_loseLock (s : State) : epochMark (loseLock s) = epochMark s := by
  simp only [loseLock, epochMark_timeTo, epochMark_upTime, epochMark_accrue]

@[simp] theorem epochMark_clockFailed (s : State) : epochMark (clockFailed s) = epochMark s := by
  unfold clockFailed
  split <;> simp

@[simp] theorem epochMark_clockPassed (s : State) : epochMark (clockPassed s) = epochMark s := by rfl

/-- A change of the front end that keeps the count and the instant leaves the mark. -/
theorem epochMark_upGnss {f : Gnss → Gnss} {s : State} (he : (f s.gnss).epoch = s.gnss.epoch)
    (hl : (f s.gnss).lastAt = s.gnss.lastAt) : epochMark (s.upGnss f) = epochMark s := by
  simp only [epochMark, State.upGnss_gnss, State.upGnss_now, he, hl]

/-- A solution that joins the history keeps the count and the instant. -/
theorem clkJoin_epoch_lastAt (g : Gnss) (el : Nat) (me : ClkSol) :
    (g.clkJoin el me).epoch = g.epoch ∧ (g.clkJoin el me).lastAt = g.lastAt := by
  unfold Gnss.clkJoin
  split <;> exact ⟨rfl, rfl⟩

@[simp] theorem epochMark_clkJoin (el : Nat) (me : ClkSol) (s : State) :
    epochMark (s.upGnss (fun g => g.clkJoin el me)) = epochMark s :=
  epochMark_upGnss (clkJoin_epoch_lastAt ..).1 (clkJoin_epoch_lastAt ..).2

@[simp] theorem epochMark_antTo (st : Nat) (s : State) : epochMark (antTo st s) = epochMark s := by
  unfold antTo
  split
  · rfl
  · exact (epochMark_raise ..).trans (epochMark_upGnss rfl rfl)

@[simp] theorem epochMark_gnssPairs (s : State) : epochMark (gnssPairs s) = epochMark s := by
  unfold gnssPairs
  extract_lets g n since armed fell s1
  have h1 : epochMark s1 = epochMark s := epochMark_upGnss rfl rfl
  split
  · exact (epochMark_raise ..).trans h1
  · exact h1

@[simp] theorem epochMark_gnssClock (x : ClockSol) (s : State) : epochMark (gnssClock x s) = epochMark s := by
  unfold gnssClock
  extract_lets v g t s1 c y s2
  have h2 : epochMark s2 = epochMark s := epochMark_upGnss rfl rfl
  split
  · rfl
  · split
    · rfl
    · split
      · exact (epochMark_clockFailed ..).trans ((epochMark_raise ..).trans ((epochMark_upGnss rfl rfl).trans h2))
      · exact (epochMark_clockPassed ..).trans ((epochMark_clkJoin ..).trans h2)

@[simp] theorem epochMark_gnssRecords (x : GnssEpochIn) (at_ fl : Nat) (s : State) :
    epochMark (gnssRecords x at_ fl s) = epochMark s := by
  unfold gnssRecords
  extract_lets d s1
  have h1 : mask { hub := true } s1 = mask { hub := true } s := mask_foldl _ (fun _ _ => emit_mask rfl ..) _ _
  split
  · rfl
  · exact (epochMark_upGnss rfl rfl).trans (epochMark_of_mask ((emit_mask rfl ..).trans h1) rfl rfl)

@[simp] theorem epochMark_posEpoch (sol : Option PosSol) (at_ : Nat) (s : State) :
    epochMark (posEpoch sol at_ s) = epochMark s :=
  epochMark_of_mask (U := { hub := true, pos := true, fus := true }) (posEpoch_mask rfl rfl rfl ..) rfl rfl

/-- The events of an epoch leave the mark. -/
theorem epochMark_foldl_raise (l : List (Nat × Nat)) (s : State) :
    epochMark (l.foldl (fun s e => raise e.1 e.2 0 s) s) = epochMark s :=
  epochMark_of_mask (U := { hub := true }) (mask_foldl _ (fun _ _ => raise_mask rfl ..) _ _) rfl rfl

/-- In Serving and Keeping an epoch is counted, its instant is reached and noted, and no channel keeps a slip
(R275, R276). -/
theorem execGnssEpoch_of_awake (x : GnssEpochIn) {s : State} (h : awake s = true) :
    ∃ t, execGnssEpoch x s = .next t
      ∧ epochMark t = ((s.gnss.epoch + 1) % 2 ^ 32, s.gnss.next, s.now.goto s.time.r s.gnss.next)
      ∧ ∀ k ∈ t.gnss.chans, k.slip = false := by
  unfold execGnssEpoch
  rw [if_neg (by simp [h])]
  extract_lets at_ s0 el recd rate stepNow old sr x s1 s2 s3 s4 s5 s6 s7 s8
  have h2 : epochMark s2 = ((s.gnss.epoch + 1) % 2 ^ 32, s.gnss.next, s.now.goto s.time.r s.gnss.next) := by rfl
  have h3 : epochMark s3 = epochMark s2 := by
    simp only [s3]
    split
    · exact epochMark_antTo ..
    · rfl
  have h5 : epochMark s5 = epochMark s3 := (epochMark_gnssPairs s4).trans (epochMark_foldl_raise ..)
  have h6 : epochMark s6 = epochMark s5 := by
    simp only [s6]
    split
    · split
      · exact epochMark_gnssClock ..
      · rfl
    · rfl
  have h7 : epochMark s7 = epochMark s6 := epochMark_gnssRecords ..
  have h8 : epochMark s8 = epochMark s7 := by
    simp only [s8]
    split
    · exact epochMark_posEpoch ..
    · rfl
  refine ⟨_, rfl, ?_, ?_⟩
  · exact (epochMark_upGnss rfl rfl).trans (h8.trans (h7.trans (h6.trans (h5.trans (h3.trans h2)))))
  · simp only [State.upGnss_gnss, List.forall_mem_map, implies_true]

/-- In the other states there is no epoch (R275). -/
theorem execGnssEpoch_of_asleep (x : GnssEpochIn) {s : State} (h : awake s = false) :
    execGnssEpoch x s = .next s := by
  simp only [execGnssEpoch, h, Bool.not_false, if_true]

/-! The antenna supply (R270). -/

section
variable {dt ma : Nat} {s : State}

/-- A bias current of 2 to 60 mA makes the state OK. -/
theorem execAntennaOk_of_supplied (hc : fld s.gnss.recd 0x21 1 ≠ 0) (ha : awake s = true) (hl : 2 ≤ ma)
    (hu : ma ≤ 60) :
    execAntennaOk dt ma s = .next (antTo 1 ((tick dt s).upGnss (fun g => { g with bias := true, antMa := ma }))) :=
  if_neg (by simp only [tick_gnss, awake_tick, hc, ha, Nat.not_lt.2 hl, Nat.not_lt.2 hu, Bool.not_true,
    Bool.false_eq_true, or_self, not_false_eq_true])

/-- A current outside 2 to 60 mA is not OK: only time passes. -/
theorem execAntennaOk_of_outside (h : ma < 2 ∨ 60 < ma) : execAntennaOk dt ma s = .next (tick dt s) :=
  if_pos (.inr (h.imp_right .inl))

/-- A current below 2 mA makes the state OPEN. -/
theorem execAntennaOpen_of_supplied (hc : fld s.gnss.recd 0x21 1 ≠ 0) (ha : awake s = true) :
    execAntennaOpen dt s = .next (antTo 2 ((tick dt s).upGnss (fun g => { g with bias := true }))) :=
  if_neg (by simp [hc, ha])

/-- The limit makes the state OVERCURRENT and removes the bias for 5 s. -/
theorem execAntennaOvercurrent_of_supplied (hc : fld s.gnss.recd 0x21 1 ≠ 0) (ha : awake s = true) :
    execAntennaOvercurrent dt s = .next (antTo 3 ((tick dt s).upGnss (fun g => { g with
      bias := false, retryEl := s.now.el + dt + 5 * qSec }))) :=
  if_neg (by simp [hc, ha])

/-- Without the supply configured, and outside Serving and Keeping, the antenna commands only let time pass. -/
theorem execAntenna_of_unsupplied (h : fld s.gnss.recd 0x21 1 = 0 ∨ awake s = false) :
    (∀ ma, execAntennaOk dt ma s = .next (tick dt s)) ∧ execAntennaOpen dt s = .next (tick dt s)
      ∧ execAntennaOvercurrent dt s = .next (tick dt s) := by
  have hoff : fld (tick dt s).gnss.recd 0x21 1 = 0 ∨ (!awake (tick dt s)) = true := by simpa using h
  exact ⟨fun ma => if_pos (hoff.imp_right fun h => .inr (.inr h)), if_pos hoff, if_pos hoff⟩

/-- In OVERCURRENT the bias is applied again at the retry instant. -/
theorem execAntennaRetry_of_overcurrent (h : s.gnss.ant = 3) :
    execAntennaRetry s = .next ((reachEl s.gnss.retryEl s).upGnss (fun g => { g with
      bias := true, retryEl := g.retryEl + 5 * qSec })) :=
  if_pos h

/-- In the other antenna states there is no retry. -/
theorem execAntennaRetry_of_other (h : s.gnss.ant ≠ 3) : execAntennaRetry s = .next s := if_neg h

end

/-- Settles O33: an epoch by what it fixes at its instant, which its later steps keep, and the antenna supply by its
configuration, the current and the state. -/
theorem gnssEpochAndAntennaEffect : Obligations.GnssEpochAndAntennaEffect := by
  refine ⟨fun x s => ⟨fun ha => ?_, execGnssEpoch_of_asleep x⟩, fun dt s =>
    ⟨fun hc ha => ⟨fun ma => execAntennaOk_of_supplied hc ha, execAntennaOpen_of_supplied hc ha,
      execAntennaOvercurrent_of_supplied hc ha⟩,
    execAntenna_of_unsupplied, fun ma => execAntennaOk_of_outside, execAntennaRetry_of_overcurrent,
    execAntennaRetry_of_other⟩⟩
  obtain ⟨t, hexec, hmark, hslip⟩ := execGnssEpoch_of_awake x ha
  exact ⟨t, hexec, congrArg (·.1) hmark, congrArg (·.2.1) hmark, congrArg (·.2.2.ft) hmark, hslip⟩

end Sys2Proof.Machine
end

section
/-!
SUPPORT. The channels of the GNSS front end (R270, R273, R278, R281, R286, R288, R289): CHANNEL_LOCK by what the channel
is asked to track, the end of a held suspicion, a second peak, and a navigation message.
-/
namespace Sys2Proof.Machine

/-! CHANNEL_LOCK (R273, R278, R288). -/

/-- The other channels of channel `c`'s bank that hold satellite `sv` (R273). -/
def Gnss.rivals (g : Gnss) (c sv : Nat) : List Nat := (g.holders (c / 48) sv).filter (fun x => decide (x ≠ c))

/-- The rivals make way (R273). -/
def Gnss.cleared (g : Gnss) (c sv : Nat) : Gnss :=
  { g with chans := (g.rivals c sv).foldl (fun l x => upd l x GChan.freed) g.chans }

/-- A rival has code lock, or the channel is free and its bank has no room (R273). -/
def Gnss.full (g : Gnss) (c sv : Nat) : Bool :=
  (g.rivals c sv).any (fun x => (g.ch x).codeLock) || decide ((g.ch c).sv = 0) && !(g.cleared c sv).roomIn (c / 48)

/-- Channel `c` takes up satellite `sv`, which receives a channel in the other bank too (R273). -/
def Gnss.takenUp (g : Gnss) (c sv : Nat) (code carrier slip : Bool) (el : Nat) : Gnss :=
  let g1 := g.cleared c sv
  ({ g1 with
    chans := upd g1.chans c (fun k => { k.freed with sv := sv }.locked code carrier slip el) } : Gnss).withOther (c / 48) sv

section
variable {c : Fin 192} {dt sv : Nat} {code carrier slip : Bool} {s : State}

/-- Outside Serving and Keeping only time passes. -/
theorem execChannelLock_of_asleep (ha : awake s = false) :
    execChannelLock c dt sv code carrier slip s = .next (tick dt s) :=
  if_pos (by simp [ha])

/-- No satellite: the channel is released, with the channels of its satellite. -/
theorem execChannelLock_of_release (ha : awake s = true) (h0 : sv = 0) :
    execChannelLock c dt sv code carrier slip s = .next ((tick dt s).upGnss (·.releaseSat c)) :=
  (if_neg (by simp [ha])).trans (if_pos h0)

/-- A satellite that the bank has not, or that is masked, is not taken up. -/
theorem execChannelLock_of_barred (ha : awake s = true) (h0 : sv ≠ 0)
    (hb : svOk (c / 48) sv = false ∨ svMasked s.gnss.recd (c / 48) sv = true) :
    execChannelLock c dt sv code carrier slip s = .next (tick dt s) :=
  (if_neg (by simp [ha])).trans ((if_neg h0).trans (if_pos (by simpa using hb)))

/-- An admissible satellite: the channel tracks it already, or the bank is full, or it is taken up. -/
theorem execChannelLock_of_admissible (ha : awake s = true) (h0 : sv ≠ 0) (hok : svOk (c / 48) sv = true)
    (hm : svMasked s.gnss.recd (c / 48) sv = false) :
    execChannelLock c dt sv code carrier slip s
      = if (s.gnss.ch c).sv = sv then .next (upChan c (·.locked code carrier slip (s.now.el + dt)) (tick dt s))
        else if s.gnss.full c sv = true then .next (tick dt s)
        else .next ((tick dt s).upGnss (fun _ => s.gnss.takenUp c sv code carrier slip (s.now.el + dt))) :=
  (if_neg (by simp [ha])).trans ((if_neg h0).trans (if_neg (by simp [hok, hm])))

/-- A channel that tracks the satellite notes its locks. -/
theorem execChannelLock_of_tracking (ha : awake s = true) (h0 : sv ≠ 0) (hok : svOk (c / 48) sv = true)
    (hm : svMasked s.gnss.recd (c / 48) sv = false) (hk : (s.gnss.ch c).sv = sv) :
    execChannelLock c dt sv code carrier slip s
      = .next (upChan c (·.locked code carrier slip (s.now.el + dt)) (tick dt s)) :=
  (execChannelLock_of_admissible ha h0 hok hm).trans (if_pos hk)

/-- A satellite that a rival holds with code lock, and one too many, is not taken up. -/
theorem execChannelLock_of_full (ha : awake s = true) (h0 : sv ≠ 0) (hok : svOk (c / 48) sv = true)
    (hm : svMasked s.gnss.recd (c / 48) sv = false) (hk : (s.gnss.ch c).sv ≠ sv) (hf : s.gnss.full c sv = true) :
    execChannelLock c dt sv code carrier slip s = .next (tick dt s) :=
  (execChannelLock_of_admissible ha h0 hok hm).trans ((if_neg hk).trans (if_pos hf))

/-- Any other admissible satellite is taken up. -/
theorem execChannelLock_of_room (ha : awake s = true) (h0 : sv ≠ 0) (hok : svOk (c / 48) sv = true)
    (hm : svMasked s.gnss.recd (c / 48) sv = false) (hk : (s.gnss.ch c).sv ≠ sv) (hf : ¬s.gnss.full c sv = true) :
    execChannelLock c dt sv code carrier slip s
      = .next ((tick dt s).upGnss (fun _ => s.gnss.takenUp c sv code carrier slip (s.now.el + dt))) :=
  (execChannelLock_of_admissible ha h0 hok hm).trans ((if_neg hk).trans (if_neg hf))

end

/-! SUSPECT_HOLD_EXPIRY (R289). -/

/-- The cause of a satellite in a bank, where it has one (R289). -/
def Gnss.causeAt (g : Gnss) (bank sv : Nat) : Option Cause := g.causes.find? (fun c => c.bank == bank && c.sv == sv)

section
variable {bank : Fin 4} {sv : Nat} {s : State}

/-- A held suspicion with no cause left ends at its instant. -/
theorem execSuspectHoldExpiry_of_held {k : Cause} {e : Nat} (hf : s.gnss.causeAt bank sv = some k) (hb : k.bits = 0)
    (he : k.holdEnd = some e) :
    let s1 := (reachEl e s).upGnss (fun g => { g with
      causes := g.causes.filter (fun c => !(c.bank == bank.val && c.sv == sv)) })
    execSuspectHoldExpiry bank sv s
      = .next (s1.upGnss (fun g => { g with suspLog := ((s1.now.el, g.suspects) :: g.suspLog).take 256 })) := by
  obtain ⟨_, _, _, _⟩ := k
  subst hb he
  unfold Gnss.causeAt at hf
  simp only [execSuspectHoldExpiry, hf]

/-- A satellite with a cause, and one whose suspicion is not held, stays as it is. -/
theorem execSuspectHoldExpiry_of_standing
    (h : ∀ k, s.gnss.causeAt bank sv = some k → k.bits ≠ 0 ∨ k.holdEnd = none) :
    execSuspectHoldExpiry bank sv s = .next s := by
  unfold execSuspectHoldExpiry
  split
  case h_1 e hf => simpa using h _ hf
  case h_2 => rfl

end

/-! DUAL_PEAK_FOUND (R286). -/

/-- A second peak of satellite `sv` for channel `c` is admitted: the channel is free, one channel of the bank tracks the
satellite, and the peak is strong and distant enough, with the check enabled (R286). -/
def admitsPeak (c sv ns cn0 : Nat) (s : State) : Prop :=
  awake s = true ∧ (s.gnss.ch c).sv = 0
    ∧ ((s.gnss.bankChans (c / 48)).filter (fun x => (s.gnss.ch x).sv == sv)).length = 1 ∧ sv ≠ 0 ∧ 3000 ≤ cn0
    ∧ fld s.gnss.recd 0x44 2 < ns ∧ (fld s.gnss.recd 0x50 1).testBit 3 = true

section
variable {c : Fin 192} {dt sv ns cn0 : Nat} {s : State}

/-- The free channel takes up the second peak as a DUPLICATE, with DUAL_PEAK. -/
theorem execDualPeakFound_of_admitted (h : admitsPeak c sv ns cn0 s) :
    execDualPeakFound c dt sv ns cn0 s
      = .next (raise 38 (svInst (c / 48) sv) 0 (upChan c (fun k => { k.freed with
          sv := sv, codeLock := true, dup := true }) (tick dt s))) :=
  if_pos h

/-- Any other peak is passed over. -/
theorem execDualPeakFound_of_refused (h : ¬admitsPeak c sv ns cn0 s) :
    execDualPeakFound c dt sv ns cn0 s = .next (tick dt s) :=
  if_neg h

end

/-! NAV_MESSAGE (R281, R282). -/

/-- Outside Serving and Keeping, and without code lock, a message is not heard: only time passes. -/
theorem execNavMessage_of_unheard {c : Fin 192} {dt accAgo effAgo : Nat} {d29 d30 : Bool} {data : List Byte} {s : State}
    (h : awake s = false ∨ (s.gnss.ch c).codeLock = false) :
    execNavMessage c dt accAgo effAgo d29 d30 data s = .next (tick dt s) :=
  if_pos (by simpa using h)

/-- Settles O34: a lock by what the channel is asked to track and who holds it, a hold by the cause that it waits for, a
second peak by the test of R286, and a message by the lock of its channel. -/
theorem gnssChannelsEffect : Obligations.GnssChannelsEffect := by
  refine ⟨fun c dt sv code carrier slip s => ⟨execChannelLock_of_asleep, execChannelLock_of_release, fun ha h0 =>
      ⟨execChannelLock_of_barred ha h0, fun hok hm => ⟨execChannelLock_of_tracking ha h0 hok hm,
        execChannelLock_of_full ha h0 hok hm, execChannelLock_of_room ha h0 hok hm⟩⟩⟩,
    fun bank sv s => ⟨fun k e => execSuspectHoldExpiry_of_held, execSuspectHoldExpiry_of_standing⟩,
    fun c dt sv ns cn0 s => ⟨execDualPeakFound_of_admitted, execDualPeakFound_of_refused⟩,
    fun c dt accAgo effAgo d29 d30 data s => ⟨execNavMessage_of_unheard, fun ha hk => ?_⟩⟩
  -- a message that is heard is checked from its bits, and delivered and counted by that check
  exact if_neg (by simp [ha, hk])

end Sys2Proof.Machine
end

section
/-!
PROOFS. The corrections: the frames of the host, an incomplete base epoch, and the backup source (R301–R303).
-/
namespace Sys2Proof.Machine

/-! KD_RTCM_IN (R303). -/

section
variable {dt : Nat} {p : Post} {s : State} (hp : Passes (scRtcmIn p.length) false p s)
include hp

/-- Corrections that split into the stated number of frames are taken in order, and complete with the frames used and
those that failed (R303). -/
theorem execKdRtcmIn_of_split {fs : List (List Byte)} (hs : rtcmSplit 65 (p.body.drop 4) = some fs)
    (hn : fs.length = fld p.body 0x20 2) :
    let x := arrive dt 0x0A02 3 p decideAt s
    let y := rtcmAll true x.2.acc fs x.1
    execKdRtcmIn dt p s = .next (complete 0x0A02 3 p x.2.acc ⟨0, 0, y.2.2, y.2.1, 0, x.2.bound⟩ y.1) := by
  simp only [execKdRtcmIn, command_passes hp, hs]
  exact congrArg Host.Outcome.next (if_neg (not_not_intro hn))

/-- Corrections that do not split into the stated number of frames are refused with reason 0x0A02 (R303). -/
theorem execKdRtcmIn_of_missplit (h : ∀ fs, rtcmSplit 65 (p.body.drop 4) = some fs → fs.length ≠ fld p.body 0x20 2) :
    let x := arrive dt 0x0A02 3 p decideAt s
    execKdRtcmIn dt p s = .next (x.2.refuse 0x0A02 0 x.1) := by
  simp only [execKdRtcmIn, command_passes hp]
  cases hs : rtcmSplit 65 (p.body.drop 4) with
  | none => rfl
  | some fs => exact congrArg Host.Outcome.next (if_pos (h fs hs))

end

/-! BASE_EPOCH_TIMEOUT (R301) and CORR_SOURCE_BACKUP (R302). -/

section
variable {host : Bool} {s : State}

/-- The oldest epoch in collection is used as it stands, 200 ms after its first message; from the primary source it is
no complete one, which ends the run of those (R301, R302). -/
theorem execBaseEpochTimeout_of_cons {b : OpenBase} {rest : List OpenBase}
    (hc : (s.pos.src host).collecting = b :: rest) :
    execBaseEpochTimeout host s = .next ((reachEl (b.firstEl + 200 * qMs) s).upPos (fun p =>
      let p1 := p.upSrc host (fun c => ({ c with collecting := rest } : CorrSrc).add ⟨b.tow, true, b.stamp⟩)
      if host = primaryHost s then { p1 with primaryRun := 0 } else p1)) := by
  simp only [execBaseEpochTimeout, baseTimeout, hc, beq_iff_eq]

/-- With no epoch in collection nothing happens (R301). -/
theorem execBaseEpochTimeout_of_nil (hc : (s.pos.src host).collecting = []) :
    execBaseEpochTimeout host s = .next s := by
  simp only [execBaseEpochTimeout, baseTimeout, hc]

/-- The backup takes over from a primary source that has given no complete base epoch for 5 s (R302). -/
theorem execCorrSourceBackup_of_primary (hm : 3 ≤ corrMode s) (hb : s.pos.backup = false) :
    execCorrSourceBackup s
      = .next ((reachEl (s.pos.primaryEl + 5 * qSec) s).upPos (fun p => p.switch true)) :=
  if_pos ⟨hm, by simp [hb]⟩

/-- With no backup to turn to, or with the backup in use, nothing happens (R302). -/
theorem execCorrSourceBackup_of_no_backup (h : corrMode s < 3 ∨ s.pos.backup = true) :
    execCorrSourceBackup s = .next s :=
  if_neg fun ⟨hm, hb⟩ => h.elim (Nat.not_lt.2 hm) (by simpa using hb)

end

/-- Settles O35: corrections by how they split, an epoch by what is in collection, the backup by the mode and the source
in use. -/
theorem correctionsEffect : Obligations.CorrectionsEffect :=
  ⟨fun _ _ _ hp => ⟨fun _ => execKdRtcmIn_of_split hp, execKdRtcmIn_of_missplit hp⟩,
    fun _ _ _ _ => execBaseEpochTimeout_of_cons, fun _ => execCorrSourceBackup_of_primary,
    fun _ => execCorrSourceBackup_of_no_backup, fun _ _ => execBaseEpochTimeout_of_nil⟩

end Sys2Proof.Machine
end

section
/-!
PROOFS. FUSION_OUTPUT: what its steps do to the filter and to the clocks, and the output (R306, R308, R319, R321).
-/
namespace Sys2Proof.Machine

section
variable (v : Bool) (s : State)

/-- DEAD_RECKONING is set to `v`, whether it changes or not (R308). -/
@[simp] theorem setDead_fus : (setDead v s).fus = { s.fus with dead := v } := by
  unfold setDead
  split
  case isTrue h => rw [← h]
  case isFalse => exact mask_fus (raise_mask (U := { hub := true }) rfl ..) rfl

/-- The pose's validity is set to `v`, whether it changes or not (R308). -/
@[simp] theorem setPoseValid_fus : (setPoseValid v s).fus = { s.fus with validPose := v } := by
  unfold setPoseValid
  split
  case isTrue h => rw [← h]
  case isFalse => exact mask_fus (raise_mask (U := { hub := true }) rfl ..) rfl

@[simp] theorem setDead_now : (setDead v s).now = s.now :=
  mask_now (setDead_mask (U := { hub := true, fus := true }) rfl rfl v s) rfl

@[simp] theorem setPoseValid_now : (setPoseValid v s).now = s.now :=
  mask_now (setPoseValid_mask (U := { hub := true, fus := true }) rfl rfl v s) rfl

end

/-- The records in force are taken; beside them only the counts of the pairs may begin anew (R321). -/
theorem fusionRecords_fus (s : State) : ∃ pairs, (fusionRecords s).fus = { s.fus with
    main := recBody s 0x0A01 0, geom := recBody s 0x0A01 1, line := recBody s 0x0A01 2, imu := recBody s 0x0A01 3,
    pairs := pairs } := by
  unfold fusionRecords
  extract_lets m g l i anew s1
  refine ⟨if anew then [] else s.fus.pairs, ?_⟩
  split <;> rfl

@[simp] theorem fusionRecords_now (s : State) : (fusionRecords s).now = s.now :=
  mask_now (fusionRecords_mask (U := { pos := true, fus := true }) rfl rfl s) rfl

/-- The records and the output's own changes give the filter; dead reckoning and the pose's validity set their own flag
alone, and what is published and emitted changes neither the filter nor the clocks (R306, R308, R319). -/
theorem execFusionOutput_effect (x : FusionIn) (s : State) : ∃ t, execFusionOutput x s = .next t
    ∧ t.fus.count = (s.fus.count + 1) % 2 ^ 32 ∧ t.now.ft = max s.now.ft s.fus.next % 2 ^ 64
    ∧ (∃ o rest, t.fus.outs = o :: rest ∧ o.est = x.est ∧ o.cmp = s.fus.next ∧ o.el = t.now.el
        ∧ o.validPose = t.fus.validPose)
    ∧ t.fus.late = s.fus.late + x.late ∧ t.fus.gnssNew = false ∧ t.fus.feature = false
    ∧ t.fus.main = recBody s 0x0A01 0 := by
  unfold execFusionOutput
  extract_lets t s0 el f gnss s1 s2 e course since head s3 s4 vel o s5 s6 d stepped
  obtain ⟨pairs, hrec⟩ : ∃ pairs, s0.fus = _ := fusionRecords_fus (reach t s)
  have hnow0 : s0.now = (reach t s).now := fusionRecords_now _
  have hfus2 : s2.fus = { s1.fus with dead := if gnss then false else s1.fus.dead } := by
    simp only [s2]
    split <;> simp
  have hnow2 : s2.now = s0.now := by
    simp only [s2]
    split <;> simp [s1]
  have hnow5 : s5.now = (reach t s).now := by simp [s5, s4, s3, hnow2, hnow0]
  refine ⟨_, rfl, ?_⟩
  generalize hu : (if d = 0 ∨ s6.fus.count % d ≠ 0 then s6 else _) = u
  have hsent : mask { hub := true, sig := true } u = mask { hub := true, sig := true } s5 :=
    hu ▸ mask_ite (by simp [s6]) (by simp [s6])
  rw [mask_fus hsent rfl, mask_now hsent rfl, hnow5]
  refine ⟨?_, rfl, ⟨o, _, rfl, rfl, rfl, congrArg (·.el) hnow0, rfl⟩, ?_, ?_, ?_, ?_⟩ <;>
    simp [s5, s4, s3, hfus2, s1, hrec]

/-- Settles O36: the effect above, for every estimate and in every state. -/
theorem fusionOutputEffect : Obligations.FusionOutputEffect := execFusionOutput_effect

end Sys2Proof.Machine
end

section
/-!
PROOFS. The triggers, frames and packets of the cameras (R326, R329, R331, R332, R333, R342, R345, R350).
-/
namespace Sys2Proof.Machine

/-- What a change of one pipeline keeps, it keeps of every pipeline. -/
theorem pipeOf_upPipe_keeps {α : Type} (g : Pipe → α) {f : Pipe → Pipe} (h : ∀ x, g (f x) = g x) (p q : Nat)
    (s : State) : g (pipeOf (upPipe p f s) q) = g (pipeOf s q) := by
  simp only [pipeOf, upPipe, State.upCam_cam]
  by_cases hpq : p = q
  · subst hpq
    by_cases hp : p < s.cam.pipes.length
    · rw [nth_upd_self _ _ _ hp, h]
    · simp [nth, upd, hp]
  · rw [nth_upd_ne _ _ _ hpq]

/-! CAM_TRIGGER and CAM_TRIGGER_END (R329, R342). -/

section
variable {p : Fin 6} {s : State}

/-- A trigger of a pipeline that is not Off: the window that ends is judged, and the next one begins (R329, R333). -/
theorem execCamTrigger_of_on (hon : (pipeOf s p).st ≠ .off) (hs : s.pow.state = .serving) :
    let x := pipeOf s p
    let s1 := reach x.next s
    let s2 := if x.st = .running ∧ x.judged = true ∧ x.started = false then missedRecord p s1 else s1
    execCamTrigger p s = .next (expTrigger p x.next (upPipe p (fun y => { y with
      frameNumber := (y.frameNumber + 1) % 2 ^ 32, cur := some x.next, curC := x.next
      judged := decide (y.st = .running), started := false, curStepped := decide (0 < y.stepped)
      stepped := y.stepped - 1, next := pipeTrig s p (x.next + 1)
      trigEnd := some (s2.now.el + fld (pipeRec s p) 0x36 2 * qUs) }) s2)) := by
  simp only [execCamTrigger, hon, hs, add32, Bool.and_eq_true, decide_eq_true_eq, Bool.not_eq_true', and_assoc,
    decide_false, Bool.false_or, bne_self_eq_false, Bool.false_eq_true, if_false]

/-- Off, or outside Serving, no trigger is driven (R329, R350). -/
theorem execCamTrigger_of_idle (h : (pipeOf s p).st = .off ∨ s.pow.state ≠ .serving) :
    execCamTrigger p s = .next s :=
  if_pos (by simpa using h)

/-- `CAM_TRIGp` goes inactive TRIG_WIDTH_US after its edge (R329). -/
theorem execCamTriggerEnd_of_active {t : Nat} (h : (pipeOf s p).trigEnd = some t) :
    execCamTriggerEnd p s = .next (upPipe p (fun x => { x with trigEnd := none }) (reachEl t s)) := by
  simp only [execCamTriggerEnd, h]

/-- With `CAM_TRIGp` inactive there is nothing to end. -/
theorem execCamTriggerEnd_of_inactive (h : (pipeOf s p).trigEnd = none) : execCamTriggerEnd p s = .next s := by
  simp only [execCamTriggerEnd, h]

end

/-! FRAME_START (R331–R333, R350). -/

section
variable {port : Fin 6} {dt vc : Nat} {fix : Bool} {s : State}

/-- Without lock a port hears no frame start (R326). -/
theorem execFrameStart_of_no_lock (hl : (portOf s port).lock = 0) :
    execFrameStart port dt vc fix s = .next (tick dt s) :=
  if_pos hl

/-- A frame start of a pair bound to no pipeline counts (R331). -/
theorem execFrameStart_of_unbound (hl : (portOf s port).lock ≠ 0) (hb : boundPipe s port vc = none) :
    execFrameStart port dt vc fix s = .next (unboundPacket port (tick dt s)) := by
  simp only [execFrameStart, portOf_tick, hl, if_false, boundPipe_tick, hb]

/-- A frame start before the pipeline is ready, or before its first trigger, is noted alone (R350, log entry 46). -/
theorem execFrameStart_of_loose {p : Nat} (hl : (portOf s port).lock ≠ 0) (hb : boundPipe s port vc = some p)
    (hst : (pipeOf s p).st ≠ .running) (hr : ((pipeOf s p).ready && (pipeOf s p).cur.isSome) = false) :
    execFrameStart port dt vc fix s = .next (upPipe p (fun x => { x with looseOpen := true }) (tick dt s)) := by
  have hkept : (pipeOf (upPipe p (fun x => { x with looseOpen := true }) (tick dt s)) p).st = (pipeOf s p).st :=
    pipeOf_upPipe_keeps (·.st) (fun _ => by rfl) p p (tick dt s)
  simp only [execFrameStart, portOf_tick, hl, if_false, boundPipe_tick, hb, pipeOf_tick, hst, hr, Bool.false_eq_true]
  split
  case h_1 hrun _ => exact absurd (hkept.symm.trans hrun) hst
  case h_2 => rfl

/-- The frame that a frame start opens under the trigger stamp `t`, marked LATE, EXTRA_FRAME and STEPPED_TRIGGER as they
apply (R332, R333, R350). -/
def openedFrame (p t : Nat) (s : State) : OpenFrame :=
  let y := pipeOf s p
  let us := fld (pipeRec s p) 0x3C 4
  { number := y.frameNumber, trig := t, trigC := y.curC, fs := s.now.ft, fsEl := s.now.el
    marks := (if us ≠ 0 ∧ y.curC + us * qUs < s.now.ft then mkLate else 0)
      ||| (if y.started then mkExtra else 0) ||| (if y.curStepped then mkStepped else 0)
    emb := [], pix := [], crc := 0, ecc := 0, exp := y.expNow, recs := frameRecs s p
    scalars := (List.range 16).map (fun i => recBody s 0x0B01 (256 + i)) }

/-- A frame start of a Running pipeline closes the frame that is open as TRUNCATED and opens one (R332, R333). -/
theorem execFrameStart_of_running {p t : Nat} (hl : (portOf s port).lock ≠ 0) (hb : boundPipe s port vc = some p)
    (hst : (pipeOf s p).st = .running) (hc : (pipeOf s p).cur = some t)
    (hst2 : (pipeOf (closeFrame p mkTrunc false (tick dt s)) p).st = .running) :
    let s2 := closeFrame p mkTrunc false (tick dt s)
    execFrameStart port dt vc fix s = .next (upPipe p (fun x => { x with
      started := true, frame := some (eccFixed fix (openedFrame p t s2)) }) s2) := by
  simp only [execFrameStart, portOf_tick, hl, if_false, boundPipe_tick, hb, pipeOf_tick, hst, if_true, hst2, hc,
    openedFrame, Bool.and_eq_true, decide_eq_true_eq]

end

/-! CSI2_PACKET (R330–R333). -/

section
variable {port : Fin 6} {dt vc type : Nat} {pay : List Byte} {ok : Bool} {ecc : Fin 3} {s : State}

/-- Without lock a port hears no packet (R326). -/
theorem execCsi2Packet_of_no_lock (hl : (portOf s port).lock = 0) :
    execCsi2Packet port dt vc type pay ok ecc s = .next (tick dt s) :=
  if_pos hl

/-- An uncorrectable header counts at the port, and marks every open frame of the port ECC_BAD (R333). -/
theorem execCsi2Packet_of_bad_header (hl : (portOf s port).lock ≠ 0) :
    execCsi2Packet port dt vc type pay ok 2 s
      = .next ((List.range 6).foldl (fun (s : State) p =>
          if pipePort s p = port then upFrame p (fun f => { f with marks := f.marks ||| mkEccBad }) s else s)
        (upPort port (fun y => { y with eccBad := satAdd 32 y.eccBad 1 }) (tick dt s))) :=
  (if_neg hl).trans (if_pos rfl)

/-- A packet of a pair bound to no pipeline counts (R331). -/
theorem execCsi2Packet_of_unbound (hl : (portOf s port).lock ≠ 0) (hb : boundPipe s port vc = none) (he : ecc ≠ 2) :
    execCsi2Packet port dt vc type pay ok ecc s = .next (unboundPacket port (tick dt s)) := by
  simp only [execCsi2Packet, portOf_tick, hl, he, if_false, boundPipe_tick, hb]

/-- A packet of the bound pair joins the open frame (R330). -/
theorem execCsi2Packet_of_bound {p : Nat} (hl : (portOf s port).lock ≠ 0) (hb : boundPipe s port vc = some p)
    (he : ecc ≠ 2) :
    execCsi2Packet port dt vc type pay ok ecc s
      = .next (upFrame p (takePacket type pay ok (decide (ecc = 1))) (tick dt s)) := by
  simp only [execCsi2Packet, portOf_tick, hl, he, if_false, boundPipe_tick, hb]

end

/-! FRAME_END and FRAME_END_TIMEOUT (R332, R333). -/

section
variable {port : Fin 6} {dt vc : Nat} {fix : Bool} {s : State}

/-- Without lock a port hears no frame end (R326). -/
theorem execFrameEnd_of_no_lock (hl : (portOf s port).lock = 0) : execFrameEnd port dt vc fix s = .next (tick dt s) :=
  if_pos hl

/-- A frame end of a pair bound to no pipeline counts (R331). -/
theorem execFrameEnd_of_unbound (hl : (portOf s port).lock ≠ 0) (hb : boundPipe s port vc = none) :
    execFrameEnd port dt vc fix s = .next (unboundPacket port (tick dt s)) := by
  simp only [execFrameEnd, portOf_tick, hl, if_false, boundPipe_tick, hb]

/-- A frame end of the bound pair closes the open frame (R332). -/
theorem execFrameEnd_of_bound {p : Nat} (hl : (portOf s port).lock ≠ 0) (hb : boundPipe s port vc = some p) :
    execFrameEnd port dt vc fix s = .next (closeFrame p 0 false (upFrame p (eccFixed fix)
      (upPipe p (fun x => { x with looseOpen := false }) (tick dt s)))) := by
  simp only [execFrameEnd, portOf_tick, hl, if_false, boundPipe_tick, hb]

variable {p : Fin 6}

/-- Two trigger intervals after its start an open frame closes TRUNCATED (R333). -/
theorem execFrameEndTimeout_of_open {f : OpenFrame} (h : (pipeOf s p).frame = some f) :
    execFrameEndTimeout p s = .next (closeFrame p mkTrunc false (reachEl (f.fsEl + 2 * qSec / pipeFps s p) s)) := by
  simp only [execFrameEndTimeout, h]

/-- With no frame open there is nothing to close. -/
theorem execFrameEndTimeout_of_none (h : (pipeOf s p).frame = none) : execFrameEndTimeout p s = .next s := by
  simp only [execFrameEndTimeout, h]

end

/-- Each GPS second the configured ports report (R345). -/
theorem execCamPortStatus_of_serving {meas : List (Nat × Nat)} {s : State} (hs : s.pow.state = .serving) :
    let t := s.cam.statusNext
    execCamPortStatus meas s
      = .next ((List.range 6).foldl (fun (s : State) n =>
          if portCfg s n 0x22 1 = 0 then s
          else portStatus n (nth (0, 0) meas n).1 (nth (0, 0) meas n).2 t s)
        ((reach t s).upCam (fun c => { c with statusNext := nextMul qSec t }))) :=
  if_neg (by simp [hs])

/-- Settles O39: a trigger by the pipeline's state, and what a port hears by its lock, by the pipeline that the pair is
bound to and by that pipeline's state. -/
theorem cameraFramesEffect : Obligations.CameraFramesEffect := by
  refine ⟨fun p s => execCamTrigger_of_on, fun p s => execCamTrigger_of_idle, fun p s => execCamTriggerEnd_of_inactive,
    fun p s => execFrameEndTimeout_of_none,
    fun port dt vc type fix ok pay ecc s hl =>
      ⟨execFrameStart_of_no_lock hl, execCsi2Packet_of_no_lock hl, execFrameEnd_of_no_lock hl⟩,
    fun p s t => execCamTriggerEnd_of_active, fun port dt vc fix s hl => ⟨?_, ?_, ?_, ?_⟩,
    fun p s f => execFrameEndTimeout_of_open, fun meas s => execCamPortStatus_of_serving⟩
  · exact fun p => execFrameStart_of_loose hl
  · exact fun hb => ⟨execFrameStart_of_unbound hl hb, execFrameEnd_of_unbound hl hb,
      fun type pay ok ecc => execCsi2Packet_of_unbound hl hb⟩
  · exact fun type pay ok => execCsi2Packet_of_bad_header hl
  · exact fun p hb => ⟨fun t => execFrameStart_of_running hl hb,
      fun type pay ok ecc => execCsi2Packet_of_bound hl hb, execFrameEnd_of_bound hl hb⟩

end Sys2Proof.Machine
end

section
/-!
PROOFS. The links, the uplink and the supplies of the camera ports (R326, R327, R328).
-/
namespace Sys2Proof.Machine

/-! CAM_LINK_LOCK, CAM_LINK_LOSS and CAM_LINK_RETRY (R326). -/

section
variable {port : Fin 6} {dt : Nat} {s : State}

/-- A port that is disabled or has lock already seeks none, and outside Serving no port does (R326). -/
theorem not_seeksLock_iff :
    ((portOf s port).lock ≠ 0 || decide (portCfg s port 0x22 1 = 0) || s.pow.state != .serving) = true
      ↔ portCfg s port 0x22 1 = 0 ∨ s.pow.state ≠ .serving ∨ (portOf s port).lock ≠ 0 := by
  simp only [Bool.or_eq_true, decide_eq_true_eq, bne_iff_ne]
  tauto

section
variable (he : portCfg s port 0x22 1 ≠ 0) (hs : s.pow.state = .serving) (hl : (portOf s port).lock = 0)
include he hs hl

/-- An enabled port that locks takes its configured generation, and its pipelines in Starting send their writes (R326,
R350). -/
theorem execCamLinkLock_of_seeking :
    let g := portCfg s port 0x23 1
    execCamLinkLock port dt s
      = .next ((List.range 6).foldl (fun (s : State) p => if pipePort s p = port then startWrites p s else s)
        (raise 52 port g (upPort port (fun y => { y with lock := g }) (tick dt s)))) :=
  if_neg (not_seeksLock_iff.not.2 (by simp [he, hs, hl]))

/-- Without lock an enabled port retries every 100 ms (R326). -/
theorem execCamLinkRetry_of_seeking :
    execCamLinkRetry port s = .next (upPort port (fun y => { y with
      retryEl := (portOf s port).retryEl + 100 * qMs }) (reachEl (portOf s port).retryEl s)) :=
  if_neg (not_seeksLock_iff.not.2 (by simp [he, hs, hl]))

end

section
variable (h : portCfg s port 0x22 1 = 0 ∨ s.pow.state ≠ .serving ∨ (portOf s port).lock ≠ 0)
include h

/-- A port that seeks no lock takes none. -/
theorem execCamLinkLock_of_settled : execCamLinkLock port dt s = .next (tick dt s) :=
  if_pos (not_seeksLock_iff.2 h)

/-- A port that seeks no lock does not retry. -/
theorem execCamLinkRetry_of_settled : execCamLinkRetry port s = .next s :=
  if_pos (not_seeksLock_iff.2 h)

end

/-- A locked port that loses its lock counts the loss, and its pipelines return to Starting (R326, R350). -/
theorem execCamLinkLoss_of_locked (hl : (portOf s port).lock ≠ 0) :
    execCamLinkLoss port dt s
      = .next ((List.range 6).foldl (fun (s : State) p =>
          if pipePort s p ≠ port then s
          else
            match (pipeOf s p).st with
            | .running => fallBack p s
            | .starting => enterPipeStarting p s
            | .off => s)
        (raise 52 port 0 (upPort port (fun y => { y with
          lock := 0, losses := satAdd 16 y.losses 1, retryEl := s.now.el + dt + 100 * qMs }) (tick dt s)))) :=
  congrArg Host.Outcome.next (if_neg hl)

end

/-! UPLINK_REPLY and UPLINK_TIMEOUT (R327). -/

section
variable {p : Fin 6} {dt : Nat} {ack : Bool} {s : State}

/-- A reply to the write that is out settles it (R327). -/
theorem execUplinkReply_of_sent {j : UpJob} {js : List UpJob} (h : (pipeOf s p).jobs = j :: js)
    (hsent : j.sentEl ≤ s.now.el + dt) : execUplinkReply p dt ack s = .next (writeAnswered p ack (tick dt s)) := by
  simp only [execUplinkReply, pipeOf_tick, h, tick_el, hsent, if_true]

/-- With no write out a reply is of nothing. -/
theorem execUplinkReply_of_none (h : (pipeOf s p).jobs = []) : execUplinkReply p dt ack s = .next (tick dt s) := by
  simp only [execUplinkReply, pipeOf_tick, h]

/-- A write is settled as not acknowledged 2 ms after it was sent (R327). -/
theorem execUplinkTimeout_of_cons {j : UpJob} {js : List UpJob} (h : (pipeOf s p).jobs = j :: js) :
    execUplinkTimeout p s = .next (writeAnswered p false (reachEl (j.sentEl + 2 * qMs) s)) := by
  simp only [execUplinkTimeout, h]

/-- With no write out none times out. -/
theorem execUplinkTimeout_of_none (h : (pipeOf s p).jobs = []) : execUplinkTimeout p s = .next s := by
  simp only [execUplinkTimeout, h]

end

/-! POC_OK, POC_OPEN, POC_OVERCURRENT and POC_RETRY (R328). -/

/-- A powered port takes another state that its current shows, with CAM_POWER (R328). -/
theorem setPoc_of_change {n st : Nat} {s : State} (hc : portCfg s n 0x24 1 ≠ 0) (hs : s.pow.state = .serving)
    (hh : s.pow.sub ≠ .holdup) (hne : (portOf s n).poc ≠ st) :
    setPoc n st s = raise 53 n st (upPort n (fun y => { y with poc := st }) s) :=
  if_neg (by simp [hc, hs, hh, hne])

section
variable {port : Fin 6} {s : State}

/-- After an overcurrent the supply is retried every 5 s (R328). -/
theorem execPocRetry_of_overcurrent (h : (portOf s port).poc = 3) :
    execPocRetry port s = .next (upPort port (fun y => { y with
      pocRetryEl := (portOf s port).pocRetryEl + 5 * qSec }) (reachEl (portOf s port).pocRetryEl s)) :=
  if_neg (not_not_intro h)

/-- In another state there is nothing to retry. -/
theorem execPocRetry_of_other (h : (portOf s port).poc ≠ 3) : execPocRetry port s = .next s := if_pos h

end

/-- Settles O40: a link by whether its port seeks lock or has it, a write by whether one is out, a supply by the state
that its current shows. -/
theorem cameraLinksEffect : Obligations.CameraLinksEffect := by
  refine ⟨fun port dt s he hs hl => ⟨execCamLinkLock_of_seeking he hs hl, execCamLinkRetry_of_seeking he hs hl⟩,
    fun port dt s h => ⟨execCamLinkLock_of_settled h, execCamLinkRetry_of_settled h⟩,
    fun p dt ack s h => ⟨execUplinkReply_of_none h, execUplinkTimeout_of_none h⟩,
    fun port s => execPocRetry_of_other, fun port dt s => execCamLinkLoss_of_locked,
    fun p dt s j js h => ⟨fun ack => execUplinkReply_of_sent h, execUplinkTimeout_of_cons h⟩,
    fun port dt s hc hs hh => ?_, fun port s => execPocRetry_of_overcurrent⟩
  have hset : ∀ st, (portOf s port).poc ≠ st → setPoc port st (tick dt s)
      = raise 53 port st (upPort port (fun y => { y with poc := st }) (tick dt s)) :=
    fun st => setPoc_of_change (s := tick dt s) hc hs hh
  exact ⟨fun h => congrArg Host.Outcome.next (hset 1 h), fun h => congrArg Host.Outcome.next (hset 2 h),
    fun h => congrArg (fun t => Host.Outcome.next (upPort port _ t)) (hset 3 h)⟩

end Sys2Proof.Machine
end

section
/-!
PROOFS. The commands of the camera pipelines: exposure settings, KD_PIPE_ENABLE and the start-up writes (R340, R342,
R343, R350, R351).
-/
namespace Sys2Proof.Machine

@[simp] theorem pipeOf_arrive (dt kind unit : Nat) (p : Post) (at_ : Nat → Nat) (s : State) (n : Nat) :
    pipeOf (arrive dt kind unit p at_ s).1 n = pipeOf s n := by rfl

@[simp] theorem pipeHasRec_arrive (dt kind unit : Nat) (p : Post) (at_ : Nat → Nat) (s : State) (n : Nat) :
    pipeHasRec (arrive dt kind unit p at_ s).1 n = pipeHasRec s n := by rfl

/-! KD_EXPOSURE and EXPOSURE_WRITES (R342, R343). -/

section
variable {dt : Nat} {p : Post} {s : State} (hp : Passes (scExposure p.body) true p s)
include hp

/-- A setting for a Running pipeline is taken (R342). -/
theorem execKdExposure_of_running (hst : (pipeOf s (fld p.body 0x20 1)).st = .running) :
    let x := arrive dt 0x0B02 4 p decideAt s
    execKdExposure dt p s = .next (expAccept (fld p.body 0x20 1) x.2 x.1) := by
  simp only [execKdExposure, command_passes hp, pipeOf_arrive, hst, ne_eq, not_true, if_false]

/-- A setting for another pipeline is refused with reason 8 (R342). -/
theorem execKdExposure_of_not_running (hst : (pipeOf s (fld p.body 0x20 1)).st ≠ .running) :
    let x := arrive dt 0x0B02 4 p decideAt s
    execKdExposure dt p s = .next (x.2.refuse 8 0 x.1) := by
  simp only [execKdExposure, command_passes hp, pipeOf_arrive, ne_eq, hst, not_false_eq_true, if_true]

end

section
variable {p : Fin 6} {s : State}

/-- At T1 the writes of the setting that waits go out; one without writes is done with that (R342). -/
theorem execExposureWrites_of_waiting {e : ExpSet} (h : (pipeOf s p).exps.find? (fun e => !e.sent) = some e) :
    let s1 := reach e.t1 s
    execExposureWrites p s = .next (expSettle p (upPipe p (fun x => { x with
      exps := updFirst (fun y => !y.sent) (fun y => { y with sent := true, done := y.writes.isEmpty }) x.exps
      jobs := x.jobs ++ (if e.writes = [] then [] else [⟨false, e.writes, s1.now.el⟩]) }) s1)) := by
  simp only [execExposureWrites, h, List.isEmpty_iff]

/-- With no setting that waits no writes go out. -/
theorem execExposureWrites_of_none (h : (pipeOf s p).exps.find? (fun e => !e.sent) = none) :
    execExposureWrites p s = .next s := by
  simp only [execExposureWrites, h]

/-- The start-up writes are sent anew 1 s after one failed (R350). -/
theorem execPipeInitRetry_of_failed {t : Nat} (h : (pipeOf s p).retryEl = some t) :
    execPipeInitRetry p s = .next (startWrites p (upPipe p (fun x => { x with retryEl := none }) (reachEl t s))) := by
  simp only [execPipeInitRetry, h]

/-- With no failed write none is sent anew. -/
theorem execPipeInitRetry_of_none (h : (pipeOf s p).retryEl = none) : execPipeInitRetry p s = .next s := by
  simp only [execPipeInitRetry, h]

end

/-! KD_PIPE_ENABLE (R340, R350, R351). -/

section
variable {dt : Nat} {p : Post} {s : State} (hp : Passes scPipeEnable true p s)
include hp

/-- ACTION 0 stops the pipeline (R350). -/
theorem execPipeDisable_of_passes :
    let x := arrive dt 0x0B06 4 p decideAt s
    execPipeDisable dt p s = .next (x.2.accept 0 (stopPipe (fld p.body 0x20 1) x.1)) :=
  congrArg Host.Outcome.next (command_passes hp)

/-- ACTION 1 is refused with reason 8 for a pipeline without a record (R351). -/
theorem execPipeEnable_of_no_record (hr : pipeHasRec s (fld p.body 0x20 1) = false) :
    let x := arrive dt 0x0B06 4 p decideAt s
    execPipeEnable dt p s = .next (x.2.refuse 8 0 x.1) := by
  simp only [execPipeEnable, command_passes hp, pipeHasRec_arrive, hr, Bool.not_false, if_true]

/-- ACTION 1 starts a pipeline that has a record (R350). -/
theorem execPipeEnable_of_record (hr : pipeHasRec s (fld p.body 0x20 1) = true)
    (hshut : (pipeOf s (fld p.body 0x20 1)).shut = none) :
    let x := arrive dt 0x0B06 4 p decideAt s
    execPipeEnable dt p s = .next (x.2.accept 0 (startPipe (fld p.body 0x20 1) x.1)) := by
  simp only [execPipeEnable, command_passes hp, pipeHasRec_arrive, hr, pipeOf_arrive, hshut, Bool.not_true,
    Bool.false_eq_true, if_false]

/-- ACTION 1 is deferred to the end of a shut-down that runs (R350, log entry 47). -/
theorem execPipeEnable_of_shutdown {t : Nat} (hr : pipeHasRec s (fld p.body 0x20 1) = true)
    (hshut : (pipeOf s (fld p.body 0x20 1)).shut = some t) :
    let x := arrive dt 0x0B06 4 p decideAt s
    execPipeEnable dt p s = .next (complete 0x0B06 4 p x.2.acc ⟨2, 0, 0, t - x.2.bound, 0, x.2.bound⟩
      (upPipe (fld p.body 0x20 1) (fun y => { y with enableAfter := true }) x.1)) := by
  simp only [execPipeEnable, command_passes hp, pipeHasRec_arrive, hr, pipeOf_arrive, hshut, Bool.not_true,
    Bool.false_eq_true, if_false]
  rfl

/-- ACTION 2 delivers a stored frame in full (R340). -/
theorem execPipeDeliverFull_of_stored {f : StoredFrame}
    (hf : (pipeOf s (fld p.body 0x20 1)).store.find? (fun f => decide (f.number = fld p.body 0x24 4)) = some f) :
    let x := arrive dt 0x0B06 4 p decideAt s
    execPipeDeliverFull dt p s = .next (x.2.accept 0 (fullRecord (fld p.body 0x20 1) f false x.1)) := by
  simp only [execPipeDeliverFull, command_passes hp, pipeOf_arrive, hf]

/-- ACTION 2 is refused with reason 0x0B04 for a frame that is not stored, with FRAME_GONE (R340). -/
theorem execPipeDeliverFull_of_gone
    (hf : (pipeOf s (fld p.body 0x20 1)).store.find? (fun f => decide (f.number = fld p.body 0x24 4)) = none) :
    let x := arrive dt 0x0B06 4 p decideAt s
    execPipeDeliverFull dt p s = .next (raise 63 (fld p.body 0x20 1) 0 (x.2.refuse 0x0B04 0 x.1)) := by
  simp only [execPipeDeliverFull, command_passes hp, pipeOf_arrive, hf]

end

/-- Settles O41: a setting by the pipeline's state, an enable by its record and by a shut-down, a stored frame by the
frame store, and the writes by what waits. -/
theorem cameraCommandsEffect : Obligations.CameraCommandsEffect :=
  ⟨fun _ _ _ hp => ⟨execKdExposure_of_running hp, execKdExposure_of_not_running hp⟩,
    fun _ _ _ hp => ⟨execPipeDisable_of_passes hp, execPipeEnable_of_no_record hp, execPipeEnable_of_record hp,
      fun _ => execPipeEnable_of_shutdown hp, fun _ => execPipeDeliverFull_of_stored hp,
      execPipeDeliverFull_of_gone hp⟩,
    fun _ _ _ => execExposureWrites_of_waiting, fun _ _ => execExposureWrites_of_none,
    fun _ _ => execPipeInitRetry_of_none, fun _ _ _ => execPipeInitRetry_of_failed⟩

end Sys2Proof.Machine
end

section
/-!
PROOFS. One step of the block (log entry 67) and the frame of every command (spec/00_scope.md).
-/
namespace Sys2Proof.Machine

/-- Settles O1: the front command acts on the rest of the queue, and an empty queue idles. -/
theorem stepRunsTheFrontCommand : Obligations.StepRunsTheFrontCommand := by
  refine ⟨fun c q s => rfl, fun s hs => ?_⟩
  unfold step
  rw [hs]

/-- Settles O2: the frames of the commands' own functions. -/
theorem everyCommandFrame : Obligations.EveryCommandFrame := exec_goes_touches

end Sys2Proof.Machine
end

section
/-!
PROOFS. The BAR0 registers stay in their ranges (R511, R512).
-/
namespace Sys2Proof.Machine

/-- A command that may not touch the BAR0 registers leaves them as they are. -/
theorem exec_bar_of_untouched {c : Instr} {s t : State} (hc : (touches c).bar = false) (h : exec c s = .next t) :
    t.bar = s.bar := by
  obtain ⟨u, hu, hm⟩ := exec_goes_touches c s
  obtain rfl : t = u := by simpa [h] using hu
  exact mask_bar hm hc

/-- Each command that may touch the BAR0 registers keeps them in their ranges. -/
theorem exec_barGoes_of_touched {c : Instr} {s : State} (hc : (touches c).bar = true)
    (h : BarKept (mask barUnits s)) : BarGoes (exec c s) := by
  cases c
  case linkLoss => exact execLinkLoss_bar _ _ h
  case hotReset => exact execHotReset_bar _ _ h
  case functionLevelReset => exact execFunctionLevelReset_bar _ _ h
  case d3hot => exact execD3hot_bar _ _ h
  case dbPoll => exact execDbPoll_bar _ _ _ h
  case registerWrite => exact execRegisterWrite_bar _ _ _ _ _ h
  case vbatConnect => exact execVbatConnect_bar _ _ _ _ h
  case supplyReturn => exact execSupplyReturn_bar _ _ _ _ h
  case holdupComplete => exact execHoldupComplete_bar _ _ _ h
  case ignHigh => exact execIgnHigh_bar _ _ h
  case hostWake => exact execHostWake_bar _ _ h
  case wakeTimer => exact execWakeTimer_bar _ h
  case canWakePattern => exact execCanWakePattern_bar _ _ _ h
  case modemRing => exact execModemRing_bar _ _ h
  case keyoffComplete dt mv m => exact execKeyoffComplete_bar dt mv m s h
  case pciePerst => exact execPciePerst_bar _ _ _ h
  -- no other command may touch the unit
  all_goals cases hc

/-- Settles O56: the commands that may touch the registers keep their ranges, the others leave them as they are. -/
theorem barRegistersKept : Obligations.BarRegistersKept := by
  intro c s t hs ht
  cases hc : (touches c).bar with
  | false => exact exec_bar_of_untouched hc ht ▸ hs
  | true =>
    obtain ⟨u, hu, hk⟩ := (exec_barGoes_of_touched hc ((bar_kept_iff s).2 hs)).goes
    obtain rfl : t = u := by simpa [ht] using hu
    exact (bar_kept_iff t).1 hk

end Sys2Proof.Machine
end

section
/-!
PROOFS. The DC balance of the display (R419).
-/
namespace Sys2Proof.Machine

/-- A command that may not touch the display leaves it as it is. -/
theorem exec_disp_of_untouched {c : Instr} {s t : State} (hc : (touches c).disp = false) (h : exec c s = .next t) :
    t.disp = s.disp := by
  obtain ⟨u, hu, hm⟩ := exec_goes_touches c s
  obtain rfl : t = u := by simpa [h] using hu
  exact mask_disp hm hc

/-- Each command that may touch the display keeps its balance. -/
theorem exec_dispGoes_of_touched {c : Instr} {s : State} (hc : (touches c).disp = true)
    (h : DispKept (mask dispUnits s)) : DispGoes (exec c s) := by
  cases c
  case stepInstant => exact execStepInstant_disp _ h
  case switchBeat => exact execSwitchBeat_disp _ h
  case beat => exact execBeat_disp _ h
  case commitBoundary => exact execCommitBoundary_disp _ h
  case restoreBoundary => exact execRestoreBoundary_disp _ h
  case plateTemperature => exact execPlateTemperature_disp _ _ h
  case displayFrame => exact execDisplayFrame_disp _ h
  case displayLcdEn1 => exact execDisplayLcdEn1_disp _ h
  case displayRailsDone => exact execDisplayRailsDone_disp _ h
  case displayShutdownEn0 => exact execDisplayShutdownEn0_disp _ h
  case displayShutdownEnd => exact execDisplayShutdownEnd_disp _ h
  case kdSegmentMap => exact execKdSegmentMap_disp _ _ _ h
  case displayHostTimeout => exact execDisplayHostTimeout_disp _ h
  case displayStatusPeriod => exact execDisplayStatusPeriod_disp _ h
  case vbatConnect => exact execVbatConnect_disp _ _ _ _ h
  case supplyFall => exact execSupplyFall_disp _ _ _ _ h
  case supplyReturn => exact execSupplyReturn_disp _ _ _ _ h
  case holdupComplete => exact execHoldupComplete_disp _ _ _ h
  case railFault => exact execRailFault_disp _ _ _ _ _ h
  case ignHigh => exact execIgnHigh_disp _ _ h
  case ignLow => exact execIgnLow_disp _ _ h
  case hostWake => exact execHostWake_disp _ _ h
  case wakeTimer => exact execWakeTimer_disp _ h
  case canWakePattern => exact execCanWakePattern_disp _ _ _ h
  case modemRing => exact execModemRing_disp _ _ h
  case wakeServeExpiry => exact execWakeServeExpiry_disp _ h
  case keyoffComplete dt mv m => exact execKeyoffComplete_disp dt mv m s h
  -- no other command may touch the unit
  all_goals cases hc

/-- Settles O58: the commands that may touch the display keep its balance, the others leave it as it is. -/
theorem dcBalanceKept : Obligations.DcBalanceKept := by
  intro c s t hs ht
  cases hc : (touches c).disp with
  | false => exact exec_disp_of_untouched hc ht ▸ hs
  | true =>
    obtain ⟨u, hu, hk⟩ := (exec_dispGoes_of_touched hc ((disp_kept_iff s).2 hs)).goes
    obtain rfl : t = u := by simpa [ht] using hu
    exact (disp_kept_iff t).1 hk

/-! A pixel over one frame boundary. -/

/-- The display after a frame boundary: the frame is accounted, the polarity turned, the next image applied. -/
def Display.turn (d : Display) (want : Nat) : Display := (({ d.account with plus := !d.plus } : Display).apply want).1

@[simp] theorem account_shown (d : Display) : d.account.shown = d.shown := by
  unfold Display.account
  split <;> rfl

@[simp] theorem turn_plus (d : Display) (want : Nat) : (d.turn want).plus = !d.plus := by rfl

theorem turn_balanced {d : Display} (hd : d.balanced) (want : Nat) : (d.turn want).balanced :=
  (apply_holds _ want (account_holds d ⟨hd⟩)).holds

theorem acc_ne_zero_iff (d : Display) (i : Nat) :
    d.acc i ≠ 0 ↔ (d.accPlus.testBit i || d.accMinus.testBit i) = true := by
  unfold Display.acc
  cases d.accPlus.testBit i <;> cases d.accMinus.testBit i <;> simp

theorem acc_mem_bounds (d : Display) (i : Nat) : -1 ≤ d.acc i ∧ d.acc i ≤ 1 := by
  unfold Display.acc
  split
  · omega
  · split <;> omega

/-- Below 480 the complement of a set of pixels is the complement of its bits. -/
theorem testBit_compl_pixels {i : Nat} (hi : i < 480) (n : Nat) : (2 ^ 480 - 1 ^^^ n).testBit i = !n.testBit i := by
  simp only [Nat.testBit_xor, Nat.testBit_two_pow_sub_one, hi, decide_true, Bool.true_xor]

/-- In balance, a frame adds its polarity to each pixel that was on (R419). -/
theorem turn_acc {d : Display} (hd : d.balanced) (want : Nat) {i : Nat} (hi : i < 480) :
    (d.turn want).acc i = d.acc i + (if d.shown.testBit i then (if d.plus then 1 else -1) else 0) := by
  obtain ⟨hp, hm⟩ := hd i hi
  cases hplus : d.plus <;>
    simp only [Display.turn, Display.apply, Display.account, Display.acc, hplus, if_true, if_false, Bool.false_eq_true,
      Nat.testBit_or, Nat.testBit_and, testBit_compl_pixels hi]
  -- in a − frame the pixels with −1 are empty, in a + frame those with +1
  · have hminus : d.accMinus.testBit i = false := Bool.eq_false_iff.2 fun h => by simpa [hplus] using (hm h).1
    cases hs : d.shown.testBit i <;> cases ha : d.accPlus.testBit i <;> simp [hminus]
  · have hplus0 : d.accPlus.testBit i = false := Bool.eq_false_iff.2 fun h => by simpa [hplus] using (hp h).1
    cases hs : d.shown.testBit i <;> cases ha : d.accMinus.testBit i <;> simp [hplus0]

/-- A pixel is on where the image wants it, and where it was on with charge left (R419). -/
theorem turn_shown_iff (d : Display) (want : Nat) {i : Nat} (hi : i < 480) :
    (d.turn want).shown.testBit i = true
      ↔ want.testBit i = true ∨ (d.shown.testBit i = true ∧ (d.turn want).acc i ≠ 0) := by
  rw [acc_ne_zero_iff]
  simp only [Display.turn, Display.apply, account_shown, Nat.testBit_or, Nat.testBit_and, testBit_compl_pixels hi]
  cases want.testBit i <;> simp

/-- A pixel with charge has the charge that the frame in progress takes away, and is on (R419). -/
theorem acc_of_balanced {d : Display} (hd : d.balanced) {i : Nat} (hi : i < 480) (h : d.acc i ≠ 0) :
    d.acc i = (if d.plus then -1 else 1) ∧ d.shown.testBit i = true := by
  obtain ⟨hp, hm⟩ := hd i hi
  cases ha : d.accPlus.testBit i with
  | true =>
    obtain ⟨hplus, hshown⟩ := hp ha
    simp [Display.acc, ha, hplus, hshown]
  | false =>
    have hc : d.accMinus.testBit i = true := by simpa [acc_ne_zero_iff, ha] using h
    obtain ⟨hplus, hshown⟩ := hm hc
    simp [Display.acc, ha, hc, hplus, hshown]

/-- A pixel with charge has none after the frame in progress, and shows what is then wanted (R419). -/
theorem turn_of_charged {d : Display} (hd : d.balanced) {i : Nat} (hi : i < 480) (h : d.acc i ≠ 0) (want : Nat) :
    (d.turn want).acc i = 0 ∧ (d.turn want).shown.testBit i = want.testBit i := by
  obtain ⟨hacc, hshown⟩ := acc_of_balanced hd hi h
  have hzero : (d.turn want).acc i = 0 := by
    rw [turn_acc hd want hi, hacc, hshown]
    cases d.plus <;> rfl
  exact ⟨hzero, Bool.eq_iff_iff.2 (by simp [turn_shown_iff d want hi, hzero])⟩

/-- Settles O50: the accumulator follows the frame, and a pixel that is kept on has charge, which its next frame takes
away. -/
theorem displayDcBalance : Obligations.DisplayDcBalance := by
  intro d want hd turn e
  have he : e.balanced := turn_balanced hd want
  exact ⟨he, fun i hi => ⟨turn_acc hd want hi, (acc_mem_bounds e i).1, (acc_mem_bounds e i).2,
    turn_shown_iff d want hi, fun _ _ hc => ⟨(acc_of_balanced he hi hc).1, turn_of_charged he hi hc⟩⟩⟩

end Sys2Proof.Machine
end

section
/-!
PROOFS. The Ledger's slots: where a record is written, and what the write leaves as it was (R437, R439, R440, R446).
-/
namespace Sys2Proof.Machine

/-! ## Insertion into a sorted list -/

theorem mem_insertSorted {α : Type} {le : α → α → Bool} {a x : α} {l : List α} :
    x ∈ insertSorted le a l ↔ x = a ∨ x ∈ l := by
  induction l with
  | nil => simp [insertSorted]
  | cons b r ih =>
    unfold insertSorted
    split
    · simp only [List.mem_cons, ih]
      exact or_left_comm
    · simp

/-- What a filter drops is inserted without effect on the filtered list. -/
theorem filter_insertSorted {α : Type} {le : α → α → Bool} {p : α → Bool} {a : α} (hp : p a = false) (l : List α) :
    (insertSorted le a l).filter p = l.filter p := by
  induction l with
  | nil => simp [insertSorted, hp]
  | cons b r ih =>
    unfold insertSorted
    split
    · simp only [List.filter_cons, ih]
    · simp [List.filter_cons, hp]

theorem pairwise_insertSorted {α : Type} {le : α → α → Bool} {R : α → α → Prop} (htrans : ∀ x y z, R x y → R y z → R x z)
    {a : α} {l : List α} (hle : ∀ b ∈ l, le b a = true → R b a) (hgt : ∀ b ∈ l, le b a = false → R a b)
    (hl : l.Pairwise R) : (insertSorted le a l).Pairwise R := by
  induction l with
  | nil => simp [insertSorted]
  | cons b r ih =>
    obtain ⟨hb, hr⟩ := List.pairwise_cons.1 hl
    unfold insertSorted
    split
    next h =>
      refine List.pairwise_cons.2 ⟨fun x hx => ?_, ih (fun c hc => hle c (.tail _ hc)) (fun c hc => hgt c (.tail _ hc)) hr⟩
      rcases mem_insertSorted.1 hx with rfl | hx
      · exact hle b (.head _) h
      · exact hb x hx
    next h =>
      have hab : R a b := hgt b (.head _) (Bool.eq_false_iff.2 h)
      refine List.pairwise_cons.2 ⟨fun x hx => ?_, hl⟩
      rcases List.mem_cons.1 hx with rfl | hx
      · exact hab
      · exact htrans a b x hab (hb x hx)

/-! ## The lowest empty slot -/

theorem le_lowestEmpty (n : Nat) (l : List Nat) : n ≤ lowestEmpty n l := by
  induction l generalizing n with
  | nil => exact Nat.le_refl n
  | cons a r ih =>
    unfold lowestEmpty
    split
    · exact ih n
    · split
      · exact Nat.le_of_succ_le (ih (n + 1))
      · exact Nat.le_refl n

theorem mem_of_lt_lowestEmpty {n k : Nat} {l : List Nat} (hn : n ≤ k) (hk : k < lowestEmpty n l) : k ∈ l := by
  induction l generalizing n with
  | nil => exact absurd hk (Nat.not_lt.2 hn)
  | cons a r ih =>
    unfold lowestEmpty at hk
    split at hk
    · exact .tail _ (ih hn hk)
    · split at hk
      next ha =>
        rcases Nat.eq_or_lt_of_le hn with rfl | hn
        · exact ha ▸ .head _
        · exact .tail _ (ih hn hk)
      next => exact absurd hk (Nat.not_lt.2 hn)

theorem lowestEmpty_not_mem {l : List Nat} (hl : l.Pairwise (· < ·)) (n : Nat) : lowestEmpty n l ∉ l := by
  induction l generalizing n with
  | nil => simp
  | cons a r ih =>
    obtain ⟨ha, hr⟩ := List.pairwise_cons.1 hl
    unfold lowestEmpty
    split
    next h =>
      have := le_lowestEmpty n r
      exact List.not_mem_cons_of_ne_of_not_mem (by omega) (ih hr n)
    next h =>
      split
      next he =>
        have := le_lowestEmpty (n + 1) r
        exact List.not_mem_cons_of_ne_of_not_mem (by omega) (ih hr (n + 1))
      next he => exact List.not_mem_cons_of_ne_of_not_mem (Ne.symm he) fun hm => by have := ha n hm; omega

/-- In an ascending list the first number from `n` on that is missing is the lowest empty one. -/
theorem lowestEmpty_eq {l : List Nat} (hl : l.Pairwise (· < ·)) {n k : Nat} (hn : n ≤ k) (hk : k ∉ l)
    (hbelow : ∀ m, n ≤ m → m < k → m ∈ l) : lowestEmpty n l = k :=
  Nat.le_antisymm (Nat.le_of_not_lt fun h => hk (mem_of_lt_lowestEmpty hn h))
    (Nat.le_of_not_lt fun h => lowestEmpty_not_mem hl n (hbelow _ (le_lowestEmpty n l) h))

/-! ## The oldest record -/

/-- A fold that keeps the later element where its age is larger ends in one of the largest age. -/
theorem foldl_max_age {α : Type} (age : α → Nat) (l : List α) (a : α) :
    let m := l.foldl (fun b x => if age b < age x then x else b) a
    m ∈ a :: l ∧ ∀ x ∈ a :: l, age x ≤ age m := by
  induction l generalizing a with
  | nil => simp
  | cons c r ih =>
    simp only [List.foldl_cons]
    split
    next h =>
      obtain ⟨hmem, hmax⟩ := ih c
      refine ⟨.tail _ hmem, fun x hx => ?_⟩
      rcases List.mem_cons.1 hx with rfl | hx
      · exact Nat.le_trans (Nat.le_of_lt h) (hmax c (.head _))
      · exact hmax x hx
    next h =>
      obtain ⟨hmem, hmax⟩ := ih a
      refine ⟨?_, fun x hx => ?_⟩
      · rcases List.mem_cons.1 hmem with he | hm
        · exact List.mem_cons.2 (.inl he)
        · exact .tail _ (.tail _ hm)
      · rcases List.mem_cons.1 hx with rfl | hx
        · exact hmax x (.head _)
        · rcases List.mem_cons.1 hx with rfl | hx
          · exact Nat.le_trans (Nat.le_of_not_lt h) (hmax a (.head _))
          · exact hmax x (.tail _ hx)

/-- The Circulating records of a severity (R440). -/
def Ledger.circulating (g : Ledger) (v : Nat) : List (Nat × LRec) :=
  g.slots.filter (fun x => decide (1024 ≤ x.1) && x.2.sev == v)

theorem mem_circulating {g : Ledger} {v : Nat} {x : Nat × LRec} :
    x ∈ g.circulating v ↔ x ∈ g.slots ∧ 1024 ≤ x.1 ∧ x.2.sev = v := by
  simp [Ledger.circulating]

theorem oldestOf_of_none {g : Ledger} {v : Nat} (h : ¬∃ x, x ∈ g.circulating v) : oldestOf g v = none := by
  have hnil : g.circulating v = [] := List.eq_nil_iff_forall_not_mem.2 (not_exists.1 h)
  unfold oldestOf
  extract_lets l
  rw [show l = [] from hnil]

theorem oldestOf_of_mem {g : Ledger} {v : Nat} (h : ∃ x, x ∈ g.circulating v) :
    ∃ x ∈ g.circulating v, oldestOf g v = some x.1
      ∧ ∀ y ∈ g.circulating v, sub32 g.headSeq y.2.seq ≤ sub32 g.headSeq x.2.seq := by
  obtain ⟨y, hy⟩ := h
  obtain ⟨a, r, hl⟩ := List.exists_cons_of_ne_nil (List.ne_nil_of_mem hy)
  obtain ⟨hmem, hmax⟩ := foldl_max_age (fun x : Nat × LRec => sub32 g.headSeq x.2.seq) r a
  refine ⟨_, hl ▸ hmem, ?_, hl ▸ hmax⟩
  unfold oldestOf
  extract_lets l
  rw [show l = a :: r from hl]
  rfl

/-! ## The slot of a record -/

section
variable {g : Ledger} {v : Nat}

theorem slotFor_of_founding (h : g.founding < 1024) : slotFor g v = some g.founding := if_pos h

theorem slotFor_of_empty (hf : 1024 ≤ g.founding) {n : Nat} (hn : lowestEmpty 1024 (g.slots.map (·.1)) = n)
    (hlt : n < 65536) : slotFor g v = some n := by
  unfold slotFor
  rw [if_neg (Nat.not_lt.2 hf), hn]
  exact if_pos hlt

theorem slotFor_of_full (hf : 1024 ≤ g.founding)
    (hfull : 65536 ≤ lowestEmpty 1024 (g.slots.map (·.1))) :
    slotFor g v = (List.range (v + 1)).findSome? (oldestOf g) := by
  unfold slotFor
  rw [if_neg (Nat.not_lt.2 hf)]
  exact if_neg (Nat.not_lt.2 hfull)

/-- A Circulating slot is taken at or above 1024 (R440). -/
theorem le_slotFor_of_circulating {n : Nat} (hf : 1024 ≤ g.founding) (h : slotFor g v = some n) : 1024 ≤ n := by
  by_cases hlt : lowestEmpty 1024 (g.slots.map (·.1)) < 65536
  · rw [slotFor_of_empty hf rfl hlt] at h
    exact Option.some.inj h ▸ le_lowestEmpty _ _
  · rw [slotFor_of_full hf (Nat.le_of_not_lt hlt)] at h
    obtain ⟨w, -, hw⟩ := List.exists_of_findSome?_eq_some h
    by_cases hx : ∃ x, x ∈ g.circulating w
    · obtain ⟨x, hm, he, -⟩ := oldestOf_of_mem hx
      obtain rfl : x.1 = n := Option.some.inj (he.symm.trans hw)
      exact (mem_circulating.1 hm).2.1
    · exact absurd (oldestOf_of_none hx ▸ hw) (by simp)

/-- With no slot empty, the oldest record of the lowest severity that is there gives way (R440). -/
theorem slotFor_of_lowest (hf : 1024 ≤ g.founding) (hfull : 65536 ≤ lowestEmpty 1024 (g.slots.map (·.1))) {w : Nat}
    (hw : w ≤ v) (hx : ∃ x, x ∈ g.circulating w) (hlow : ∀ u, u < w → ¬∃ x, x ∈ g.circulating u) :
    slotFor g v = oldestOf g w := by
  obtain ⟨x, -, he, -⟩ := oldestOf_of_mem hx
  rw [slotFor_of_full hf hfull, he, List.findSome?_eq_some_iff]
  have hsplit : List.range (v + 1) = List.range w ++ w :: List.range' (w + 1) (v - w) := by
    have h := List.range'_append_1 (s := 0) (m := w) (n := v - w + 1)
    rw [Nat.zero_add, List.range'_succ, show w + (v - w + 1) = v + 1 by omega] at h
    simpa only [List.range_eq_range'] using h.symm
  exact ⟨_, w, _, hsplit, he, fun u hu => oldestOf_of_none (hlow u (List.mem_range.1 hu))⟩

/-- With no slot empty and nothing of its severity or lower, no slot is left (R440). -/
theorem slotFor_of_none (hf : 1024 ≤ g.founding) (hfull : 65536 ≤ lowestEmpty 1024 (g.slots.map (·.1)))
    (hlow : ∀ u, u ≤ v → ¬∃ x, x ∈ g.circulating u) : slotFor g v = none := by
  rw [slotFor_of_full hf hfull, List.findSome?_eq_none_iff]
  exact fun u hu => oldestOf_of_none (hlow u (Nat.le_of_lt_succ (List.mem_range.1 hu)))

end

/-! ## The write -/

/-- The record as it is stored (R437, R439). -/
def LRec.stored (g : Ledger) (r : LRec) : LRec :=
  { r with seq := nextSeq g.headSeq, flags := if g.founding < 1024 then r.flags ||| 0x80 else r.flags }

/-- The Ledger with a record in slot `n` (R437–R440). -/
def Ledger.storeAt (g : Ledger) (n : Nat) (r : LRec) : Ledger :=
  { g with
    slots := insertSorted (fun a b => decide (a.1 ≤ b.1)) (n, r.stored g) (g.slots.filter (fun x => x.1 != n))
    headSeq := nextSeq g.headSeq, headSlot := n, founding := if g.founding < 1024 then g.founding + 1 else g.founding }

theorem write_eq (g : Ledger) (r : LRec) : g.write r = (slotFor g r.sev).map (fun n => g.storeAt n r) := by
  simp [Ledger.write, Ledger.storeAt, LRec.stored]

theorem write_eq_some {g h : Ledger} {r : LRec} : g.write r = some h ↔ ∃ n, slotFor g r.sev = some n ∧ g.storeAt n r = h := by
  rw [write_eq, Option.map_eq_some_iff]

theorem nextSeq_ne_zero (n : Nat) : nextSeq n ≠ 0 := by
  unfold nextSeq
  split <;> omega

section
variable {g : Ledger} {n : Nat} {r : LRec}

theorem mem_storeAt {x : Nat × LRec} :
    x ∈ (g.storeAt n r).slots ↔ x = (n, r.stored g) ∨ (x ∈ g.slots ∧ x.1 ≠ n) := by
  simp [Ledger.storeAt, mem_insertSorted]

/-- A filter that drops slot `n` sees no change. -/
theorem filter_storeAt {p : Nat × LRec → Bool} (hp : ∀ y, p (n, y) = false) :
    (g.storeAt n r).slots.filter p = g.slots.filter p := by
  refine (filter_insertSorted (hp _) _).trans ?_
  rw [List.filter_filter]
  refine List.filter_congr fun ⟨k, y⟩ _ => ?_
  by_cases hk : k = n
  · simp [hk, hp]
  · simp [hk]

theorem storeAt_ascending (h : g.slots.Pairwise (fun a b => a.1 < b.1)) :
    (g.storeAt n r).slots.Pairwise (fun a b => a.1 < b.1) := by
  refine pairwise_insertSorted (R := fun a b : Nat × LRec => a.1 < b.1) (fun _ _ _ => Nat.lt_trans) (fun b hb hle => ?_) (fun b hb hgt => ?_)
    (h.sublist List.filter_sublist)
  · have hne : b.1 ≠ n := by simpa using (List.mem_filter.1 hb).2
    exact Nat.lt_of_le_of_ne (by simpa using hle) hne
  · simpa using hgt

end

/-- Settles O22: the record's slot is not below the count of Founding records. -/
theorem ledgerKeepsTheFirstShelf : Obligations.LedgerKeepsTheFirstShelf := by
  intro g h r hasc hshelf hcount hw
  obtain ⟨n, hn, rfl⟩ := write_eq_some.1 hw
  -- the slot is the next Founding one, or a Circulating one
  have hslot : g.founding ≤ n ∧ (n < 1024 → n = g.founding) := by
    by_cases hf : g.founding < 1024
    · obtain rfl : g.founding = n := Option.some.inj ((slotFor_of_founding hf).symm.trans hn)
      exact ⟨Nat.le_refl _, fun _ => rfl⟩
    · have := le_slotFor_of_circulating (Nat.le_of_not_lt hf) hn
      omega
  have hfound : (g.storeAt n r).founding = if g.founding < 1024 then g.founding + 1 else g.founding := rfl
  refine ⟨filter_storeAt fun y => ?_, storeAt_ascending hasc, fun x hx hlt => ?_, ?_, ?_, rfl, nextSeq_ne_zero _,
    ⟨_, mem_storeAt.2 (.inl rfl), rfl, rfl⟩⟩
  · simpa using hslot.1
  · rcases mem_storeAt.1 hx with rfl | ⟨hx, -⟩
    · have := hslot.2 hlt
      rw [hfound]
      split <;> omega
    · have := hshelf x hx hlt
      rw [hfound]
      split <;> omega
  · rw [hfound]
    split <;> omega
  · rw [hfound]
    split <;> omega

/-- A record that is written: the Ledger with it, and the message of its vector (R435). -/
theorem writeRecord_of_some {r : LRec} {vec : Option Nat} {s : State} {h : Ledger} (hw : s.hub.lg.write r = some h) :
    writeRecord r vec s = s.upHub (fun u => { u with
      lg := h, link := match vec with | some v => u.link.signal v | none => u.link }) := by
  simp only [writeRecord, hw] <;> rfl

/-- A drop is the first where a second has passed since the last one (R440). -/
theorem dropIsFirst_iff {last : Option Nat} {ft : Nat} :
    dropIsFirst last ft = true ↔ ∀ t, last = some t → t + qSec ≤ ft := by
  cases last <;> simp [dropIsFirst]

/-- A record that is dropped counts, and the first drop raises LEDGER_DROP with the counts (R440). -/
theorem writeRecord_of_none {r : LRec} {vec : Option Nat} {s : State} (hw : s.hub.lg.write r = none) :
    let drops := upd s.hub.lg.drops r.sev (fun k => satAdd 32 k 1)
    let s1 := s.upHub (fun u => { u with lg := { u.lg with drops := drops, lastDrop := some s.now.ft } })
    writeRecord r vec s = (if (∀ t, s.hub.lg.lastDrop = some t → t + qSec ≤ s.now.ft) then
      raiseX 116 0xFFFF 0 0 (drops.flatMap (leBytes 4)) s.now.ft s.now.ft s1 else s1) := by
  simp only [writeRecord, hw, dropIsFirst_iff] <;> rfl

/-- Settles O55: the order of the slots, and the drop where none is left. -/
theorem ledgerSlotChoice : Obligations.LedgerSlotChoice := by
  intro s r vec g used holds full hasc
  have hmap : (g.slots.map (·.1)).Pairwise (· < ·) := List.pairwise_map.2 hasc
  have hused : ∀ n, used n ↔ n ∈ g.slots.map (·.1) := fun n => by simp [used]
  have hholds : ∀ v x, holds v x ↔ x ∈ g.circulating v := fun v x => mem_circulating.symm
  have hfull : full → 65536 ≤ lowestEmpty 1024 (g.slots.map (·.1)) := fun h => Nat.le_of_not_lt fun hlt =>
    lowestEmpty_not_mem hmap 1024 ((hused _).1 (h.2 _ (le_lowestEmpty _ _) hlt))
  refine ⟨fun hf => ?_, fun hf n hn hlt hno hbelow => ?_, fun hfl v hv hex hlow => ?_, fun h hw => ?_, fun hfl hno => ?_⟩
  · exact ⟨_, write_eq_some.2 ⟨_, slotFor_of_founding hf, rfl⟩, rfl, if_pos hf⟩
  · have hl : lowestEmpty 1024 (g.slots.map (·.1)) = n :=
      lowestEmpty_eq hmap hn (mt (hused n).2 hno) fun m hm hmn => (hused m).1 (hbelow m hm hmn)
    exact ⟨_, write_eq_some.2 ⟨_, slotFor_of_empty hf hl hlt, rfl⟩, rfl, if_neg (Nat.not_lt.2 hf)⟩
  · simp only [hholds] at hex hlow ⊢
    obtain ⟨x, hx, he, hold⟩ := oldestOf_of_mem hex
    exact ⟨_, write_eq_some.2 ⟨_, (slotFor_of_lowest hfl.1 (hfull hfl) hv hex hlow).trans he, rfl⟩,
      if_neg (Nat.not_lt.2 hfl.1), x, hx, rfl, hold⟩
  · obtain ⟨n, -, rfl⟩ := write_eq_some.1 hw
    exact ⟨rfl, rfl, mem_storeAt.2 (.inl rfl), fun x hx hne => mem_storeAt.2 (.inr ⟨hx, hne⟩), writeRecord_of_some hw⟩
  · simp only [hholds] at hno
    have hnone : g.write r = none := by rw [write_eq, slotFor_of_none hfl.1 (hfull hfl) hno, Option.map_none]
    exact ⟨hnone, writeRecord_of_none hnone⟩

end Sys2Proof.Machine
end

section
/-!
PROOFS. The commands of the Ledger and of the coalescing windows (R433, R438, R440, R441, R443, R444, R446).
-/
namespace Sys2Proof.Machine

theorem execLedgerWriteComplete_of_not_clearing {dt : Nat} {s : State} (h : clearing s.hub.lg = false) :
    execLedgerWriteComplete dt s = .next (writeNext (tick dt s)) :=
  if_neg (by simp [h])

theorem execCoalesceWindowEnd_of_open {src inst : Nat} {s : State} {w : Window}
    (h : s.hub.ev.windows.find? (fun w => w.src == src && w.inst == inst) = some w) :
    execCoalesceWindowEnd src inst s = .next (endWindow w w.endAt w.endAt 0 (reach w.endAt s)) := by
  simp only [execCoalesceWindowEnd, h]

/-- A Ledger command joins those that wait, and the next one begins (R443). -/
theorem ledgerQueue_eq (c : LgCmd) (s : State) :
    ledgerQueue c s = ledgerNext (upLedger (fun g => { g with waiting := g.waiting ++ [c] }) s) := by rfl

/-- A copy delivers the slots as they stand, completes, and the next command begins (R441, R443). -/
theorem execLedgerCopyDone_of_copy {dt first count acc head : Nat} {p : Post} {s : State}
    (h : s.hub.lg.cmd = some (.copy first count acc p, head)) :
    let s1 := tick dt s
    let g := s.hub.lg
    let body := mkBody 32 ([(0x20, 2, first), (0x24, 4, count), (0x28, 4, head), (0x2C, 4, g.headSeq)]
      ++ g.drops.zipIdx.map (fun x => (0x30 + 4 * x.2, 4, x.1)))
    let data := (List.range count).flatMap (fun n => g.slotBytes (first + n))
    let s2 := emitFull 0x1005 16 0x0F 0x20 none (genAt s1 s1.now.ft) acc s1.now.ft body (some data) s1
    execLedgerCopyDone dt s = .next (ledgerNext (upLedger (fun g => { g with cmd := none })
      (complete 0x1003 0x0F p acc (accepted count s1.now.ft) s2))) := by
  simp only [execLedgerCopyDone, tick_hub, h]

/-- No MSI-X message goes with LEDGER_CLEARED where its vector is 0xFF or no lane commands (R435). -/
theorem no_vector_iff {e : EvSet} {s : State} :
    (e.vec = 0xFF ∨ (!(ctxOf s).commanding) = true) ↔ (e.vec = 0xFF ∨ commanding s = false) := by
  simp [ctxOf]

/-- A clear empties the Circulating shelf and the counts, LEDGER_CLEARED is the first record after it (R446). -/
theorem execLedgerClearDone_of_clear {dt acc n : Nat} {p : Post} {s : State}
    (h : s.hub.lg.cmd = some (.clear acc p, n)) :
    let s1 := tick dt s
    let c := ctxOf s1
    let e := c.cat.evSet 117
    let r : Raising := ⟨117, 0xFFFF, 0, 0, s.hub.lg.dropData, s1.now.ft, s1.now.ft⟩
    let erased := (s.hub.lg.slots.filter (fun x => decide (1024 ≤ x.1))).length
    let s2 := upLedger (fun g => { g with
      cmd := none, slots := g.slots.filter (fun x => decide (x.1 < 1024)), drops := [0, 0, 0, 0] }) s1
    let vec := if e.vec = 0xFF ∨ commanding s = false then none else some e.vec
    let s3 := writeRecord (ledgerRec c r 1 (unlockedFlag c s1.now.ft) e.sev) (if e.toRing then none else vec) s2
    let s4 := if e.toRing && commanding s3 then
        ask (.deliver (eventRec c r 1 (unlockedFlag c s1.now.ft) e.sev vec)) s3
      else s3
    execLedgerClearDone dt s
      = .next (ledgerNext (complete 0x1004 0x0F p acc (accepted erased s1.now.ft) s4)) := by
  simp only [execLedgerClearDone, tick_hub, h, no_vector_iff, commanding_tick]

/-- Settles O21: a write by the clear that runs, a window by its end, a copy and a clear by the command that runs. -/
theorem ledgerCommandsEffect : Obligations.LedgerCommandsEffect := by
  refine ⟨fun dt s => execLedgerWriteComplete_of_not_clearing, fun src inst s w => execCoalesceWindowEnd_of_open,
    fun dt p s hp => ?_, fun dt p s hp => ?_, fun dt first count acc head p s => execLedgerCopyDone_of_copy,
    fun dt acc n p s => execLedgerClearDone_of_clear⟩
  · simp only [exec, execKdLedgerCopy, command_passes hp, ledgerQueue_eq]
  · simp only [exec, execKdLedgerClear, command_passes hp, ledgerQueue_eq]

end Sys2Proof.Machine
end

section
/-!
PROOFS. SELECT of an image (R457).
-/
namespace Sys2Proof.Machine

theorem mem_unitSlots {u n : Nat} : n ∈ unitSlots u ↔ n = 2 * u ∨ n = 2 * u + 1 := by simp [unitSlots]

/-- A unit's slot that is found in a state is one of its two slots and in that state. -/
theorem slotIn_some {s : State} {u n : Nat} {st : SlotState} (h : slotIn s u st = some n) :
    n ∈ unitSlots u ∧ (slotAt s n).state = st :=
  ⟨List.mem_of_find?_eq_some h, by simpa using List.find?_some h⟩

/-- The only slot of a unit that is in a state is found. -/
theorem slotIn_of_only {s : State} {u n : Nat} {st : SlotState} (hn : n ∈ unitSlots u) (hst : (slotAt s n).state = st)
    (hother : ∀ m ∈ unitSlots u, m ≠ n → (slotAt s m).state ≠ st) : slotIn s u st = some n := by
  cases hf : slotIn s u st with
  | none => exact absurd hst (by simpa using List.find?_eq_none.1 hf n hn)
  | some m =>
    obtain ⟨hm, hmst⟩ := slotIn_some hf
    exact congrArg some (Decidable.byContradiction fun hne => hother m hm hne hmst)

/-- Two states with the same slots show the same slot. -/
theorem slotAt_congr {s t : State} (h : t.img = s.img) (n : Nat) : slotAt t n = slotAt s n := by
  unfold slotAt
  rw [h]

theorem slotAt_putSlot_ne {n m : Nat} (h : n ≠ m) (st : SlotState) (s : State) :
    slotAt (putSlot n st s) m = slotAt s m :=
  nth_upd_ne _ _ _ h

theorem slotAt_putSlot_self {n : Nat} {s : State} (h : n < s.img.slots.length) (st : SlotState) :
    slotAt (putSlot n st s) n = { slotAt s n with state := st } :=
  nth_upd_self _ _ _ h

/-- A slot that is not empty is one of the table. -/
theorem lt_length_of_slotAt {s : State} {n : Nat} (h : (slotAt s n).state ≠ .empty) : n < s.img.slots.length := by
  by_contra hn
  exact h (by simp [slotAt, nth, List.getElem?_eq_none (Nat.le_of_not_lt hn)])

/-- The TRY slot of a unit, where it has one, becomes STORED (R457). -/
def retireTry (u : Nat) (s : State) : State :=
  match slotIn s u .try_ with | some o => putSlot o .stored s | none => s

theorem retireTry_length (u : Nat) (s : State) : (retireTry u s).img.slots.length = s.img.slots.length := by
  unfold retireTry
  split
  · exact List.length_modify ..
  · rfl

/-- Then no slot of the unit but one that was STORED anyway is TRY. -/
theorem retireTry_not_try {u n m : Nat} {s : State} (hn : n ∈ unitSlots u) (hst : (slotAt s n).state = .stored)
    (hm : m ∈ unitSlots u) (hne : m ≠ n) : (slotAt (retireTry u s) m).state ≠ .try_ := by
  unfold retireTry
  cases hf : slotIn s u .try_ with
  | none => simpa using List.find?_eq_none.1 hf m hm
  | some o =>
    obtain ⟨ho, host⟩ := slotIn_some hf
    have hon : o ≠ n := fun e => by simp [e, hst] at host
    obtain rfl : o = m := by
      rw [mem_unitSlots] at hn hm ho
      omega
    rw [slotAt_putSlot_self (lt_length_of_slotAt (by simp [host]))]
    simp

section
variable {c : ImgCmd} {b : Nat} {s : State} (hc : c.action = 2)
include hc

theorem imageCarry_of_no_stored (hs : slotIn s (fld c.post.body 0x21 1) .stored = none) :
    imageCarry c b s = complete 0x1101 0x10 c.post c.stamp (refusedWith 8 0 b) s := by
  simp [imageCarry, hc, hs]

theorem imageCarry_of_rollback {n : Nat} (hs : slotIn s (fld c.post.body 0x21 1) .stored = some n)
    (hv : (slotAt s n).hdr.version < nth 0 s.img.floors ((slotAt s n).hdr.kind - 1)) :
    imageCarry c b s = complete 0x1101 0x10 c.post c.stamp (refusedWith 0x1105 0 b) s := by
  simp [imageCarry, hc, hs, hv]

theorem imageCarry_of_select {n : Nat} (hs : slotIn s (fld c.post.body 0x21 1) .stored = some n)
    (hv : nth 0 s.img.floors ((slotAt s n).hdr.kind - 1) ≤ (slotAt s n).hdr.version) :
    imageCarry c b s = complete 0x1101 0x10 c.post c.stamp (accepted n b)
      (setSlot n .try_ (retireTry (fld c.post.body 0x21 1) s)) := by
  simp only [imageCarry, hc, hs, if_neg (Nat.not_lt.2 hv), retireTry] <;> rfl

end

/-- Records and completions leave the slots as they are. -/
theorem slotAt_complete_setSlot (kind src : Nat) (p : Post) (acc : Nat) (d : Done) (n : Nat) (st : SlotState) (s : State)
    (m : Nat) : slotAt (complete kind src p acc d (setSlot n st s)) m = slotAt (putSlot n st s) m :=
  slotAt_congr (mask_img (U := { hub := true }) (by simp [setSlot]) rfl) m

/-- Settles O54: after SELECT the slot is the only one of its unit that is TRY. -/
theorem imageSelect : Obligations.ImageSelect := by
  intro c b s hc u done
  refine ⟨imageCarry_of_no_stored hc, fun n hs => ⟨imageCarry_of_rollback hc hs, ?_⟩⟩
  intro hv s1
  obtain ⟨hn, hst⟩ := slotIn_some hs
  have heq := imageCarry_of_select (b := b) hc hs hv
  have hlen : n < (retireTry u s).img.slots.length :=
    retireTry_length u s ▸ lt_length_of_slotAt (by simp [hst])
  have htry : (slotAt (imageCarry c b s) n).state = .try_ := by
    rw [heq, slotAt_complete_setSlot, slotAt_putSlot_self hlen]
  have honly : slotIn (imageCarry c b s) u .try_ = some n := by
    refine slotIn_of_only hn htry fun m hm hne => ?_
    rw [heq, slotAt_complete_setSlot, slotAt_putSlot_ne (Ne.symm hne)]
    exact retireTry_not_try hn hst hm hne
  refine ⟨heq, htry, ?_⟩
  unfold nextSlot
  rw [honly]

end Sys2Proof.Machine
end

section
/-!
PROOFS. Writes of BAR0: the registers, the MSI-X table, DB_POLL and WAKE (R444, R508, R511, R512, R514, R519–R521).
-/
namespace Sys2Proof.Machine

section
variable {dt : Nat} {s : State} (hlive : linkLive s = true)
include hlive

theorem execDbPoll_of_live (value : Nat) : execDbPoll dt value s
    = .next ((tick dt s).upBar (fun b => { b with dbPollUs := pollClamp value })) := if_pos hlive

theorem execLgCursor_of_live (value : Nat) : execLgCursor dt value s
    = .next ((tick dt s).upHub (fun h => { h with lg := { h.lg with cursor := value % 65536 } })) := if_pos hlive

/-- A read of FT_SNAP captures Field Time less a free value below 8 (R519). -/
theorem execFtSnap_of_live : ∃ d, d < 8
    ∧ execFtSnap dt s = .next (drawn ((tick dt s).upTime (fun t => { t with snap := (tick dt s).now.ft - d }))) :=
  ⟨_, Nat.mod_lt _ (by decide), if_pos hlive⟩

/-- An aligned write of 4 bytes (R508). -/
theorem execRegisterWrite_of_word {off size : Nat} (h : size = 4 ∧ off % 4 = 0) (value : Nat) :
    execRegisterWrite dt off size value s = .next (barWrite off (value % 2 ^ 32) (tick dt s)) :=
  (if_neg (by simp [hlive])).trans (if_pos h)

/-- An aligned write of 8 bytes into the MSI-X table (R521). -/
theorem execRegisterWrite_of_pair {off size : Nat} (h : size = 8 ∧ off % 8 = 0 ∧ 0x1000 ≤ off ∧ off < 0x1400)
    (value : Nat) : execRegisterWrite dt off size value s
      = .next (barWrite (off + 4) (value / 2 ^ 32 % 2 ^ 32) (barWrite off (value % 2 ^ 32) (tick dt s))) :=
  (if_neg (by simp [hlive])).trans ((if_neg (by omega)).trans (if_pos h))

/-- Any other write has no effect (R508). -/
theorem execRegisterWrite_of_other {off size : Nat} (h4 : ¬(size = 4 ∧ off % 4 = 0))
    (h8 : ¬(size = 8 ∧ off % 8 = 0 ∧ 0x1000 ≤ off ∧ off < 0x1400)) (value : Nat) :
    execRegisterWrite dt off size value s = .next (tick dt s) :=
  (if_neg (by simp [hlive])).trans ((if_neg h4).trans (if_neg h8))

/-- Unmasking a vector sends what is pending (R521). -/
theorem execMsixUnmask_of_live (v : Fin 64) : execMsixUnmask dt v s
    = .next (upLink (fun l => { l with msix := upd l.msix v.val (fun m =>
        if m.pending then { m with masked := false, pending := false, sent := m.sent + 1 }
        else { m with masked := false }) }) (tick dt s)) :=
  (if_pos hlive).trans (by simp [Link.msixWrite])

end

/-- Settles O12: the writes by size and alignment; the registers of the base addresses by their offsets. -/
theorem barWritesEffect : Obligations.BarWritesEffect := by
  intro dt s hlive s1
  refine ⟨fun value => ⟨execDbPoll_of_live hlive value, execLgCursor_of_live hlive value⟩, execFtSnap_of_live hlive,
    fun off size value h4 ho => execRegisterWrite_of_word hlive ⟨h4, ho⟩ value,
    fun off size value h8 ho hlo hhi => execRegisterWrite_of_pair hlive ⟨h8, ho, hlo, hhi⟩ value,
    fun off size value h4 h8 => execRegisterWrite_of_other hlive h4 h8 value, fun value => ?_,
    execMsixUnmask_of_live hlive⟩
  exact ⟨rfl, rfl, rfl, rfl, rfl, rfl, rfl⟩

/-- What DB_POLL_US stores: the low ten bits, 2 for less and 1 000 for more (R512). -/
theorem pollClamp_eq (value : Nat) : pollClamp value =
    if value % 1024 < 2 then 2 else if 1000 < value % 1024 then 1000 else value % 1024 := by
  unfold pollClamp
  split
  · omega
  · split <;> omega

/-- A register write keeps 32 bits of the value, and so its low ten. -/
theorem pollClamp_word (value : Nat) : pollClamp (value % 2 ^ 32) = pollClamp value := by
  unfold pollClamp
  rw [Nat.mod_mod_of_dvd value (by decide)]

theorem barWrite_dbPoll (value : Nat) (s : State) :
    barWrite 0x118 value s = s.upBar (fun b => { b with dbPollUs := pollClamp value }) := by rfl

/-- Settles O51: both writes store what `pollClamp` gives, and a poll sets the next one by the register. -/
theorem dbPollRegister : Obligations.DbPollRegister := by
  refine ⟨rfl, fun dt value s hlive => ?_, fun dt s hlive hrun hawake => ?_⟩
  · intro k stored t
    have hstored : pollClamp value = stored := pollClamp_eq value
    refine ⟨?_, ?_, rfl⟩
    · exact (execDbPoll_of_live hlive value).trans (by rw [hstored])
    · refine (execRegisterWrite_of_word hlive ⟨rfl, rfl⟩ value).trans ?_
      rw [barWrite_dbPoll, pollClamp_word, hstored]
  · cases hat : s.hub.link.pollAt with
    | none => exact ⟨_, execDoorbellPoll_of_first hlive hrun hawake hat, rfl⟩
    | some u => exact ⟨_, execDoorbellPoll_of_next hlive hrun hawake hat, rfl⟩

/-- Nothing dozes while no ring runs. -/
theorem endDoze_of_idle {s : State} (h : s.hub.link.running = false) : endDoze s = s := by
  simp [endDoze, h]

theorem endDoze_of_dozing {s : State} (h : s.hub.link.running = true) (hd : s.hub.link.phase = .dozing) :
    endDoze s = raise 27 0xFFFF 0 (upLink (fun l => { l.stir s.now.el with pollAt := none }) s) := by
  simp [endDoze, h, hd]

theorem endDoze_of_awake {s : State} (h : s.hub.link.running = true) (hd : s.hub.link.phase ≠ .dozing) :
    endDoze s = upLink (fun l => l.stir s.now.el) s := by
  simp [endDoze, h, hd]

/-- A 1 written to WAKE (R514). -/
theorem execWake_of_one {dt value : Nat} {s : State} (hlive : linkLive s = true) (h : value % 2 = 1) :
    execWake dt value s = .next (endDoze (tick dt s)) :=
  if_pos (by simp [hlive, h])

/-- Settles O52: bit 0 clear does nothing, and set it is the end of a doze by what the link does. -/
theorem wakeRegister : Obligations.WakeRegister := by
  intro dt value s hlive s1 woken
  refine ⟨fun h0 => if_neg (by simp [h0]), fun h1 hrun hd => ?_, fun h1 hrun hd => ?_, fun hrun => ?_⟩
  · exact (execWake_of_one hlive h1).trans (congrArg Host.Outcome.next (endDoze_of_dozing hrun hd))
  · exact (execWake_of_one hlive h1).trans (congrArg Host.Outcome.next (endDoze_of_awake hrun hd))
  · rcases Nat.mod_two_eq_zero_or_one value with h | h
    · exact if_neg (by simp [h])
    · exact (execWake_of_one hlive h).trans (congrArg Host.Outcome.next (endDoze_of_idle hrun))

end Sys2Proof.Machine
end

section
/-!
PROOFS. The margin steps and the refresh of flash data (R486, R487, R489, R490).
-/
namespace Sys2Proof.Machine

section
variable {s : State}

theorem execMarginPlan_of_run {p : PlanMeas} (hs : s.pow.state = .serving) (hr : s.pow.sub = .run) :
    execMarginPlan p s = .next (formPlan 1 p (reachEl (s.mar.planAt + 3600 * qSec) s))  := by
  simp [execMarginPlan, hs, hr]

/-- In a key-off or a hold-up the plan falls due and waits (R487). -/
theorem execMarginPlan_of_other {p : PlanMeas} (hs : s.pow.state = .serving) (hr : s.pow.sub ≠ .run) :
    execMarginPlan p s = .next ((reachEl (s.mar.planAt + 3600 * qSec) s).upMar (fun m => { m with planDue := true }))  := by
  simp [execMarginPlan, hs, hr]

/-- The steps that take effect are raised, those of a lane that is Off or Booting wait on (R489). -/
theorem execMarginStepApply_of_ready (h : ∃ x ∈ s.mar.pendingSteps, stepWaits s x.1 = false) :
    execMarginStepApply s
      = .next ((s.mar.pendingSteps.filter (fun x => !stepWaits s x.1)).foldl (fun s x => raise 126 (domainNo x.1) x.2 s)
          ((reach (nextMul qBeat s.now.ft) s).upMar (fun m => { m with
            pendingSteps := m.pendingSteps.filter (fun x => stepWaits s x.1) }))) := by
  refine (if_neg (by simpa using h)).trans ?_
  simp [applySteps]

theorem execMarginStepApply_of_waiting (h : ∀ x ∈ s.mar.pendingSteps, stepWaits s x.1 = true) :
    execMarginStepApply s = .next s :=
  if_pos (List.all_eq_true.2 h)

end

/-- Settles O49: a plan by the phase of Serving, the steps by their lanes. -/
theorem marginEffect : Obligations.MarginEffect :=
  ⟨fun _ _ h => ⟨if_pos h, if_pos h⟩, fun _ => execMarginStepApply_of_waiting,
    fun _ _ hs => ⟨execMarginPlan_of_run hs, execMarginPlan_of_other hs⟩, fun _ => execMarginStepApply_of_ready,
    fun _ hs => if_neg (by simp [hs])⟩

end Sys2Proof.Machine
end

section
/-!
PROOFS. The cab display: its sequences, frames, maps and status (R419–R426, R429).
-/
namespace Sys2Proof.Machine

section
variable {s : State}

/-! ## The power-up and the shut-down -/

theorem execDisplayLcdEn1_of_low (hr : s.disp.state = .rails) (h : s.disp.lcdEn1 = false) :
    execDisplayLcdEn1 s
      = .next ((reachEl (s.disp.stepEl + 20 * qMs) s).upDisp (fun d => { d with lcdEn1 := true })) :=
  if_pos (by simp [hr, h])

theorem execDisplayLcdEn1_of_other (h : s.disp.state ≠ .rails ∨ s.disp.lcdEn1 = true) :
    execDisplayLcdEn1 s = .next s := by
  refine if_neg ?_
  rcases h with h | h <;> simp [h]

/-- The scan begins with a + frame, all pixels off and no residue (R424, R425). -/
theorem execDisplayRailsDone_of_high (hr : s.disp.state = .rails) (h : s.disp.lcdEn1 = true) :
    execDisplayRailsDone s =
      let s1 := reachEl (s.disp.stepEl + 70 * qMs) s
      .next (dispState .clearing (s1.upDisp (fun d => { d with
        plus := true, shown := 0, accPlus := 0, accMinus := 0, frames := 0, rateFrames := 0, rateEl := s1.now.el
        band := d.bandDue, hz := max 1 (fld (dispRec s) (0x28 + 2 * d.bandDue) 2), anyOn := false }))) := by
  simp [execDisplayRailsDone, hr, h]

theorem execDisplayRailsDone_of_other (h : s.disp.state ≠ .rails ∨ s.disp.lcdEn1 = false) :
    execDisplayRailsDone s = .next s := by
  refine if_neg ?_
  rcases h with h | h <;> simp [h]

theorem execDisplayShutdownEn0_of_second (hs : s.disp.state = .shutdown) (h : s.disp.shutStep = 2) :
    execDisplayShutdownEn0 s =
      let s1 := reachEl (s.disp.stepEl + 50 * qMs) s
      .next (s1.upDisp (fun d => { d with lcdEn0 := false, shutStep := 3, stepEl := s1.now.el })) :=
  if_pos (by simp [hs, h])

theorem execDisplayShutdownEn0_of_other (h : s.disp.state ≠ .shutdown ∨ s.disp.shutStep ≠ 2) :
    execDisplayShutdownEn0 s = .next s := by
  refine if_neg ?_
  rcases h with h | h <;> simp [h]

section
variable (hs : s.disp.state = .shutdown) (h : s.disp.shutStep = 3)
include hs h

/-- A held enable begins the full power-up order (R424). -/
theorem execDisplayShutdownEnd_of_held (hh : s.disp.held = true) (hp : s.pow.state = .serving) :
    execDisplayShutdownEnd s = .next (dispRails (reachEl (s.disp.stepEl + 100 * qMs) s)) :=
  (if_pos (by simp [hs, h])).trans (if_pos (by simp [hh, hp]))

theorem execDisplayShutdownEnd_of_not_held (hh : s.disp.held = false ∨ s.pow.state ≠ .serving) :
    execDisplayShutdownEnd s = .next (dispState .off
      ((reachEl (s.disp.stepEl + 100 * qMs) s).upDisp (fun d => { d with shutStep := 0 }))) := by
  refine (if_pos (by simp [hs, h])).trans (if_neg ?_)
  rcases hh with hh | hh <;> simp [hh]

end

theorem execDisplayShutdownEnd_of_other (h : s.disp.state ≠ .shutdown ∨ s.disp.shutStep ≠ 3) :
    execDisplayShutdownEnd s = .next s := by
  refine if_neg ?_
  rcases h with h | h <;> simp [h]

/-! ## Frames -/

/-- The frame is over: it is accounted, and the polarity is turned (R418, R419). -/
def frameEnded (s : State) : State :=
  (reachEl (s.disp.rateEl + (s.disp.rateFrames + 1) * qSec / max 1 s.disp.hz) s).upDisp (fun d => { d.account with
    plus := !d.plus, frames := add32 d.frames 1, rateFrames := d.rateFrames + 1 })

/-- A pair of frames is over after a − frame, and a due band is taken up (R420). -/
def pairEnded (s : State) : State := if s.disp.plus then frameEnded s else takeBand (frameEnded s)

@[simp] theorem frameEnded_plus : (frameEnded s).disp.plus = !s.disp.plus := by simp [frameEnded]
@[simp] theorem frameEnded_frames : (frameEnded s).disp.frames = add32 s.disp.frames 1 := by simp [frameEnded]

theorem takeBand_of_pair :
    (if (frameEnded s).disp.plus = true then takeBand (frameEnded s) else frameEnded s) = pairEnded s := by
  unfold pairEnded
  cases h : s.disp.plus <;> simp [h]

theorem execDisplayFrame_of_idle
    (h : s.disp.state = .off ∨ s.disp.state = .rails ∨ (s.disp.state = .shutdown ∧ s.disp.shutStep ≠ 1)) :
    execDisplayFrame s = .next s := by
  refine if_pos ?_
  rcases h with h | h | ⟨h, h1⟩
  · simp [h]
  · simp [h]
  · simp [h, h1]

theorem execDisplayFrame_of_clearing (hs : s.disp.state = .clearing) (h3 : s.disp.frames ≠ 3)
    (h32 : s.disp.frames < 2 ^ 32) : execDisplayFrame s = .next (pairEnded s) := by
  have h4 : (frameEnded s).disp.frames ≠ 4 := by
    rw [frameEnded_frames]
    unfold add32
    omega
  rw [← takeBand_of_pair]
  unfold execDisplayFrame
  rw [if_neg (by simp [hs])]
  simp only [hs]
  exact if_neg h4

/-- The fourth frame end of CLEARING turns the backlight on and begins SHOWING (R425). -/
theorem execDisplayFrame_of_cleared (hs : s.disp.state = .clearing) (h3 : s.disp.frames = 3) :
    execDisplayFrame s = .next (dispState .showing (showFrame (takeBand
      ((frameEnded s).upDisp (fun d => { d with blEn := true }))))) := by
  have h4 : (frameEnded s).disp.frames = 4 := by
    rw [frameEnded_frames, h3]
    rfl
  unfold execDisplayFrame
  rw [if_neg (by simp [hs])]
  simp only [hs]
  exact if_pos h4

theorem execDisplayFrame_of_showing (hs : s.disp.state = .showing) :
    execDisplayFrame s = .next (showFrame (pairEnded s)) := by
  rw [← takeBand_of_pair]
  unfold execDisplayFrame
  rw [if_neg (by simp [hs])]
  simp only [hs]
  rfl

/-- The scan of a shut-down ends at a pair boundary without residue (R426). -/
theorem execDisplayFrame_of_shutdown (hs : s.disp.state = .shutdown) (h1 : s.disp.shutStep = 1) :
    execDisplayFrame s = .next (if s.disp.plus = false ∧ s.disp.account.accPlus = 0 ∧ s.disp.account.accMinus = 0
      then dispEn1Low (frameEnded s) else (frameEnded s).upDisp (fun d => (d.apply 0).1)) := by
  have hends : ((frameEnded s).disp.plus && decide ((frameEnded s).disp.accPlus = 0)
      && decide ((frameEnded s).disp.accMinus = 0)) = true
      ↔ s.disp.plus = false ∧ s.disp.account.accPlus = 0 ∧ s.disp.account.accMinus = 0 := by
    simp [frameEnded, and_assoc]
  unfold execDisplayFrame
  rw [if_neg (by simp [hs, h1])]
  simp only [hs]
  exact (ite_congr (propext hends) (fun _ => rfl) (fun _ => rfl)).trans (apply_ite Host.Outcome.next _ _ _).symm

end

/-! ## Host maps and timers -/

/-- A host map waits for the next frame boundary, and ends a silence (R421, R423). -/
def mapWaits (p : Post) (acc : Nat) (s : State) : State :=
  dispSilence (s.upDisp (fun d => { d with
    waiting := some ⟨leNat (fieldBytes p.body 0x24 60), p, acc⟩, mapEver := true, lastMapEl := s.now.el }))

@[simp] theorem arrive_disp (dt kind unit : Nat) (p : Post) (at_ : Nat → Nat) (s : State) :
    (arrive dt kind unit p at_ s).1.disp = s.disp := by rfl

section
variable {dt : Nat} {p : Post} {s : State} (hp : Passes scSegmentMap true p s)
include hp

theorem execKdSegmentMap_of_none (h : s.disp.waiting = none) :
    let x := arrive dt 0x0F02 0x08 p decideAt s
    execKdSegmentMap dt p s = .next (mapWaits p x.2.acc x.1) := by
  simp only [execKdSegmentMap, command_passes hp, arrive_disp, h]
  rfl

theorem execKdSegmentMap_of_waiting {w : DispMap} (h : s.disp.waiting = some w) :
    let x := arrive dt 0x0F02 0x08 p decideAt s
    execKdSegmentMap dt p s
      = .next (mapWaits p x.2.acc (complete 0x0F02 0x08 w.post w.acc ⟨3, 0, 0, p.corr, 0, x.2.bound⟩ x.1)) := by
  simp only [execKdSegmentMap, command_passes hp, arrive_disp, h]
  rfl

end

section
variable {s : State}

theorem execDisplayHostTimeout_of_heard (ht : fld (dispRec s) 0x22 2 ≠ 0) (he : s.disp.mapEver = true)
    (hq : s.disp.silent = false) :
    let s1 := reachEl (s.disp.lastMapEl + fld (dispRec s) 0x22 2 * qMs) s
    execDisplayHostTimeout s = .next (if commanding s = true then dispSilence s1 else s1) :=
  if_neg (by simp [ht, he, hq])

theorem execDisplayHostTimeout_of_other
    (h : fld (dispRec s) 0x22 2 = 0 ∨ s.disp.mapEver = false ∨ s.disp.silent = true) :
    execDisplayHostTimeout s = .next s := by
  refine if_pos ?_
  rcases h with h | h | h <;> simp [h]

end

theorem execDisplayStatusPeriod_of_period {s : State} (h : fld (dispRec s) 0x34 2 ≠ 0) :
    execDisplayStatusPeriod s = .next (dispStatus ((reach s.disp.statusNext s).upDisp (fun d => { d with
      statusNext := nextMul (fld (dispRec s) 0x34 2 * qMs) d.statusNext }))) := by
  simp [execDisplayStatusPeriod, h, State.upDisp]

theorem execDisplayStatusPeriod_of_none {s : State} (h : fld (dispRec s) 0x34 2 = 0) :
    execDisplayStatusPeriod s = .next s := if_pos h

/-- Settles O46: each command by the state of the display and its step. -/
theorem displayEffect : Obligations.DisplayEffect := by
  refine ⟨fun s hs => ⟨execDisplayLcdEn1_of_low hs, execDisplayRailsDone_of_high hs⟩,
    fun s => ⟨execDisplayLcdEn1_of_other, execDisplayRailsDone_of_other, execDisplayFrame_of_idle,
      execDisplayShutdownEn0_of_other, execDisplayShutdownEnd_of_other⟩,
    fun s => ⟨execDisplayFrame_of_clearing, execDisplayFrame_of_cleared, execDisplayFrame_of_showing,
      execDisplayFrame_of_shutdown⟩,
    fun s hs => ⟨execDisplayShutdownEn0_of_second hs, fun h3 => ⟨execDisplayShutdownEnd_of_held hs h3,
      execDisplayShutdownEnd_of_not_held hs h3⟩⟩,
    fun dt p s hp => ⟨execKdSegmentMap_of_none hp, fun w => execKdSegmentMap_of_waiting hp⟩,
    fun s => ⟨fun ht he hq => ⟨fun hc => ?_, fun hc => ?_⟩, execDisplayHostTimeout_of_other, execDisplayStatusPeriod_of_none,
      execDisplayStatusPeriod_of_period⟩⟩
  · exact (execDisplayHostTimeout_of_heard ht he hq).trans (congrArg _ (if_pos hc))
  · exact (execDisplayHostTimeout_of_heard ht he hq).trans (congrArg _ (if_neg (by simp [hc])))

end Sys2Proof.Machine
end

section
/-!
PROOFS. What the field I/O, the CAN channels and the modem port share: the earliest of the instants that wait, and what
a submission leaves alone as it arrives.
-/
namespace Sys2Proof.Machine

/-- A change of an element after another one is one change. -/
theorem upd_upd {α : Type} (l : List α) (i : Nat) (f g : α → α) : upd (upd l i f) i g = upd l i (fun a => g (f a)) :=
  List.modify_modify_eq f g i l

/-- A loop that takes the smaller of its value and the next key ends in the least key. -/
theorem foldl_least_eq_min? {α : Type} {key : α → Nat} {step : Option Nat → α → Option Nat}
    (hnone : ∀ a, step none a = some (key a)) (hsome : ∀ t a, step (some t) a = some (min t (key a))) (l : List α) :
    l.foldl step none = (l.map key).min? := by
  have hfold : ∀ (l : List α) (t : Nat), l.foldl step (some t) = some (l.foldl (fun t a => min t (key a)) t) := by
    intro l
    induction l with
    | nil => exact fun t => rfl
    | cons a r ih => exact fun t => by rw [List.foldl_cons, hsome, ih, List.foldl_cons]
  cases l with
  | nil => rfl
  | cons a r => rw [List.foldl_cons, hnone, hfold, List.map_cons, List.min?_cons', List.foldl_map]

theorem upField_upField (f g : Field → Field) (s : State) :
    (s.upField f).upField g = s.upField (fun x => g (f x)) := by rfl

@[simp] theorem commanding_arrive (dt kind unit : Nat) (p : Post) (at_ : Nat → Nat) (s : State) :
    commanding (arrive dt kind unit p at_ s).1 = commanding s := by rfl

end Sys2Proof.Machine
end

section
/-!
PROOFS. The field inputs: levels, counters, analog inputs and their report (R355–R358, R360, R364, R366, R367).
-/
namespace Sys2Proof.Machine

/-! ## Digital inputs -/

section
variable {n : Fin 48} {dt : Nat} {level : Bool} {s : State}

/-- The state at the filter sample that follows (R355). -/
def sampled (dt : Nat) (s : State) : State := reach (diSample (tick dt s)) (tick dt s)

theorem reach_diSample (dt : Nat) (s : State) : reach (diSample (tick dt s)) (tick dt s) = sampled dt s := by rfl

@[simp] theorem sampled_field : (sampled dt s).field = s.field := by rfl

@[simp] theorem recBody_sampled (k m : Nat) : recBody (sampled dt s) k m = recBody s k m := by
  simp [sampled]

/-- The integrator of input `n` stands at the end of `level` at the sample (R355). -/
def diSettled (n dt : Nat) (level : Bool) (s : State) (d : Di) : Di :=
  { d with level := level, acc := if level then fld (recBody s 0x0C01 n) 0x22 2 else 0, accEl := (sampled dt s).now.el }

/-- The change that an input reports: the first of its interval, or one more after it (R357). -/
def diNoted (n dt : Nat) (level : Bool) (s : State) : Option DiChange :=
  if (fld (recBody s 0x0C01 n) 0x21 1).testBit 1 then
    some (((nth default s.field.di n).change.map (fun c => { c with extra := c.extra + 1 })).getD
      ⟨diSample (tick dt s), level, 0⟩)
  else none

/-- The integrator can have reached the end of `level` by the sample (R355). -/
def diReaches (n dt : Nat) (level : Bool) (s : State) : Prop :=
  let d := nth default s.field.di n
  d.accEl + (if level then fld (recBody s 0x0C01 n) 0x22 2 - d.acc else d.acc) * qUs ≤ (sampled dt s).now.el

theorem canReach_iff : (nth default s.field.di n).canReach (fld (recBody s 0x0C01 n) 0x22 2) level (sampled dt s).now.el = true
    ↔ diReaches n dt level s := by
  simp [Di.canReach, Di.need, diReaches]

/-- The first sample after a power-up sets the level (R355). -/
theorem execDiChange_of_first (h : (sampled dt s).now.el < s.field.diStartEl + qUs) :
    execDiChange n dt level s
      = .next ((sampled dt s).upField (fun f => { f with di := upd f.di n (diSettled n dt level s) })) := by
  simp only [execDiChange, diFirst, reach_diSample, sampled_field, recBody_sampled, h, decide_true, if_true, Di.settle]
  rfl

section
variable (h : s.field.diStartEl + qUs ≤ (sampled dt s).now.el)
include h

theorem execDiChange_of_stays (hn : (nth default s.field.di n).level = level ∨ ¬diReaches n dt level s) :
    execDiChange n dt level s = .next (sampled dt s) := by
  rw [← canReach_iff] at hn
  simp only [execDiChange, diFirst, reach_diSample, sampled_field, recBody_sampled, decide_eq_true_eq,
    if_neg (Nat.not_lt.2 h)]
  exact if_pos (by simpa using hn)

/-- The change is noted, and the signal follows the level (R355–R357). -/
theorem execDiChange_of_reaches (hl : (nth default s.field.di n).level ≠ level) (hr : diReaches n dt level s) :
    execDiChange n dt level s = .next (input n (diSample (tick dt s)) (if level then 2 ^ 30 else 0)
      ((sampled dt s).upField (fun f => { f with
        di := upd f.di n (fun y => { diSettled n dt level s y with change := diNoted n dt level s }) }))) := by
  have hnoted : (if (fld (recBody s 0x0C01 n) 0x21 1).testBit 1 then
      match (nth default s.field.di n).change with
      | some c => some { c with extra := c.extra + 1 }
      | none => some ⟨diSample (tick dt s), level, 0⟩
    else none) = diNoted n dt level s := by
    unfold diNoted
    cases (nth default s.field.di n).change <;> rfl
  rw [← canReach_iff] at hr
  simp only [execDiChange, diFirst, reach_diSample, sampled_field, recBody_sampled, decide_eq_true_eq,
    if_neg (Nat.not_lt.2 h)]
  refine (if_neg (by simp [hl, hr])).trans ?_
  simp only [upField_upField, upd_upd, ← hnoted]
  rfl
end

end

/-! ## Counters -/

section
variable {n : Fin 16} {dt w : Nat} {rising : Bool} {s : State}

/-- An edge that EDGE selects after a level of at least MIN_PULSE_NS (R358). -/
def edgeCounts (n w : Nat) (rising : Bool) (s : State) : Prop :=
  let r := recBody s 0x0C01 n
  let up := rising != (fld r 0x21 1).testBit 0
  (fld r 0x24 1 = 0 → up = true) ∧ (fld r 0x24 1 = 1 → up = false) ∧ fld r 0x28 4 ≤ w

/-- What EDGE selects of the edges in a direction, as the model tests it. -/
theorem edge_selected_iff {edge : Nat} {up : Bool} :
    (match edge with | 0 => up | 1 => !up | _ => true) = true ↔ (edge = 0 → up = true) ∧ (edge = 1 → up = false) := by
  match edge with
  | 0 => simp
  | 1 => simp
  | k + 2 => simp

/-- The edge is counted into the open gate, or ahead of it where the gate's instant has passed (R358, R360). -/
theorem execCounterEdge_of_counts (h : edgeCounts n w rising s) :
    execCounterEdge n dt rising w s =
      let s1 := tick dt s
      let e : Edge := ⟨s1.now.ft, s1.now.ft⟩
      .next (upCnt n (fun c =>
        let c1 := { c with total := (c.total + 1) % 2 ^ 32, fresh := c.fresh ++ [e] }
        if s1.now.ft < c.gateNext then c1.take e else { c1 with ahead := c1.ahead ++ [e] }) s1) := by
  obtain ⟨h0, h1, hw⟩ := h
  refine if_pos (Bool.and_eq_true_iff.2 ⟨edge_selected_iff.2 ⟨?_, ?_⟩, ?_⟩)
  · simpa using h0
  · simpa using h1
  · simpa using hw

theorem execCounterEdge_of_not_counts (h : ¬edgeCounts n w rising s) :
    execCounterEdge n dt rising w s = .next (tick dt s) := by
  refine if_neg fun hc => h ?_
  obtain ⟨hsel, hw⟩ := Bool.and_eq_true_iff.1 hc
  obtain ⟨h0, h1⟩ := edge_selected_iff.1 hsel
  exact ⟨by simpa using h0, by simpa using h1, by simpa using hw⟩

end

/-! ## Gates, analog inputs and their report -/

section
variable {n : Fin 16} {dt : Nat} {s : State}

/-- A gate closes at its grid instant and the next one opens (R360). -/
theorem execGateClose_eq (n : Fin 16) (s : State) :
    execGateClose n s = .next (closeGate n 0 (nextMul (max 1 (fld (recBody s 0x0C01 n) 0x26 2) * qMs) (cnt s n).gateNext)
      (reach (cnt s n).gateNext s)) := by
  simp [execGateClose]

theorem execAiShuntOpen_of_current (h : cfg s 0x0C01 (64 + n) 0x21 1 = 2) :
    execAiShuntOpen n dt s = .next ((tick dt s).upField (fun f => { f with ai := upd f.ai n (fun a =>
      { a with shuntOpen := true, recloseEl := s.now.el + dt + qSec }) })) := by
  simp [execAiShuntOpen, h]

theorem execAiShuntOpen_of_other (h : cfg s 0x0C01 (64 + n) 0x21 1 ≠ 2) : execAiShuntOpen n dt s = .next (tick dt s) := by
  simp [execAiShuntOpen, h]

/-- An opened shunt is reclosed after 1 s (R366). -/
theorem execAiShuntReclose_of_open (h : (nth default s.field.ai n).shuntOpen = true) :
    execAiShuntReclose n s = .next ((reachEl (nth default s.field.ai n).recloseEl s).upField (fun f => { f with
      ai := upd f.ai n (fun a => { a with shuntOpen := false }) })) :=
  if_pos h

theorem execAiShuntReclose_of_closed (h : (nth default s.field.ai n).shuntOpen = false) :
    execAiShuntReclose n s = .next s :=
  if_neg (by simp [h])

theorem execAiReport_of_period (h : fieldGen s 0x22 2 ≠ 0) :
    execAiReport s
      = .next (closeAi 0 (nextMul (fieldGen s 0x22 2 * qMs) s.field.winNext) (reach s.field.winNext s)) :=
  if_neg h

theorem execAiReport_of_none (h : fieldGen s 0x22 2 = 0) : execAiReport s = .next s := if_pos h

end

/-- Settles O42: an input by its sample, an edge by its selection, a shunt and the report by the mode and the period. -/
theorem fieldInputsEffect : Obligations.FieldInputsEffect :=
  ⟨fun _ _ _ _ => ⟨execDiChange_of_first, execDiChange_of_reaches, execDiChange_of_stays⟩,
    fun _ _ _ _ _ => ⟨execCounterEdge_of_counts, execCounterEdge_of_not_counts⟩, execGateClose_eq,
    fun _ _ => rfl,
    fun _ _ _ => ⟨execAiShuntOpen_of_current, execAiShuntReclose_of_open, execAiShuntOpen_of_other,
      execAiShuntReclose_of_closed⟩,
    fun _ => ⟨execAiReport_of_period, execAiReport_of_none⟩⟩

end Sys2Proof.Machine
end

section
/-!
PROOFS. The field outputs: KD_DQ_SET and its boundary, the diagnostics, OUT_INHIBIT, the supplies and the status
(R369–R371, R373–R376).
-/
namespace Sys2Proof.Machine

/-! ## KD_DQ_SET -/

theorem dqOutOfRange_of_some {b : List Byte} {cmp : Nat}
    (h : (¬((fld b 0x21 1).testBit 1 = true) ∧ 2 ^ 30 < fld b 0x24 4) ∨ cmp + 10 * qSec < fld b 0x28 8) :
    dqOutOfRange b cmp
      = some (if ¬((fld b 0x21 1).testBit 1 = true) ∧ 2 ^ 30 < fld b 0x24 4 then 0x24 else 0x28) := by
  unfold dqOutOfRange
  by_cases hd : ¬((fld b 0x21 1).testBit 1 = true) ∧ 2 ^ 30 < fld b 0x24 4
  · rw [if_pos (by simpa using hd), if_pos hd]
  · rw [if_neg (by simpa using hd), if_neg hd, if_pos (h.resolve_left hd)]

theorem dqOutOfRange_of_none {b : List Byte} {cmp : Nat}
    (hd : ¬(¬((fld b 0x21 1).testBit 1 = true) ∧ 2 ^ 30 < fld b 0x24 4)) (hs : fld b 0x28 8 ≤ cmp + 10 * qSec) :
    dqOutOfRange b cmp = none := by
  unfold dqOutOfRange
  rw [if_neg (by simpa using hd), if_neg (Nat.not_lt.2 hs)]

section
variable {dt : Nat} {p : Post} {s : State} (hp : Passes scDqSet true p s)
include hp

/-- Out of its ranges the command is refused at once, with the first reason of R370. -/
theorem dqCommand_of_out_of_range {off : Nat}
    (ho : dqOutOfRange p.body (arrive dt 0x0C02 0x05 p (fun acc => acc) s).2.cmp = some off) :
    let x := arrive dt 0x0C02 0x05 p (fun acc => acc) s
    let s1 := reach (decideAt x.2.cmp) x.1
    let u := { x.2 with bound := decideAt x.2.cmp }
    dqCommand dt p s = match dqRefusal p.body s1 with
      | some r => u.refuse r 0 s1
      | none => u.refuse 7 off s1 := by
  simp only [dqCommand, command_passes hp, ho] <;> rfl

/-- Within its ranges it waits for its boundary (R370). -/
theorem dqCommand_of_in_range
    (ho : dqOutOfRange p.body (arrive dt 0x0C02 0x05 p (fun acc => acc) s).2.cmp = none) :
    let x := arrive dt 0x0C02 0x05 p (fun acc => acc) s
    dqCommand dt p s = x.1.upField (fun f => { f with
      host := f.host ++ [⟨p, x.2.acc, startAt x.2.cmp (fld p.body 0x28 8)⟩] }) := by
  simp only [dqCommand, command_passes hp, ho]

end

/-! ## The boundary of an output -/

section
variable {n : Fin 24} {s : State}

/-- The KD_DQ_SET of an output that wait (R370). -/
def dqMine (n : Nat) (s : State) : List DqHost := s.field.host.filter (fun h => fld h.post.body 0x20 1 == n)

/-- With no command waiting, the duty that waits takes effect (R369). -/
theorem execDqDutyEffect_of_none (h : dqMine n s = []) : execDqDutyEffect n s = .next (dqWaitEnds n s) := by
  unfold execDqDutyEffect
  extract_lets d mine first waitAt hostTurn
  have hfirst : first = none := by
    rw [show first = _ from foldl_least_eq_min? (fun _ => rfl) (fun _ _ => rfl) mine, show mine = [] from h]
    rfl
  rw [hfirst]

/-- With no duty waiting, the last command due at the earliest boundary decides, and those before it are SUPERSEDED
(R370). -/
theorem execDqDutyEffect_of_due {pre : List DqHost} {l : DqHost} {t : Nat} (hw : (dqOf s n).wait = none)
    (hc : commanding s = true) (hdue : (dqMine n s).filter (fun h => decide (h.start ≤ t)) = pre ++ [l])
    (ht : ∃ h ∈ dqMine n s, h.start = t) (hmin : ∀ h ∈ dqMine n s, t ≤ h.start) :
    execDqDutyEffect n s
      = .next (dqDecide l (pre.foldl (fun s h => complete 0x0C02 0x05 h.post h.acc ⟨3, 0, 0, l.post.corr, 0, t⟩ s)
          ((reach t s).upField (fun f => { f with host := f.host.filter (fun h => !(pre ++ [l]).contains h) })))) := by
  unfold execDqDutyEffect
  extract_lets d mine first waitAt hostTurn
  have hfirst : first = some t := by
    rw [show first = _ from foldl_least_eq_min? (fun _ => rfl) (fun _ _ => rfl) mine]
    exact List.min?_eq_some_iff.2 ⟨List.mem_map.2 ht, List.forall_mem_map.2 hmin⟩
  have hturn : hostTurn = true := by
    simp [hostTurn, hfirst, waitAt, d, hw]
  rw [hfirst]
  simp only [hturn, hc, Bool.and_self, if_true, show mine.filter (fun h => decide (h.start ≤ t)) = pre ++ [l] from hdue,
    List.getLast?_append, List.dropLast_concat]
  rfl

end

/-! ## Diagnostics -/

section
variable {n : Fin 24} {dt : Nat} {s : State}

theorem not_dqTests_iff : dqTests s = false ↔ s.field.vdqMv < 7000 := by simp [dqTests]

theorem execDqOverload_of_quiet (h : s.field.vdqMv < 7000 ∨ (dqOf s n).onCounts = 0) :
    execDqOverload n dt s = .next (tick dt s) := by
  rw [← not_dqTests_iff] at h
  refine if_neg ?_
  rcases h with h | h <;> simp [h]

theorem execDqOpenLoad_of_quiet (h : s.field.vdqMv < 7000 ∨ (dqOf s n).onCounts = 0 ∨ (dqOf s n).openOn = true
    ∨ (fld (dqRec s n) 0x24 1).testBit 0 = false) : execDqOpenLoad n dt s = .next (tick dt s) := by
  rw [← not_dqTests_iff] at h
  refine if_neg ?_
  rcases h with h | h | h | h <;> simp [h]

theorem execDqSupplyShort_of_quiet (h : s.field.vdqMv < 7000 ∨ (dqOf s n).onCounts ≠ 0 ∨ (dqOf s n).short = true
    ∨ (fld (dqRec s n) 0x24 1).testBit 1 = false) : execDqSupplyShort n dt s = .next (tick dt s) := by
  rw [← not_dqTests_iff] at h
  refine if_neg ?_
  rcases h with h | h | h | h <;> simp [h]

/-- The output goes off and latches (R371). -/
theorem execDqOverload_of_on (hv : 7000 ≤ s.field.vdqMv) (ho : (dqOf s n).onCounts ≠ 0) :
    execDqOverload n dt s = .next (fieldStatus (raise 97 n 0 (upDq n (fun d => { d with latched := true })
      (dqOff n (dqCancel n (refusedWith 0x0C02 0 (beatAt (tick dt s).now.ft)) (tick dt s)))))) :=
  if_pos (by simp [dqTests, hv, ho])

theorem execDqOpenLoad_of_on (hv : 7000 ≤ s.field.vdqMv) (ho : (dqOf s n).onCounts ≠ 0) (hn : (dqOf s n).openOn = false)
    (hm : (fld (dqRec s n) 0x24 1).testBit 0 = true) : execDqOpenLoad n dt s
      = .next (fieldStatus (raise 98 n 0 (upDq n (fun d => { d with openOn := true }) (tick dt s)))) :=
  if_pos (by simp [dqTests, hv, ho, hn, hm])

theorem execDqSupplyShort_of_off (hv : 7000 ≤ s.field.vdqMv) (ho : (dqOf s n).onCounts = 0)
    (hn : (dqOf s n).short = false) (hm : (fld (dqRec s n) 0x24 1).testBit 1 = true) : execDqSupplyShort n dt s
      = .next (fieldStatus (raise 99 n 0 (upDq n (fun d => { d with short := true }) (tick dt s)))) :=
  if_pos (by simp [dqTests, hv, ho, hn, hm])

end

/-! ## OUT_INHIBIT, the supplies and the status -/

section
variable {dt mv : Nat} {ok : Bool} {s : State}

/-- Every output opens and the boost queues are emptied (R373). -/
theorem execOutInhibitAssert_of_open (h : s.valve.inhibit = false) :
    execOutInhibitAssert dt s = .next (inhibitReport true (dqAllOff 0x0C01 (allOffFast (emptyQueues 0x0701
      ((tick dt s).upValve (fun v => { v with inhibit := true })))))) :=
  if_neg (by simp [h])

theorem execOutInhibitRelease_of_inhibited (h : s.valve.inhibit = true) :
    execOutInhibitRelease dt s
      = .next (inhibitReport false ((tick dt s).upValve (fun v => { v with inhibit := false }))) :=
  if_pos h

theorem execSensorSupplyFault_of_five (h : s.field.fault5 = false) :
    execSensorSupplyFault 0 dt s = .next (fieldStatus (raise 102 0 1 ((tick dt s).upField (fun f => { f with
      fault5 := true, retry5 := s.now.el + dt + qSec })))) := by
  simp [execSensorSupplyFault, h]

theorem execSensorSupplyFault_of_ten (h : s.field.fault10 = false) :
    execSensorSupplyFault 1 dt s = .next (fieldStatus (raise 102 1 1 ((tick dt s).upField (fun f => { f with
      fault10 := true, retry10 := s.now.el + dt + qSec })))) := by
  simp [execSensorSupplyFault, h]

theorem execSensorSupplyRetry_of_five (h : s.field.fault5 = true) :
    execSensorSupplyRetry 0 ok s =
      let s1 := reachEl s.field.retry5 s
      let s2 := s1.upField (fun f => { f with fault5 := !ok, retry5 := s1.now.el + qSec })
      .next (if ok then fieldStatus (raise 102 0 0 s2) else s2) := by
  simp [execSensorSupplyRetry, h]

theorem execSensorSupplyRetry_of_ten (h : s.field.fault10 = true) :
    execSensorSupplyRetry 1 ok s =
      let s1 := reachEl s.field.retry10 s
      let s2 := s1.upField (fun f => { f with fault10 := !ok, retry10 := s1.now.el + qSec })
      .next (if ok then fieldStatus (raise 102 1 0 s2) else s2) := by
  simp [execSensorSupplyRetry, h]

/-- A voltage as the status carries it saturates at 16 bits. -/
theorem sat_16 (v : Nat) : sat 16 v = min v 65535 := by rfl

@[simp] theorem fieldGen_upField (f : Field → Field) (off size : Nat) :
    fieldGen (s.upField f) off size = fieldGen s off size := by rfl

theorem execVdqLowSet_of_low (hl : mv < fieldGen s 0x26 2) (h : s.field.vdqLow = false) :
    execVdqLowSet dt mv s = .next (fieldStatus (raise 100 0xFFFF 0 ((tick dt s).upField (fun f => { f with
      vdqMv := min mv 65535, vdqLow := true })))) := by
  simp [execVdqLowSet, hl, h, upField_upField, sat_16]

theorem execVdqLowSet_of_other (h : fieldGen s 0x26 2 ≤ mv ∨ s.field.vdqLow = true) :
    execVdqLowSet dt mv s = .next ((tick dt s).upField (fun f => { f with vdqMv := min mv 65535 })) := by
  rw [← sat_16]
  refine if_neg ?_
  rcases h with h | h <;> simp [h]

theorem execVdqLowClear_of_low (h : mv < fieldGen s 0x26 2 + 500) :
    execVdqLowClear dt mv s = .next ((tick dt s).upField (fun f => { f with vdqMv := min mv 65535 })) := by
  rw [← sat_16]
  exact if_neg (by simp [h])

theorem execVdqLowClear_of_high (h : fieldGen s 0x26 2 + 500 ≤ mv) :
    execVdqLowClear dt mv s = .next (if s.field.vdqLow then
        fieldStatus ((tick dt s).upField (fun f => { f with vdqMv := min mv 65535, vdqLow := false }))
      else (tick dt s).upField (fun f => { f with vdqMv := min mv 65535 })) := by
  simp [execVdqLowClear, h, upField_upField, sat_16, apply_ite Host.Outcome.next]

theorem execFieldStatusPeriod_of_period {vdq v5 v10 i5 i10 : Nat} (h : fieldGen s 0x24 2 ≠ 0) :
    execFieldStatusPeriod vdq v5 v10 i5 i10 s
      = .next (fieldStatus ((reach s.field.statusNext s).upField (fun f => { f with
          statusNext := nextMul (fieldGen s 0x24 2 * qMs) s.field.statusNext, vdqMv := min vdq 65535
          sup5Mv := min v5 65535, sup10Mv := min v10 65535, sup5Ma := min i5 65535, sup10Ma := min i10 65535 }))) := by
  simp only [← sat_16]
  exact if_neg h

end

/-- Settles O43: a command by its ranges, a boundary by what waits, a diagnostic by what it tests. -/
theorem fieldOutputsEffect : Obligations.FieldOutputsEffect := by
  refine ⟨?_, fun n s => ⟨execDqDutyEffect_of_none, fun pre l t => execDqDutyEffect_of_due⟩,
    fun n dt s => ⟨execDqOverload_of_quiet, execDqOpenLoad_of_quiet, execDqSupplyShort_of_quiet, execDqOverload_of_on,
      execDqOpenLoad_of_on, execDqSupplyShort_of_off⟩,
    fun dt s => ⟨execOutInhibitAssert_of_open, execOutInhibitRelease_of_inhibited, fun h => if_pos h,
      fun h => if_neg (by simp [h]), execSensorSupplyFault_of_five, execSensorSupplyFault_of_ten,
      fun mv => ⟨execVdqLowSet_of_low, execVdqLowSet_of_other, execVdqLowClear_of_low, execVdqLowClear_of_high⟩⟩,
    fun ok s => ⟨execSensorSupplyRetry_of_five, fun h => if_pos (by simp [h]), fun h => if_pos (by simp [h]),
      execSensorSupplyRetry_of_ten⟩,
    fun vdq v5 v10 i5 i10 s h => if_pos h, fun vdq v5 v10 i5 i10 s => execFieldStatusPeriod_of_period⟩
  simp only [List.forall_mem_cons]
  refine ⟨?_, ?_, by simp⟩ <;>
    exact fun dt p s hp => ⟨fun h => congrArg Host.Outcome.next (dqCommand_of_out_of_range hp (dqOutOfRange_of_some h)),
      fun hd hs => congrArg Host.Outcome.next (dqCommand_of_in_range hp (dqOutOfRange_of_none hd hs))⟩

end Sys2Proof.Machine
end

section
/-!
PROOFS. The CAN channels: their states, their frames and KD_CAN_TX (R382–R389, R391, R399).
-/
namespace Sys2Proof.Machine

/-! ## States -/

section
variable {c : Fin 6} {dt : Nat} {s : State}

theorem execCanIntegrated_eq (c : Fin 6) (dt : Nat) (s : State) : execCanIntegrated c dt s
    = .next (if (cctl s c).state = .integrating then canSetState c .errorActive (tick dt s) else tick dt s) := by
  simp [execCanIntegrated]

theorem execCanRecovered_eq (c : Fin 6) (dt : Nat) (s : State) : execCanRecovered c dt s
    = .next (if (cctl s c).state = .recovering then
        canSetState c .errorActive (upCtlr c (fun k => { k with tec := 0, recErr := 0 }) (tick dt s))
      else tick dt s) := by
  simp [execCanRecovered]

/-- The shut-down ends: an enable that was held goes on to INTEGRATING, else the queue is emptied (R382, R383). -/
theorem execCanShutdownEnd_of_shutdown (h : (cctl s c).shutdown = true) :
    execCanShutdownEnd c dt s =
      let s2 := upCtlr c (fun k => { k with shutdown := false }) (tick dt s)
      .next (if (cctl s c).enableAfter then
          canSetState c .integrating (upCtlr c (fun k => { k with afterShutdown := true, enableAfter := false }) s2)
        else canEmpty c false s2) := by
  simp [execCanShutdownEnd, h, apply_ite Host.Outcome.next]

theorem execCanShutdownEnd_of_other (h : (cctl s c).shutdown = false) :
    execCanShutdownEnd c dt s = .next (tick dt s) := by
  simp [execCanShutdownEnd, h]

theorem execCanStatusPeriod_of_period (h : fld (canRec s c) 0x32 2 ≠ 0) :
    execCanStatusPeriod c s = .next (canStatus c (upCtlr c (fun x => { x with
      statusNext := nextMul (fld (canRec s c) 0x32 2 * qMs) (cctl s c).statusNext })
        (reach (cctl s c).statusNext s))) :=
  if_neg h

theorem execCanStatusPeriod_of_none (h : fld (canRec s c) 0x32 2 = 0) : execCanStatusPeriod c s = .next s := if_pos h

/-- Whether an object is enabled is not changed by a change that leaves the controllers alone. -/
theorem objEnabled_upCan {f : Can → Can} (hf : ∀ v, (f v).ctl = v.ctl) (o : Nat) :
    objEnabled (s.upCan f) o = objEnabled s o := by
  have hc : ∀ c, cctl (s.upCan f) c = cctl s c := fun c => by simp [cctl, hf]
  simp only [objEnabled, hc]
  rfl

@[simp] theorem commanding_upCan (f : Can → Can) : commanding (s.upCan f) = commanding s := by rfl

/-- A set-point object sends while a lane commands and it is enabled (R388). -/
theorem execCanSetpointPeriod_of_period {o : Fin 192} (h : fld (objRec s o) 0x2E 2 ≠ 0) :
    let t := (nth default s.can.objs o).next
    let s1 := (reach t s).upCan (fun v => { v with
      objs := upd v.objs o (fun x => { x with next := nextMul (fld (objRec s o) 0x2E 2 * qMs) t }) })
    execCanSetpointPeriod o s
      = .next (if commanding s = true ∧ objEnabled s o = true then objEnqueue o s1 else s1) := by
  intro t s1
  have henabled : objEnabled s1 o = objEnabled s o := objEnabled_upCan (fun _ => rfl) o
  simp only [execCanSetpointPeriod, if_neg h, commanding_upCan, commanding_reach, Bool.and_eq_true]
  rw [← henabled]

theorem execCanSetpointPeriod_of_none {o : Fin 192} (h : fld (objRec s o) 0x2E 2 = 0) :
    execCanSetpointPeriod o s = .next s := if_pos h

end

/-! ## Reception -/

section
variable {c : Fin 6} {dt ago : Nat} {f : CanFrame} {own : Bool} {s : State}

/-- The controller hears the frame: on the bus, its own in a loopback mode alone, another node's but in internal
loopback (R391). -/
def canHears (c : Fin 6) (own : Bool) (s : State) : Prop :=
  (cctl s c).onBus = true ∧ (own = true → fld (canRec s c) 0x22 1 ≠ 0) ∧ (own = false → fld (canRec s c) 0x22 1 ≠ 1)

theorem not_canHears_iff : (!(cctl s c).onBus || (own && decide (fld (canRec s c) 0x22 1 = 0))
    || (!own && decide (fld (canRec s c) 0x22 1 = 1))) = true ↔ ¬canHears c own s := by
  unfold canHears
  cases own <;> cases (cctl s c).onBus <;> simp

theorem not_knows_iff : (f.fdf && !(fld (canRec s c) 0x23 1).testBit 0) = true
    ↔ ¬(f.fdf = true → (fld (canRec s c) 0x23 1).testBit 0 = true) := by
  cases f.fdf <;> simp

/-- A frame without an error lowers REC, but for the controller's own, and the state follows (R382, R391). -/
def recFallen (c : Fin 6) (own : Bool) (s : State) : State :=
  let k := cctl s c
  let high := decide (127 < k.recErr)
  let rec2 := if own then k.recErr else if high then 119 + freeNat 16 s % 9 else k.recErr - 1
  let s2 := upCtlr c (fun k => { k with recErr := rec2 }) s
  canByCounters c (if high && !own then drawn s2 else s2)

/-- The object accepts the kind of frame that it is (R384). -/
def accepts (f : CanFrame) (r : List Byte) : Bool :=
  if f.fdf then (fld r 0x22 1).testBit 4 else (fld r 0x22 1).testBit 3

/-- What a frame does for the object that binds it, if one does: it counts, and where the object accepts it, gives its
entries' values and joins the batch of the beat (R384–R386). `s1` is the state as the frame ends, `s` that with REC
lowered. -/
def frameFor (c : Fin 6) (ago : Nat) (f : CanFrame) (own : Bool) (s1 s : State) : Option (Nat × List Byte) → State
  | none => upCtlr c (fun k => { k with rxUnbound := satAdd 32 k.rxUnbound 1 }) s
  | some (o, r) =>
    if accepts f r then
      let s4 := (List.range 4).foldl (canEntry c o r f (agoStamp ago s1) (agoCmp ago s1))
        (upCtlr c (fun k => { k with rxFrames := satAdd 32 k.rxFrames 1 }) s)
      if (fld r 0x22 1).testBit 2 then
        s4.upCan (fun v => { v with batch := canSlotPut ⟨c, o, agoStamp ago s1, f, canShort r f, own, 0⟩ v.batch })
      else s4
    else upCtlr c (fun k => { k with rxUnbound := satAdd 32 k.rxUnbound 1 }) s

theorem execCanFrameReceived_of_unheard (h : ¬canHears c own s) :
    execCanFrameReceived c dt ago f own s = .next (tick dt s) :=
  if_pos (not_canHears_iff.2 h)

section
variable (h : canHears c own s)
include h

/-- A frame in a format that the controller does not know is a form error (R378). -/
theorem execCanFrameReceived_of_unknown (hk : ¬(f.fdf = true → (fld (canRec s c) 0x23 1).testBit 0 = true)) :
    execCanFrameReceived c dt ago f own s
      = .next (canByCounters c (upCtlr c (fun k => { k with
          recErr := min 255 (k.recErr + 1), errs := upd k.errs 1 (fun n => satAdd 16 n 1) }) (tick dt s))) :=
  (if_neg (mt not_canHears_iff.1 (not_not.2 h))).trans (if_pos (not_knows_iff.2 hk))

variable (hk : f.fdf = true → (fld (canRec s c) 0x23 1).testBit 0 = true)
include hk

theorem execCanFrameReceived_of_remote (hr : f.remote = true) :
    execCanFrameReceived c dt ago f own s
      = .next (upCtlr c (fun k => { k with rxRemote := satAdd 16 k.rxRemote 1 }) (recFallen c own (tick dt s))) :=
  (if_neg (mt not_canHears_iff.1 (not_not.2 h))).trans ((if_neg (mt not_knows_iff.1 (not_not.2 hk))).trans (if_pos hr))

variable (hr : f.remote = false)
include hr

theorem execCanFrameReceived_of_data :
    let s3 := recFallen c own (tick dt s)
    execCanFrameReceived c dt ago f own s = .next (frameFor c ago f own (tick dt s) s3 (boundObject s3 c f)) := by
  intro s3
  refine (if_neg (mt not_canHears_iff.1 (not_not.2 h))).trans
    ((if_neg (mt not_knows_iff.1 (not_not.2 hk))).trans ((if_neg (by simp [hr])).trans ?_))
  simp only [s3, recFallen]
  generalize canByCounters c _ = x
  cases boundObject x c f with
  | none => rfl
  | some x =>
    simp only [frameFor, ← apply_ite Host.Outcome.next]
    refine congrArg Host.Outcome.next ?_
    by_cases ha : accepts f x.2 = true
    · exact (if_neg (by simpa [accepts] using ha)).trans (if_pos ha).symm
    · exact (if_pos (by simpa [accepts] using ha)).trans (if_neg ha).symm

/-- A frame that no object accepts only counts (R384). -/
theorem execCanFrameReceived_of_unaccepted
    (ho : ∀ o r, boundObject (recFallen c own (tick dt s)) c f = some (o, r) → accepts f r = false) :
    execCanFrameReceived c dt ago f own s
      = .next (upCtlr c (fun k => { k with rxUnbound := satAdd 32 k.rxUnbound 1 }) (recFallen c own (tick dt s))) := by
  rw [execCanFrameReceived_of_data h hk hr]
  cases hb : boundObject (recFallen c own (tick dt s)) c f with
  | none => rfl
  | some x => simp [frameFor, ho x.1 x.2 hb]

/-- A frame that its object accepts gives its entries' values, and joins the batch of the beat where the object has
DELIVER (R385, R386). -/
theorem execCanFrameReceived_of_accepted {o : Nat} {r : List Byte}
    (hb : boundObject (recFallen c own (tick dt s)) c f = some (o, r)) (ha : accepts f r = true) :
    let s1 := tick dt s
    let s4 := (List.range 4).foldl (canEntry c o r f (agoStamp ago s1) (agoCmp ago s1))
      (upCtlr c (fun k => { k with rxFrames := satAdd 32 k.rxFrames 1 }) (recFallen c own s1))
    execCanFrameReceived c dt ago f own s = .next (if (fld r 0x22 1).testBit 2 then
        s4.upCan (fun v => { v with batch := canSlotPut ⟨c, o, agoStamp ago s1, f, canShort r f, own, 0⟩ v.batch })
      else s4) := by
  rw [execCanFrameReceived_of_data h hk hr, hb]
  simp only [frameFor, ha, if_true]

end
end

/-! ## Errors and transmission -/

section
variable {c : Fin 6} {dt ago tdc : Nat} {e : CanErr} {eight exempt : Bool} {s : State}

theorem execCanRxError_of_on (h : (cctl s c).onBus = true) :
    execCanRxError c dt e eight s = .next (canByCounters c (upCtlr c (fun k => { k with
      recErr := min 255 (k.recErr + if eight then 8 else 1), errs := bumpErr e k.errs }) (tick dt s))) :=
  congrArg Host.Outcome.next (if_pos h)

theorem execCanRxError_of_off (h : (cctl s c).onBus = false) : execCanRxError c dt e eight s = .next (tick dt s) :=
  congrArg Host.Outcome.next (if_neg (by simp [h]))

/-- The change of a controller is settled by what it does to that controller. -/
theorem upCtlr_congr {f g : CanCtl → CanCtl} (h : ∀ k, cctl s c = k → f k = g k) : upCtlr c f s = upCtlr c g s :=
  congrArg (fun ctl => s.upCan (fun v => { v with ctl := ctl }))
    (upd_congr fun k hk => h k (nth_of_getElem? hk))

/-- The head frame is kept, TEC rises by 8 but for the exceptions, and the error counts by type (R382, R387). -/
theorem execCanTxError_of_cons {x : CanEntry} {r : List CanEntry} (hq : (cctl s c).queue = x :: r)
    (hb : (cctl s c).onBus = true) (hs : (decide (e = .ack) && decide (fld (canRec s c) 0x22 1 ≠ 0)) = false) :
    execCanTxError c dt e exempt s = .next (canByCounters c (upCtlr c (fun k => { k with
      tec := min 256 (k.tec + if e = .arbitration ∨ exempt = true then 0 else 8)
      errs := bumpErr e k.errs
      queue := { x with attempts := x.attempts + 1 } :: r }) (tick dt s))) := by
  have hsends : (!(cctl s c).onBus || (cctl s c).queue.isEmpty
      || (decide (e = .ack) && decide (fld (canRec s c) 0x22 1 ≠ 0))) = false := by rw [hb, hq, hs]; rfl
  have hctl : cctl (tick dt s) c = cctl s c := cctl_tick ..
  simp only [execCanTxError, hctl, canRec_tick, hsends, Bool.false_eq_true, if_false]
  rw [upCtlr_congr (g := _) fun k hk => ?_]
  rw [hctl] at hk
  have hkq : k.queue = x :: r := hk ▸ hq
  rw [hkq]

theorem execCanTxError_of_none (h : (cctl s c).queue = [] ∨ (cctl s c).onBus = false
    ∨ (decide (e = .ack) && decide (fld (canRec s c) 0x22 1 ≠ 0)) = true) :
    execCanTxError c dt e exempt s = .next (tick dt s) := by
  refine if_pos ?_
  rcases h with h | h | h
  · simp [h]
  · simp [h]
  · simp only [cctl_tick, canRec_tick, h, Bool.or_true]

/-- Of two items of one command, one has its command as the other has. -/
theorem beq_and_isSome_right (x y : CanEntry) :
    (y.post == x.post && x.post.isSome) = (y.post == x.post && y.post.isSome) := by
  by_cases h : y.post = x.post
  · rw [h]
  · rw [beq_eq_false_iff_ne.2 h, Bool.false_and, Bool.false_and]

/-- The head frame is sent: TEC falls, the delay is noted and its command completes, of which the other copy then has
no completion to give (R380, R389, R392). -/
theorem execCanTxSuccess_of_cons {x : CanEntry} {r : List CanEntry} (hq : (cctl s c).queue = x :: r)
    (hb : (cctl s c).onBus = true ∨ (cctl s c).shutdown = true) :
    let s1 := tick dt s
    let measured := x.frame.brs && (fld (canRec s c) 0x23 1).testBit 4
    let far := measured && decide (127 < tdc + fld (canRec s c) 0x2E 1)
    let same := fun (y : CanEntry) => y.post == x.post && y.post.isSome
    let s2 := upCtlr c (fun k => { k with
      queue := r.map (fun y => if same y then { y with post := none } else y)
      tec := k.tec - 1, txFrames := satAdd 32 k.txFrames 1
      tdcMeasured := if x.frame.brs then min 255 tdc else k.tdcMeasured
      tdcRange := if measured then far else k.tdcRange }) s1
    let twice := x.copy || r.any (fun y => same y && y.copy)
    let s3 := entryDone x ⟨0, 0, if twice then 1 else 0, x.attempts + 1, 0, agoStamp ago s1⟩ s2
    execCanTxSuccess c dt ago tdc s = .next (canByCounters c (if far then canRaise 108 c 0 s3 else s3)) := by
  have hsends : (!(cctl s c).onBus && !(cctl s c).shutdown) = false := by
    rcases hb with h | h <;> simp [h]
  have hsame : ∀ y : CanEntry, (y.post == x.post && x.post.isSome) = (y.post == x.post && y.post.isSome) :=
    beq_and_isSome_right x
  simp only [execCanTxSuccess, cctl_tick, canRec_tick, hq, hsends, Bool.false_eq_true, if_false, hsame]

theorem execCanTxSuccess_of_none
    (h : (cctl s c).queue = [] ∨ (cctl s c).onBus = false ∧ (cctl s c).shutdown = false) :
    execCanTxSuccess c dt ago tdc s = .next (tick dt s) := by
  unfold execCanTxSuccess
  extract_lets s1 k
  cases hq : k.queue with
  | nil => rfl
  | cons x r =>
    obtain ⟨hon, hshut⟩ := h.resolve_left (fun hn => by simp [k, s1, hn] at hq)
    exact if_pos (by simp [k, s1, hon, hshut])

/-- The host frames whose life ends first are removed and refused (R389). -/
theorem execCanTxLifetime_of_least {t : Nat} (ht : ∃ e ∈ (cctl s c).queue, e.endEl = some t)
    (hmin : ∀ e ∈ (cctl s c).queue, ∀ u, e.endEl = some u → t ≤ u) :
    let s1 := reachEl t s
    let gone := completing ((cctl s c).queue.filter (fun e => e.endEl == some t)) []
    execCanTxLifetime c s
      = .next (gone.foldl (fun s e => entryDone e (refusedWith 0x12 0 (beatAt s1.now.ft)) s)
          (upCtlr c (fun k => { k with queue := k.queue.filter (fun e => !(e.endEl == some t))
                                       txExpired := satAdd 32 k.txExpired gone.length }) s1)) := by
  have hleast : ((cctl s c).queue.filterMap (·.endEl)).min? = some t := List.min?_eq_some_iff.2
    ⟨List.mem_filterMap.2 ht, fun u hu => by
      obtain ⟨e, he, hu⟩ := List.mem_filterMap.1 hu
      exact hmin e he u hu⟩
  cases hends : (cctl s c).queue.filterMap (·.endEl) with
  | nil => simp [hends] at hleast
  | cons a r =>
    rw [hends, List.min?_cons'] at hleast
    simp only [execCanTxLifetime, hends, Option.some.inj hleast]

theorem execCanTxLifetime_of_none (h : ∀ e ∈ (cctl s c).queue, e.endEl = none) :
    execCanTxLifetime c s = .next s := by
  have hnil : (cctl s c).queue.filterMap (·.endEl) = [] := List.filterMap_eq_nil_iff.2 h
  simp only [execCanTxLifetime, hnil]

end

/-! ## KD_CAN_TX -/

/-- When a KD_CAN_TX is decided: at once where its boundary needs no wait for AT_STAMP (R389). -/
def canDecidedAt (p : Post) (acc : Nat) : Nat :=
  if fld p.body 0x28 8 ≤ acc + 200 * qUs then startAt acc 0 else acc

section
variable {dt : Nat} {object : Bool} {p : Post} {s : State} (hp : Passes (scCanTx object) true p s)
include hp

theorem canCommand_of_passes :
    let x := arrive dt 0x0D03 0x06 p (canDecidedAt p) s
    canCommand dt object p s =
      if x.2.cmp + 10 * qSec < fld p.body 0x28 8 then { x.2 with bound := decideAt x.2.cmp }.refuse 7 0x28 x.1
      else if fld p.body 0x28 8 ≤ x.2.cmp + 200 * qUs ∧ commanding s = true then
        canDecide ⟨p, x.2.acc, startAt x.2.cmp (fld p.body 0x28 8)⟩ x.1
      else x.1.upCan (fun v => { v with host := v.host ++ [⟨p, x.2.acc, startAt x.2.cmp (fld p.body 0x28 8)⟩] }) := by
  simp only [canCommand, command_passes hp, commanding_arrive]
  rfl

theorem canCommand_of_now
    (hat : fld p.body 0x28 8 ≤ (arrive dt 0x0D03 0x06 p (canDecidedAt p) s).2.cmp + 200 * qUs)
    (hc : commanding s = true) :
    let x := arrive dt 0x0D03 0x06 p (canDecidedAt p) s
    canCommand dt object p s = canDecide ⟨p, x.2.acc, startAt x.2.cmp (fld p.body 0x28 8)⟩ x.1 := by
  refine (canCommand_of_passes hp).trans ((if_neg ?_).trans (if_pos ⟨hat, hc⟩))
  have : 200 * qUs ≤ 10 * qSec := by decide
  omega

theorem canCommand_of_later
    (hat : (arrive dt 0x0D03 0x06 p (canDecidedAt p) s).2.cmp + 200 * qUs < fld p.body 0x28 8 ∨ commanding s = false)
    (hs : fld p.body 0x28 8 ≤ (arrive dt 0x0D03 0x06 p (canDecidedAt p) s).2.cmp + 10 * qSec) :
    let x := arrive dt 0x0D03 0x06 p (canDecidedAt p) s
    canCommand dt object p s = x.1.upCan (fun v => { v with
      host := v.host ++ [⟨p, x.2.acc, startAt x.2.cmp (fld p.body 0x28 8)⟩] }) := by
  refine (canCommand_of_passes hp).trans ((if_neg (Nat.not_lt.2 hs)).trans (if_neg fun h => ?_))
  exact hat.elim (Nat.not_lt.2 h.1) (fun hn => by simp [hn] at h)

theorem canCommand_of_beyond
    (hs : (arrive dt 0x0D03 0x06 p (canDecidedAt p) s).2.cmp + 10 * qSec < fld p.body 0x28 8) :
    let x := arrive dt 0x0D03 0x06 p (canDecidedAt p) s
    canCommand dt object p s = { x.2 with bound := decideAt x.2.cmp }.refuse 7 0x28 x.1 :=
  (canCommand_of_passes hp).trans (if_pos hs)

end

/-- Settles O44: each command by the controller's state, a frame by what binds it, an error by the queue, KD_CAN_TX by its
stamp. -/
theorem canEffect : Obligations.CanEffect := by
  refine ⟨⟨fun c dt s => ⟨fun h => ?_, fun h => congrArg _ (if_neg h), fun h => ?_, execCanShutdownEnd_of_other,
      execCanStatusPeriod_of_none, fun h => ?_, fun h => congrArg _ (if_pos h), fun h => ?_, fun h ha => ?_,
      fun h ha => ?_, execCanStatusPeriod_of_period⟩,
      fun o s => execCanSetpointPeriod_of_none, fun o s => execCanSetpointPeriod_of_period⟩,
    fun c dt ago f own s => ?_, fun c dt e s => ?_,
    fun c dt ago tdc s => ⟨execCanTxSuccess_of_none, fun x r hq hb => ?_⟩,
    fun c s => execCanTxLifetime_of_none, fun c s t => execCanTxLifetime_of_least, ?_⟩
  · exact (execCanIntegrated_eq c dt s).trans (congrArg _ (if_neg h))
  · exact (execCanRecovered_eq c dt s).trans (congrArg _ (if_neg h))
  · exact (execCanIntegrated_eq c dt s).trans (congrArg _ (if_pos h))
  · exact (execCanRecovered_eq c dt s).trans (congrArg _ (if_pos h))
  · exact (execCanShutdownEnd_of_shutdown h).trans (congrArg _ (if_neg (by simp [ha])))
  · exact (execCanShutdownEnd_of_shutdown h).trans (congrArg _ (if_pos ha))
  · exact ⟨execCanFrameReceived_of_unheard, execCanFrameReceived_of_unknown,
      fun h => execCanFrameReceived_of_remote h.1 h.2, fun h => execCanFrameReceived_of_unaccepted h.1 h.2,
      fun o r h hr hb ha => execCanFrameReceived_of_accepted h.1 h.2 hr hb ha⟩
  · exact ⟨fun eight => ⟨execCanRxError_of_on, execCanRxError_of_off⟩,
      fun exempt => ⟨fun x r => execCanTxError_of_cons, execCanTxError_of_none⟩⟩
  · exact (execCanTxSuccess_of_cons hq hb).trans (by simp only [entryDone] <;> rfl)
  · simp only [List.forall_mem_cons]
    refine ⟨?_, ?_, by simp⟩ <;>
      exact fun dt p s hp => ⟨fun hat hc => congrArg Host.Outcome.next (canCommand_of_now hp hat hc),
        fun hat hs => congrArg Host.Outcome.next (canCommand_of_later hp hat hs),
        fun hs => congrArg Host.Outcome.next (canCommand_of_beyond hp hs)⟩

end Sys2Proof.Machine
end

section
/-!
PROOFS. The modem port: reception, the reader, KD_MODEM_TX, transmission and the status (R401–R415).
-/
namespace Sys2Proof.Machine

/-! ## What time and a line error leave -/

@[simp] theorem modemSends_tick (dt : Nat) (s : State) : modemSends (tick dt s) = modemSends s := by
  simp [modemSends]

/-! ## Reception -/

section
variable {dt ago : Nat} {b : Byte} {low : Bool} {s : State}

theorem execModemCharacter_of_deaf (h : modemListens s = false) :
    execModemCharacter dt ago b low s = .next (tick dt s) := by
  simp [execModemCharacter, h]

theorem execModemBreak_eq (dt : Nat) (s : State) :
    execModemBreak dt s = .next (if modemListens s then modemLineError (tick dt s) else tick dt s) := by
  simp [execModemBreak]

/-- The state as the character ends: a low stop bit counts as a line error (R402). -/
def lineRead (low : Bool) (s : State) : State := if low then modemLineError s else s

/-- The buffer with a character joined to the draining Folio where that is empty, else to the filling one (R403). -/
def joined (ago : Nat) (b : Byte) (s : State) : Modem :=
  let m := s.modem
  { m with
    rxBytes := satAdd 32 m.rxBytes 1, part := m.part ++ [⟨b, agoStamp ago s, s.now.ft⟩]
    drain := if m.drain = 0 then m.fill + 1 else m.drain, fill := if m.drain = 0 then 0 else m.fill + 1 }

section
variable (h : modemListens s = true)
include h

/-- With both Folios full the character is lost (R403). -/
theorem execModemCharacter_of_full (hf : (lineRead low (tick dt s)).modem.buffered = 131072) :
    let s2 := lineRead low (tick dt s)
    let s3 := s2.upModem (fun m => { m with
      rxBytes := satAdd 32 m.rxBytes 1, overrun := satAdd 32 m.overrun 1, loss := true, lastOverrun := some s2.now.el })
    execModemCharacter dt ago b low s
      = .next (if firstIn1s s2.modem.lastOverrun s2.now.el then raise 110 0xFFFF 0 s3 else s3) :=
  (if_neg (by simp [h])).trans (if_pos hf)

/-- A character with room joins the buffer and goes through the parser (R403, R406, R407). -/
theorem execModemCharacter_of_room (hf : (lineRead low (tick dt s)).modem.buffered ≠ 131072) :
    let s2 := lineRead low (tick dt s)
    let m1 := joined ago b s2
    let y := Modem.parse (m1.part.length + 1) m1 false
    let s3 := s2.upModem (fun _ => y.1)
    let s4 := s3.upModem (fun m => { m with lastRecord := some s2.now.el })
    execModemCharacter dt ago b low s = .next (modemHold (if y.2 then
      if firstIn1s s3.modem.lastRecord s2.now.el then raise 112 0xFFFF 0 s4 else s4 else s3)) :=
  (if_neg (by simp [h])).trans (if_neg hf)

end

/-! ## The reader -/

theorem execModemReaderPass_of_wait (h : s.modem.recs = [] ∨ (∃ x r, s.modem.recs = x :: r
    ∧ (256 ≤ s.modem.intake.length ∨ 262144 < s.modem.intake.sum + x.bytes.length))) :
    execModemReaderPass dt s = .next (tick dt s) := by
  rcases h with h | ⟨x, r, hx, hfull⟩
  · simp [execModemReaderPass, h]
  · simp only [execModemReaderPass, tick_modem, hx]
    exact if_neg (by omega)

theorem execModemReaderPass_of_credit {x : MRec} {r : List MRec} (hx : s.modem.recs = x :: r)
    (hn : s.modem.intake.length < 256) (hb : s.modem.intake.sum + x.bytes.length ≤ 262144) :
    execModemReaderPass dt s = .next (modemHold (modemPass x (tick dt s))) := by
  simp only [execModemReaderPass, tick_modem, hx]
  exact if_pos ⟨hn, hb⟩

end

/-! ## KD_MODEM_TX -/

section
variable {dt : Nat} {p : Post} {s : State} (hp : Passes (scModemTx p.body) true p s)
include hp

/-- KD_MODEM_TX is decided, kept for its beat or refused by its stamp (R408). It names the instant of its decision as
KD_CAN_TX does. -/
theorem execKdModemTx_of_passes :
    let x := arrive dt 0x0E02 7 p (canDecidedAt p) s
    execKdModemTx dt p s = .next (
      if x.2.cmp + 10 * qSec < fld p.body 0x28 8 then { x.2 with bound := decideAt x.2.cmp }.refuse 7 0x28 x.1
      else if fld p.body 0x28 8 ≤ x.2.cmp + 200 * qUs ∧ commanding s = true then
        modemDecide ⟨p, x.2.acc, startAt x.2.cmp (fld p.body 0x28 8)⟩ x.1
      else x.1.upModem (fun m => { m with
        host := m.host ++ [⟨p, x.2.acc, startAt x.2.cmp (fld p.body 0x28 8)⟩] })) := by
  simp only [execKdModemTx, command_passes hp, commanding_arrive]
  rfl

theorem execKdModemTx_of_now
    (hat : fld p.body 0x28 8 ≤ (arrive dt 0x0E02 7 p (canDecidedAt p) s).2.cmp + 200 * qUs)
    (hc : commanding s = true) :
    let x := arrive dt 0x0E02 7 p (canDecidedAt p) s
    execKdModemTx dt p s = .next (modemDecide ⟨p, x.2.acc, startAt x.2.cmp (fld p.body 0x28 8)⟩ x.1) := by
  have hns : 200 * qUs ≤ 10 * qSec := by decide
  exact (execKdModemTx_of_passes hp).trans
    (congrArg Host.Outcome.next ((if_neg (by omega)).trans (if_pos ⟨hat, hc⟩)))

theorem execKdModemTx_of_later
    (hat : (arrive dt 0x0E02 7 p (canDecidedAt p) s).2.cmp + 200 * qUs < fld p.body 0x28 8 ∨ commanding s = false)
    (hs : fld p.body 0x28 8 ≤ (arrive dt 0x0E02 7 p (canDecidedAt p) s).2.cmp + 10 * qSec) :
    let x := arrive dt 0x0E02 7 p (canDecidedAt p) s
    execKdModemTx dt p s = .next (x.1.upModem (fun m => { m with
      host := m.host ++ [⟨p, x.2.acc, startAt x.2.cmp (fld p.body 0x28 8)⟩] })) :=
  (execKdModemTx_of_passes hp).trans (congrArg Host.Outcome.next ((if_neg (Nat.not_lt.2 hs)).trans (if_neg fun h =>
    hat.elim (Nat.not_lt.2 h.1) (fun hn => by simp [hn] at h))))

theorem execKdModemTx_of_beyond
    (hs : (arrive dt 0x0E02 7 p (canDecidedAt p) s).2.cmp + 10 * qSec < fld p.body 0x28 8) :
    let x := arrive dt 0x0E02 7 p (canDecidedAt p) s
    execKdModemTx dt p s = .next ({ x.2 with bound := decideAt x.2.cmp }.refuse 7 0x28 x.1) :=
  (execKdModemTx_of_passes hp).trans (congrArg Host.Outcome.next (if_pos hs))

end

/-! ## Transmission -/

section
variable {dt : Nat} {high ring : Bool} {s : State}

/-- The record may go on the line (R411, R412). -/
def mayTransmit (s : State) (x : MTx) : Prop :=
  s.modem.enabled = true ∧ (s.modem.shutdown = true → x.sent ≠ 0) ∧ s.pow.state = .serving

theorem modemSends_iff {x : MTx} {r : List MTx} (h : s.modem.out = x :: r) : modemSends s = true ↔ mayTransmit s x := by
  simp only [modemSends, h, mayTransmit, Bool.and_eq_true, beq_iff_eq, and_assoc]
  cases s.modem.shutdown <;> simp

/-- A change of MDM_READY is reported (R401, R409). -/
theorem execMdmReadyChange_of_change (h : (high != (fld s.modem.recd 0x22 1).testBit 1) ≠ s.modem.ready) :
    let ready := high != (fld s.modem.recd 0x22 1).testBit 1
    execMdmReadyChange dt high s = .next (modemStatus ((tick dt s).upModem (fun m => { m with
      ready := ready, started := !ready && modemSends (tick dt s) }))) :=
  if_neg h

theorem execMdmReadyChange_of_same (h : (high != (fld s.modem.recd 0x22 1).testBit 1) = s.modem.ready) :
    execMdmReadyChange dt high s = .next (tick dt s) := if_pos h

theorem execModemCharacterSent_of_nil (h : s.modem.out = []) : execModemCharacterSent dt s = .next (tick dt s) := by
  simp [execModemCharacterSent, h]

/-- The state in which a character has left: it counts, and the stall timer begins again (R409). -/
def characterLeft (dt : Nat) (s : State) : State :=
  (tick dt s).upModem (fun m => { m with
    txBytes := satAdd 32 m.txBytes 1, waitEl := s.now.el + dt, stalled := false, started := false })

section
variable {x : MTx} {r : List MTx} (hx : s.modem.out = x :: r)
include hx

theorem execModemCharacterSent_of_held (h : ¬(mayTransmit s x ∧ (s.modem.ready = true ∨ s.modem.started = true))) :
    execModemCharacterSent dt s = .next (tick dt s) := by
  rw [← modemSends_iff hx, ← Bool.or_eq_true, ← Bool.and_eq_true, Bool.not_eq_true] at h
  simp only [execModemCharacterSent, tick_modem, hx, modemSends_tick]
  exact if_pos (by rw [← Bool.not_and, h]; rfl)

variable (h : mayTransmit s x ∧ (s.modem.ready = true ∨ s.modem.started = true))
include h

theorem execModemCharacterSent_of_more (hm : x.sent + 1 < x.wire.length) :
    execModemCharacterSent dt s
      = .next ((characterLeft dt s).upModem (fun m => { m with out := { x with sent := x.sent + 1 } :: r })) := by
  rw [← modemSends_iff hx, ← Bool.or_eq_true, ← Bool.and_eq_true] at h
  simp only [execModemCharacterSent, tick_modem, hx, modemSends_tick]
  exact (if_neg (by rw [← Bool.not_and, h]; decide)).trans (if_pos hm)

/-- The last character of a record completes its command, of which the other copy then has no completion to give, and
ends a shut-down (R392, R409, R411). -/
theorem execModemCharacterSent_of_last (hm : x.wire.length ≤ x.sent + 1) :
    let same := fun (y : MTx) => y.post == x.post && y.post.isSome
    let twice := x.copy || r.any (fun y => same y && y.copy)
    let s3 := (characterLeft dt s).upModem (fun m => { m with
      out := r.map (fun y => if same y then { y with post := none } else y) })
    let s4 := modemDone x ⟨0, 0, if twice then 1 else 0, 0, 0, (tick dt s).now.ft⟩ s3
    execModemCharacterSent dt s = .next (if s.modem.shutdown then modemShutdownEnd true s4 else s4) := by
  rw [← modemSends_iff hx, ← Bool.or_eq_true, ← Bool.and_eq_true] at h
  simp only [execModemCharacterSent, tick_modem, hx, modemSends_tick]
  exact (if_neg (by rw [← Bool.not_and, h]; decide)).trans (if_neg (Nat.not_lt.2 hm))

end

theorem execModemTxStall_of_none (h : s.modem.out = [] ∨ s.modem.stalled = true) : execModemTxStall s = .next s :=
  if_pos (by simpa using h)

theorem execModemTxStall_of_waiting (ho : s.modem.out ≠ []) (hs : s.modem.stalled = false) :
    execModemTxStall s
      = .next (raise 113 0xFFFF 0 ((reachEl (s.modem.waitEl + fld (modemRec s) 0x32 2 * qMs) s).upModem
          (fun m => { m with stalled := true }))) :=
  if_neg (by simp [ho, hs])

theorem execModemTxLifetime_of_none (h : ∀ x ∈ s.modem.out, x.sent = 0 → x.endEl = none) :
    execModemTxLifetime s = .next s := by
  have hnil : (s.modem.out.filter (fun x => decide (x.sent = 0))).filterMap (·.endEl) = [] :=
    List.filterMap_eq_nil_iff.2 fun x hx => by
      obtain ⟨hx, h0⟩ := List.mem_filter.1 hx
      exact h x hx (of_decide_eq_true h0)
  simp only [execModemTxLifetime, hnil]

/-- The records not begun whose life ends first are removed and refused (R409). -/
theorem execModemTxLifetime_of_least {t : Nat} (ht : ∃ x ∈ s.modem.out, x.sent = 0 ∧ x.endEl = some t)
    (hmin : ∀ x ∈ s.modem.out, x.sent = 0 → ∀ u, x.endEl = some u → t ≤ u) :
    let s1 := reachEl t s
    let gone := fun (x : MTx) => decide (x.sent = 0 ∧ x.endEl = some t)
    let out := modemGone (s.modem.out.filter gone) (s.modem.out.filter (fun x => !gone x))
    execModemTxLifetime s
      = .next (out.foldl (fun s x => modemDone x (refusedWith 0x12 0 (beatAt s1.now.ft)) s)
          (s1.upModem (fun m => { m with
            out := m.out.filter (fun x => !gone x), txExpired := satAdd 16 m.txExpired out.length }))) := by
  have hleast : ((s.modem.out.filter (fun x => decide (x.sent = 0))).filterMap (·.endEl)).min? = some t := by
    refine List.min?_eq_some_iff.2 ⟨?_, fun u hu => ?_⟩
    · obtain ⟨x, hx, h0, he⟩ := ht
      exact List.mem_filterMap.2 ⟨x, List.mem_filter.2 ⟨hx, decide_eq_true h0⟩, he⟩
    · obtain ⟨x, hx, he⟩ := List.mem_filterMap.1 hu
      obtain ⟨hx, h0⟩ := List.mem_filter.1 hx
      exact hmin x hx (of_decide_eq_true h0) u he
  have hgone : ∀ x : MTx, (decide (x.sent = 0) && x.endEl == some t) = decide (x.sent = 0 ∧ x.endEl = some t) :=
    fun x => by rw [Bool.decide_and, Bool.beq_eq_decide_eq]
  cases hends : (s.modem.out.filter (fun x => decide (x.sent = 0))).filterMap (·.endEl) with
  | nil => simp [hends] at hleast
  | cons a r =>
    rw [hends, List.min?_cons'] at hleast
    simp only [execModemTxLifetime, hends, Option.some.inj hleast, hgone]

theorem execModemStatusPeriod_of_none (h : fld (modemRec s) 0x30 2 = 0) : execModemStatusPeriod ring s = .next s :=
  if_pos h

theorem execModemStatusPeriod_of_period (h : fld (modemRec s) 0x30 2 ≠ 0) :
    execModemStatusPeriod ring s
      = .next (modemStatus ((reach s.modem.statusNext s).upModem (fun m => { m with
          ring := ring, statusNext := nextPeriod s.modem.statusNext (fld (modemRec s) 0x30 2) }))) :=
  if_neg h

end

/-- Settles O45: a character by the room in the Folios, a record by the credit, KD_MODEM_TX by its stamp, transmission
by the head of the queue. -/
theorem modemEffect : Obligations.ModemEffect := by
  refine ⟨fun dt ago b low s => ⟨fun h => ⟨execModemCharacter_of_deaf h, ?_⟩, execModemCharacter_of_full,
      fun h hf => ?_, fun h => ?_⟩,
    fun dt s => execModemReaderPass_of_wait, fun dt s x r => execModemReaderPass_of_credit, fun _ _ => rfl,
    fun dt p s hp => ⟨execKdModemTx_of_now hp, execKdModemTx_of_later hp, execKdModemTx_of_beyond hp⟩,
    ⟨fun dt high s => ⟨execMdmReadyChange_of_change, execMdmReadyChange_of_same⟩,
    fun dt s => ⟨execModemCharacterSent_of_nil, fun x r hx => ⟨execModemCharacterSent_of_held hx,
      execModemCharacterSent_of_more hx, execModemCharacterSent_of_last hx⟩⟩⟩,
    fun s => execModemTxStall_of_none, fun s => execModemTxLifetime_of_none,
    fun ring s => execModemStatusPeriod_of_none, fun s => execModemTxStall_of_waiting,
    fun s t => execModemTxLifetime_of_least,
    fun ring s => execModemStatusPeriod_of_period⟩
  · exact (execModemBreak_eq dt s).trans (by rw [h]; rfl)
  · refine ⟨fun hy => ?_, fun hy => ?_⟩
    · exact (execModemCharacter_of_room h hf).trans
        (congrArg _ (congrArg modemHold (if_neg (by rw [Bool.not_eq_true]; exact hy))))
    · exact (execModemCharacter_of_room h hf).trans (congrArg _ (congrArg modemHold (if_pos hy)))
  · exact (execModemBreak_eq dt s).trans (by rw [h]; rfl)

end Sys2Proof.Machine
end

section
/-!
PROOFS. The supply, the rails, the hold-up and the start-up (R465–R472, R482, R534).
-/
namespace Sys2Proof.Machine

/-! ## What a report leaves -/

@[simp] theorem raise_pow (k inst code : Nat) (s : State) : (raise k inst code s).pow = s.pow :=
  mask_pow (raise_mask (U := { hub := true }) rfl k inst code s) rfl

@[simp] theorem laneOf_raise (k inst code : Nat) (s : State) (i : Fin 2) : laneOf (raise k inst code s) i = laneOf s i :=
  congrArg (·.lane i) (mask_lanes (raise_mask (U := { hub := true }) rfl k inst code s) rfl)

@[simp] theorem laneOf_upLane_self (i : Fin 2) (f : Lane → Lane) (s : State) :
    laneOf (upLane i f s) i = f (laneOf s i) := by
  revert i
  exact Fin.forall_fin_two.2 ⟨rfl, rfl⟩

/-! ## The supply -/

section
variable {dt mv us : Nat} {ign still : Bool} {m : PlanMeas} {s : State}

/-- From Unpowered the module is Dormant with the Field Time that was saved, and serves at once with IGN (R19, R469). -/
theorem execVbatConnect_of_unpowered (h : s.pow.state = .unpowered) :
    let s1 := tick dt s
    let t := ((s1.upNow (fun n => { n with ft := s.time.savedFt })).upTime (fun t => { t with
      unknown := true, u0 := maxPs, uAt := s1.now.el, aonSince := s1.now.el })).upPow (fun p => { p with
        state := .dormant, enteredAt := s1.now.el, ign := ign, vbatMv := mv })
    execVbatConnect dt mv ign s = .next (if ign then startServing 6 false false t else t) :=
  if_neg (not_not.2 h)

theorem execVbatConnect_of_other (h : s.pow.state ≠ .unpowered) : execVbatConnect dt mv ign s = .next (tick dt s) :=
  if_pos h

theorem execVbatLost_of_dormant (h : s.pow.state = .dormant) : execVbatLost dt s = .next (aonLost (tick dt s)) :=
  if_neg (not_not.2 h)

theorem execVbatLost_of_other (h : s.pow.state ≠ .dormant) : execVbatLost dt s = .next (tick dt s) := if_pos h

/-- A return before the deadline goes on in RUN (R472). -/
theorem execSupplyReturn_of_holdup (hs : s.pow.state = .serving) (hu : s.pow.sub = .holdup)
    (hd : s.pow.deadlinePast = false) :
    let s1 := tick dt s
    let s2 := s1.upPow (fun p => { p with
      sub := .run, supplyReturned := true, vbatMv := mv, undervolt := false, keyoffStep := 0
      timedServe := !p.ign, wakeAt := if p.ign then p.wakeAt else s1.now.el })
    let s3 := s2.upGnss (fun g => { g with bias := decide (fld g.recd 0x21 1 = 1) && g.ant != 3 })
    let s4 := powerStatus (beatAt s1.now.ft) (raise 5 0xFFFF 6 (modemHold (dispCommit s3)))
    execSupplyReturn dt mv m s = .next (if s4.mar.planDue then formPlan 1 m s4 else s4) := by
  simp only [execSupplyReturn, tick_pow, hs, hu, hd, Bool.false_eq_true, if_false]
  rfl

theorem execSupplyReturn_of_ign (hs : s.pow.state = .dormant) (hi : s.pow.ign = true) :
    execSupplyReturn dt mv m s = .next (startServing 6 false false (tick dt s)) := by
  simp only [execSupplyReturn, tick_pow, hs, hi, if_true]

theorem execSupplyReturn_of_other (hn : s.pow.state ≠ .dormant ∨ s.pow.ign = false)
    (hh : s.pow.state ≠ .serving ∨ s.pow.sub ≠ .holdup ∨ s.pow.deadlinePast = true) :
    execSupplyReturn dt mv m s = .next (tick dt s) := by
  simp only [execSupplyReturn, tick_pow]
  split
  · next hs hu => exact if_pos ((hh.resolve_left (not_not.2 hs)).resolve_left (not_not.2 hu))
  · next hs => rw [hn.resolve_left (not_not.2 hs)]; rfl
  · rfl

/-! ## The hold-up -/

theorem execHoldupReturnDeadline_of_holdup (hs : s.pow.state = .serving) (hu : s.pow.sub = .holdup)
    (hd : s.pow.deadlinePast = false) :
    execHoldupReturnDeadline still s
      = .next (holdupDeadline still (reachEl (s.pow.fallAt + returnDeadlineMs s.mar.level s.mar.holdupMs * qMs) s)) :=
  if_neg (by simp [hs, hu, hd])

theorem execHoldupReturnDeadline_of_other
    (h : s.pow.state ≠ .serving ∨ s.pow.sub ≠ .holdup ∨ s.pow.deadlinePast = true) :
    execHoldupReturnDeadline still s = .next s := if_pos h

theorem execHoldupComplete_of_holdup (hs : s.pow.state = .serving) (hu : s.pow.sub = .holdup)
    (hd : s.pow.deadlinePast = true) :
    execHoldupComplete dt mv s =
      if 5000 ≤ mv then .next (toDormant (leaveServing .dormant (unitsOff (tick dt s))))
      else .next (aonLost (handAon (leaveServing .unpowered (unitsOff (tick dt s))))) :=
  if_neg (by simp [hs, hu, hd])

theorem execHoldupComplete_of_other
    (h : s.pow.state ≠ .serving ∨ s.pow.sub ≠ .holdup ∨ s.pow.deadlinePast = false) :
    execHoldupComplete dt mv s = .next (tick dt s) := if_pos (by simpa using h)

/-! ## Start-up -/

theorem execHoldupBankCharged_of_run (hs : s.pow.state = .serving) (hu : s.pow.sub = .run)
    (hb : s.pow.bankCharged = false) :
    execHoldupBankCharged dt m s
      = .next (releaseLane 1 true (releaseLane 0 true (formPlan 0 m
          ((tick dt s).upPow (fun p => { p with bankCharged := true }))))) :=
  if_neg (by simp [hs, hu, hb])

theorem execHoldupBankCharged_of_other
    (h : s.pow.state ≠ .serving ∨ s.pow.sub ≠ .run ∨ s.pow.bankCharged = true) :
    execHoldupBankCharged dt m s = .next (tick dt s) := if_pos h

theorem execPciePerst_eq (dt : Nat) (b : Bool) (s : State) :
    let t := (tick dt s).upPow (fun p => { p with perst := b })
    execPciePerst dt b s = .next (if b && linkLive t then linkReset false t else t) := by rfl

end

/-! ## The rails -/

section
variable {dt rail code : Nat} {owner : Fin 4} {i : Fin 2} {s : State}

theorem execRailFault_of_other (h : s.pow.state ≠ .serving) : execRailFault dt rail code owner s = .next (tick dt s) :=
  if_pos h

/-- A lane's rail resets it (R467). -/
theorem execRailFault_of_lane (i : Fin 2) (h : s.pow.state = .serving) :
    let s3 := upLane i (fun l => { l with rails := rail :: l.rails.filter (· != rail), inReset := true })
      (raise 6 rail code (tick dt s))
    execRailFault dt rail code ⟨i.val, by omega⟩ s
      = .next (if (laneOf s i).state = .off then s3 else laneFails i false s3) := by
  intro s3
  have hlane : (laneOf s3 i).state = (laneOf s i).state := by simp [s3]
  rw [← hlane]
  clear hlane
  revert i
  exact Fin.forall_fin_two.2 ⟨if_neg (not_not.2 h), if_neg (not_not.2 h)⟩

theorem execRailFault_of_curator (h : s.pow.state = .serving) :
    execRailFault dt rail code 2 s = .next ((raise 6 rail code (tick dt s)).upLanes (fun l => { l.goSilent with
      curatorRails := rail :: l.curatorRails.filter (· != rail) })) :=
  if_neg (not_not.2 h)

theorem execRailFault_of_shared (h : s.pow.state = .serving) :
    let s2 := raise 6 rail code (tick dt s)
    execRailFault dt rail code 3 s = .next (supplyFall s2.pow.vbatMv 0 (s2.upPow (fun p => { p with
      rails := rail :: p.rails.filter (· != rail) }))) :=
  if_neg (not_not.2 h)

/-- The lane with the rail back in tolerance. -/
def railBack (i : Fin 2) (rail : Nat) (s : State) : State :=
  upLane i (fun l => { l with rails := l.rails.filter (· != rail) }) s

/-- A lane that no rail holds any more is released (R467). -/
theorem execRailReturn_of_lane (dt rail : Nat) (i : Fin 2) (s : State) :
    let l := laneOf s i
    execRailReturn dt rail ⟨i.val, by omega⟩ s
      = .next (if !l.rails.isEmpty && (l.rails.filter (· != rail)).isEmpty && l.state == .booting then
          releaseLane i false (railBack i rail (tick dt s)) else railBack i rail (tick dt s)) := by
  have hback : ∀ i : Fin 2, (laneOf (railBack i rail (tick dt s)) i).rails = (laneOf s i).rails.filter (· != rail) :=
    fun i => by simp [railBack]
  intro l
  rw [apply_ite Host.Outcome.next, ← hback]
  revert i
  exact Fin.forall_fin_two.2 ⟨rfl, rfl⟩

theorem execRailReturn_of_last (hr : (laneOf s i).rails = [rail]) (hb : (laneOf s i).state = .booting) :
    execRailReturn dt rail ⟨i.val, by omega⟩ s = .next (releaseLane i false (railBack i rail (tick dt s))) :=
  (execRailReturn_of_lane dt rail i s).trans (congrArg _ (if_pos (by simp [hr, hb])))

theorem execRailReturn_of_held
    (h : (laneOf s i).state ≠ .booting ∨ (laneOf s i).rails = [] ∨ (∃ r ∈ (laneOf s i).rails, r ≠ rail)) :
    execRailReturn dt rail ⟨i.val, by omega⟩ s = .next (railBack i rail (tick dt s)) := by
  refine (execRailReturn_of_lane dt rail i s).trans (congrArg _ (if_neg ?_))
  rcases h with h | h | ⟨r, hr, hne⟩
  · simp [h]
  · simp [h]
  · have : (laneOf s i).rails.filter (· != rail) ≠ [] := fun hnil => by
      simpa [hne] using List.filter_eq_nil_iff.1 hnil r hr
    simp [this]

end

/-- Settles O47: each supply command by the power state, a rail by its owner. -/
theorem supplyAndRailsEffect : Obligations.SupplyAndRailsEffect := by
  refine ⟨fun dt mv s h => ⟨execVbatConnect_of_unpowered h, execVbatConnect_of_unpowered h⟩,
    fun dt s h => ⟨_, execVbatLost_of_dormant h, rfl, rfl, rfl, rfl, rfl, rfl, rfl, rfl, rfl, rfl, rfl, rfl⟩,
    fun dt mv us s => ⟨rfl, rfl, rfl, rfl⟩,
    fun dt mv m s => ⟨execSupplyReturn_of_holdup, execSupplyReturn_of_ign⟩,
    fun still s => execHoldupReturnDeadline_of_holdup, fun dt mv s hs hu hd => ⟨fun h => ?_, fun h => ?_⟩,
    fun dt rail code s h => ⟨fun i hi => ?_, fun i hi => ?_, execRailFault_of_curator h, execRailFault_of_shared h⟩,
    fun dt mv us rail code b o m s => ⟨execVbatConnect_of_other, execVbatLost_of_other, execSupplyReturn_of_other,
      execHoldupReturnDeadline_of_other, execHoldupComplete_of_other, execRailFault_of_other,
      execHoldupBankCharged_of_other⟩,
    fun dt rail s => ⟨fun i => execRailReturn_of_held, fun i => execRailReturn_of_last, rfl, rfl⟩,
    fun dt m s => execHoldupBankCharged_of_run, fun dt s => ⟨rfl, fun h => ?_, fun h => ?_⟩⟩
  · exact (execHoldupComplete_of_holdup hs hu hd).trans (if_pos h)
  · exact (execHoldupComplete_of_holdup hs hu hd).trans (if_neg (Nat.not_le.2 h))
  · exact (execRailFault_of_lane i h).trans (congrArg _ (if_neg hi))
  · exact (execRailFault_of_lane i h).trans (congrArg _ (if_pos hi))
  · exact (execPciePerst_eq dt true s).trans (congrArg _ (if_pos h))
  · exact (execPciePerst_eq dt true s).trans (congrArg _ (if_neg (by rw [Bool.true_and, h]; decide)))

end Sys2Proof.Machine
end

section
/-!
PROOFS. Ignition, the wake sources, the key-off sequence, Keeping and the power status (R393, R412, R466–R480).
-/
namespace Sys2Proof.Machine

/-! ## A wake -/

@[simp] theorem dispCommit_pow (s : State) : (dispCommit s).pow = s.pow :=
  mask_pow (dispCommit_mask (U := { hub := true, disp := true }) rfl rfl s) rfl

/-- A start of Serving is in Serving (R470). -/
theorem startServing_serving (code : Nat) (warm after : Bool) (s : State) :
    (startServing code warm after s).pow.state = .serving := by
  unfold startServing
  extract_lets s0 s1 s2 s3 s4 s5 s6 s7 s8
  rw [raise_pow, raise_pow]
  exact congrArg Power.state (dispCommit_pow _)

section
variable {code : Nat} {s : State}

/-- The state at rest from which the start is warm, or cold (R469). -/
def restState (warm : Bool) : PowerState := if warm then .keeping else .dormant

theorem restState_ne_serving (warm : Bool) : restState warm ≠ .serving := by
  cases warm <;> decide

/-- A wake at rest starts Serving, warm from Keeping and cold from Dormant (R470). -/
theorem wake_of_rest {warm : Bool} (h : s.pow.state = restState warm) :
    wake code s = startServing code warm false s := by
  cases warm <;> simp only [wake, h, restState, Bool.false_eq_true, if_false, if_true]

/-- The first wake of a key-off sequence is held (R474). -/
theorem wake_of_keyoff (hs : s.pow.state = .serving) (hk : s.pow.sub = .keyoff) (hn : s.pow.heldWake = none) :
    wake code s = s.upPow (fun p => { p with heldWake := some code }) := by
  simp only [wake, hs, hk, hn, and_self, if_true]

/-- The module is not to be woken: it has no supply, or serves already, or holds a wake. -/
def deafToWake (s : State) : Prop :=
  s.pow.state = .unpowered ∨ (s.pow.state = .serving ∧ (s.pow.sub ≠ .keyoff ∨ s.pow.heldWake ≠ none))

theorem wake_of_deaf (h : deafToWake s) : wake code s = s := by
  rcases h with h | ⟨hs, h⟩
  · simp only [wake, h]
  · simp only [wake, hs]
    exact if_neg (fun hb => h.elim (fun hk => hk hb.1) (fun hn => hn hb.2))

end

/-! ## The wake sources -/

section
variable {dt : Nat} {s : State}

theorem execHostWake_eq (dt : Nat) (s : State) : execHostWake dt s
    = .next (if (wakeField s 0x24 1 s.pow.aonWakeMask).testBit 0 then wake 4 (tick dt s) else tick dt s) := by
  rfl

theorem wakeField_of_asleep {off size aon : Nat} (h : s.pow.state ≠ .serving) : wakeField s off size aon = aon :=
  if_neg h

theorem wakeField_of_serving {off size aon : Nat} (h : s.pow.state = .serving) :
    wakeField s off size aon = cfg s 0x1201 0 off size :=
  if_pos h

theorem execHostWake_of_enabled (h : (wakeField s 0x24 1 s.pow.aonWakeMask).testBit 0 = true) :
    execHostWake dt s = .next (wake 4 (tick dt s)) := congrArg _ (if_pos h)

theorem execHostWake_of_deaf (h : deafToWake s) : execHostWake dt s = .next (tick dt s) := by
  rw [execHostWake_eq, wake_of_deaf (s := tick dt s) h, ite_self]

theorem execHostWake_of_disabled (hs : s.pow.state ≠ .serving) (h : s.pow.aonWakeMask.testBit 0 = false) :
    execHostWake dt s = .next (tick dt s) :=
  congrArg _ (if_neg (by rw [wakeField_of_asleep (s := tick dt s) hs, tick_pow, h]; decide))

theorem execWakeTimer_of_rest {warm : Bool} (hs : s.pow.state = restState warm)
    (h : s.pow.aonWakeMask.testBit 1 = true) :
    execWakeTimer s
      = .next (startServing 5 warm false (reachEl (s.pow.enteredAt + s.pow.aonTimerS * qSec) s)) := by
  have hrest : s.pow.state = .dormant ∨ s.pow.state = .keeping := by
    rw [hs]
    cases warm <;> decide
  unfold execWakeTimer
  rw [if_pos ⟨hrest, h⟩, wake_of_rest (by rw [reachEl_pow, hs])]

theorem execWakeTimer_of_disabled
    (h : s.pow.state = .unpowered ∨ s.pow.state = .serving ∨ s.pow.aonWakeMask.testBit 1 = false) :
    execWakeTimer s = .next s :=
  if_neg fun hb => by
    rcases h with h | h | h
    · simp [h] at hb
    · simp [h] at hb
    · simp [h] at hb

/-- The state with MDM_RING asserted. -/
def ringing (dt : Nat) (s : State) : State := (tick dt s).upModem (fun m => { m with ring := true })

theorem execModemRing_of_rest {warm : Bool} (hs : s.pow.state = restState warm) (h : s.pow.aonRing = true) :
    execModemRing dt s = .next (startServing 3 warm false (ringing dt s)) := by
  have hrest : s.pow.state ≠ .serving := hs ▸ restState_ne_serving warm
  rw [← wake_of_rest (s := ringing dt s) hs]
  simp only [execModemRing, State.upModem_pow, tick_pow, if_neg hrest, h, if_true]
  rfl

theorem execModemRing_of_disabled (hs : s.pow.state ≠ .serving) (h : s.pow.aonRing = false) :
    execModemRing dt s = .next (ringing dt s) := by
  simp only [execModemRing, State.upModem_pow, tick_pow, if_neg hs, h, Bool.false_eq_true, if_false]
  rfl

theorem execModemRing_of_deaf (h : deafToWake s) : execModemRing dt s = .next (ringing dt s) := by
  have hw : wake 3 (ringing dt s) = ringing dt s := wake_of_deaf h
  exact congrArg Host.Outcome.next ((congrArg (fun t => ite _ t _) hw).trans (ite_self _))

section
variable {c : Fin 2}

theorem execCanWakePattern_of_deaf (h : deafToWake s) : execCanWakePattern dt c s = .next (tick dt s) := by
  have hw : ∀ n, wake n (tick dt s) = tick dt s := fun n => wake_of_deaf h
  simp only [execCanWakePattern, hw, ne_eq, not_and_self_iff, if_false, ite_self]

/-- A pattern that is enabled at rest starts the module, which notes its source (R393). -/
theorem execCanWakePattern_of_rest {warm : Bool} (hs : s.pow.state = restState warm)
    (h : (if c = 0 then s.pow.aonCan0 else s.pow.aonCan1) = true) :
    execCanWakePattern dt c s = .next (upCtlr c (fun k => { k with wakeSource := true })
      (startServing (1 + c) warm false (tick dt s))) := by
  have hw : wake (1 + c.val) (tick dt s) = startServing (1 + c) warm false (tick dt s) :=
    wake_of_rest (by rw [tick_pow, hs])
  have hrest : s.pow.state ≠ .serving := hs ▸ restState_ne_serving warm
  simp only [execCanWakePattern, tick_pow, h, Bool.not_true, Bool.false_eq_true, if_false, hw, startServing_serving,
    hrest, ne_eq, not_false_eq_true, and_self, if_true]

end

/-! ## Ignition -/

/-- The state with IGN qualified high, or low (R466). -/
def ignHigh (dt : Nat) (s : State) : State := (tick dt s).upPow (fun p => { p with ign := true, timedServe := false })
def ignLow (dt : Nat) (s : State) : State := (tick dt s).upPow (fun p => { p with ign := false })

theorem execIgnHigh_eq (dt : Nat) (s : State) : execIgnHigh dt s = .next (wake 0 (ignHigh dt s)) := by rfl

/-- The wake sources at rest: IGN, HOST_WAKE, the timer and MDM_RING, each where it is enabled (R412, R470). -/
theorem starts_of_rest {warm : Bool} (h : s.pow.state = restState warm) :
    execIgnHigh dt s = .next (startServing 0 warm false (ignHigh dt s))
    ∧ (s.pow.aonWakeMask.testBit 0 = true → execHostWake dt s = .next (startServing 4 warm false (tick dt s)))
    ∧ (s.pow.aonWakeMask.testBit 1 = true → execWakeTimer s
      = .next (startServing 5 warm false (reachEl (s.pow.enteredAt + s.pow.aonTimerS * qSec) s)))
    ∧ (s.pow.aonRing = true → execModemRing dt s = .next (startServing 3 warm false (ringing dt s))) := by
  refine ⟨?_, fun hm => ?_, execWakeTimer_of_rest h, execModemRing_of_rest h⟩
  · rw [execIgnHigh_eq, wake_of_rest (s := ignHigh dt s) h]
  · rw [execHostWake_of_enabled (by rwa [wakeField_of_asleep (h ▸ restState_ne_serving warm)]),
      wake_of_rest (s := tick dt s) h]

theorem execIgnLow_of_run (hs : s.pow.state = .serving) (hr : s.pow.sub = .run) (ht : s.pow.timedServe = false) :
    execIgnLow dt s = .next (beginKeyoff (ignLow dt s)) :=
  if_pos ⟨hs, hr, congrArg (!·) ht⟩

theorem execIgnLow_of_other (h : s.pow.state ≠ .serving ∨ s.pow.sub ≠ .run ∨ s.pow.timedServe = true) :
    execIgnLow dt s = .next (ignLow dt s) :=
  if_neg fun ⟨hs, hr, ht⟩ =>
    absurd ((h.resolve_left (not_not.2 hs)).resolve_left (not_not.2 hr)) (by simpa using ht)

theorem execWakeServeExpiry_of_run (hs : s.pow.state = .serving) (hr : s.pow.sub = .run) (ht : s.pow.timedServe = true) :
    let s2 := (reachEl (s.pow.wakeAt + cfg s 0x1201 0 0x26 2 * qSec) s).upPow (fun p => { p with timedServe := false })
    execWakeServeExpiry s = .next (if s.pow.ign then s2 else beginKeyoff s2) := by
  simp [execWakeServeExpiry, hs, hr, ht]

theorem execWakeServeExpiry_of_other
    (h : s.pow.state ≠ .serving ∨ s.pow.sub ≠ .run ∨ s.pow.timedServe = false) :
    execWakeServeExpiry s = .next s := if_pos (by simpa using h)

/-! ## Key-off -/

theorem execKeyoffFlushDone_of_step (hs : s.pow.state = .serving) (hk : s.pow.sub = .keyoff) (h : s.pow.keyoffStep = 3) :
    execKeyoffFlushDone dt s = .next ((mapKeyoff (tick dt s)).upPow (fun p => { p with keyoffStep := 4 })) :=
  if_pos ⟨hs, hk, h⟩

theorem execKeyoffFlushDone_of_other
    (h : s.pow.keyoffStep ≠ 3 ∨ s.pow.state ≠ .serving ∨ s.pow.sub ≠ .keyoff) :
    execKeyoffFlushDone dt s = .next (tick dt s) :=
  if_neg fun ⟨hs, hk, h3⟩ => ((h.resolve_left (not_not.2 h3)).resolve_left (not_not.2 hs)) hk

variable {uf esr : Nat} {still : Bool}

/-- What step 4 leaves (R473, R491). -/
def keyoffSaved (dt uf esr : Nat) (still : Bool) (s : State) : State :=
  (((saveFusion still (saveAgc true (saveAlways (tick dt s)))).upMar (fun m => { m with
    holdupUf := uf, esrMohm := esr, holdupMs := holdupTime uf esr })).upCat (fun c => { c with flash := c.cats })).upPow
      (fun p => { p with keyoffStep := 5 })

theorem execKeyoffSaveDone_of_step (hs : s.pow.state = .serving) (hk : s.pow.sub = .keyoff) (h : s.pow.keyoffStep = 4) :
    execKeyoffSaveDone dt uf esr still s = .next (keyoffSaved dt uf esr still s) :=
  if_pos ⟨hs, hk, h⟩

theorem execKeyoffSaveDone_of_other
    (h : s.pow.keyoffStep ≠ 4 ∨ s.pow.state ≠ .serving ∨ s.pow.sub ≠ .keyoff) :
    execKeyoffSaveDone dt uf esr still s = .next (tick dt s) :=
  if_neg fun ⟨hs, hk, h4⟩ => ((h.resolve_left (not_not.2 h4)).resolve_left (not_not.2 hs)) hk

variable {mv : Nat} {m : PlanMeas}

section
variable (hs : s.pow.state = .serving) (hk : s.pow.sub = .keyoff) (h : s.pow.keyoffStep = 5) (hd : s.disp.state = .off)
include hs hk h hd

/-- The sequence comes to its end. -/
theorem keyoff_ends :
    ¬(s.pow.state ≠ .serving ∨ s.pow.sub ≠ .keyoff ∨ s.pow.keyoffStep ≠ 5 ∨ s.disp.state ≠ .off) := by
  simp [hs, hk, h, hd]

/-- The end of the key-off sequence with a wake held: the module starts again (R474). -/
theorem execKeyoffComplete_of_held {code : Nat} :
    let s1 := tick dt s
    let s2 := drainRings (powerStatus (beatAt s1.now.ft) (s1.upPow (fun p => { p with vbatMv := mv })))
    let s4 := (unitsOff (lanesOff s2)).upPow (fun p => { p with
      keyoffStep := 0, lastKeyoffMs := ((unitsOff (lanesOff s2)).now.el - p.keyoffAt) / qMs })
    s2.pow.heldWake = some code → execKeyoffComplete dt mv m s
      = .next (releaseLane 1 true (releaseLane 0 true (formPlan 0 m
          (startServing code true true (leaveServing .keeping s4))))) := by
  intro s1 s2 s4 hh
  simp only [execKeyoffComplete, tick_pow, tick_disp, if_neg (keyoff_ends hs hk h hd), hh, powEl, s1, s2, s4, releaseBoth]

/-- With none held, the module enters Keeping where KEEP_MIN and the supply allow it, and else Dormant (R469). -/
theorem execKeyoffComplete_of_free :
    let s1 := tick dt s
    let s2 := drainRings (powerStatus (beatAt s1.now.ft) (s1.upPow (fun p => { p with vbatMv := mv })))
    let s4 := (unitsOff (lanesOff s2)).upPow (fun p => { p with
      keyoffStep := 0, lastKeyoffMs := ((unitsOff (lanesOff s2)).now.el - p.keyoffAt) / qMs })
    let s5 := leaveServing .dormant s4
    s2.pow.heldWake = none → execKeyoffComplete dt mv m s
      = if s5.pow.aonKeepMin ≠ 0 ∧ s5.pow.aonKeepMv ≤ mv then .next (toKeeping s5) else .next (toDormant s5) := by
  intro s1 s2 s4 s5 hh
  simp only [execKeyoffComplete, tick_pow, tick_disp, if_neg (keyoff_ends hs hk h hd), hh, powEl, s1, s2, s4, s5]
  rfl

end

theorem execKeyoffComplete_of_other
    (h : s.pow.keyoffStep ≠ 5 ∨ s.pow.state ≠ .serving ∨ s.pow.sub ≠ .keyoff ∨ s.disp.state ≠ .off) :
    execKeyoffComplete dt mv m s = .next (tick dt s) :=
  if_pos (by
    rcases h with h | h | h | h
    · exact .inr (.inr (.inl h))
    · exact .inl h
    · exact .inr (.inl h)
    · exact .inr (.inr (.inr h)))

/-! ## Keeping and the status -/

theorem execKeepMinExpiry_of_keeping (h : s.pow.state = .keeping) :
    execKeepMinExpiry s = .next (toDormant (reachEl (s.pow.enteredAt + s.pow.aonKeepMin * 60 * qSec) s)) :=
  if_neg (not_not.2 h)

theorem execKeepMinExpiry_of_other (h : s.pow.state ≠ .keeping) : execKeepMinExpiry s = .next s := if_pos h

theorem execKeepVbatLow_of_keeping (h : s.pow.state = .keeping) :
    execKeepVbatLow dt s = .next (toDormant (tick dt s)) := if_neg (not_not.2 h)

theorem execKeepVbatLow_of_other (h : s.pow.state ≠ .keeping) : execKeepVbatLow dt s = .next (tick dt s) := if_pos h

variable {mw : Nat} {vs : List Nat} {plate : Int}

theorem execPowerStatusPeriod_of_other (h : s.pow.state ≠ .serving ∨ cfg s 0x1201 0 0x2C 2 = 0) :
    execPowerStatusPeriod mv vs plate mw s = .next s := if_pos h

theorem execPowerStatusPeriod_of_serving (hs : s.pow.state = .serving) (hp : cfg s 0x1201 0 0x2C 2 ≠ 0) :
    execPowerStatusPeriod mv vs plate mw s
      = .next (powerStatus s.pow.statusNext ((reach s.pow.statusNext s).upPow (fun p => { p with
          statusNext := nextPeriod s.pow.statusNext (cfg s 0x1201 0 0x2C 2), vbatMv := mv, vsMv := vs.map (sat 16)
          plateC := plate, logicMw := mw, undervolt := p.undervolt && decide (mv < 9000)
          overvolt := p.overvolt && decide (36000 < mv) }))) :=
  if_neg (fun h => h.elim (not_not.2 hs) hp)

end

/-- Settles O48: a wake by the power state and its enable, the key-off sequence by its step, Keeping by its end. -/
theorem wakeAndKeyoffEffect : Obligations.WakeAndKeyoffEffect := by
  refine ⟨fun dt s => ⟨starts_of_rest (warm := false), starts_of_rest (warm := true),
      fun h => ⟨?_, execHostWake_of_deaf h, execModemRing_of_deaf h,
      fun c => execCanWakePattern_of_deaf h⟩, execHostWake_of_disabled, execModemRing_of_disabled,
      execWakeTimer_of_disabled, fun h => ?_, fun h => execWakeServeExpiry_of_other (.inr (.inr h)),
      fun hs hk hn => ⟨?_, fun hm => ?_⟩, fun c hc => ⟨fun h => execCanWakePattern_of_rest (warm := false) h hc,
        fun h => execCanWakePattern_of_rest (warm := true) h hc⟩, execIgnLow_of_run,
      fun hs hr ht => ⟨execIgnLow_of_other (.inr (.inr ht)), execWakeServeExpiry_of_run hs hr ht⟩⟩,
    fun dt uf esr mv still m s => ⟨execKeyoffFlushDone_of_other, execKeyoffSaveDone_of_other,
      execKeyoffComplete_of_other (dt := dt) (mv := mv) (m := m) (s := s),
      fun h => ⟨execKeepMinExpiry_of_other h, execKeepVbatLow_of_other h⟩⟩,
    fun dt s hs hk => ⟨execKeyoffFlushDone_of_step hs hk,
      fun uf esr still h => ⟨_, execKeyoffSaveDone_of_step hs hk h, rfl, rfl, rfl, rfl, rfl, rfl, rfl⟩,
      fun mv m h hd => ⟨fun code => execKeyoffComplete_of_held (dt := dt) (mv := mv) (m := m) hs hk h hd,
        fun hh hmin hmv => ?_, fun hh hend => ?_⟩⟩,
    fun dt s h => ⟨execKeepMinExpiry_of_keeping h, execKeepVbatLow_of_keeping h⟩,
    fun mv mw vs plate s => execPowerStatusPeriod_of_other, fun mv mw vs plate s => execPowerStatusPeriod_of_serving⟩
  · exact congrArg Host.Outcome.next (wake_of_deaf h)
  · exact ⟨execIgnLow_of_other (h.imp_right .inl), execWakeServeExpiry_of_other (h.imp_right .inl)⟩
  · exact congrArg Host.Outcome.next (wake_of_keyoff hs hk hn)
  · exact (execHostWake_of_enabled (by rwa [wakeField_of_serving hs])).trans (congrArg _ (wake_of_keyoff hs hk hn))
  · exact (execKeyoffComplete_of_free (dt := dt) (mv := mv) (m := m) hs hk h hd hh).trans (if_pos ⟨hmin, hmv⟩)
  · exact (execKeyoffComplete_of_free (dt := dt) (mv := mv) (m := m) hs hk h hd hh).trans (if_neg fun hb =>
      hend.elim hb.1 (fun hmv => Nat.not_lt.2 hb.2 hmv))

end Sys2Proof.Machine
end
